-- ==== Sys2Proof/Word.lean ====
section
/-!
DEFINITION. The plain words of the model: bytes, byte strings, and the numbering of channels, clusters and regions (R9).
-/

namespace Sys2Proof

/-- One byte of a message, a value or a memory. -/
abbrev Byte := BitVec 8

/-- A byte string; multi-byte numbers in it stand least significant byte first (R11). -/
abbrev Bytes := List Byte

/-- An instant in steps of 12.5 ps (R86) counted on the timing clock since the release of reset; one 250 MHz tick is 320
of them and one coarse tick of the TDC is 64. -/
abbrev Stamp := Nat

/-- Number of a measurement path: channels 0 to 1023, then Scarabs 1024 to 1087 (R9). -/
abbrev PathNo := Fin 1088

/-- Number of a primary channel (R9). -/
abbrev ChanNo := Fin 1024

/-- Number of a region or of its emitter bank (R9, R19). -/
abbrev RegionNo := Fin 16

/-- Number of a cluster (R9, R15). -/
abbrev ClusterNo := Fin 64

end Sys2Proof
end

