-- ==== Sys2Proof/Syntax.lean ====
section
/-!
DEFINITION. The commands of the block: one constructor for each row of spec/opcode_table.json, in the table's order, and
the operand types they carry. A row that is one DTP request carries the request's header fields, its body and its tag; a row
that is one particular write or read carries the header and the value written; a row for an event carries what the outside
world brings. An event row says that the event comes about.
-/

namespace Sys2Proof

/-- The transport on which a request arrives (R50, R51). -/
inductive Transport where
  | udp | can
deriving DecidableEq, Repr

/-- Header of a DTP request as it stands on the wire (Tables DICT-5 and DICT-7), with where it came from.
`bodyLength` is the header's own field, which may disagree with the bytes that follow. `tag` holds the bytes after the
body. Over CAN the fields are narrower: WellFormed says how wide. -/
structure ReqHdr where
  transport : Transport
  port : Fin 2
  srcAddr : BitVec 32
  srcPort : BitVec 16
  version : Byte
  transaction : BitVec 16
  sessionId : BitVec 16
  bodyLength : BitVec 16
  counter : BitVec 32
  tag : Bytes
deriving DecidableEq, Repr

/-- A message on the Knock address and port or on CAN identifier 0x630: the bytes after the transport's own header (R65). -/
structure KnockMsg where
  transport : Transport
  port : Fin 2
  srcAddr : BitVec 32
  srcPort : BitVec 16
  bytes : Bytes
deriving DecidableEq, Repr

/-- The sensors of Table THRM-1 in its bit order: 0 to 15 the region sensors, 16 and 17 the logic-die diodes, 18 and 19 the
package diodes, 20 and 21 TH0 and TH1, 22 the I2C sensor. -/
abbrev SensorNo := Fin 23

/-- What a temperature conversion or an I2C transfer brings (R286 to R288). -/
inductive Reading where
  | diode (centi : BitVec 16) (overRange : Bool)
  | therm (code : BitVec 12) (overRange : Bool)
  | i2c (word : BitVec 16) (acknowledged : Bool)
deriving DecidableEq, Repr

/-- A converter sample: the 12-bit code and whether the input was over range (R179, R181). -/
structure Sample where
  code : BitVec 12
  overRange : Bool
deriving DecidableEq, Repr

/-- A PTP clock's rank and identity as its Announce gives it (R311). -/
structure PtpAnnounceMsg where
  port : Fin 2
  domain : Byte
  sourceId : BitVec 64
  sourcePort : BitVec 16
  priority1 : Byte
  clockClass : Byte
  clockAccuracy : Byte
  clockVariance : BitVec 16
  priority2 : Byte
  grandmasterId : BitVec 64
  stepsRemoved : BitVec 16
  logInterval : Int
  majorSdoId : BitVec 4
deriving DecidableEq, Repr

/-- A Sync with the origin time of it or of its Follow_Up, the correction field in 2^-16 ns, and its interval (R311, R314). -/
structure PtpSyncMsg where
  port : Fin 2
  domain : Byte
  sourceId : BitVec 64
  sourcePort : BitVec 16
  originSec : BitVec 48
  originNs : BitVec 32
  correction : Int
  logInterval : Int
  rxStamp : Stamp
  majorSdoId : BitVec 4
deriving DecidableEq, Repr

/-- A Delay_Resp or a peer-delay response: the four instants of the exchange in ns, with the corrections (R313, R314). -/
structure PtpDelayMsg where
  port : Fin 2
  domain : Byte
  peer : Bool
  sequence : BitVec 16
  t3 : Int
  t4 : Int
  t2 : Int
  t1 : Int
  correction : Int
deriving DecidableEq, Repr

/-- A received Pdelay_Req (R311). -/
structure PtpPdelayReqMsg where
  port : Fin 2
  domain : Byte
  sourceId : BitVec 64
  sourcePort : BitVec 16
  sequence : BitVec 16
  rxStamp : Stamp
  majorSdoId : BitVec 4
deriving DecidableEq, Repr

/-- A DHCP answer on a port (R328). -/
structure DhcpMsg where
  port : Fin 2
  xid : BitVec 32
  yourAddr : BitVec 32
  serverId : BitVec 32
  netMask : BitVec 32
  router : BitVec 32
  leaseSeconds : BitVec 32
deriving DecidableEq, Repr

/-- Which of the eight conditions of recorder initialisation failed, if one did, and what the drive reported (R376 to
R385). -/
structure RecInit where
  linkUp : Bool
  generation : Fin 16
  lanes : Fin 16
  driveOk : Bool
  serial : Bytes
  model : Bytes
  nvmeVersion : BitVec 32
  blockSize : Nat
  blocks : Nat
  superA : Bytes
  superB : Bytes
  extents : List (Nat × Bytes)
deriving DecidableEq, Repr

/-- How an NVMe command ended (R376, R388). -/
inductive NvmeResult where
  | ok | error
deriving DecidableEq, Repr

/-- A Rilman frame other than the kinds that have fields of their own: its link number, its sequence, its payload and
whether its frame check is good (R404). -/
structure PairFrame where
  sequence : BitVec 32
  payload : Bytes
  fcsGood : Bool
deriving DecidableEq, Repr

/-- The supply rails that the power-on reset watches (R415, R416). -/
inductive Rail where
  | vddCore | vddTdc | vddSram | vdda18 | vddio | vddSerdes | vddQuench | vspad
deriving DecidableEq, Repr

/-- The bootstrap pins and the level pins as they stand at the release of reset (R420). -/
structure BootPins where
  nodeId : BitVec 4
  compat : Bool
  bootSafe : Bool
  safeOffN : Bool
  pfailN : Bool
deriving DecidableEq, Repr


/-- Whose block transfer it is: a session's, or a source's under SessionId 0 (R53). -/
inductive XferOwner where
  | session (tr : Transport) (sid : BitVec 16)
  | source (tr : Transport) (addr : BitVec 32) (srcPort : BitVec 16)
deriving DecidableEq, Repr

/-- What a calibration pass belongs to: a measurement path or the TDC of a timing input (R269, R275). -/
inductive CalPath where
  | path (p : PathNo)
  | input (n : Fin 9)
deriving DecidableEq, Repr

/-- The commands of the block, one constructor per row of the opcode table, in its order. -/
inductive Instr where
  /-- READ (R52). -/
  | read (h : ReqHdr) (body : Bytes)
  /-- WRITE (R46). -/
  | write (h : ReqHdr) (body : Bytes)
  /-- STAGE (R64). -/
  | stage (h : ReqHdr) (body : Bytes)
  /-- BLOCK_READ_INIT (R53). -/
  | blockReadInit (h : ReqHdr) (body : Bytes)
  /-- BLOCK_WRITE_INIT (R53). -/
  | blockWriteInit (h : ReqHdr) (body : Bytes)
  /-- BLOCK_NEXT (R53). -/
  | blockNext (h : ReqHdr) (body : Bytes)
  /-- BLOCK_TRANSFER_TIMEOUT (R53). -/
  | blockTransferTimeout (owner : XferOwner)
  /-- AUTH_CHALLENGE (R56). -/
  | authChallenge (h : ReqHdr) (body : Bytes)
  /-- AUTH_RESPONSE (R56). -/
  | authResponse (h : ReqHdr) (body : Bytes)
  /-- AUTH_RESPONSE_TIMEOUT (R56). -/
  | authResponseTimeout (tr : Transport) (sid : BitVec 16)
  /-- LOCKOUT_EXPIRY (R57). -/
  | lockoutExpiry (level : Fin 4)
  /-- CLOSE (R55). -/
  | close (h : ReqHdr) (body : Bytes)
  /-- SESSION_IDLE_TIMEOUT (R55). -/
  | sessionIdleTimeout (tr : Transport) (sid : BitVec 16)
  /-- UNKNOWN_OPCODE (R52). -/
  | unknownOpcode (h : ReqHdr) (op : Byte) (body : Bytes)
  /-- DTP_SHORT_DATAGRAM (R454). -/
  | dtpShortDatagram (port : Fin 2) (bytes : Bytes)
  /-- KNOCK (R66). -/
  | knock (m : KnockMsg)
  /-- KNOCK_APPLY (R66). -/
  | knockApply
  /-- ARM (R61). -/
  | arm (h : ReqHdr)
  /-- START (R60). -/
  | start (h : ReqHdr)
  /-- PAUSE (R60). -/
  | pause (h : ReqHdr)
  /-- RESUME (R60). -/
  | resume (h : ReqHdr)
  /-- STOP (R60). -/
  | stop (h : ReqHdr)
  /-- DISARM (R60). -/
  | disarm (h : ReqHdr)
  /-- CALIBRATE (R276). -/
  | calibrate (h : ReqHdr)
  /-- END_CALIBRATE (R60). -/
  | endCalibrate (h : ReqHdr)
  /-- FOLLOW (R60). -/
  | follow (h : ReqHdr)
  /-- ENTER_UPDATE (R60). -/
  | enterUpdate (h : ReqHdr)
  /-- COMMIT_IMAGE (R426). -/
  | commitImage (h : ReqHdr)
  /-- CANCEL_UPDATE (R426). -/
  | cancelUpdate (h : ReqHdr)
  /-- CLEAR_SAFE (R60). -/
  | clearSafe (h : ReqHdr)
  /-- FORCE_SAFE (R60). -/
  | forceSafe (h : ReqHdr)
  /-- RESET (R60). -/
  | resetCmd (h : ReqHdr)
  /-- COMMIT_SHADOW (R64). -/
  | commitShadow (h : ReqHdr)
  /-- DISCARD_SHADOW (R64). -/
  | discardShadow (h : ReqHdr)
  /-- RESTORE_DEFAULTS (R61). -/
  | restoreDefaults (h : ReqHdr)
  /-- SHADOW_ACTIVATION (R64). -/
  | shadowActivation
  /-- SPI_READ (R70). -/
  | spiRead (addr : BitVec 16) (count : Nat)
  /-- SPI_WRITE (R71). -/
  | spiWrite (addr : BitVec 16) (words : List (BitVec 32))
  /-- SAFE_REQUEST (R71). -/
  | safeRequest
  /-- SPI_BAD_OPCODE (R69). -/
  | spiBadOpcode (op : Byte) (count : Nat)
  /-- ALIVE_TICK (R71). -/
  | aliveTick
  /-- COLUMN_BOUNDARY (R209). -/
  | columnBoundary
  /-- TRANSOM_SLOT (R210). -/
  | transomSlot
  /-- HANDOVER_SETTLE_END (R99). -/
  | handoverSettleEnd (k : ClusterNo)
  /-- SPAD_FIRE (R74). `t` is the fire's instant at the TDC input, the Louvre delay of R75 included (log entry 28). -/
  | spadFire (ch : ChanNo) (spad : Fin 9) (t : Stamp) (code : Fin 65)
  /-- DETECTION_ASSIGN (R116). -/
  | detectionAssign (p : PathNo)
  /-- SHUTTER_OPEN (R82). -/
  | shutterOpen (p : PathNo) (slot : Fin 256)
  /-- SHUTTER_CLOSE (R82). -/
  | shutterClose (p : PathNo) (slot : Fin 256)
  /-- ZOOM_PLACEMENT (R125). -/
  | zoomPlacement (p : PathNo)
  /-- BUFFER_RELEASE (R120). -/
  | bufferRelease (p : PathNo)
  /-- PEAK_EXTRACTION_DONE (R128). -/
  | peakExtractionDone (p : PathNo)
  /-- COLUMN_PACKET_FORM (R139). -/
  | columnPacketForm
  /-- HIST_ECC_ERROR (R95). -/
  | histEccError (p : PathNo) (uncorrectable : Bool)
  /-- LINE_OVERRUN_FAULT (R87). -/
  | lineOverrunFault (p : PathNo)
  /-- LOUVRE_STUCK_FAULT (R96). -/
  | louvreStuckFault (ch : ChanNo)
  /-- REPLACE_REQUEST (R106). -/
  | replaceRequest (h : ReqHdr) (ch : ChanNo) (v : Byte)
  /-- RESTORE_REQUEST (R106). -/
  | restoreRequest (h : ReqHdr) (p : PathNo) (v : Byte)
  /-- SLOT_ENQUEUE (R155). -/
  | slotEnqueue (b : RegionNo)
  /-- FIRE_EDGE (R142). -/
  | fireEdge (b : RegionNo)
  /-- GOV_SUBINTERVAL_BOUNDARY (R154). -/
  | govSubintervalBoundary (w : Fin 3)
  /-- GOVFILL_READ (R156). -/
  | govFillRead (h : ReqHdr)
  /-- START_WINDOW_EXPIRY (R111). -/
  | startWindowExpiry (b : RegionNo) (slot : Fin 256)
  /-- AUX_EDGE (R250). -/
  | auxEdge (n : Fin 9) (rising : Bool) (t : Stamp) (code : Fin 65)
  /-- INTERVAL_DECIDE (R253). -/
  | intervalDecide
  /-- UNPAIRED_STOP_EXPIRY (R253). -/
  | unpairedStopExpiry
  /-- INTERVAL_NO_STOP (R254). -/
  | intervalNoStop
  /-- FREQ_GATE_END (R256). -/
  | freqGateEnd (n : Fin 9)
  /-- FREQ_FIT_DONE (R258). -/
  | freqFitDone (n : Fin 9)
  /-- SAFE_OFF_N_ASSERT (R158). -/
  | safeOffNAssert
  /-- SAFE_OFF_N_RELEASE (R60). -/
  | safeOffNRelease
  /-- SCAN_VALID_FALL (R157). -/
  | scanValidFall
  /-- SCANVALID_CLEAR (R158). -/
  | scanvalidClear
  /-- PFAIL_N_FALL (R418). -/
  | pfailNFall
  /-- PFAIL_N_RISE (R279). -/
  | pfailNRise
  /-- PFAIL_CLEAR (R158). -/
  | pfailClear
  /-- CS_LIMIT_CYCLE (R161). -/
  | csLimitCycle (byLimit : Bool)
  /-- OVERCURRENT_FAULT (R161). -/
  | overcurrentFault
  /-- WC_TRIP_HIGH (R185). -/
  | wcTripHigh (n : Fin 8)
  /-- WC_TRIP_LOW (R185). -/
  | wcTripLow (n : Fin 8)
  /-- WC_REARM (R185). -/
  | wcRearm (n : Fin 8)
  /-- WCSTATUS_READ (R185). -/
  | wcStatusRead (h : ReqHdr)
  /-- HEADROOM_HOLD (R163). -/
  | headroomHold (b : RegionNo)
  /-- VCHG_DISCHARGE_TIMEOUT (R162). -/
  | vchgDischargeTimeout
  /-- CONVERSION_SLOT (R174). -/
  | conversionSlot (sc : Fin 2) (x : Sample)
  /-- CHAIN_SYNC (R191). -/
  | chainSync (h : ReqHdr) (v : Byte)
  /-- SYNC_RESET (R192). -/
  | syncReset (sc : Fin 2)
  /-- THERMAL_DEMAND (R178). -/
  | thermalDemand (sc : Fin 2)
  /-- LOOP_SAMPLE (R201). -/
  | loopSample (n : Fin 4) (latency : Nat) (coefEcc : Bool)
  /-- DEADLINE_MISS (R199). -/
  | deadlineMiss (n : Fin 4)
  /-- STALL_LATCH (R219). -/
  | stallLatch
  /-- MAXLATENCY_READ (R198). -/
  | maxLatencyRead (h : ReqHdr) (n : Fin 4)
  /-- LOOPSTATUS_READ (R224). -/
  | loopStatusRead (h : ReqHdr) (n : Fin 4)
  /-- HOST_TRIGGER (R230). -/
  | hostTrigger (h : ReqHdr) (v : Byte)
  /-- TIME_TRIGGER_WRITE (R229). -/
  | timeTriggerWrite (h : ReqHdr) (sec : BitVec 48) (ns : BitVec 32)
  /-- TIME_TRIGGER_MATCH (R229). -/
  | timeTriggerMatch
  /-- SEGMENT_CLOSE (R236). -/
  | segmentClose (e : Fin 16)
  /-- ENGINE_REARM (R237). -/
  | engineRearm (e : Fin 16)
  /-- SEGMENT_DRAIN_OFFER (R247). -/
  | segmentDrainOffer
  /-- RINGHIGHWATER_READ (R248). -/
  | ringHighWaterRead (h : ReqHdr)
  /-- CAL_REQUEST (R266). -/
  | calRequest (h : ReqHdr) (mask : BitVec 16)
  /-- REGION_RUN_START (R267). -/
  | regionRunStart (r : RegionNo)
  /-- CAL_PASS_COMPLETE (R269). -/
  | calPassComplete (p : CalPath) (counts : List Nat)
  /-- CAL_DEFER_TIMEOUT (R273). -/
  | calDeferTimeout (p : CalPath)
  /-- STANDIN_ABANDON_RETURN (R272). -/
  | standinAbandonReturn (k : ClusterNo)
  /-- INPUT_CAL_INTERVAL (R275). -/
  | inputCalInterval
  /-- FULL_CAL_DONE (R276). -/
  | fullCalDone
  /-- BANK_WRITE (R278). -/
  | bankWrite
  /-- BANK_WRITE_DONE (R278). -/
  | bankWriteDone (ok : Bool)
  /-- CAL_BANK_IMPORT (R281). -/
  | calBankImport (h : ReqHdr) (body : Bytes)
  /-- ZERO_RUN (R282). -/
  | zeroRun (h : ReqHdr) (v : Byte)
  /-- ZERO_RUN_DONE (R282). -/
  | zeroRunDone
  /-- ZERO_APPLY (R283). -/
  | zeroApply (h : ReqHdr) (v : Byte)
  /-- TEMP_READING (R287). -/
  | tempReading (sensor : SensorNo) (x : Reading)
  /-- SENSOR_STALE (R287). -/
  | sensorStale (sensor : SensorNo)
  /-- HOUSEKEEP_DEMAND (R290). -/
  | housekeepDemand
  /-- TEMP_DEMAND (R289). -/
  | tempDemand (h : ReqHdr) (mask : BitVec 32)
  /-- THROTTLE_DWELL (R296). -/
  | throttleDwell (target : Fin 17)
  /-- THROTTLE_RELEASE (R296). -/
  | throttleRelease (target : Fin 17)
  /-- TJSAFE_RELEASE (R299). -/
  | tjsafeRelease
  /-- TIME_SET (R309). -/
  | timeSet (h : ReqHdr) (sec : BitVec 48) (ns : BitVec 32)
  /-- TIME_ADJUST (R309). -/
  | timeAdjust (h : ReqHdr) (v : BitVec 64)
  /-- INCREMENT_SET (R309). -/
  | incrementSet (h : ReqHdr) (v : BitVec 64)
  /-- SERVO_OFFSET (R310). -/
  | servoOffset (offset : Int)
  /-- PTP_SYNC (R311). -/
  | ptpSync (m : PtpSyncMsg)
  /-- PTP_ANNOUNCE (R311). -/
  | ptpAnnounce (m : PtpAnnounceMsg)
  /-- PTP_DELAY_REQ_SEND (R311). -/
  | ptpDelayReqSend
  /-- PTP_DELAY_MEASUREMENT (R313). -/
  | ptpDelayMeasurement (m : PtpDelayMsg)
  /-- PTP_PDELAY_REQ (R311). -/
  | ptpPdelayReq (m : PtpPdelayReqMsg)
  /-- PTP_SOURCE_LOST (R312). -/
  | ptpSourceLost
  /-- PPS_IN_EDGE (R321). -/
  | ppsInEdge (t : Stamp)
  /-- PPS_SOURCE_LOST (R321). -/
  | ppsSourceLost
  /-- PPS_OUT_RISE (R320). -/
  | ppsOutRise
  /-- PPS_OUT_FALL (R320). -/
  | ppsOutFall
  /-- ANCHOR_INSTANT (R318). -/
  | anchorInstant
  /-- LAUNCH_TIME (R323). -/
  | launchTime (port : Fin 2) (cls : Fin 6)
  /-- MERGE_ENTRY (R35). -/
  | mergeEntry
  /-- HOLDING_OFFER (R340). -/
  | holdingOffer (source : Fin 16)
  /-- FRAME_TX_START (R339). -/
  | frameTxStart (port : Fin 2)
  /-- CLASS_MAX_WAIT (R341). -/
  | classMaxWait (port : Fin 2) (cls : Fin 6)
  /-- LOSS_MARKER_FORM (R345). -/
  | lossMarkerForm (stream : Fin 16)
  /-- PORT_LINK_DOWN (R348). -/
  | portLinkDown (port : Fin 2)
  /-- PORT_LINK_UP (R327). -/
  | portLinkUp (port : Fin 2)
  /-- FAILBACK (R348). -/
  | failback (port : Fin 2)
  /-- BUFFERHIGHWATER_READ (R350). -/
  | bufferHighWaterRead (h : ReqHdr)
  /-- DHCP_OFFER (R328). -/
  | dhcpOffer (m : DhcpMsg)
  /-- DHCP_ACK (R328). -/
  | dhcpAck (m : DhcpMsg)
  /-- DHCP_NAK (R328). -/
  | dhcpNak (m : DhcpMsg)
  /-- DHCP_RENEW (R328). -/
  | dhcpRenew
  /-- DHCP_REBIND (R328). -/
  | dhcpRebind
  /-- DHCP_LEASE_EXPIRY (R328). -/
  | dhcpLeaseExpiry
  /-- ARP_REQUEST (R329). -/
  | arpRequest (port : Fin 2) (senderMac : BitVec 48) (senderIp : BitVec 32) (targetIp : BitVec 32)
  /-- ARP_REPLY (R329). -/
  | arpReply (port : Fin 2) (senderMac : BitVec 48) (senderIp : BitVec 32)
  /-- ARP_REFRESH (R329). -/
  | arpRefresh
  /-- ICMP_ECHO (R329). -/
  | icmpEcho (port : Fin 2) (srcMac : BitVec 48) (srcIp : BitVec 32) (payload : Bytes)
  /-- IGMP_QUERY (R329). -/
  | igmpQuery (port : Fin 2) (group : BitVec 32)
  /-- CAM_TRIG_TIME_WRITE (R356). -/
  | camTrigTimeWrite (h : ReqHdr) (p : Fin 2) (sec : BitVec 48) (ns : BitVec 32)
  /-- CAM_TRIGGER_LAUNCH (R357). -/
  | camTriggerLaunch (p : Fin 2)
  /-- CAM_TRIGGER_END (R357). -/
  | camTriggerEnd (p : Fin 2)
  /-- CAM_VSYNC_START (R372). -/
  | camVsyncStart (p : Fin 2) (t : Stamp)
  /-- CAM_NOFRAME (R358). -/
  | camNoframe (p : Fin 2)
  /-- CAM_LINE_COMPLETE (R370). -/
  | camLineComplete (p : Fin 2) (pixels : List (BitVec 16)) (syncErrors : Nat)
  /-- CAM_PIPELINE_LINE (R369). -/
  | camPipelineLine
  /-- CAM_FRAME_END (R359). -/
  | camFrameEnd (p : Fin 2) (t : Stamp)
  /-- CAM_FRAME_TIMEOUT (R359). -/
  | camFrameTimeout (p : Fin 2)
  /-- CAM_TRAILER_FORM (R368). -/
  | camTrailerForm (p : Fin 2)
  /-- STOREHIGHWATER_READ (R374). -/
  | storeHighWaterRead (h : ReqHdr) (p : Fin 2)
  /-- REC_PERST_RELEASE (R376). -/
  | recPerstRelease
  /-- REC_INIT_DONE (R378). -/
  | recInitDone (r : RecInit)
  /-- REC_START (R387). -/
  | recStart (h : ReqHdr)
  /-- REC_STOP (R387). -/
  | recStop (h : ReqHdr)
  /-- REC_SYNC (R384). -/
  | recSync (h : ReqHdr)
  /-- REC_REINIT (R378). -/
  | recReinit (h : ReqHdr)
  /-- REC_FORMAT (R387). -/
  | recFormat (h : ReqHdr) (v : Byte)
  /-- REC_SEGMENT_TAKE (R387). -/
  | recSegmentTake
  /-- REC_WRITE_COMPLETE (R383). -/
  | recWriteComplete (res : NvmeResult)
  /-- REC_FLUSH_COMPLETE (R384). -/
  | recFlushComplete (res : NvmeResult)
  /-- REC_SUPERBLOCK_PERIOD (R384). -/
  | recSuperblockPeriod
  /-- REC_CMD_TIMEOUT (R388). -/
  | recCmdTimeout
  /-- REC_SMART_POLL (R377). -/
  | recSmartPoll (page : Bytes)
  /-- REC_LINK_LOSS (R388). -/
  | recLinkLoss
  /-- REC_READ (R390). -/
  | recRead (h : ReqHdr) (body : Bytes) (data : Bytes)
  /-- EVENT_ENTRY_CLOSE (R394). -/
  | eventEntryClose
  /-- JOURNAL_CLEAR (R398). -/
  | journalClear (h : ReqHdr) (v : Byte)
  /-- JOURNAL_RESUME (R398). -/
  | journalResume
  /-- JOURNALDROPPED_READ (R399). -/
  | journalDroppedRead (h : ReqHdr)
  /-- ALERT_PERIOD (R400). -/
  | alertPeriod
  /-- HELLO (R402). -/
  | hello (f : PairFrame)
  /-- HELLO_SEND (R404). -/
  | helloSend
  /-- HEARTBEAT (R404). -/
  | heartbeat (f : PairFrame)
  /-- HEARTBEAT_SEND (R408). -/
  | heartbeatSend
  /-- HEARTBEAT_MISS (R409). -/
  | heartbeatMiss
  /-- TIME_EXCHANGE (R324). -/
  | timeExchange (f : PairFrame)
  /-- COLUMN_FRAME (R406). -/
  | columnFrame (f : PairFrame)
  /-- LOOP_FRAME (R223). -/
  | loopFrame (f : PairFrame)
  /-- CONFIG_FRAME (R405). -/
  | configFrame (f : PairFrame)
  /-- BULK_FRAME (R404). -/
  | bulkFrame (f : PairFrame)
  /-- CLAIM (R407). -/
  | claim (f : PairFrame)
  /-- CLAIM_ACK (R407). -/
  | claimAck (f : PairFrame)
  /-- RELEASE (R409). -/
  | release (f : PairFrame)
  /-- PAIR_OWN_TIMEOUT (R409). -/
  | pairOwnTimeout
  /-- LIVENESS_RELEASE (R408). -/
  | livenessRelease
  /-- RILMAN_LINK_DOWN (R404). -/
  | rilmanLinkDown
  /-- PARTNER_LOST (R412). -/
  | partnerLost
  /-- MIRRORLAG_READ (R413). -/
  | mirrorLagRead (h : ReqHdr)
  /-- RESET_N_ASSERT (R417). -/
  | resetNAssert (widthNs : Nat)
  /-- RAIL_UNDERVOLTAGE (R416). -/
  | railUndervoltage (r : Rail)
  /-- POWER_ON_RESET_END (R416). -/
  | powerOnResetEnd
  /-- RESET_RELEASE (R420). -/
  | resetRelease (pins : BootPins)
  /-- BOOT_COMPLETE (R453). -/
  | bootComplete
  /-- BOOT_WATCHDOG (R424). -/
  | bootWatchdog
  /-- REFCLK_LOST (R419). -/
  | refclkLost (lockOnly : Bool)
  /-- ETH_REFCLK_LOST (R419). -/
  | ethRefclkLost
  /-- PCIE_REFCLK_LOST (R419). -/
  | pcieRefclkLost
  /-- RILMAN_LINK_UP (R404). -/
  | rilmanLinkUp
  /-- C2LOSS_ALARM_END (R399). -/
  | c2lossAlarmEnd
  /-- PAIR_OWN_RELEASE (R409). -/
  | pairOwnRelease
deriving DecidableEq, Repr

end Sys2Proof
end

