-- ==== Sys2Proof/WellFormed.lean ====
section
/-!
DEFINITION. Which commands are well formed: fields that a transport carries in fewer bits, lengths that a frame or a page has, and rows
that stand for only some of their operands' values. A check of the spec that draws an abort code is no condition here: it is the
command's effect.
-/

namespace Sys2Proof

/-- A request header as its transport can carry it (R51, Table DICT-7): over CAN, Transaction, SessionId and BodyLength are one byte,
and there is no port, address or version. -/
def ReqHdr.wf (h : ReqHdr) : Bool :=
  match h.transport with
  | .udp => true
  | .can => decide (h.transaction.toNat < 256) && decide (h.sessionId.toNat < 256) && decide (h.bodyLength.toNat < 256) &&
      decide (h.tag.length ≤ 64) && decide (h.port = 0) && decide (h.srcAddr = 0#32) && decide (h.srcPort = 0#16)

/-- The bytes that follow a header in one message: a UDP payload, or what a CAN FD frame holds (R50, R51). -/
def ReqHdr.room (h : ReqHdr) (body : Bytes) : Bool :=
  match h.transport with
  | .udp => decide (12 + body.length + h.tag.length ≤ 65507)
  | .can => decide (8 + body.length + h.tag.length ≤ 64)

/-- A generic request. -/
def ReqHdr.carries (h : ReqHdr) (body : Bytes) : Bool := h.wf && h.room body

/-- A Knock message as its transport can carry it (R65). -/
def KnockMsg.wf (m : KnockMsg) : Bool :=
  match m.transport with
  | .udp => decide (m.bytes.length ≤ 65507)
  | .can => decide (m.bytes.length ≤ 64) && decide (m.port = 0) && decide (m.srcAddr = 0#32) && decide (m.srcPort = 0#16)

/-- A Rilman payload: Length is a U16 (R404). -/
def PairFrame.wf (f : PairFrame) : Bool := decide (f.payload.length < 65536)

/-- A reading of the kind that its sensor gives (Table THRM-1). -/
def readingFits (k : SensorNo) : Reading → Bool
  | .diode _ _ => decide (k.val < 20)
  | .therm _ _ => decide (k.val = 20 ∨ k.val = 21)
  | .i2c _ _ => decide (k.val = 22)

/-- Counts of one pass: one for each code from 0 to 64 (R269). -/
def countsFit (counts : List Nat) : Bool := decide (counts.length = 65)

/-- The opcodes that the DTP port processes (Table DICT-6). -/
def processedOpcodes : List Nat := [0x01, 0x02, 0x03, 0x04, 0x05, 0x06, 0x10, 0x11, 0x12]

/-- Whether a command is well formed. -/
def Instr.wf : Instr → Bool
  | .read h body | .write h body | .stage h body | .blockReadInit h body | .blockWriteInit h body | .blockNext h body
  | .authChallenge h body | .authResponse h body | .close h body | .calBankImport h body => h.carries body
  | .unknownOpcode h op body => h.carries body && !processedOpcodes.contains op.toNat
  | .recRead h body data => h.carries body && decide (data.length ≤ 1048576)
  | .dtpShortDatagram _ bytes => decide (bytes.length < 12)
  | .knock m => m.wf
  | .arm h | .start h | .pause h | .resume h | .stop h | .disarm h | .calibrate h | .endCalibrate h | .follow h | .enterUpdate h
  | .commitImage h | .cancelUpdate h | .clearSafe h | .forceSafe h | .resetCmd h | .commitShadow h | .discardShadow h
  | .restoreDefaults h | .govFillRead h | .wcStatusRead h | .ringHighWaterRead h | .bufferHighWaterRead h | .recStart h | .recStop h
  | .recSync h | .recReinit h | .journalDroppedRead h | .mirrorLagRead h => h.wf
  | .maxLatencyRead h _ | .loopStatusRead h _ | .storeHighWaterRead h _ => h.wf
  | .chainSync h _ | .hostTrigger h _ | .zeroRun h _ | .zeroApply h _ | .recFormat h _ | .journalClear h _ => h.wf
  | .replaceRequest h _ _ | .restoreRequest h _ _ => h.wf
  | .timeTriggerWrite h _ _ | .timeSet h _ _ | .camTrigTimeWrite h _ _ _ => h.wf
  | .calRequest h _ | .tempDemand h _ | .timeAdjust h _ | .incrementSet h _ => h.wf
  | .authResponseTimeout tr sid | .sessionIdleTimeout tr sid => decide (tr = .udp) || decide (sid.toNat < 256)
  | .blockTransferTimeout (.session tr sid) => decide (tr = .udp) || decide (sid.toNat < 256)
  | .blockTransferTimeout (.source tr addr port) => decide (tr = .udp) || (decide (addr = 0#32) && decide (port = 0#16))
  | .lockoutExpiry level => decide (0 < level.val)
  | .spiRead _ count => decide (0 < count)
  | .spiWrite _ words => decide (0 < words.length)
  | .spiBadOpcode op _ => decide (op ≠ 2#8) && decide (op ≠ 3#8)
  | .calPassComplete _ counts => countsFit counts
  | .tempReading sensor x => readingFits sensor x
  | .launchTime _ cls | .classMaxWait _ cls => decide (2 ≤ cls.val)
  | .holdingOffer source => decide (3 ≤ source.val ∧ source.val ≤ 6)
  | .lossMarkerForm stream => decide (stream.val < 7)
  | .icmpEcho _ _ _ payload => decide (payload.length ≤ 65507)
  | .recInitDone r => decide (r.serial.length = 20) && decide (r.model.length = 40) && decide (r.superA.length = 4096) &&
      decide (r.superB.length = 4096)
  | .recSmartPoll page => decide (page.length = 512)
  | .hello f | .heartbeat f | .timeExchange f | .columnFrame f | .loopFrame f | .configFrame f | .bulkFrame f | .claim f | .claimAck f
  | .release f => f.wf
  | .knockApply | .shadowActivation | .safeRequest | .aliveTick | .columnBoundary | .transomSlot | .handoverSettleEnd _
  | .spadFire _ _ _ _ | .detectionAssign _ | .shutterOpen _ _ | .shutterClose _ _ | .zoomPlacement _ | .bufferRelease _
  | .peakExtractionDone _ | .columnPacketForm | .histEccError _ _ | .lineOverrunFault _ | .louvreStuckFault _ | .slotEnqueue _
  | .fireEdge _ | .govSubintervalBoundary _ | .startWindowExpiry _ _ | .auxEdge _ _ _ _ | .intervalDecide | .unpairedStopExpiry
  | .intervalNoStop | .freqGateEnd _ | .freqFitDone _ | .safeOffNAssert | .safeOffNRelease | .scanValidFall | .scanvalidClear
  | .pfailNFall | .pfailNRise | .pfailClear | .csLimitCycle _ | .overcurrentFault | .wcTripHigh _ | .wcTripLow _ | .wcRearm _
  | .headroomHold _ | .vchgDischargeTimeout | .conversionSlot _ _ | .syncReset _ | .thermalDemand _ | .loopSample _ _ _
  | .deadlineMiss _ | .stallLatch | .timeTriggerMatch | .segmentClose _ | .engineRearm _ | .segmentDrainOffer | .regionRunStart _
  | .calDeferTimeout _ | .standinAbandonReturn _ | .inputCalInterval | .fullCalDone | .bankWrite | .bankWriteDone _ | .zeroRunDone
  | .sensorStale _ | .housekeepDemand | .throttleDwell _ | .throttleRelease _ | .tjsafeRelease | .servoOffset _ | .ptpSync _
  | .ptpAnnounce _ | .ptpDelayReqSend | .ptpDelayMeasurement _ | .ptpPdelayReq _ | .ptpSourceLost | .ppsInEdge _ | .ppsSourceLost
  | .ppsOutRise | .ppsOutFall | .anchorInstant | .mergeEntry | .frameTxStart _ | .portLinkDown _ | .portLinkUp _ | .failback _
  | .dhcpOffer _ | .dhcpAck _ | .dhcpNak _ | .dhcpRenew | .dhcpRebind | .dhcpLeaseExpiry | .arpRequest _ _ _ _ | .arpReply _ _ _
  | .arpRefresh | .igmpQuery _ _ | .camTriggerLaunch _ | .camTriggerEnd _ | .camVsyncStart _ _ | .camNoframe _
  | .camLineComplete _ _ _ | .camPipelineLine | .camFrameEnd _ _ | .camFrameTimeout _ | .camTrailerForm _ | .recPerstRelease
  | .recSegmentTake | .recWriteComplete _ | .recFlushComplete _ | .recSuperblockPeriod | .recCmdTimeout | .recLinkLoss
  | .eventEntryClose | .journalResume | .alertPeriod | .helloSend | .heartbeatSend | .heartbeatMiss | .pairOwnTimeout
  | .livenessRelease | .rilmanLinkDown | .partnerLost | .resetNAssert _ | .railUndervoltage _ | .powerOnResetEnd | .resetRelease _
  | .bootComplete | .bootWatchdog | .refclkLost _ | .ethRefclkLost | .pcieRefclkLost | .rilmanLinkUp | .c2lossAlarmEnd
  | .pairOwnRelease => true

end Sys2Proof
end

