-- ==== Sys2Proof/Machine/Bits.lean ====
section
/-!
DEFINITION. Byte strings as numbers (R11), two's complement, bit fields and list helpers. Every recursion is structural.
-/

namespace Sys2Proof.Machine

/-- `n` bytes of `v`, least significant first (R11). -/
def leBytes : Nat → Nat → Bytes
  | 0, _ => []
  | n + 1, v => BitVec.ofNat 8 (v % 256) :: leBytes n (v / 256)

/-- The number whose bytes, least significant first, are `bs` (R11). -/
def leVal : Bytes → Nat
  | [] => 0
  | b :: bs => b.toNat + 256 * leVal bs

/-- `n` bytes of `v`, most significant first (SPI words of R69 and the headers of the network standards). -/
def beBytes (n v : Nat) : Bytes := (leBytes n v).reverse

/-- The number whose bytes, most significant first, are `bs`. -/
def beVal (bs : Bytes) : Nat := leVal bs.reverse

/-- The two's complement reading of the low `w` bits of `v`. -/
def signedOf (w v : Nat) : Int :=
  let u := v % 2 ^ w
  if u < 2 ^ (w - 1) then (u : Int) else (u : Int) - (2 ^ w : Nat)

/-- The low `w` bits of the two's complement of `i`. -/
def twosOf (w : Nat) (i : Int) : Nat := (i % ((2 ^ w : Nat) : Int)).toNat

/-- `n` bytes at `off`. -/
def slice (off n : Nat) (bs : Bytes) : Bytes := (bs.drop off).take n

/-- The little-endian number of `n` bytes at `off`. -/
def numAt (off n : Nat) (bs : Bytes) : Nat := leVal (slice off n bs)

/-- The little-endian two's complement number of `n` bytes at `off`. -/
def intAt (off n : Nat) (bs : Bytes) : Int := signedOf (8 * n) (numAt off n bs)

/-- `bs` with the bytes from `off` replaced by `xs`; a byte string too short is first filled with zeros. -/
def patch (off : Nat) (xs bs : Bytes) : Bytes :=
  (bs ++ List.replicate (off - bs.length) 0#8).take off ++ xs ++ bs.drop (off + xs.length)

/-- Bit `i` of `v`. -/
def bitOf (v i : Nat) : Bool := v.testBit i

/-- `v` with bit `i` set or cleared. -/
def setBit (v i : Nat) (b : Bool) : Nat :=
  if b then v ||| 2 ^ i else v - (if v.testBit i then 2 ^ i else 0)

/-- The field `[hi:lo]` of `v`. -/
def fieldOf (v hi lo : Nat) : Nat := (v / 2 ^ lo) % 2 ^ (hi + 1 - lo)

/-- A flag as a number. -/
def b2n (b : Bool) : Nat := if b then 1 else 0

/-- `i` held between `lo` and `hi`. -/
def clampInt (lo hi i : Int) : Int := if i < lo then lo else if i > hi then hi else i

/-- `n` held at `hi`. -/
def satNat (hi n : Nat) : Nat := if n > hi then hi else n

/-- The difference of two naturals as a distance. -/
def natDist (a b : Nat) : Nat := if a ≥ b then a - b else b - a

/-- `n / d` rounded up. -/
def ceilDiv (n d : Nat) : Nat := if d = 0 then 0 else (n + d - 1) / d

/-- `n / d` rounded to the nearest, halves up. -/
def roundDiv (n d : Nat) : Nat := if d = 0 then 0 else (2 * n + d) / (2 * d)

/-- Floor of `i / d` for a positive `d`. -/
def floorDivInt (i : Int) (d : Nat) : Int := if d = 0 then 0 else i.fdiv d

/-- `i / d` rounded to the nearest, halves away from zero. -/
def roundDivInt (i : Int) (d : Nat) : Int :=
  if i < 0 then - (roundDiv i.natAbs d : Int) else (roundDiv i.natAbs d : Int)

/-- The floor of the square root of `n`, by bits from the top: `k` bits of the root are tried. -/
def isqrtGo (n : Nat) : Nat → Nat → Nat
  | 0, r => r
  | k + 1, r =>
    let r' := r + 2 ^ k
    if r' * r' ≤ n then isqrtGo n k r' else isqrtGo n k r

/-- The floor of the square root of `n`. -/
def isqrt (n : Nat) : Nat := isqrtGo n (n.log2 / 2 + 1) 0

/-- `xs` with entry `i` replaced; unchanged where there is no entry `i`. -/
def setAt {α : Type} (xs : List α) (i : Nat) (x : α) : List α := xs.set i x

/-- `xs` with entry `i` changed by `f`. -/
def modAt {α : Type} (xs : List α) (i : Nat) (f : α → α) : List α := xs.modify i f

/-- Entry `i` of `xs`, or `d`. -/
def getAt {α : Type} (xs : List α) (i : Nat) (d : α) : α := xs.getD i d

/-- The numbers from `lo` up, `n` of them. -/
def rangeFrom (lo n : Nat) : List Nat := (List.range n).map (· + lo)

/-- Whether a byte string is all zero. -/
def allZero (bs : Bytes) : Bool := bs.all (· == 0#8)

/-- The `n`-byte little-endian numbers that `bs` holds, `k` of them. -/
def words (n : Nat) : Nat → Bytes → List Nat
  | 0, _ => []
  | k + 1, bs => leVal (bs.take n) :: words n k (bs.drop n)

/-- Sums. -/
def sumRat (xs : List Rat) : Rat := xs.foldl (fun (a b : Rat) => a + b) 0
def sumInt (xs : List Int) : Int := xs.foldl (fun (a b : Int) => a + b) 0
def sumNat (xs : List Nat) : Nat := xs.foldl (fun (a b : Nat) => a + b) 0

/-- Entries of a table kept by rising key: look up. -/
def tabGet {α : Type} (t : List (Nat × α)) (k : Nat) (d : α) : α :=
  match t with
  | [] => d
  | (k', x) :: t' => if k' = k then x else tabGet t' k d

/-- Entries of a table kept by rising key: put `x` at `k`. -/
def tabPut {α : Type} (t : List (Nat × α)) (k : Nat) (x : α) : List (Nat × α) :=
  match t with
  | [] => [(k, x)]
  | (k', y) :: t' =>
    if k < k' then (k, x) :: (k', y) :: t'
    else if k = k' then (k, x) :: t'
    else (k', y) :: tabPut t' k x

/-- Entries of a table: remove key `k`. -/
def tabDel {α : Type} (t : List (Nat × α)) (k : Nat) : List (Nat × α) := t.filter (fun e => e.1 != k)

/-- The text of a STRING object as bytes (Table DICT-2). -/
def textBytes (t : String) : Bytes := t.toUTF8.toList.map (fun b => b.toBitVec)

end Sys2Proof.Machine
end

