-- ==== Sys2Proof/Config.lean ====
section
/-!
DEFINITION. What one device fixes and the spec leaves open: free values, factory values, and the key material that only Kilca
or the integrator knows. Each is a constant with no body, so that no statement can rest on its value.
-/

namespace Sys2Proof

/-- A fresh value each time it is applied to the next count of State.fresh: random draws (R56), and results the spec
leaves open. -/
opaque Config.freeValue : Nat → Nat

/-- The ECDSA P-256 verdict under Kilca's public key: message bytes, then the 64 signature bytes (R422). -/
opaque Config.signatureOk : Bytes → Bytes → Bool

/-- SHA-256 of Kilca's public key (R422, 0x1210:09). -/
opaque Config.kilcaKeyHash : BitVec 256

/-- The key of the Factory level, set by Kilca (R58). -/
opaque Config.factoryKey : BitVec 256

/-- The key of the Integrator level with which the device ships (R58). -/
opaque Config.integratorKey : BitVec 256

/-- ShotSeed as shipped (R113, Table HIST-12). -/
opaque Config.shotSeed : BitVec 32

/-- The array's measured offset in x and y, 0.1 µm (R72). -/
opaque Config.arrayOffset : Bool → BitVec 16

/-- AuxDelay of a timing input, ps (R250). -/
opaque Config.auxDelay : Nat → BitVec 16

/-- Breakdown voltage at 25 °C of a region, mV (0x2A50:02). -/
opaque Config.vbd25 : Nat → BitVec 16

/-- Breakdown temperature coefficient, µV/°C (0x2A50:03). -/
opaque Config.bdTempCo : BitVec 16

/-- CalDeviceUid (R277). -/
opaque Config.calDeviceUid : BitVec 64

/-- MAC address of ETH0 as a 48-bit number; ETH1 has the next one (R328). -/
opaque Config.macAddress : BitVec 48

/-- RecordingId formed at FORMAT from native seconds and BootCount (Table REC-4). -/
opaque Config.recordingId : Nat → Nat → BitVec 64

/-- Detail of the code of the Warning that the recorder raises on entry to FULL, to which Table FAULT-3 gives no row (R386). -/
opaque Config.recFullDetail : BitVec 8

/-- The hardware address of the station that answers for an IPv4 address (R329, R50). -/
opaque Config.peerMac : BitVec 32 → BitVec 48

/-- Factory tap table of a path or, from 1088 up, of a timing input: entry `k`, 1/256 LSB (R89, R277). -/
opaque Config.tapEntry : Nat → Nat → BitVec 16

/-- Factory delay-line length of a path or timing input, fs (R89). -/
opaque Config.lineLength : Nat → BitVec 32

/-- Native time, s, at which the factory calibrated a path or timing input. -/
opaque Config.tapTime : Nat → BitVec 48

/-- Region temperature at the factory calibration of a path, 0.01 °C. -/
opaque Config.tapTemp : Nat → BitVec 16

/-- Firmware version and security version of the factory image. -/
opaque Config.factoryFirmware : BitVec 32
opaque Config.factorySecurity : BitVec 16

/-- Payload length of the factory image. -/
opaque Config.factoryPayload : BitVec 32

/-- When the factory wrote its bank, ns, and the logic-die temperature then, 0.01 °C (R452). -/
opaque Config.factoryBankNs : BitVec 64
opaque Config.factoryLogicTemp : BitVec 16

/-- Time, ns, and temperature of the factory full calibration of a region (R452). -/
opaque Config.factoryRegionNs : Nat → BitVec 64
opaque Config.factoryRegionTemp : Nat → BitVec 16

/-- Data of the event 0x0D03 by the mismatch that refuses a pair: 0 role, 1 identity equal to the device's own, 2 part, 3 variant,
4 stepping, 5 not the partner named (R402). -/
opaque Config.pairReason : Nat → BitVec 64

end Sys2Proof
end

