-- ==== Sys2Proof/Machine/Codes.lean ====
section
/-!
DEFINITION. The code tables of the dictionary chapter: device states (Table DICT-8), commands (Table DICT-9), abort codes
(Table DICT-4), access levels, and the type codes and sizes of objects (Table DICT-2).
-/

namespace Sys2Proof.Machine

/-- Device states (Table DICT-8). -/
inductive DevState where
  | reset | boot | idle | armed | scan | hold | calibrate | standby | safe | update
deriving DecidableEq, Repr

/-- The state codes of Table DICT-8. -/
def DevState.code : DevState → Nat
  | .reset => 0x01
  | .boot => 0x02
  | .idle => 0x10
  | .armed => 0x20
  | .scan => 0x30
  | .hold => 0x31
  | .calibrate => 0x40
  | .standby => 0x50
  | .safe => 0x60
  | .update => 0x70

/-- Column boundaries exist in SCAN, HOLD and STANDBY (R59). -/
def DevState.hasColumns : DevState → Bool
  | .scan | .hold | .standby => true
  | _ => false

/-- The device answers DTP in every state from IDLE to UPDATE (R59). -/
def DevState.answersDtp : DevState → Bool
  | .reset | .boot => false
  | _ => true

/-- The states in which staging is legal and a Knock can be pending (R64, R66). -/
def DevState.stages : DevState → Bool
  | .idle | .armed | .scan | .hold | .standby => true
  | _ => false

/-- The states in which a direct-gate inhibit is an alarm and the charge supply is up (Tables FAULT-5 and DICT-8). -/
def DevState.live : DevState → Bool
  | .armed | .scan | .hold => true
  | _ => false

/-- The commands of Table DICT-9. -/
inductive Cmd where
  | arm | start | pause | resume | stop | disarm | calibrate | endCalibrate | follow | enterUpdate | commitImage
  | cancelUpdate | clearSafe | forceSafe | reset | commitShadow | discardShadow | restoreDefaults
deriving DecidableEq, Repr

/-- The command codes of Table DICT-9. -/
def Cmd.code : Cmd → Nat
  | .arm => 0x0001
  | .start => 0x0002
  | .pause => 0x0003
  | .resume => 0x0004
  | .stop => 0x0005
  | .disarm => 0x0006
  | .calibrate => 0x0007
  | .endCalibrate => 0x0008
  | .follow => 0x0009
  | .enterUpdate => 0x000A
  | .commitImage => 0x000B
  | .cancelUpdate => 0x000C
  | .clearSafe => 0x000D
  | .forceSafe => 0x000E
  | .reset => 0x000F
  | .commitShadow => 0x0010
  | .discardShadow => 0x0011
  | .restoreDefaults => 0x0012

/-- All commands, in the order of their codes. -/
def Cmd.all : List Cmd :=
  [.arm, .start, .pause, .resume, .stop, .disarm, .calibrate, .endCalibrate, .follow, .enterUpdate, .commitImage,
   .cancelUpdate, .clearSafe, .forceSafe, .reset, .commitShadow, .discardShadow, .restoreDefaults]

/-- The command of a code (Table DICT-9); an undefined code has none. -/
def Cmd.ofCode (n : Nat) : Option Cmd := Cmd.all.find? (fun c => c.code == n)

/-- The level of a command (Table DICT-9): 1 Operator, 2 Integrator. -/
def Cmd.level : Cmd → Nat
  | .calibrate | .endCalibrate | .enterUpdate | .commitImage | .cancelUpdate | .restoreDefaults => 2
  | _ => 1

/-- Whether Table DICT-9 has something other than a dash for the command in the state. The conditions of its notes are
not looked at here. -/
def Cmd.legalIn : Cmd → DevState → Bool
  | .arm, .idle => true
  | .start, .armed => true
  | .pause, .scan => true
  | .resume, .hold => true
  | .stop, .scan | .stop, .hold => true
  | .disarm, .armed | .disarm, .standby => true
  | .calibrate, .idle => true
  | .endCalibrate, .calibrate => true
  | .follow, .idle => true
  | .enterUpdate, .idle => true
  | .commitImage, .update => true
  | .cancelUpdate, .update => true
  | .clearSafe, .safe => true
  | .forceSafe, st => st.answersDtp
  | .reset, st => st.answersDtp
  | .commitShadow, st => st.stages
  | .discardShadow, st => st.stages
  | .restoreDefaults, .idle => true
  | _, _ => false

/-- An abort code of Table DICT-4; 0 is success (R48). -/
abbrev Abort := Nat

def Abort.ok : Abort := 0x0000
def Abort.noObject : Abort := 0x0101
def Abort.readOnly : Abort := 0x0102
def Abort.writeOnly : Abort := 0x0103
def Abort.level : Abort := 0x0104
def Abort.wrongType : Abort := 0x0201
def Abort.wrongLength : Abort := 0x0202
def Abort.reservedBit : Abort := 0x0203
def Abort.malformed : Abort := 0x0204
def Abort.range : Abort := 0x0301
def Abort.inconsistent : Abort := 0x0302
def Abort.notWritableNow : Abort := 0x0401
def Abort.notAllowedNow : Abort := 0x0402
def Abort.knockCancelled : Abort := 0x0403
def Abort.transitionPending : Abort := 0x0404
def Abort.shadowFrozen : Abort := 0x0405
def Abort.transferOpen : Abort := 0x0501
def Abort.noFree : Abort := 0x0502
def Abort.capacity : Abort := 0x0503
def Abort.powerFail : Abort := 0x0504
def Abort.timeElapsed : Abort := 0x0601
def Abort.timeLead : Abort := 0x0602
def Abort.notFitted : Abort := 0x0701
def Abort.outOfService : Abort := 0x0702
def Abort.authFailed : Abort := 0x0801
def Abort.sessionUnknown : Abort := 0x0802
def Abort.lockedOut : Abort := 0x0803
def Abort.badTag : Abort := 0x0804
def Abort.badCounter : Abort := 0x0805
def Abort.badSignature : Abort := 0x0806
def Abort.mramBand : Abort := 0x0901
def Abort.boardTemp : Abort := 0x0902

/-- Object types (Table DICT-2); a DOMAIN or STRING carries the sizes its chapter declares (R44). -/
inductive OTy where
  | bool | u8 | u16 | u32 | u64 | i8 | i16 | i32 | i64 | f32 | time80
  | string (lo hi : Nat)
  | domain (lo hi : Nat)
deriving DecidableEq, Repr

/-- The type codes of Table DICT-2. -/
def OTy.code : OTy → Nat
  | .bool => 0x01
  | .u8 => 0x02
  | .u16 => 0x03
  | .u32 => 0x04
  | .u64 => 0x05
  | .i8 => 0x06
  | .i16 => 0x07
  | .i32 => 0x08
  | .i64 => 0x09
  | .f32 => 0x0A
  | .time80 => 0x0B
  | .string _ _ => 0x0C
  | .domain _ _ => 0x0D

/-- The least and the greatest size of a value of the type, in bytes (Table DICT-2, R44). -/
def OTy.sizes : OTy → Nat × Nat
  | .bool | .u8 | .i8 => (1, 1)
  | .u16 | .i16 => (2, 2)
  | .u32 | .i32 | .f32 => (4, 4)
  | .u64 | .i64 => (8, 8)
  | .time80 => (10, 10)
  | .string lo hi | .domain lo hi => (lo, hi)

/-- Whether a value of this type moves by block transfer only (R52). -/
def OTy.isDomain : OTy → Bool
  | .domain _ _ => true
  | _ => false

/-- Whether the number in a value of this type is signed. -/
def OTy.signed : OTy → Bool
  | .i8 | .i16 | .i32 | .i64 => true
  | _ => false

/-- What an object's access attribute lets a write or a read do (R43, R45). `rws` names the states in which a write is
accepted; `wos` is the same for a write-only object; `locked` is FactoryKey, which is neither read nor written (R58). -/
inductive Access where
  | ro | const | rw | wo | locked
  | rws (states : List DevState)
  | wos (states : List DevState)
deriving DecidableEq, Repr

/-- Whether the access attribute refuses reads (R45). -/
def Access.noRead : Access → Bool
  | .wo | .locked | .wos _ => true
  | _ => false

/-- Whether the access attribute refuses writes in every state (R45). -/
def Access.noWrite : Access → Bool
  | .ro | .const | .locked => true
  | _ => false

/-- Whether a write is accepted in the state (R45). -/
def Access.writableIn : Access → DevState → Bool
  | .rw, _ | .wo, _ => true
  | .rws sts, st | .wos sts, st => sts.contains st
  | _, _ => false

/-- The values an object's chapter permits. `codes` lists them; `zeroOr` adds 0 to a span; `milli` is a binary32 range in thousandths; `positive`
is a binary32 above 0; `each n sg lo hi` bounds every `n`-byte number of a DOMAIN; the checks that no such form can say are
made by the object's chapter. -/
inductive Rng where
  | any
  | span (lo hi : Int)
  | codes (cs : List Nat)
  | zeroOr (lo hi : Nat)
  | milli (lo hi : Int)
  | positive
  | each (n : Nat) (sg : Bool) (lo hi : Int)
deriving DecidableEq, Repr

/-- One row of the object dictionary (R43). `id` is index × 256 + subindex; `reserved` marks the reserved bits of a
numeric value (R10). Level: 0 Observer, 1 Operator, 2 Integrator, 3 Factory. -/
structure ObjDef where
  id : Nat
  ty : OTy
  acc : Access
  level : Nat
  dflt : Bytes
  stored : Bool
  staged : Bool
  rng : Rng
  reserved : Nat
deriving DecidableEq, Repr

end Sys2Proof.Machine
end

