-- ==== Sys2Proof/Machine/Objects.lean ====
section
/-!
DEFINITION. The object numbers of the dictionary, index × 256 + subindex, under the manual's names (R43). An object that
stands once per chain, loop, input, port, stream, camera or channel takes that number.
-/

namespace Sys2Proof.Machine

/-- 0x1000:01 VendorName (R2). -/
def Obj.vendorName : Nat := 0x100001

/-- 0x1000:02 PartNumber (R2). -/
def Obj.partNumber : Nat := 0x100002

/-- 0x1000:03 VariantCode (R2). -/
def Obj.variantCode : Nat := 0x100003

/-- 0x1000:04 Stepping (R2). -/
def Obj.stepping : Nat := 0x100004

/-- 0x1020:01 RegionsPresent (R2). -/
def Obj.regionsPresent : Nat := 0x102001

/-- 0x1020:02 Eth1Present (R2). -/
def Obj.eth1Present : Nat := 0x102002

/-- 0x1020:03 CamAPresent (R2). -/
def Obj.camAPresent : Nat := 0x102003

/-- 0x1020:04 CamBPresent (R2). -/
def Obj.camBPresent : Nat := 0x102004

/-- 0x1020:05 CamPipelinePresent (R2). -/
def Obj.camPipelinePresent : Nat := 0x102005

/-- 0x1020:06 RecorderPresent (R2). -/
def Obj.recorderPresent : Nat := 0x102006

/-- 0x2100:01 LouvreDepthMode (R81). -/
def Obj.louvreDepthMode : Nat := 0x210001

/-- 0x2100:02 LouvreDepthFixed (R81). -/
def Obj.louvreDepthFixed : Nat := 0x210002

/-- 0x2100:03 LouvreDepthMin (R81). -/
def Obj.louvreDepthMin : Nat := 0x210003

/-- 0x2100:04 LouvreDepthMax (R81). -/
def Obj.louvreDepthMax : Nat := 0x210004

/-- 0x2100:05 LouvreWindow (R81). -/
def Obj.louvreWindow : Nat := 0x210005

/-- 0x2100:06 AdaptRateHigh (R81). -/
def Obj.adaptRateHigh : Nat := 0x210006

/-- 0x2100:07 AdaptRateLow (R81). -/
def Obj.adaptRateLow : Nat := 0x210007

/-- 0x2100:08 AdaptHoldColumns (R81). -/
def Obj.adaptHoldColumns : Nat := 0x210008

/-- 0x2100:09 ShutterOpen (R81). -/
def Obj.shutterOpen : Nat := 0x210009

/-- 0x2100:0A ShutterClose (R81). -/
def Obj.shutterClose : Nat := 0x21000A

/-- 0x2100:0B LouvreSatFraction (R81). -/
def Obj.louvreSatFraction : Nat := 0x21000B

/-- 0x2100:0C HoldOffB0 (R81). -/
def Obj.holdOffB0 : Nat := 0x21000C

/-- 0x2100:0D HoldOffB1 (R81). -/
def Obj.holdOffB1 : Nat := 0x21000D

/-- 0x2100:0E HoldOffB2 (R81). -/
def Obj.holdOffB2 : Nat := 0x21000E

/-- 0x2100:0F HoldOffB3 (R81). -/
def Obj.holdOffB3 : Nat := 0x21000F

/-- 0x2100:10 HoldOffB4 (R81). -/
def Obj.holdOffB4 : Nat := 0x210010

/-- 0x3000 + n:00 HighestSubindex (R107). -/
def Obj.chHighestSubindex (n : Nat) : Nat := (0x3000 + n) * 256 + 0x00

/-- 0x3000 + n:01 ChannelStatus (R107). -/
def Obj.chChannelStatus (n : Nat) : Nat := (0x3000 + n) * 256 + 0x01

/-- 0x3000 + n:02 ServedBy (R107). -/
def Obj.chServedBy (n : Nat) : Nat := (0x3000 + n) * 256 + 0x02

/-- 0x3000 + n:03 LouvreDepthMode (R107). -/
def Obj.chLouvreDepthMode (n : Nat) : Nat := (0x3000 + n) * 256 + 0x03

/-- 0x3000 + n:04 LouvreDepthFixed (R107). -/
def Obj.chLouvreDepthFixed (n : Nat) : Nat := (0x3000 + n) * 256 + 0x04

/-- 0x3000 + n:05 LouvreWindow (R107). -/
def Obj.chLouvreWindow (n : Nat) : Nat := (0x3000 + n) * 256 + 0x05

/-- 0x3000 + n:06 ShutterOverride (R107). -/
def Obj.chShutterOverride (n : Nat) : Nat := (0x3000 + n) * 256 + 0x06

/-- 0x3000 + n:07 ShutterOpen (R107). -/
def Obj.chShutterOpen (n : Nat) : Nat := (0x3000 + n) * 256 + 0x07

/-- 0x3000 + n:08 ShutterClose (R107). -/
def Obj.chShutterClose (n : Nat) : Nat := (0x3000 + n) * 256 + 0x08

/-- 0x3000 + n:09 HoldOff (R107). -/
def Obj.chHoldOff (n : Nat) : Nat := (0x3000 + n) * 256 + 0x09

/-- 0x3000 + n:0A MonitorRate (R107). -/
def Obj.chMonitorRate (n : Nat) : Nat := (0x3000 + n) * 256 + 0x0A

/-- 0x3000 + n:0B BlindTimeLast (R107). -/
def Obj.chBlindTimeLast (n : Nat) : Nat := (0x3000 + n) * 256 + 0x0B

/-- 0x3000 + n:0C ConversionsLast (R107). -/
def Obj.chConversionsLast (n : Nat) : Nat := (0x3000 + n) * 256 + 0x0C

/-- 0x3000 + n:0D BlindEdgeCount (R107). -/
def Obj.chBlindEdgeCount (n : Nat) : Nat := (0x3000 + n) * 256 + 0x0D

/-- 0x3000 + n:0E LouvreSatCount (R107). -/
def Obj.chLouvreSatCount (n : Nat) : Nat := (0x3000 + n) * 256 + 0x0E

/-- 0x3000 + n:0F LineOverrunCount (R107). -/
def Obj.chLineOverrunCount (n : Nat) : Nat := (0x3000 + n) * 256 + 0x0F

/-- 0x3000 + n:10 TapTable (R107). -/
def Obj.chTapTable (n : Nat) : Nat := (0x3000 + n) * 256 + 0x10

/-- 0x3000 + n:11 LineLength (R107). -/
def Obj.chLineLength (n : Nat) : Nat := (0x3000 + n) * 256 + 0x11

/-- 0x3000 + n:12 TapTableTime (R107). -/
def Obj.chTapTableTime (n : Nat) : Nat := (0x3000 + n) * 256 + 0x12

/-- 0x3000 + n:13 TapTableTemp (R107). -/
def Obj.chTapTableTemp (n : Nat) : Nat := (0x3000 + n) * 256 + 0x13

/-- 0x3000 + n:14 CalFailCount (R107). -/
def Obj.chCalFailCount (n : Nat) : Nat := (0x3000 + n) * 256 + 0x14

/-- 0x3000 + n:15 ZeroOffset (R107). -/
def Obj.chZeroOffset (n : Nat) : Nat := (0x3000 + n) * 256 + 0x15

/-- 0x3000 + n:16 SubstOffset (R107). -/
def Obj.chSubstOffset (n : Nat) : Nat := (0x3000 + n) * 256 + 0x16

/-- 0x3000 + n:17 ReplaceRequest (R107). -/
def Obj.chReplaceRequest (n : Nat) : Nat := (0x3000 + n) * 256 + 0x17

/-- 0x3000 + n:18 RestoreRequest (R107). -/
def Obj.chRestoreRequest (n : Nat) : Nat := (0x3000 + n) * 256 + 0x18

/-- 0x3000 + n:19 FaultTime (R107). -/
def Obj.chFaultTime (n : Nat) : Nat := (0x3000 + n) * 256 + 0x19

/-- 0x3000 + n:1A HoldOffNow (R107). -/
def Obj.chHoldOffNow (n : Nat) : Nat := (0x3000 + n) * 256 + 0x1A

/-- 0x3000 + n:1B LouvreWindowNow (R107). -/
def Obj.chLouvreWindowNow (n : Nat) : Nat := (0x3000 + n) * 256 + 0x1B

/-- 0x3000 + n:1C ShutterNow (R107). -/
def Obj.chShutterNow (n : Nat) : Nat := (0x3000 + n) * 256 + 0x1C

/-- 0x2200:01 ShotSeed (R141). -/
def Obj.shotSeed : Nat := 0x220001

/-- 0x2200:02 StartSource (R141). -/
def Obj.startSource : Nat := 0x220002

/-- 0x2200:03 StartWindowMin (R141). -/
def Obj.startWindowMin : Nat := 0x220003

/-- 0x2200:04 StartWindowMax (R141). -/
def Obj.startWindowMax : Nat := 0x220004

/-- 0x2200:05 StartNominal (R141). -/
def Obj.startNominal : Nat := 0x220005

/-- 0x2200:06 CoarseBinWidth (R141). -/
def Obj.coarseBinWidth : Nat := 0x220006

/-- 0x2200:07 IntegrationColumns (R141). -/
def Obj.integrationColumns : Nat := 0x220007

/-- 0x2200:08 ZoomCount (R141). -/
def Obj.zoomCount : Nat := 0x220008

/-- 0x2200:09 ZoomBinWidth (R141). -/
def Obj.zoomBinWidth : Nat := 0x220009

/-- 0x2200:0A ZoomSplit (R141). -/
def Obj.zoomSplit : Nat := 0x22000A

/-- 0x2200:0B KernelCoarse (R141). -/
def Obj.kernelCoarse : Nat := 0x22000B

/-- 0x2200:0C KernelZoom (R141). -/
def Obj.kernelZoom : Nat := 0x22000C

/-- 0x2200:0D BgBins (R141). -/
def Obj.bgBins : Nat := 0x22000D

/-- 0x2200:0E DetectSigma (R141). -/
def Obj.detectSigma : Nat := 0x22000E

/-- 0x2200:0F MinRate (R141). -/
def Obj.minRate : Nat := 0x22000F

/-- 0x2200:10 ReturnMode (R141). -/
def Obj.returnMode : Nat := 0x220010

/-- 0x2200:11 ReturnSlots (R141). -/
def Obj.returnSlots : Nat := 0x220011

/-- 0x2200:12 ColumnSummary (R141). -/
def Obj.columnSummary : Nat := 0x220012

/-- 0x2200:13 LiveMinFraction (R141). -/
def Obj.liveMinFraction : Nat := 0x220013

/-- 0x2200:20 StrayStartCount (R141). -/
def Obj.strayStartCount : Nat := 0x220020

/-- 0x2200:21 MissingStartCount (R141). -/
def Obj.missingStartCount : Nat := 0x220021

/-- 0x2200:22 EarlyCount (R141). -/
def Obj.earlyCount : Nat := 0x220022

/-- 0x2200:23 SaturatedBinCount (R141). -/
def Obj.saturatedBinCount : Nat := 0x220023

/-- 0x2200:24 ZoomDropCount (R141). -/
def Obj.zoomDropCount : Nat := 0x220024

/-- 0x2300:01 SoftWidth (R141). -/
def Obj.softWidth : Nat := 0x230001

/-- 0x2300:02 SoftStrength (R141). -/
def Obj.softStrength : Nat := 0x230002

/-- 0x2300:03 VeilEnd (R141). -/
def Obj.veilEnd : Nat := 0x230003

/-- 0x2300:04 VeilLevel (R141). -/
def Obj.veilLevel : Nat := 0x230004

/-- 0x2300:05 VeilSkip (R141). -/
def Obj.veilSkip : Nat := 0x230005

/-- 0x2300:06 SoftSkip (R141). -/
def Obj.softSkip : Nat := 0x230006

/-- 0x2300:07 MantisMutePeriod (R141). -/
def Obj.mantisMutePeriod : Nat := 0x230007

/-- 0x2300:08 MantisMinHits (R141). -/
def Obj.mantisMinHits : Nat := 0x230008

/-- 0x2300:09 MantisTol (R141). -/
def Obj.mantisTol : Nat := 0x230009

/-- 0x2300:0A MantisRatio (R141). -/
def Obj.mantisRatio : Nat := 0x23000A

/-- 0x2300:0B MantisWindow (R141). -/
def Obj.mantisWindow : Nat := 0x23000B

/-- 0x2300:0C MantisPeriodMin (R141). -/
def Obj.mantisPeriodMin : Nat := 0x23000C

/-- 0x2300:0D MantisPeriodMax (R141). -/
def Obj.mantisPeriodMax : Nat := 0x23000D

/-- 0x2300:0E MantisTrains (R141). -/
def Obj.mantisTrains : Nat := 0x23000E

/-- 0x2300:0F ForeignTrainCount (R141). -/
def Obj.foreignTrainCount : Nat := 0x23000F

/-- 0x2B00:01 ChargeMode (R169). -/
def Obj.chargeMode : Nat := 0x2B0001

/-- 0x2B00:02 ChargeFixed (R169). -/
def Obj.chargeFixed : Nat := 0x2B0002

/-- 0x2B00:03 ChargeMin (R169). -/
def Obj.chargeMin : Nat := 0x2B0003

/-- 0x2B00:04 ChargeMax (R169). -/
def Obj.chargeMax : Nat := 0x2B0004

/-- 0x2B00:05 ChargeStart (R169). -/
def Obj.chargeStart : Nat := 0x2B0005

/-- 0x2B00:06 HeadroomMargin (R169). -/
def Obj.headroomMargin : Nat := 0x2B0006

/-- 0x2B00:07 HeadroomLead (R169). -/
def Obj.headroomLead : Nat := 0x2B0007

/-- 0x2B00:08 ChargeLowerHold (R169). -/
def Obj.chargeLowerHold : Nat := 0x2B0008

/-- 0x2B00:09 ChargeNeedAge (R169). -/
def Obj.chargeNeedAge : Nat := 0x2B0009

/-- 0x2B00:0A ChargeFsw (R169). -/
def Obj.chargeFsw : Nat := 0x2B000A

/-- 0x2B00:0B SlopeComp (R169). -/
def Obj.slopeComp : Nat := 0x2B000B

/-- 0x2B00:0C CsLimit (R169). -/
def Obj.csLimit : Nat := 0x2B000C

/-- 0x2B00:0D ChargeOvp (R169). -/
def Obj.chargeOvp : Nat := 0x2B000D

/-- 0x2B00:0E ChargeDivider (R169). -/
def Obj.chargeDivider : Nat := 0x2B000E

/-- 0x2B00:0F HeadroomDivider (R169). -/
def Obj.headroomDivider : Nat := 0x2B000F

/-- 0x2B00:10 FireWidthCompB0 (R169). -/
def Obj.fireWidthCompB0 : Nat := 0x2B0010

/-- 0x2B00:11 FireWidthCompB1 (R169). -/
def Obj.fireWidthCompB1 : Nat := 0x2B0011

/-- 0x2B00:12 FireWidthCompB2 (R169). -/
def Obj.fireWidthCompB2 : Nat := 0x2B0012

/-- 0x2B00:13 FireWidthCompB3 (R169). -/
def Obj.fireWidthCompB3 : Nat := 0x2B0013

/-- 0x2B00:14 FireWidthCompB4 (R169). -/
def Obj.fireWidthCompB4 : Nat := 0x2B0014

/-- 0x2B00:15 DerateStart (R169). -/
def Obj.derateStart : Nat := 0x2B0015

/-- 0x2B00:16 DerateEnd (R169). -/
def Obj.derateEnd : Nat := 0x2B0016

/-- 0x2B00:17 DerateMinScale (R169). -/
def Obj.derateMinScale : Nat := 0x2B0017

/-- 0x2B00:18 ThrottleWidthScale (R169). -/
def Obj.throttleWidthScale : Nat := 0x2B0018

/-- 0x2B00:19 ChargeSetpoint (R169). -/
def Obj.chargeSetpoint : Nat := 0x2B0019

/-- 0x2B00:1A ChargeMeasured (R169). -/
def Obj.chargeMeasured : Nat := 0x2B001A

/-- 0x2B00:1B BankHeadroom (R169). -/
def Obj.bankHeadroom : Nat := 0x2B001B

/-- 0x2B00:1C BoardTemp (R169). -/
def Obj.boardTemp : Nat := 0x2B001C

/-- 0x2B00:1D DerateScale (R169). -/
def Obj.derateScale : Nat := 0x2B001D

/-- 0x2B00:1E CsLimitCount (R169). -/
def Obj.csLimitCount : Nat := 0x2B001E

/-- 0x2B00:1F VchgDischarged (R169). -/
def Obj.vchgDischarged : Nat := 0x2B001F

/-- 0x2C00:01 FireflyProgram0 (R169). -/
def Obj.fireflyProgram0 : Nat := 0x2C0001

/-- 0x2C00:02 FireflyProgram1 (R169). -/
def Obj.fireflyProgram1 : Nat := 0x2C0002

/-- 0x2C00:03 FireflyProgram2 (R169). -/
def Obj.fireflyProgram2 : Nat := 0x2C0003

/-- 0x2C00:04 FireflyProgram3 (R169). -/
def Obj.fireflyProgram3 : Nat := 0x2C0004

/-- 0x2C00:05 PowerTableA (R169). -/
def Obj.powerTableA : Nat := 0x2C0005

/-- 0x2C00:06 PowerTableB (R169). -/
def Obj.powerTableB : Nat := 0x2C0006

/-- 0x2C00:07 FireMinGap (R169). -/
def Obj.fireMinGap : Nat := 0x2C0007

/-- 0x2C00:08 CellOrigin (R169). -/
def Obj.cellOrigin : Nat := 0x2C0008

/-- 0x2C00:09 CellSpan (R169). -/
def Obj.cellSpan : Nat := 0x2C0009

/-- 0x2C00:0A DoseGain (R169). -/
def Obj.doseGain : Nat := 0x2C000A

/-- 0x2C00:0B GovWindow0 (R169). -/
def Obj.govWindow0 : Nat := 0x2C000B

/-- 0x2C00:0C GovWindow1 (R169). -/
def Obj.govWindow1 : Nat := 0x2C000C

/-- 0x2C00:0D GovWindow2 (R169). -/
def Obj.govWindow2 : Nat := 0x2C000D

/-- 0x2C00:0E GovLimits (R169). -/
def Obj.govLimits : Nat := 0x2C000E

/-- 0x2C00:10 FireInhibitCause (R169). -/
def Obj.fireInhibitCause : Nat := 0x2C0010

/-- 0x2C00:11 GovInhibitCount (R169). -/
def Obj.govInhibitCount : Nat := 0x2C0011

/-- 0x2C00:12 GovFill (R169). -/
def Obj.govFill : Nat := 0x2C0012

/-- 0x2C00:13 FireCollisionCount (R169). -/
def Obj.fireCollisionCount : Nat := 0x2C0013

/-- 0x2C00:14 ShotOverrunCount (R169). -/
def Obj.shotOverrunCount : Nat := 0x2C0014

/-- 0x2C00:15 WidthClampCount (R169). -/
def Obj.widthClampCount : Nat := 0x2C0015

/-- 0x2C00:16 ScanValidDropCount (R169). -/
def Obj.scanValidDropCount : Nat := 0x2C0016

/-- 0x2800:01 Sc0Sequence (R193). -/
def Obj.sc0Sequence : Nat := 0x280001

/-- 0x2800:02 Sc1Sequence (R193). -/
def Obj.sc1Sequence : Nat := 0x280002

/-- 0x2800:03 ResultAlign (R193). -/
def Obj.resultAlign : Nat := 0x280003

/-- 0x2800:04 PairMode (R193). -/
def Obj.pairMode : Nat := 0x280004

/-- 0x2800:10 WcConfig (R193). -/
def Obj.wcConfig : Nat := 0x280010

/-- 0x2800:11 WcStatus (R193). -/
def Obj.wcStatus : Nat := 0x280011

/-- 0x2800:12 WcTripCount (R193). -/
def Obj.wcTripCount : Nat := 0x280012

/-- 0x2800:20 LastResults (R193). -/
def Obj.lastResults : Nat := 0x280020

/-- 0x2800:21 OvrCount (R193). -/
def Obj.ovrCount : Nat := 0x280021

/-- 0x2800:22 DiscardCount (R193). -/
def Obj.discardCount : Nat := 0x280022

/-- 0x2900:01 ChainSync (R194). -/
def Obj.chainSync : Nat := 0x290001

/-- 0x2910 + n:01 Preset (R194). -/
def Obj.chainPreset (n : Nat) : Nat := (0x2910 + n) * 256 + 0x01

/-- 0x2910 + n:02 Stages (R194). -/
def Obj.chainStages (n : Nat) : Nat := (0x2910 + n) * 256 + 0x02

/-- 0x2910 + n:03 Shifts (R194). -/
def Obj.chainShifts (n : Nat) : Nat := (0x2910 + n) * 256 + 0x03

/-- 0x2910 + n:04 MaLength (R194). -/
def Obj.chainMaLength (n : Nat) : Nat := (0x2910 + n) * 256 + 0x04

/-- 0x2910 + n:05 MaShift (R194). -/
def Obj.chainMaShift (n : Nat) : Nat := (0x2910 + n) * 256 + 0x05

/-- 0x2910 + n:06 Output (R194). -/
def Obj.chainOutput (n : Nat) : Nat := (0x2910 + n) * 256 + 0x06

/-- 0x2910 + n:07 OutputRate (R194). -/
def Obj.chainOutputRate (n : Nat) : Nat := (0x2910 + n) * 256 + 0x07

/-- 0x2910 + n:08 GroupDelay (R194). -/
def Obj.chainGroupDelay (n : Nat) : Nat := (0x2910 + n) * 256 + 0x08

/-- 0x2910 + n:09 SettlingTime (R194). -/
def Obj.chainSettlingTime (n : Nat) : Nat := (0x2910 + n) * 256 + 0x09

/-- 0x2910 + n:0A FillCount (R194). -/
def Obj.chainFillCount (n : Nat) : Nat := (0x2910 + n) * 256 + 0x0A

/-- 0x2A00:01 MirrorType (R224). -/
def Obj.mirrorType : Nat := 0x2A0001

/-- 0x2A00:05 ScanValid (R224). -/
def Obj.scanValid : Nat := 0x2A0005

/-- 0x2A00:06 StallTol (R224). -/
def Obj.stallTol : Nat := 0x2A0006

/-- 0x2A00:07 StallTime (R224). -/
def Obj.stallTime : Nat := 0x2A0007

/-- 0x2A00:08 HingeCount (R224). -/
def Obj.hingeCount : Nat := 0x2A0008

/-- 0x2A00:09 BoundaryPosition (R224). -/
def Obj.boundaryPosition : Nat := 0x2A0009

/-- 0x2A00:0A TransomCount (R224). -/
def Obj.transomCount : Nat := 0x2A000A

/-- 0x2A00:0B ColumnPeriodMin (R224). -/
def Obj.columnPeriodMin : Nat := 0x2A000B

/-- 0x2A00:0C MissLimit (R224). -/
def Obj.missLimit : Nat := 0x2A000C

/-- 0x2A00:0D CoefEccCount (R224). -/
def Obj.coefEccCount : Nat := 0x2A000D

/-- 0x2A00:0E ChargeTol (R224). -/
def Obj.chargeTol : Nat := 0x2A000E

/-- 0x2A20:01 ParkPosition (R224). -/
def Obj.parkPosition : Nat := 0x2A2001

/-- 0x2A20:02 RasterMin (R224). -/
def Obj.rasterMin : Nat := 0x2A2002

/-- 0x2A20:03 RasterMax (R224). -/
def Obj.rasterMax : Nat := 0x2A2003

/-- 0x2A20:04 RasterVelocity (R224). -/
def Obj.rasterVelocity : Nat := 0x2A2004

/-- 0x2A20:05 RasterAccel (R224). -/
def Obj.rasterAccel : Nat := 0x2A2005

/-- 0x2A20:06 RasterShape (R224). -/
def Obj.rasterShape : Nat := 0x2A2006

/-- 0x2A20:07 FlybackVelocity (R224). -/
def Obj.flybackVelocity : Nat := 0x2A2007

/-- 0x2A20:08 L1Pattern (R224). -/
def Obj.l1Pattern : Nat := 0x2A2008

/-- 0x2A20:09 L1TrackTol (R224). -/
def Obj.l1TrackTol : Nat := 0x2A2009

/-- 0x2A20:0A ColumnStep (R224). -/
def Obj.columnStep : Nat := 0x2A200A

/-- 0x2A20:0B ColumnsPerSweep (R224). -/
def Obj.columnsPerSweep : Nat := 0x2A200B

/-- 0x2A20:0C TrackTol (R224). -/
def Obj.trackTol : Nat := 0x2A200C

/-- 0x2A30:01 Facets (R224). -/
def Obj.facets : Nat := 0x2A3001

/-- 0x2A30:02 PolySpeed (R224). -/
def Obj.polySpeed : Nat := 0x2A3002

/-- 0x2A30:03 EncoderAux (R224). -/
def Obj.encoderAux : Nat := 0x2A3003

/-- 0x2A30:04 EncoderCounts (R224). -/
def Obj.encoderCounts : Nat := 0x2A3004

/-- 0x2A30:05 IndexAux (R224). -/
def Obj.indexAux : Nat := 0x2A3005

/-- 0x2A30:06 FacetGuard (R224). -/
def Obj.facetGuard : Nat := 0x2A3006

/-- 0x2A30:07 ColumnsPerFacet (R224). -/
def Obj.columnsPerFacet : Nat := 0x2A3007

/-- 0x2A30:08 SpeedTol (R224). -/
def Obj.speedTol : Nat := 0x2A3008

/-- 0x2A40:01 ResAmplitude (R224). -/
def Obj.resAmplitude : Nat := 0x2A4001

/-- 0x2A40:02 ResStartFreq (R224). -/
def Obj.resStartFreq : Nat := 0x2A4002

/-- 0x2A40:03 ResFreqMin (R224). -/
def Obj.resFreqMin : Nat := 0x2A4003

/-- 0x2A40:04 ResFreqMax (R224). -/
def Obj.resFreqMax : Nat := 0x2A4004

/-- 0x2A40:05 ResPhaseTarget (R224). -/
def Obj.resPhaseTarget : Nat := 0x2A4005

/-- 0x2A40:06 AmpTol (R224). -/
def Obj.ampTol : Nat := 0x2A4006

/-- 0x2A40:07 ResPhaseTol (R224). -/
def Obj.resPhaseTol : Nat := 0x2A4007

/-- 0x2A40:08 StartDrive (R224). -/
def Obj.startDrive : Nat := 0x2A4008

/-- 0x2A40:09 ColumnsPerHalf (R224). -/
def Obj.columnsPerHalf : Nat := 0x2A4009

/-- 0x2A50:01 BiasDivider (R224). -/
def Obj.biasDivider : Nat := 0x2A5001

/-- 0x2A50:02 Vbd25 (R224). -/
def Obj.vbd25 : Nat := 0x2A5002

/-- 0x2A50:03 BdTempCo (R224). -/
def Obj.bdTempCo : Nat := 0x2A5003

/-- 0x2A50:04 ExcessBias (R224). -/
def Obj.excessBias : Nat := 0x2A5004

/-- 0x2A50:05 BiasReserve (R224). -/
def Obj.biasReserve : Nat := 0x2A5005

/-- 0x2A50:06 BiasTrim (R224). -/
def Obj.biasTrim : Nat := 0x2A5006

/-- 0x2A50:07 TrimClamp (R224). -/
def Obj.trimClamp : Nat := 0x2A5007

/-- 0x2A10 + n:01 SampleDivider (R224). -/
def Obj.loopSampleDivider (n : Nat) : Nat := (0x2A10 + n) * 256 + 0x01

/-- 0x2A10 + n:02 Deadline (R224). -/
def Obj.loopDeadline (n : Nat) : Nat := (0x2A10 + n) * 256 + 0x02

/-- 0x2A10 + n:03 LoopMode (R224). -/
def Obj.loopLoopMode (n : Nat) : Nat := (0x2A10 + n) * 256 + 0x03

/-- 0x2A10 + n:04 Kp (R224). -/
def Obj.loopKp (n : Nat) : Nat := (0x2A10 + n) * 256 + 0x04

/-- 0x2A10 + n:05 Ki (R224). -/
def Obj.loopKi (n : Nat) : Nat := (0x2A10 + n) * 256 + 0x05

/-- 0x2A10 + n:06 Kd (R224). -/
def Obj.loopKd (n : Nat) : Nat := (0x2A10 + n) * 256 + 0x06

/-- 0x2A10 + n:07 Alpha (R224). -/
def Obj.loopAlpha (n : Nat) : Nat := (0x2A10 + n) * 256 + 0x07

/-- 0x2A10 + n:08 IntLimit (R224). -/
def Obj.loopIntLimit (n : Nat) : Nat := (0x2A10 + n) * 256 + 0x08

/-- 0x2A10 + n:09 Biquad1 (R224). -/
def Obj.loopBiquad1 (n : Nat) : Nat := (0x2A10 + n) * 256 + 0x09

/-- 0x2A10 + n:0A Biquad2 (R224). -/
def Obj.loopBiquad2 (n : Nat) : Nat := (0x2A10 + n) * 256 + 0x0A

/-- 0x2A10 + n:0B Kff (R224). -/
def Obj.loopKff (n : Nat) : Nat := (0x2A10 + n) * 256 + 0x0B

/-- 0x2A10 + n:0C OutMin (R224). -/
def Obj.loopOutMin (n : Nat) : Nat := (0x2A10 + n) * 256 + 0x0C

/-- 0x2A10 + n:0D OutMax (R224). -/
def Obj.loopOutMax (n : Nat) : Nat := (0x2A10 + n) * 256 + 0x0D

/-- 0x2A10 + n:0E VelLimit (R224). -/
def Obj.loopVelLimit (n : Nat) : Nat := (0x2A10 + n) * 256 + 0x0E

/-- 0x2A10 + n:0F AccLimit (R224). -/
def Obj.loopAccLimit (n : Nat) : Nat := (0x2A10 + n) * 256 + 0x0F

/-- 0x2A10 + n:10 SensorGain (R224). -/
def Obj.loopSensorGain (n : Nat) : Nat := (0x2A10 + n) * 256 + 0x10

/-- 0x2A10 + n:11 SensorOffset (R224). -/
def Obj.loopSensorOffset (n : Nat) : Nat := (0x2A10 + n) * 256 + 0x11

/-- 0x2A10 + n:12 HingeTol (R224). -/
def Obj.loopHingeTol (n : Nat) : Nat := (0x2A10 + n) * 256 + 0x12

/-- 0x2A10 + n:13 HingeRamp (R224). -/
def Obj.loopHingeRamp (n : Nat) : Nat := (0x2A10 + n) * 256 + 0x13

/-- 0x2A10 + n:14 SetpointNow (R224). -/
def Obj.loopSetpointNow (n : Nat) : Nat := (0x2A10 + n) * 256 + 0x14

/-- 0x2A10 + n:15 MeasuredNow (R224). -/
def Obj.loopMeasuredNow (n : Nat) : Nat := (0x2A10 + n) * 256 + 0x15

/-- 0x2A10 + n:16 OutputNow (R224). -/
def Obj.loopOutputNow (n : Nat) : Nat := (0x2A10 + n) * 256 + 0x16

/-- 0x2A10 + n:17 LoopStatus (R224). -/
def Obj.loopLoopStatus (n : Nat) : Nat := (0x2A10 + n) * 256 + 0x17

/-- 0x2A10 + n:18 DeadlineMissCount (R224). -/
def Obj.loopDeadlineMissCount (n : Nat) : Nat := (0x2A10 + n) * 256 + 0x18

/-- 0x2A10 + n:19 MaxLatency (R224). -/
def Obj.loopMaxLatency (n : Nat) : Nat := (0x2A10 + n) * 256 + 0x19

/-- 0x2A10 + n:1A SatCount (R224). -/
def Obj.loopSatCount (n : Nat) : Nat := (0x2A10 + n) * 256 + 0x1A

/-- 0x2A10 + n:1B LimitCount (R224). -/
def Obj.loopLimitCount (n : Nat) : Nat := (0x2A10 + n) * 256 + 0x1B

/-- 0x2A10 + n:1C StartKp (R224). -/
def Obj.loopStartKp (n : Nat) : Nat := (0x2A10 + n) * 256 + 0x1C

/-- 0x2A10 + n:1D StartKi (R224). -/
def Obj.loopStartKi (n : Nat) : Nat := (0x2A10 + n) * 256 + 0x1D

/-- 0x2A10 + n:1E StartKd (R224). -/
def Obj.loopStartKd (n : Nat) : Nat := (0x2A10 + n) * 256 + 0x1E

/-- 0x2A10 + n:1F OutBias (R224). -/
def Obj.loopOutBias (n : Nat) : Nat := (0x2A10 + n) * 256 + 0x1F

/-- 0x2400:01 MayflyEnable (R248). -/
def Obj.mayflyEnable : Nat := 0x240001

/-- 0x2400:02 Kind (R248). -/
def Obj.kind : Nat := 0x240002

/-- 0x2400:03 PayloadSize (R248). -/
def Obj.payloadSize : Nat := 0x240003

/-- 0x2400:04 PreCount (R248). -/
def Obj.preCount : Nat := 0x240004

/-- 0x2400:05 PostCount (R248). -/
def Obj.postCount : Nat := 0x240005

/-- 0x2400:06 PostWindow (R248). -/
def Obj.postWindow : Nat := 0x240006

/-- 0x2400:07 CauseEnable (R248). -/
def Obj.causeEnable : Nat := 0x240007

/-- 0x2400:08 WatchList (R248). -/
def Obj.watchList : Nat := 0x240008

/-- 0x2400:09 ChannelTrigMask (R248). -/
def Obj.channelTrigMask : Nat := 0x240009

/-- 0x2400:0A ZoomTrigLevel (R248). -/
def Obj.zoomTrigLevel : Nat := 0x24000A

/-- 0x2400:0B TimeTrigger (R248). -/
def Obj.timeTrigger : Nat := 0x24000B

/-- 0x2400:0C TimeTrigPeriod (R248). -/
def Obj.timeTrigPeriod : Nat := 0x24000C

/-- 0x2400:0D HostTrigger (R248). -/
def Obj.hostTrigger : Nat := 0x24000D

/-- 0x2400:0E DrainMask (R248). -/
def Obj.drainMask : Nat := 0x24000E

/-- 0x2400:10 RingUsed (R248). -/
def Obj.ringUsed : Nat := 0x240010

/-- 0x2400:11 RingCapacity (R248). -/
def Obj.ringCapacity : Nat := 0x240011

/-- 0x2400:12 SegmentCount (R248). -/
def Obj.segmentCount : Nat := 0x240012

/-- 0x2400:13 MissedByCause (R248). -/
def Obj.missedByCause : Nat := 0x240013

/-- 0x2400:14 MissedByReason (R248). -/
def Obj.missedByReason : Nat := 0x240014

/-- 0x2400:15 TruncActive (R248). -/
def Obj.truncActive : Nat := 0x240015

/-- 0x2400:16 EffectivePre (R248). -/
def Obj.effectivePre : Nat := 0x240016

/-- 0x2400:17 EffectivePost (R248). -/
def Obj.effectivePost : Nat := 0x240017

/-- 0x2400:18 RingHighWater (R248). -/
def Obj.ringHighWater : Nat := 0x240018

/-- 0x2500:01 IntervalStartInput (R261). -/
def Obj.intervalStartInput : Nat := 0x250001

/-- 0x2500:02 IntervalStopInput (R261). -/
def Obj.intervalStopInput : Nat := 0x250002

/-- 0x2500:03 IntervalStartSlope (R261). -/
def Obj.intervalStartSlope : Nat := 0x250003

/-- 0x2500:04 IntervalStopSlope (R261). -/
def Obj.intervalStopSlope : Nat := 0x250004

/-- 0x2500:05 IntervalWindow (R261). -/
def Obj.intervalWindow : Nat := 0x250005

/-- 0x2500:06 LastInterval (R261). -/
def Obj.lastInterval : Nat := 0x250006

/-- 0x2500:07 IntervalLog (R261). -/
def Obj.intervalLog : Nat := 0x250007

/-- 0x2500:08 IntervalCount (R261). -/
def Obj.intervalCount : Nat := 0x250008

/-- 0x2500:09 NoStopCount (R261). -/
def Obj.noStopCount : Nat := 0x250009

/-- 0x2500:0A UnpairedStopCount (R261). -/
def Obj.unpairedStopCount : Nat := 0x25000A

/-- 0x2500:10 CalrefMode (R261). -/
def Obj.calrefMode : Nat := 0x250010

/-- 0x2500:11 CalrefTolPpb (R261). -/
def Obj.calrefTolPpb : Nat := 0x250011

/-- 0x2500:12 CalrefPresent (R261). -/
def Obj.calrefPresent : Nat := 0x250012

/-- 0x2510 + n:01 AuxRole (R261). -/
def Obj.auxRole (n : Nat) : Nat := (0x2510 + n) * 256 + 0x01

/-- 0x2510 + n:02 RoleNow (R261). -/
def Obj.auxRoleNow (n : Nat) : Nat := (0x2510 + n) * 256 + 0x02

/-- 0x2510 + n:03 Threshold (R261). -/
def Obj.auxThreshold (n : Nat) : Nat := (0x2510 + n) * 256 + 0x03

/-- 0x2510 + n:04 Hysteresis (R261). -/
def Obj.auxHysteresis (n : Nat) : Nat := (0x2510 + n) * 256 + 0x04

/-- 0x2510 + n:05 Slope (R261). -/
def Obj.auxSlope (n : Nat) : Nat := (0x2510 + n) * 256 + 0x05

/-- 0x2510 + n:06 AuxDelay (R261). -/
def Obj.auxDelay (n : Nat) : Nat := (0x2510 + n) * 256 + 0x06

/-- 0x2510 + n:07 EdgeCount (R261). -/
def Obj.auxEdgeCount (n : Nat) : Nat := (0x2510 + n) * 256 + 0x07

/-- 0x2510 + n:08 BlindEdgeCount (R261). -/
def Obj.auxBlindEdgeCount (n : Nat) : Nat := (0x2510 + n) * 256 + 0x08

/-- 0x2510 + n:09 LastStamp (R261). -/
def Obj.auxLastStamp (n : Nat) : Nat := (0x2510 + n) * 256 + 0x09

/-- 0x2510 + n:0A FreqGate (R261). -/
def Obj.auxFreqGate (n : Nat) : Nat := (0x2510 + n) * 256 + 0x0A

/-- 0x2510 + n:0B FreqNominal (R261). -/
def Obj.auxFreqNominal (n : Nat) : Nat := (0x2510 + n) * 256 + 0x0B

/-- 0x2510 + n:0C FreqResult (R261). -/
def Obj.auxFreqResult (n : Nat) : Nat := (0x2510 + n) * 256 + 0x0C

/-- 0x2510 + n:0D FreqResultCount (R261). -/
def Obj.auxFreqResultCount (n : Nat) : Nat := (0x2510 + n) * 256 + 0x0D

/-- 0x2600:01 DeltaTCal (R284). -/
def Obj.deltaTCal : Nat := 0x260001

/-- 0x2600:02 CalMaxInterval (R284). -/
def Obj.calMaxInterval : Nat := 0x260002

/-- 0x2600:03 CalConversions (R284). -/
def Obj.calConversions : Nat := 0x260003

/-- 0x2600:04 TapAgreeTol (R284). -/
def Obj.tapAgreeTol : Nat := 0x260004

/-- 0x2600:05 ScaleAgreeTol (R284). -/
def Obj.scaleAgreeTol : Nat := 0x260005

/-- 0x2600:06 CalDeferMax (R284). -/
def Obj.calDeferMax : Nat := 0x260006

/-- 0x2600:07 CalInputInterval (R284). -/
def Obj.calInputInterval : Nat := 0x260007

/-- 0x2600:08 ScaleGates (R284). -/
def Obj.scaleGates : Nat := 0x260008

/-- 0x2600:09 CalRequest (R284). -/
def Obj.calRequest : Nat := 0x260009

/-- 0x2600:0A RegionDue (R284). -/
def Obj.regionDue : Nat := 0x26000A

/-- 0x2600:0B RegionRunning (R284). -/
def Obj.regionRunning : Nat := 0x26000B

/-- 0x2600:0C InputCalDue (R284). -/
def Obj.inputCalDue : Nat := 0x26000C

/-- 0x2600:0D RegionCalTime (R284). -/
def Obj.regionCalTime : Nat := 0x26000D

/-- 0x2600:0E RegionCalTemp (R284). -/
def Obj.regionCalTemp : Nat := 0x26000E

/-- 0x2600:0F ScaleErrorPpb (R284). -/
def Obj.scaleErrorPpb : Nat := 0x26000F

/-- 0x2600:10 ScaleSource (R284). -/
def Obj.scaleSource : Nat := 0x260010

/-- 0x2600:11 ActiveBank (R284). -/
def Obj.activeBank : Nat := 0x260011

/-- 0x2600:12 ActiveGeneration (R284). -/
def Obj.activeGeneration : Nat := 0x260012

/-- 0x2600:13 BankWriteCount (R284). -/
def Obj.bankWriteCount : Nat := 0x260013

/-- 0x2600:14 BankWriteFailCount (R284). -/
def Obj.bankWriteFailCount : Nat := 0x260014

/-- 0x2600:15 CalPassCount (R284). -/
def Obj.calPassCount : Nat := 0x260015

/-- 0x2600:16 CalFailTotal (R284). -/
def Obj.calFailTotal : Nat := 0x260016

/-- 0x2600:17 CalDeviceUid (R284). -/
def Obj.calDeviceUid : Nat := 0x260017

/-- 0x2600:18 CalBankExport (R284). -/
def Obj.calBankExport : Nat := 0x260018

/-- 0x2600:19 CalBankImport (R284). -/
def Obj.calBankImport : Nat := 0x260019

/-- 0x2600:20 ZeroRefRange (R284). -/
def Obj.zeroRefRange : Nat := 0x260020

/-- 0x2600:21 ZeroColumns (R284). -/
def Obj.zeroColumns : Nat := 0x260021

/-- 0x2600:22 ZeroRun (R284). -/
def Obj.zeroRun : Nat := 0x260022

/-- 0x2600:23 ZeroStatus (R284). -/
def Obj.zeroStatus : Nat := 0x260023

/-- 0x2600:24 ZeroResult (R284). -/
def Obj.zeroResult : Nat := 0x260024

/-- 0x2600:25 ZeroApply (R284). -/
def Obj.zeroApply : Nat := 0x260025

/-- 0x2700:01 RegionTemp (R302). -/
def Obj.regionTemp : Nat := 0x270001

/-- 0x2700:02 RegionBand (R302). -/
def Obj.regionBand : Nat := 0x270002

/-- 0x2700:03 LogicTemp (R302). -/
def Obj.logicTemp : Nat := 0x270003

/-- 0x2700:04 PackageTemp (R302). -/
def Obj.packageTemp : Nat := 0x270004

/-- 0x2700:05 ThermTemp (R302). -/
def Obj.thermTemp : Nat := 0x270005

/-- 0x2700:06 I2cTemp (R302). -/
def Obj.i2cTemp : Nat := 0x270006

/-- 0x2700:07 SensorFailed (R302). -/
def Obj.sensorFailed : Nat := 0x270007

/-- 0x2700:08 StaleLimit (R302). -/
def Obj.staleLimit : Nat := 0x270008

/-- 0x2700:09 HousekeepPeriod (R302). -/
def Obj.housekeepPeriod : Nat := 0x270009

/-- 0x2700:0A RegionRateLimit (R302). -/
def Obj.regionRateLimit : Nat := 0x27000A

/-- 0x2700:0B BoardRateLimit (R302). -/
def Obj.boardRateLimit : Nat := 0x27000B

/-- 0x2700:0C RateSpan (R302). -/
def Obj.rateSpan : Nat := 0x27000C

/-- 0x2700:0D ThrottleTemp (R302). -/
def Obj.throttleTemp : Nat := 0x27000D

/-- 0x2700:0E ThrottleHyst (R302). -/
def Obj.throttleHyst : Nat := 0x27000E

/-- 0x2700:0F ThrottleDwell (R302). -/
def Obj.throttleDwell : Nat := 0x27000F

/-- 0x2700:10 ThrottleRelease (R302). -/
def Obj.throttleRelease : Nat := 0x270010

/-- 0x2700:11 TjSafe (R302). -/
def Obj.tjSafe : Nat := 0x270011

/-- 0x2700:12 BoardThrottleTemp (R302). -/
def Obj.boardThrottleTemp : Nat := 0x270012

/-- 0x2700:13 ThermTable (R302). -/
def Obj.thermTable : Nat := 0x270013

/-- 0x2700:14 I2cConfig (R302). -/
def Obj.i2cConfig : Nat := 0x270014

/-- 0x2700:15 TempDemand (R302). -/
def Obj.tempDemand : Nat := 0x270015

/-- 0x2700:16 ThrottleStep (R302). -/
def Obj.throttleStep : Nat := 0x270016

/-- 0x2700:17 ThrottleNow (R302). -/
def Obj.throttleNow : Nat := 0x270017

/-- 0x2700:18 MramWriteAllowed (R302). -/
def Obj.mramWriteAllowed : Nat := 0x270018

/-- 0x2700:19 RegionRate (R302). -/
def Obj.regionRate : Nat := 0x270019

/-- 0x2700:1A BoardRate (R302). -/
def Obj.boardRate : Nat := 0x27001A

/-- 0x2700:1B SensorFailCount (R302). -/
def Obj.sensorFailCount : Nat := 0x27001B

/-- 0x2700:1C RefreshWorst (R302). -/
def Obj.refreshWorst : Nat := 0x27001C

/-- 0x1300:01 NativeTime (R326). -/
def Obj.nativeTime : Nat := 0x130001

/-- 0x1300:02 Increment (R326). -/
def Obj.increment : Nat := 0x130002

/-- 0x1300:03 TimeSource (R326). -/
def Obj.timeSource : Nat := 0x130003

/-- 0x1300:04 TimeSet (R326). -/
def Obj.timeSet : Nat := 0x130004

/-- 0x1300:05 TimeAdjust (R326). -/
def Obj.timeAdjust : Nat := 0x130005

/-- 0x1300:06 IncrementSet (R326). -/
def Obj.incrementSet : Nat := 0x130006

/-- 0x1300:07 ServoState (R326). -/
def Obj.servoState : Nat := 0x130007

/-- 0x1300:08 OffsetNow (R326). -/
def Obj.offsetNow : Nat := 0x130008

/-- 0x1300:09 MeanPathDelay (R326). -/
def Obj.meanPathDelay : Nat := 0x130009

/-- 0x1300:0A StepThreshold (R326). -/
def Obj.stepThreshold : Nat := 0x13000A

/-- 0x1300:0B StepPolicy (R326). -/
def Obj.stepPolicy : Nat := 0x13000B

/-- 0x1300:0C LockThreshold (R326). -/
def Obj.lockThreshold : Nat := 0x13000C

/-- 0x1300:0D ServoKp (R326). -/
def Obj.servoKp : Nat := 0x13000D

/-- 0x1300:0E ServoKi (R326). -/
def Obj.servoKi : Nat := 0x13000E

/-- 0x1300:0F MaxSlew (R326). -/
def Obj.maxSlew : Nat := 0x13000F

/-- 0x1300:10 DelayStepThreshold (R326). -/
def Obj.delayStepThreshold : Nat := 0x130010

/-- 0x1300:11 DelayStepCount (R326). -/
def Obj.delayStepCount : Nat := 0x130011

/-- 0x1300:12 RequalifyCount (R326). -/
def Obj.requalifyCount : Nat := 0x130012

/-- 0x1300:13 DelayAsymmetry (R326). -/
def Obj.delayAsymmetry : Nat := 0x130013

/-- 0x1300:14 PtpProfile (R326). -/
def Obj.ptpProfile : Nat := 0x130014

/-- 0x1300:15 PtpDomain (R326). -/
def Obj.ptpDomain : Nat := 0x130015

/-- 0x1300:16 PtpPortMode (R326). -/
def Obj.ptpPortMode : Nat := 0x130016

/-- 0x1300:17 PortLatency (R326). -/
def Obj.portLatency : Nat := 0x130017

/-- 0x1300:18 AnchorPeriod (R326). -/
def Obj.anchorPeriod : Nat := 0x130018

/-- 0x1300:19 PpsOutMode (R326). -/
def Obj.ppsOutMode : Nat := 0x130019

/-- 0x1300:1A PpsOutWidth (R326). -/
def Obj.ppsOutWidth : Nat := 0x13001A

/-- 0x1300:1B PpsInDelay (R326). -/
def Obj.ppsInDelay : Nat := 0x13001B

/-- 0x1300:1C PpsInSource (R326). -/
def Obj.ppsInSource : Nat := 0x13001C

/-- 0x1300:1D StepCount (R326). -/
def Obj.stepCount : Nat := 0x13001D

/-- 0x1300:1E HoldoverCount (R326). -/
def Obj.holdoverCount : Nat := 0x13001E

/-- 0x1300:1F LaunchLateCount (R326). -/
def Obj.launchLateCount : Nat := 0x13001F

/-- 0x1300:20 CompatTicks (R326). -/
def Obj.compatTicks : Nat := 0x130020

/-- 0x1300:21 CompatOffset (R326). -/
def Obj.compatOffset : Nat := 0x130021

/-- 0x1300:22 CompatRate (R326). -/
def Obj.compatRate : Nat := 0x130022

/-- 0x1300:23 CompatTime (R326). -/
def Obj.compatTime : Nat := 0x130023

/-- 0x1300:24 TimeStatus (R326). -/
def Obj.timeStatus : Nat := 0x130024

/-- 0x1300:25 LastStepTime (R326). -/
def Obj.lastStepTime : Nat := 0x130025

/-- 0x1300:26 PairTimeOffset (R326). -/
def Obj.pairTimeOffset : Nat := 0x130026

/-- 0x1300:27 AnnounceTimeout (R326). -/
def Obj.announceTimeout : Nat := 0x130027

/-- 0x1300:28 LaunchDelay (R326). -/
def Obj.launchDelay : Nat := 0x130028

/-- 0x1300:29 RateNow (R326). -/
def Obj.rateNow : Nat := 0x130029

/-- 0x1300:2A PtpIgnoredCount (R326). -/
def Obj.ptpIgnoredCount : Nat := 0x13002A

/-- 0x1300:2B PpsRejectCount (R326). -/
def Obj.ppsRejectCount : Nat := 0x13002B

/-- 0x1140:01 IpMode (R350). -/
def Obj.ipMode : Nat := 0x114001

/-- 0x1140:02 IpAddress (R350). -/
def Obj.ipAddress : Nat := 0x114002

/-- 0x1140:03 NetMask (R350). -/
def Obj.netMask : Nat := 0x114003

/-- 0x1140:04 Gateway (R350). -/
def Obj.gateway : Nat := 0x114004

/-- 0x1140:05 IpNow (R350). -/
def Obj.ipNow : Nat := 0x114005

/-- 0x1140:06 DhcpState (R350). -/
def Obj.dhcpState : Nat := 0x114006

/-- 0x1140:07 Mtu (R350). -/
def Obj.mtu : Nat := 0x114007

/-- 0x1141 + n:01 PortMode (R350). -/
def Obj.portMode (n : Nat) : Nat := (0x1141 + n) * 256 + 0x01

/-- 0x1141 + n:02 MacAddress (R350). -/
def Obj.portMacAddress (n : Nat) : Nat := (0x1141 + n) * 256 + 0x02

/-- 0x1141 + n:03 VlanId (R350). -/
def Obj.portVlanId (n : Nat) : Nat := (0x1141 + n) * 256 + 0x03

/-- 0x1141 + n:04 LinkUp (R350). -/
def Obj.portLinkUp (n : Nat) : Nat := (0x1141 + n) * 256 + 0x04

/-- 0x1141 + n:05 LinkDownCount (R350). -/
def Obj.portLinkDownCount (n : Nat) : Nat := (0x1141 + n) * 256 + 0x05

/-- 0x1150 + n:01 Enable (R350). -/
def Obj.strEnable (n : Nat) : Nat := (0x1150 + n) * 256 + 0x01

/-- 0x1150 + n:02 DestAddr (R350). -/
def Obj.strDestAddr (n : Nat) : Nat := (0x1150 + n) * 256 + 0x02

/-- 0x1150 + n:03 DestPort (R350). -/
def Obj.strDestPort (n : Nat) : Nat := (0x1150 + n) * 256 + 0x03

/-- 0x1150 + n:04 PortMap (R350). -/
def Obj.strPortMap (n : Nat) : Nat := (0x1150 + n) * 256 + 0x04

/-- 0x1150 + n:05 NextSequence (R350). -/
def Obj.strNextSequence (n : Nat) : Nat := (0x1150 + n) * 256 + 0x05

/-- 0x1150 + n:06 PortNow (R350). -/
def Obj.strPortNow (n : Nat) : Nat := (0x1150 + n) * 256 + 0x06

/-- 0x1160:01 DuplicateMode (R350). -/
def Obj.duplicateMode : Nat := 0x116001

/-- 0x1160:02 Failover (R350). -/
def Obj.failover : Nat := 0x116002

/-- 0x1160:03 FailbackHold (R350). -/
def Obj.failbackHold : Nat := 0x116003

/-- 0x1160:04 ColumnSplit (R350). -/
def Obj.columnSplit : Nat := 0x116004

/-- 0x1160:05 ColumnRun (R350). -/
def Obj.columnRun : Nat := 0x116005

/-- 0x1160:06 ClassMaxWait (R350). -/
def Obj.classMaxWait : Nat := 0x116006

/-- 0x1160:07 QueueLimit (R350). -/
def Obj.queueLimit : Nat := 0x116007

/-- 0x1160:08 ClassPcp (R350). -/
def Obj.classPcp : Nat := 0x116008

/-- 0x1160:09 MarkerInterval (R350). -/
def Obj.markerInterval : Nat := 0x116009

/-- 0x1170:01 ClassCounters (R350). -/
def Obj.classCounters : Nat := 0x117001

/-- 0x1170:02 C2LossCount (R350). -/
def Obj.c2LossCount : Nat := 0x117002

/-- 0x1170:03 LossMarkerCount (R350). -/
def Obj.lossMarkerCount : Nat := 0x117003

/-- 0x1170:04 BufferHighWater (R350). -/
def Obj.bufferHighWater : Nat := 0x117004

/-- 0x1170:05 FailoverCount (R350). -/
def Obj.failoverCount : Nat := 0x117005

/-- 0x2D00:01 CamPriority (R374). -/
def Obj.camPriority : Nat := 0x2D0001

/-- 0x2D00:02 TnrMemUsed (R374). -/
def Obj.tnrMemUsed : Nat := 0x2D0002

/-- 0x2D00:03 TnrConflict (R374). -/
def Obj.tnrConflict : Nat := 0x2D0003

/-- 0x2D10 + n:01 CamEnable (R374). -/
def Obj.camEnable (n : Nat) : Nat := (0x2D10 + n) * 256 + 0x01

/-- 0x2D10 + n:02 InputDepth (R374). -/
def Obj.camInputDepth (n : Nat) : Nat := (0x2D10 + n) * 256 + 0x02

/-- 0x2D10 + n:03 PixelsPerClock (R374). -/
def Obj.camPixelsPerClock (n : Nat) : Nat := (0x2D10 + n) * 256 + 0x03

/-- 0x2D10 + n:04 SyncPolarity (R374). -/
def Obj.camSyncPolarity (n : Nat) : Nat := (0x2D10 + n) * 256 + 0x04

/-- 0x2D10 + n:05 CfaPattern (R374). -/
def Obj.camCfaPattern (n : Nat) : Nat := (0x2D10 + n) * 256 + 0x05

/-- 0x2D10 + n:06 ActiveWidth (R374). -/
def Obj.camActiveWidth (n : Nat) : Nat := (0x2D10 + n) * 256 + 0x06

/-- 0x2D10 + n:07 ActiveHeight (R374). -/
def Obj.camActiveHeight (n : Nat) : Nat := (0x2D10 + n) * 256 + 0x07

/-- 0x2D10 + n:08 FrameMaxTime (R374). -/
def Obj.camFrameMaxTime (n : Nat) : Nat := (0x2D10 + n) * 256 + 0x08

/-- 0x2D10 + n:09 PadValue (R374). -/
def Obj.camPadValue (n : Nat) : Nat := (0x2D10 + n) * 256 + 0x09

/-- 0x2D10 + n:0A Tap (R374). -/
def Obj.camTap (n : Nat) : Nat := (0x2D10 + n) * 256 + 0x0A

/-- 0x2D10 + n:0B OutFormat (R374). -/
def Obj.camOutFormat (n : Nat) : Nat := (0x2D10 + n) * 256 + 0x0B

/-- 0x2D10 + n:0C TrigMode (R374). -/
def Obj.camTrigMode (n : Nat) : Nat := (0x2D10 + n) * 256 + 0x0C

/-- 0x2D10 + n:0D TrigWidth (R374). -/
def Obj.camTrigWidth (n : Nat) : Nat := (0x2D10 + n) * 256 + 0x0D

/-- 0x2D10 + n:0E TrigActiveHigh (R374). -/
def Obj.camTrigActiveHigh (n : Nat) : Nat := (0x2D10 + n) * 256 + 0x0E

/-- 0x2D10 + n:0F TrigTime (R374). -/
def Obj.camTrigTime (n : Nat) : Nat := (0x2D10 + n) * 256 + 0x0F

/-- 0x2D10 + n:10 TrigPeriod (R374). -/
def Obj.camTrigPeriod (n : Nat) : Nat := (0x2D10 + n) * 256 + 0x10

/-- 0x2D10 + n:11 TrigColumns (R374). -/
def Obj.camTrigColumns (n : Nat) : Nat := (0x2D10 + n) * 256 + 0x11

/-- 0x2D10 + n:12 TrigDirection (R374). -/
def Obj.camTrigDirection (n : Nat) : Nat := (0x2D10 + n) * 256 + 0x12

/-- 0x2D10 + n:13 TrigEveryFrames (R374). -/
def Obj.camTrigEveryFrames (n : Nat) : Nat := (0x2D10 + n) * 256 + 0x13

/-- 0x2D10 + n:14 TrigDelay (R374). -/
def Obj.camTrigDelay (n : Nat) : Nat := (0x2D10 + n) * 256 + 0x14

/-- 0x2D10 + n:15 VsyncDelayMin (R374). -/
def Obj.camVsyncDelayMin (n : Nat) : Nat := (0x2D10 + n) * 256 + 0x15

/-- 0x2D10 + n:16 VsyncDelayMax (R374). -/
def Obj.camVsyncDelayMax (n : Nat) : Nat := (0x2D10 + n) * 256 + 0x16

/-- 0x2D10 + n:17 BlackLevel (R374). -/
def Obj.camBlackLevel (n : Nat) : Nat := (0x2D10 + n) * 256 + 0x17

/-- 0x2D10 + n:18 SnrStrength (R374). -/
def Obj.camSnrStrength (n : Nat) : Nat := (0x2D10 + n) * 256 + 0x18

/-- 0x2D10 + n:19 SnrThreshold (R374). -/
def Obj.camSnrThreshold (n : Nat) : Nat := (0x2D10 + n) * 256 + 0x19

/-- 0x2D10 + n:1A TnrEnable (R374). -/
def Obj.camTnrEnable (n : Nat) : Nat := (0x2D10 + n) * 256 + 0x1A

/-- 0x2D10 + n:1B TnrStrength (R374). -/
def Obj.camTnrStrength (n : Nat) : Nat := (0x2D10 + n) * 256 + 0x1B

/-- 0x2D10 + n:1C TnrThreshold (R374). -/
def Obj.camTnrThreshold (n : Nat) : Nat := (0x2D10 + n) * 256 + 0x1C

/-- 0x2D10 + n:1D WbGain (R374). -/
def Obj.camWbGain (n : Nat) : Nat := (0x2D10 + n) * 256 + 0x1D

/-- 0x2D10 + n:1E ColourMatrix (R374). -/
def Obj.camColourMatrix (n : Nat) : Nat := (0x2D10 + n) * 256 + 0x1E

/-- 0x2D10 + n:1F GammaLut (R374). -/
def Obj.camGammaLut (n : Nat) : Nat := (0x2D10 + n) * 256 + 0x1F

/-- 0x2D10 + n:20 FrameCount (R374). -/
def Obj.camFrameCount (n : Nat) : Nat := (0x2D10 + n) * 256 + 0x20

/-- 0x2D10 + n:21 NextFrameNumber (R374). -/
def Obj.camNextFrameNumber (n : Nat) : Nat := (0x2D10 + n) * 256 + 0x21

/-- 0x2D10 + n:22 DropCount (R374). -/
def Obj.camDropCount (n : Nat) : Nat := (0x2D10 + n) * 256 + 0x22

/-- 0x2D10 + n:23 SkippedTrigCount (R374). -/
def Obj.camSkippedTrigCount (n : Nat) : Nat := (0x2D10 + n) * 256 + 0x23

/-- 0x2D10 + n:24 MalformedCount (R374). -/
def Obj.camMalformedCount (n : Nat) : Nat := (0x2D10 + n) * 256 + 0x24

/-- 0x2D10 + n:25 StoreHighWater (R374). -/
def Obj.camStoreHighWater (n : Nat) : Nat := (0x2D10 + n) * 256 + 0x25

/-- 0x2D10 + n:26 LastTrailer (R374). -/
def Obj.camLastTrailer (n : Nat) : Nat := (0x2D10 + n) * 256 + 0x26

/-- 0x2D10 + n:27 LastStats (R374). -/
def Obj.camLastStats (n : Nat) : Nat := (0x2D10 + n) * 256 + 0x27

/-- 0x2E00:01 RecCommand (R391). -/
def Obj.recCommand : Nat := 0x2E0001

/-- 0x2E00:02 RecFormat (R391). -/
def Obj.recFormat : Nat := 0x2E0002

/-- 0x2E00:03 RecPolicy (R391). -/
def Obj.recPolicy : Nat := 0x2E0003

/-- 0x2E00:04 SuperblockPeriod (R391). -/
def Obj.superblockPeriod : Nat := 0x2E0004

/-- 0x2E00:05 InFlightLimit (R391). -/
def Obj.inFlightLimit : Nat := 0x2E0005

/-- 0x2E00:06 AutoStart (R391). -/
def Obj.autoStart : Nat := 0x2E0006

/-- 0x2E00:10 RecState (R391). -/
def Obj.recState : Nat := 0x2E0010

/-- 0x2E00:11 LinkStatus (R391). -/
def Obj.linkStatus : Nat := 0x2E0011

/-- 0x2E00:12 DriveInfo (R391). -/
def Obj.driveInfo : Nat := 0x2E0012

/-- 0x2E00:13 ManagedExtents (R391). -/
def Obj.managedExtents : Nat := 0x2E0013

/-- 0x2E00:14 HeadExtent (R391). -/
def Obj.headExtent : Nat := 0x2E0014

/-- 0x2E00:15 OldestExtent (R391). -/
def Obj.oldestExtent : Nat := 0x2E0015

/-- 0x2E00:16 RecordingId (R391). -/
def Obj.recordingId : Nat := 0x2E0016

/-- 0x2E00:17 BytesWritten (R391). -/
def Obj.bytesWritten : Nat := 0x2E0017

/-- 0x2E00:18 RecordsWritten (R391). -/
def Obj.recordsWritten : Nat := 0x2E0018

/-- 0x2E00:19 UnrecordedCount (R391). -/
def Obj.unrecordedCount : Nat := 0x2E0019

/-- 0x2E00:1A WriteErrorCount (R391). -/
def Obj.writeErrorCount : Nat := 0x2E001A

/-- 0x2E00:1B RateNow (R391). -/
def Obj.recRateNow : Nat := 0x2E001B

/-- 0x2E00:1C DriveHealth (R391). -/
def Obj.driveHealth : Nat := 0x2E001C

/-- 0x2E00:20 ReadLba (R391). -/
def Obj.readLba : Nat := 0x2E0020

/-- 0x2E00:21 ReadBlocks (R391). -/
def Obj.readBlocks : Nat := 0x2E0021

/-- 0x2E00:22 ReadData (R391). -/
def Obj.readData : Nat := 0x2E0022

/-- 0x1400:01 EventRing (R413). -/
def Obj.eventRing : Nat := 0x140001

/-- 0x1400:02 EventHead (R413). -/
def Obj.eventHead : Nat := 0x140002

/-- 0x1400:03 ActiveAlarms (R413). -/
def Obj.activeAlarms : Nat := 0x140003

/-- 0x1400:04 HighestSeverity (R413). -/
def Obj.highestSeverity : Nat := 0x140004

/-- 0x1400:05 LastFaultCode (R413). -/
def Obj.lastFaultCode : Nat := 0x140005

/-- 0x1400:07 RateLimit (R413). -/
def Obj.rateLimit : Nat := 0x140007

/-- 0x1400:08 RateBurst (R413). -/
def Obj.rateBurst : Nat := 0x140008

/-- 0x1400:09 LogMinSeverity (R413). -/
def Obj.logMinSeverity : Nat := 0x140009

/-- 0x1400:0A RingMinSeverity (R413). -/
def Obj.ringMinSeverity : Nat := 0x14000A

/-- 0x1400:0B EventCounters (R413). -/
def Obj.eventCounters : Nat := 0x14000B

/-- 0x1400:0C Journal (R413). -/
def Obj.journal : Nat := 0x14000C

/-- 0x1400:0D JournalCount (R413). -/
def Obj.journalCount : Nat := 0x14000D

/-- 0x1400:0E JournalDropped (R413). -/
def Obj.journalDropped : Nat := 0x14000E

/-- 0x1400:0F JournalClear (R413). -/
def Obj.journalClear : Nat := 0x14000F

/-- 0x2F00:01 PairRole (R413). -/
def Obj.pairRole : Nat := 0x2F0001

/-- 0x2F00:02 PartnerIdentity (R413). -/
def Obj.partnerIdentity : Nat := 0x2F0002

/-- 0x2F00:03 PairState (R413). -/
def Obj.pairState : Nat := 0x2F0003

/-- 0x2F00:04 Owner (R413). -/
def Obj.owner : Nat := 0x2F0004

/-- 0x2F00:05 HeartbeatMissCount (R413). -/
def Obj.heartbeatMissCount : Nat := 0x2F0005

/-- 0x2F00:06 TakeoverCount (R413). -/
def Obj.takeoverCount : Nat := 0x2F0006

/-- 0x2F00:07 LastTakeoverTime (R413). -/
def Obj.lastTakeoverTime : Nat := 0x2F0007

/-- 0x2F00:08 LastTakeoverCause (R413). -/
def Obj.lastTakeoverCause : Nat := 0x2F0008

/-- 0x2F00:09 MirrorLag (R413). -/
def Obj.mirrorLag : Nat := 0x2F0009

/-- 0x2F00:0A LinkErrorCount (R413). -/
def Obj.linkErrorCount : Nat := 0x2F000A

/-- 0x2F00:0B TakeoverBudget (R413). -/
def Obj.takeoverBudget : Nat := 0x2F000B

/-- 0x2F00:0C PartnerState (R413). -/
def Obj.partnerState : Nat := 0x2F000C

/-- 0x1210:01 ResetCause (R430). -/
def Obj.resetCause : Nat := 0x121001

/-- 0x1210:02 BootSlot (R430). -/
def Obj.bootSlot : Nat := 0x121002

/-- 0x1210:03 SlotStatus (R430). -/
def Obj.slotStatus : Nat := 0x121003

/-- 0x1210:04 MinSecurityVersion (R430). -/
def Obj.minSecurityVersion : Nat := 0x121004

/-- 0x1210:05 BootSafeActive (R430). -/
def Obj.bootSafeActive : Nat := 0x121005

/-- 0x1210:06 BootTime (R430). -/
def Obj.bootTime : Nat := 0x121006

/-- 0x1210:07 FirmwareVersion (R430). -/
def Obj.firmwareVersion : Nat := 0x121007

/-- 0x1210:08 ClockStatus (R430). -/
def Obj.clockStatus : Nat := 0x121008

/-- 0x1210:09 KilcaKeyHash (R430). -/
def Obj.kilcaKeyHash : Nat := 0x121009

/-- 0x1010:01 CompatMode (R6). -/
def Obj.compatMode : Nat := 0x101001

/-- 0x1010:02 CompatActive (R6). -/
def Obj.compatActive : Nat := 0x101002

/-- 0x1100:01 EthLaneRate (R31). -/
def Obj.ethLaneRate : Nat := 0x110001

/-- 0x1000:05 IdentityPrefix (R40). -/
def Obj.identityPrefix : Nat := 0x100005

/-- 0x1000:06 DeviceIdentity (R40). -/
def Obj.deviceIdentity : Nat := 0x100006

/-- 0x1000:07 BootCount (R41). -/
def Obj.bootCount : Nat := 0x100007

/-- 0x1100:02 DtpUdpPort (R50). -/
def Obj.dtpUdpPort : Nat := 0x110002

/-- 0x1100:03 KnockUdpPort (R65). -/
def Obj.knockUdpPort : Nat := 0x110003

/-- 0x1100:04 KnockMcastAddr (R65). -/
def Obj.knockMcastAddr : Nat := 0x110004

/-- 0x1100:10 CanNominalRate (R51). -/
def Obj.canNominalRate : Nat := 0x110010

/-- 0x1100:11 CanDataRate (R51). -/
def Obj.canDataRate : Nat := 0x110011

/-- 0x1100:20 SessionIdle (R55). -/
def Obj.sessionIdle : Nat := 0x110020

/-- 0x1120:01 OperatorKey (R58). -/
def Obj.operatorKey : Nat := 0x112001

/-- 0x1120:02 IntegratorKey (R58). -/
def Obj.integratorKey : Nat := 0x112002

/-- 0x1120:03 FactoryKey (R58). -/
def Obj.factoryKey : Nat := 0x112003

/-- 0x1130:01 KnockGroup (R65). -/
def Obj.knockGroup : Nat := 0x113001

/-- 0x1130:02 KnockKey (R65). -/
def Obj.knockKey : Nat := 0x113002

/-- 0x1130:03 LastKnockReport (R68). -/
def Obj.lastKnockReport : Nat := 0x113003

/-- 0x1130:04 KnockMalformedCount (R66). -/
def Obj.knockMalformedCount : Nat := 0x113004

/-- 0x1200:01 Command (R60). -/
def Obj.command : Nat := 0x120001

/-- 0x1200:02 State (R59). -/
def Obj.state : Nat := 0x120002

/-- 0x1200:03 ArmReady (R60). -/
def Obj.armReady : Nat := 0x120003

/-- 0x1200:10 FirmwareImage (R71). -/
def Obj.firmwareImage : Nat := 0x120010

/-- 0x2000:01 ArrayOffsetX (R72). -/
def Obj.arrayOffsetX : Nat := 0x200001

/-- 0x2000:02 ArrayOffsetY (R72). -/
def Obj.arrayOffsetY : Nat := 0x200002

/-- 0x2000:03 HistEccCorrected (R95). -/
def Obj.histEccCorrected : Nat := 0x200003

/-- 0x2000:04 DeferredHandoverCount (R100). -/
def Obj.deferredHandoverCount : Nat := 0x200004

end Sys2Proof.Machine
end

