-- ==== Sys2Proof/Machine/Dict.lean ====
section
/-!
DEFINITION. The object dictionary as one table: each object's type, access, level, default, persistence, whether it may be
staged, the values its chapter permits, and its reserved bits (R43). The defaults are those of the chapters' tables; a factory
value is a constant of Config; an empty default stands for an object whose value is computed when it is read.
-/

namespace Sys2Proof.Machine

/-- A DOMAIN of 16-bit numbers. -/
def words2 (xs : List Nat) : Bytes := xs.flatMap (leBytes 2)

/-- A DOMAIN of 32-bit numbers. -/
def words4 (xs : List Nat) : Bytes := xs.flatMap (leBytes 4)

/-- WcConfig as Table SENSE-7 gives it: WC0 to WC2 fixed and enabled, WC3 to WC7 without a source. -/
def wcDefault : Bytes :=
  [4, 1, 0, 3, 0, 0, 0x42, 0x0F, 3, 1, 0, 3, 0, 0, 0xFF, 0x0F, 5, 1, 0, 2, 0, 0, 0xFF, 0x0F] ++
  (List.replicate 5 ([0xFF, 0, 0, 1, 0, 0, 0xFF, 0x0F] : Bytes)).flatten

/-- The objects at 0x1000 (R2, R40, R41). -/
def Dict.rows1000 : List ObjDef :=
  [⟨Obj.vendorName, (.string 0 255), .const, 0, textBytes "Kilca Microsystems", false, false, .any, 0⟩,
   ⟨Obj.partNumber, .u16, .const, 0, [], false, false, .any, 0⟩,
   ⟨Obj.variantCode, .u8, .const, 0, [], false, false, .any, 0⟩,
   ⟨Obj.stepping, .u8, .const, 0, [1], false, false, .any, 0⟩,
   ⟨Obj.identityPrefix, .u16, .rws [.idle], 2, leBytes 2 1600, true, false, .any, 0xf000⟩,
   ⟨Obj.deviceIdentity, .u16, .ro, 0, leBytes 2 0, false, false, .any, 0⟩,
   ⟨Obj.bootCount, .u32, .ro, 0, leBytes 4 0, true, false, .any, 0⟩]

/-- The objects at 0x1020 (R2). -/
def Dict.rows1020 : List ObjDef :=
  [⟨Obj.regionsPresent, .u16, .const, 0, [], false, false, .any, 0⟩,
   ⟨Obj.eth1Present, .bool, .const, 0, [], false, false, .any, 0⟩,
   ⟨Obj.camAPresent, .bool, .const, 0, [], false, false, .any, 0⟩,
   ⟨Obj.camBPresent, .bool, .const, 0, [], false, false, .any, 0⟩,
   ⟨Obj.camPipelinePresent, .bool, .const, 0, [], false, false, .any, 0⟩,
   ⟨Obj.recorderPresent, .bool, .const, 0, [], false, false, .any, 0⟩]

/-- The objects at 0x2100 (R81). -/
def Dict.rows2100 : List ObjDef :=
  [⟨Obj.louvreDepthMode, .u8, .rws [.idle], 1, [0x02], true, true, .codes [1, 2], 0⟩,
   ⟨Obj.louvreDepthFixed, .u8, .rws [.idle], 1, [0x02], true, true, .span 1 9, 0⟩,
   ⟨Obj.louvreDepthMin, .u8, .rws [.idle], 1, [0x01], true, true, .span 1 9, 0⟩,
   ⟨Obj.louvreDepthMax, .u8, .rws [.idle], 1, [0x06], true, true, .span 1 9, 0⟩,
   ⟨Obj.louvreWindow, .u8, .rws [.idle], 1, [0x0A], true, true, .span 4 32, 0⟩,
   ⟨Obj.adaptRateHigh, .u32, .rws [.idle], 1, leBytes 4 8000000, true, true, .span 1000 500000000, 0⟩,
   ⟨Obj.adaptRateLow, .u32, .rws [.idle], 1, leBytes 4 500000, true, true, .span 100 499999999, 0⟩,
   ⟨Obj.adaptHoldColumns, .u8, .rws [.idle], 1, [0x08], true, true, .span 1 255, 0⟩,
   ⟨Obj.shutterOpen, .u16, .rws [.idle], 1, leBytes 2 0, true, true, .span 0 8191, 0⟩,
   ⟨Obj.shutterClose, .u16, .rws [.idle], 1, leBytes 2 0, true, true, .span 0 8192, 0⟩,
   ⟨Obj.louvreSatFraction, .u8, .rws [.idle], 1, [0x32], true, true, .span 1 100, 0⟩,
   ⟨Obj.holdOffB0, .u8, .rws [.idle], 2, [0x32], true, true, .span 5 125, 0⟩,
   ⟨Obj.holdOffB1, .u8, .rws [.idle], 2, [0x19], true, true, .span 5 125, 0⟩,
   ⟨Obj.holdOffB2, .u8, .rws [.idle], 2, [0x0F], true, true, .span 5 125, 0⟩,
   ⟨Obj.holdOffB3, .u8, .rws [.idle], 2, [0x0A], true, true, .span 5 125, 0⟩,
   ⟨Obj.holdOffB4, .u8, .rws [.idle], 2, [0x0A], true, true, .span 5 125, 0⟩]

/-- The objects at 0x3000 + n (R107). -/
def Dict.chanRows (n : Nat) : List ObjDef :=
  [⟨Obj.chHighestSubindex n, .u8, .const, 0, [0x1C], false, false, .any, 0⟩,
   ⟨Obj.chChannelStatus n, .u32, .ro, 0, leBytes 4 0, false, false, .any, 0⟩,
   ⟨Obj.chServedBy n, .u16, .ro, 0, leBytes 2 0, false, false, .any, 0⟩,
   ⟨Obj.chLouvreDepthMode n, .u8, .rws [.idle], 1, [0x00], true, true, .span 0 2, 0⟩,
   ⟨Obj.chLouvreDepthFixed n, .u8, .rws [.idle], 1, [0x02], true, true, .span 1 9, 0⟩,
   ⟨Obj.chLouvreWindow n, .u8, .rws [.idle], 1, [0x00], true, true, .codes (0 :: rangeFrom 4 29), 0⟩,
   ⟨Obj.chShutterOverride n, .bool, .rws [.idle], 1, [0x00], true, true, .any, 0⟩,
   ⟨Obj.chShutterOpen n, .u16, .rws [.idle], 1, leBytes 2 0, true, true, .span 0 8191, 0⟩,
   ⟨Obj.chShutterClose n, .u16, .rws [.idle], 1, leBytes 2 0, true, true, .span 0 8192, 0⟩,
   ⟨Obj.chHoldOff n, .u8, .rws [.idle], 1, [0x00], true, true, .codes (0 :: rangeFrom 5 121), 0⟩,
   ⟨Obj.chMonitorRate n, .u32, .ro, 0, leBytes 4 0, false, false, .any, 0⟩,
   ⟨Obj.chBlindTimeLast n, .u32, .ro, 0, leBytes 4 0, false, false, .any, 0⟩,
   ⟨Obj.chConversionsLast n, .u32, .ro, 0, leBytes 4 0, false, false, .any, 0⟩,
   ⟨Obj.chBlindEdgeCount n, .u32, .ro, 0, leBytes 4 0, false, false, .any, 0⟩,
   ⟨Obj.chLouvreSatCount n, .u32, .ro, 0, leBytes 4 0, false, false, .any, 0⟩,
   ⟨Obj.chLineOverrunCount n, .u32, .ro, 0, leBytes 4 0, false, false, .any, 0⟩] ++
  [⟨Obj.chTapTable n, (.domain 128 128), .ro, 0, [], true, false, .any, 0⟩,
   ⟨Obj.chLineLength n, .u32, .ro, 0, [], true, false, .any, 0⟩,
   ⟨Obj.chTapTableTime n, .time80, .ro, 0, [], true, false, .any, 0⟩,
   ⟨Obj.chTapTableTemp n, .i16, .ro, 0, [], true, false, .any, 0⟩,
   ⟨Obj.chCalFailCount n, .u8, .ro, 0, [0x00], true, false, .any, 0⟩,
   ⟨Obj.chZeroOffset n, .i32, .rws [.idle], 2, leBytes 4 0, true, true, .span (-10000000) 10000000, 0⟩,
   ⟨Obj.chSubstOffset n, (.domain 64 64), .rws [.idle], 2, List.replicate 64 0, true, false, .each 4 true (-10000000) 10000000, 0⟩,
   ⟨Obj.chReplaceRequest n, .bool, .rws [.idle, .armed, .scan, .hold], 2, [0x00], false, false, .span 0 1, 0⟩,
   ⟨Obj.chRestoreRequest n, .bool, .rws [.idle], 2, [0x00], false, false, .span 0 1, 0⟩,
   ⟨Obj.chFaultTime n, .time80, .ro, 0, List.replicate 10 0, true, false, .any, 0⟩,
   ⟨Obj.chHoldOffNow n, .u8, .ro, 0, [0x00], false, false, .any, 0⟩,
   ⟨Obj.chLouvreWindowNow n, .u8, .ro, 0, [0x00], false, false, .any, 0⟩,
   ⟨Obj.chShutterNow n, .u32, .ro, 0, leBytes 4 0, false, false, .any, 0⟩]

/-- The objects at 0x2200 (R141). -/
def Dict.rows2200 : List ObjDef :=
  [⟨Obj.shotSeed, .u32, .rws [.idle], 2, leBytes 4 Config.shotSeed.toNat, true, true, .any, 0⟩,
   ⟨Obj.startSource, .u8, .rws [.idle], 2, [0x01], true, true, .span 0 2, 0⟩,
   ⟨Obj.startWindowMin, .u8, .rws [.idle], 2, [0x05], true, true, .span 1 254, 0⟩,
   ⟨Obj.startWindowMax, .u8, .rws [.idle], 2, [0xC8], true, true, .span 2 255, 0⟩,
   ⟨Obj.startNominal, (.domain 32 32), .rws [.idle], 2, words2 (List.replicate 16 240), true, true, .any, 0⟩,
   ⟨Obj.coarseBinWidth, .u8, .rws [.idle], 1, [0x01], true, true, .span 0 3, 0⟩,
   ⟨Obj.integrationColumns, .u8, .rws [.idle], 1, [0x01], true, true, .span 1 16, 0⟩,
   ⟨Obj.zoomCount, .u8, .rws [.idle], 1, [0x04], true, true, .span 0 4, 0⟩,
   ⟨Obj.zoomBinWidth, .u8, .rws [.idle], 1, [0x01], true, true, .span 0 2, 0⟩,
   ⟨Obj.zoomSplit, .u8, .rws [.idle], 1, [0x04], true, true, .span 1 15, 0⟩,
   ⟨Obj.kernelCoarse, (.domain 15 15), .rws [.idle], 1, [0, 0, 0, 0, 0, 0, 1, 2, 1, 0, 0, 0, 0, 0, 0], true, true, .any, 0⟩,
   ⟨Obj.kernelZoom, (.domain 15 15), .rws [.idle], 1, [1, 2, 3, 4, 5, 6, 7, 8, 7, 6, 5, 4, 3, 2, 1], true, true, .any, 0⟩,
   ⟨Obj.bgBins, .u8, .rws [.idle], 1, [0x80], true, true, .span 16 255, 0⟩,
   ⟨Obj.detectSigma, .u8, .rws [.idle], 1, [0x32], true, true, .span 10 200, 0⟩,
   ⟨Obj.minRate, .u16, .rws [.idle], 1, leBytes 2 66, true, true, .any, 0⟩,
   ⟨Obj.returnMode, .u8, .rws [.idle], 1, [0x03], true, true, .span 0 4, 0⟩] ++
  [⟨Obj.returnSlots, .u8, .rws [.idle], 1, [0x04], true, true, .span 1 4, 0⟩,
   ⟨Obj.columnSummary, .bool, .rws [.idle], 1, [0x00], true, true, .any, 0⟩,
   ⟨Obj.liveMinFraction, .u8, .rws [.idle], 1, [0x19], true, true, .span 1 100, 0⟩,
   ⟨Obj.strayStartCount, .u32, .ro, 0, leBytes 4 0, false, false, .any, 0⟩,
   ⟨Obj.missingStartCount, .u32, .ro, 0, leBytes 4 0, false, false, .any, 0⟩,
   ⟨Obj.earlyCount, .u32, .ro, 0, leBytes 4 0, false, false, .any, 0⟩,
   ⟨Obj.saturatedBinCount, .u32, .ro, 0, leBytes 4 0, false, false, .any, 0⟩,
   ⟨Obj.zoomDropCount, .u32, .ro, 0, leBytes 4 0, false, false, .any, 0⟩]

/-- The objects at 0x2300 (R141). -/
def Dict.rows2300 : List ObjDef :=
  [⟨Obj.softWidth, .u8, .rws [.idle], 1, [0x0F], true, true, .span 1 63, 0⟩,
   ⟨Obj.softStrength, .u16, .rws [.idle], 1, leBytes 2 256, true, true, .span 1 4095, 0⟩,
   ⟨Obj.veilEnd, .u32, .rws [.idle], 1, leBytes 4 15000, true, true, .span 0 100000, 0⟩,
   ⟨Obj.veilLevel, .u16, .rws [.idle], 1, leBytes 2 131, true, true, .any, 0⟩,
   ⟨Obj.veilSkip, .bool, .rws [.idle], 1, [0x01], true, true, .any, 0⟩,
   ⟨Obj.softSkip, .bool, .rws [.idle], 1, [0x00], true, true, .any, 0⟩,
   ⟨Obj.mantisMutePeriod, .u8, .rws [.idle], 1, [0x10], true, true, .codes (0 :: rangeFrom 4 252), 0⟩,
   ⟨Obj.mantisMinHits, .u8, .rws [.idle], 1, [0x06], true, true, .span 3 64, 0⟩,
   ⟨Obj.mantisTol, .u8, .rws [.idle], 1, [0x14], true, true, .span 2 100, 0⟩,
   ⟨Obj.mantisRatio, .u8, .rws [.idle], 1, [0x80], true, true, .span 1 255, 0⟩,
   ⟨Obj.mantisWindow, .u8, .rws [.idle], 1, [0x10], true, true, .span 1 64, 0⟩,
   ⟨Obj.mantisPeriodMin, .u32, .rws [.idle], 1, leBytes 4 1000, true, true, .span 200 999999, 0⟩,
   ⟨Obj.mantisPeriodMax, .u32, .rws [.idle], 1, leBytes 4 1000000, true, true, .span 201 1000000, 0⟩,
   ⟨Obj.mantisTrains, (.domain 1024 1024), .ro, 0, List.replicate 1024 0, false, false, .any, 0⟩,
   ⟨Obj.foreignTrainCount, .u32, .ro, 0, leBytes 4 0, false, false, .any, 0⟩]

/-- The objects at 0x2B00 (R169). -/
def Dict.rows2B00 : List ObjDef :=
  [⟨Obj.chargeMode, .u8, .rws [.idle], 2, [0x01], true, true, .span 0 1, 0⟩,
   ⟨Obj.chargeFixed, .u16, .rws [.idle], 2, leBytes 2 2400, true, true, .span 800 4800, 0⟩,
   ⟨Obj.chargeMin, .u16, .rws [.idle], 2, leBytes 2 1200, true, true, .span 800 4800, 0⟩,
   ⟨Obj.chargeMax, .u16, .rws [.idle], 2, leBytes 2 4000, true, true, .span 800 4800, 0⟩,
   ⟨Obj.chargeStart, .u16, .rws [.idle], 2, leBytes 2 2400, true, true, .span 800 4800, 0⟩,
   ⟨Obj.headroomMargin, .u16, .rws [.idle], 2, leBytes 2 1500, true, true, .span 0 10000, 0⟩,
   ⟨Obj.headroomLead, .u8, .rws [.idle], 2, [0x02], true, true, .span 0 8, 0⟩,
   ⟨Obj.chargeLowerHold, .u16, .rws [.idle], 2, leBytes 2 64, true, true, .span 1 4096, 0⟩,
   ⟨Obj.chargeNeedAge, .u16, .rws [.idle], 2, leBytes 2 256, true, true, .span 16 65535, 0⟩,
   ⟨Obj.chargeFsw, .u16, .rws [.idle], 2, leBytes 2 1000, true, true, .span 400 2000, 0⟩,
   ⟨Obj.slopeComp, .u16, .rws [.idle], 2, leBytes 2 60, true, true, .span 0 400, 0⟩,
   ⟨Obj.csLimit, .u8, .rws [.idle], 2, [0xDC], true, true, .span 100 250, 0⟩,
   ⟨Obj.chargeOvp, .u16, .rws [.idle], 2, leBytes 2 5000, true, true, .span 850 5200, 0⟩,
   ⟨Obj.chargeDivider, .u16, .rws [.idle], 2, leBytes 2 3200, true, true, .span 100 10000, 0⟩,
   ⟨Obj.headroomDivider, .u16, .rws [.idle], 2, leBytes 2 1600, true, true, .span 100 10000, 0⟩,
   ⟨Obj.fireWidthCompB0, .i8, .rws [.idle], 2, [0xFE], true, true, .span (-8) 8, 0⟩] ++
  [⟨Obj.fireWidthCompB1, .i8, .rws [.idle], 2, [0xFF], true, true, .span (-8) 8, 0⟩,
   ⟨Obj.fireWidthCompB2, .i8, .rws [.idle], 2, [0x00], true, true, .span (-8) 8, 0⟩,
   ⟨Obj.fireWidthCompB3, .i8, .rws [.idle], 2, [0x01], true, true, .span (-8) 8, 0⟩,
   ⟨Obj.fireWidthCompB4, .i8, .rws [.idle], 2, [0x02], true, true, .span (-8) 8, 0⟩,
   ⟨Obj.derateStart, .i16, .rws [.idle], 2, leBytes 2 7000, true, true, .span (-4000) 9500, 0⟩,
   ⟨Obj.derateEnd, .i16, .rws [.idle], 2, leBytes 2 9000, true, true, .span (-3900) 9500, 0⟩,
   ⟨Obj.derateMinScale, .u8, .rws [.idle], 2, [0x80], true, true, .span 64 255, 0⟩,
   ⟨Obj.throttleWidthScale, .u8, .rws [.idle], 2, [0xC0], true, true, .span 64 255, 0⟩,
   ⟨Obj.chargeSetpoint, .u16, .ro, 0, leBytes 2 0, false, false, .any, 0⟩,
   ⟨Obj.chargeMeasured, .u16, .ro, 0, leBytes 2 0, false, false, .any, 0⟩,
   ⟨Obj.bankHeadroom, (.domain 32 32), .ro, 0, List.replicate 32 0xFF, false, false, .any, 0⟩,
   ⟨Obj.boardTemp, .i16, .ro, 0, leBytes 2 0, false, false, .any, 0⟩,
   ⟨Obj.derateScale, .u16, .ro, 0, leBytes 2 256, false, false, .any, 0⟩,
   ⟨Obj.csLimitCount, .u32, .ro, 0, leBytes 4 0, false, false, .any, 0⟩,
   ⟨Obj.vchgDischarged, .bool, .ro, 0, [0x01], false, false, .any, 0⟩]

/-- The objects at 0x2C00 (R169). -/
def Dict.rows2C00 : List ObjDef :=
  [⟨Obj.fireflyProgram0, (.domain 0 264), .rws [.idle], 1, [], true, true, .any, 0⟩,
   ⟨Obj.fireflyProgram1, (.domain 0 264), .rws [.idle], 1, [], true, true, .any, 0⟩,
   ⟨Obj.fireflyProgram2, (.domain 0 264), .rws [.idle], 1, [], true, true, .any, 0⟩,
   ⟨Obj.fireflyProgram3, (.domain 0 264), .rws [.idle], 1, [], true, true, .any, 0⟩,
   ⟨Obj.powerTableA, (.domain 4096 4096), .rws [.idle], 1, List.replicate 4096 0x0A, true, true, .any, 0⟩,
   ⟨Obj.powerTableB, (.domain 4096 4096), .rws [.idle], 1, List.replicate 4096 0x0A, true, true, .any, 0⟩,
   ⟨Obj.fireMinGap, .u8, .rws [.idle], 2, [0x28], true, true, .span 20 200, 0⟩,
   ⟨Obj.cellOrigin, .i32, .rws [.idle], 2, leBytes 4 0, true, true, .any, 0⟩,
   ⟨Obj.cellSpan, .u32, .rws [.idle], 2, leBytes 4 65536, true, true, .span 256 2147483648, 0⟩,
   ⟨Obj.doseGain, (.domain 32 32), .rws [.idle], 2, words2 (List.replicate 16 4096), true, true, .each 2 false 1 65535, 0⟩,
   ⟨Obj.govWindow0, .u32, .rws [.idle], 2, leBytes 4 1024, true, true, .span 16 16384, 0⟩,
   ⟨Obj.govWindow1, .u32, .rws [.idle], 2, leBytes 4 102400, true, true, .span 1024 1048576, 0⟩,
   ⟨Obj.govWindow2, .u32, .rws [.idle], 2, leBytes 4 10240000, true, true, .span 102400 104857600, 0⟩,
   ⟨Obj.govLimits, (.domain 384 384), .rws [.idle], 2, List.replicate 384 0, true, true, .any, 0⟩,
   ⟨Obj.fireInhibitCause, .u16, .ro, 0, leBytes 2 1, false, false, .any, 0⟩,
   ⟨Obj.govInhibitCount, (.domain 64 64), .ro, 0, List.replicate 64 0, false, false, .any, 0⟩] ++
  [⟨Obj.govFill, (.domain 96 96), .ro, 0, List.replicate 96 0, false, false, .any, 0⟩,
   ⟨Obj.fireCollisionCount, .u32, .ro, 0, leBytes 4 0, false, false, .any, 0⟩,
   ⟨Obj.shotOverrunCount, .u32, .ro, 0, leBytes 4 0, false, false, .any, 0⟩,
   ⟨Obj.widthClampCount, .u32, .ro, 0, leBytes 4 0, false, false, .any, 0⟩,
   ⟨Obj.scanValidDropCount, .u32, .ro, 0, leBytes 4 0, false, false, .any, 0⟩]

/-- The objects at 0x2800 (R193). -/
def Dict.rows2800 : List ObjDef :=
  [⟨Obj.sc0Sequence, (.domain 1 16), .rws [.idle], 2, [0x00, 0x02], true, false, .any, 0⟩,
   ⟨Obj.sc1Sequence, (.domain 1 16), .rws [.idle], 2, [0x04, 0xFE, 0x05, 0xFE, 0x04, 0xFE, 0x03, 0xFE], true, false, .any, 0⟩,
   ⟨Obj.resultAlign, .u8, .rws [.idle], 1, [0x00], true, false, .span 0 1, 0⟩,
   ⟨Obj.pairMode, .u8, .rws [.idle], 2, [0x01], true, false, .any, 0xfe⟩,
   ⟨Obj.wcConfig, (.domain 64 64), .rws [.idle], 2, wcDefault, true, false, .any, 0⟩,
   ⟨Obj.wcStatus, .u16, .ro, 0, leBytes 2 0, false, false, .any, 0⟩,
   ⟨Obj.wcTripCount, (.domain 32 32), .ro, 0, List.replicate 32 0, false, false, .any, 0⟩,
   ⟨Obj.lastResults, (.domain 176 176), .ro, 0, List.replicate 176 0, false, false, .any, 0⟩,
   ⟨Obj.ovrCount, (.domain 176 176), .ro, 0, List.replicate 176 0, false, false, .any, 0⟩,
   ⟨Obj.discardCount, (.domain 16 16), .ro, 0, List.replicate 16 0, false, false, .any, 0⟩]

/-- The objects at 0x2900 (R194). -/
def Dict.rows2900 : List ObjDef :=
  [⟨Obj.chainSync, .u8, .wo, 2, [0x00], false, false, .any, 0xfc⟩]

/-- The objects at 0x2910 + n (R194). -/
def Dict.chainRows (n : Nat) : List ObjDef :=
  [⟨Obj.chainPreset n, .u8, .rws [.idle], 2, [BitVec.ofNat 8 (([0, 0, 0, 2, 1, 1] : List Nat).getD n 0)], true, false, .span 0 4, 0⟩,
   ⟨Obj.chainStages n, .u8, .rws [.idle], 2, [0x00], true, false, .span 0 5, 0⟩,
   ⟨Obj.chainShifts n, (.domain 5 5), .rws [.idle], 2, [9, 9, 9, 9, 9], true, false, .each 1 false 0 9, 0⟩,
   ⟨Obj.chainMaLength n, .u8, .rws [.idle], 2, [0x01], true, false, .span 1 64, 0⟩,
   ⟨Obj.chainMaShift n, .u8, .rws [.idle], 2, [0x00], true, false, .span 0 6, 0⟩,
   ⟨Obj.chainOutput n, .u32, .ro, 0, leBytes 4 0, false, false, .any, 0⟩,
   ⟨Obj.chainOutputRate n, .u32, .ro, 0, leBytes 4 0, false, false, .any, 0⟩,
   ⟨Obj.chainGroupDelay n, .u32, .ro, 0, leBytes 4 0, false, false, .any, 0⟩,
   ⟨Obj.chainSettlingTime n, .u32, .ro, 0, leBytes 4 0, false, false, .any, 0⟩,
   ⟨Obj.chainFillCount n, .u32, .ro, 0, leBytes 4 0, false, false, .any, 0⟩]

/-- The objects at 0x2A00 (R224). -/
def Dict.rows2A00 : List ObjDef :=
  [⟨Obj.mirrorType, .u8, .rws [.idle], 2, [0x00], true, false, .span 0 2, 0⟩,
   ⟨Obj.scanValid, .bool, .ro, 0, [0x00], false, false, .any, 0⟩,
   ⟨Obj.stallTol, .f32, .rws [.idle], 2, leBytes 4 0x447A0000, true, false, .any, 0⟩,
   ⟨Obj.stallTime, .u16, .rws [.idle], 2, leBytes 2 12000, true, false, .span 2000 16000, 0⟩,
   ⟨Obj.hingeCount, .u16, .rws [.idle], 2, leBytes 2 64, true, false, .span 1 4096, 0⟩,
   ⟨Obj.boundaryPosition, .i32, .ro, 0, leBytes 4 0, false, false, .any, 0⟩,
   ⟨Obj.transomCount, .u32, .ro, 0, leBytes 4 0, false, false, .any, 0⟩,
   ⟨Obj.columnPeriodMin, .u32, .ro, 0, leBytes 4 0, false, false, .any, 0⟩,
   ⟨Obj.missLimit, .u8, .rws [.idle], 2, [0x04], true, false, .span 1 64, 0⟩,
   ⟨Obj.coefEccCount, .u32, .ro, 0, leBytes 4 0, false, false, .any, 0⟩,
   ⟨Obj.chargeTol, .u16, .rws [.idle], 2, leBytes 2 50, true, false, .span 1 1000, 0⟩]

/-- The objects at 0x2A20 (R224). -/
def Dict.rows2A20 : List ObjDef :=
  [⟨Obj.parkPosition, .f32, .rws [.idle], 2, leBytes 4 0, true, false, .any, 0⟩,
   ⟨Obj.rasterMin, .f32, .rws [.idle], 2, leBytes 4 0xC8127C00, true, false, .any, 0⟩,
   ⟨Obj.rasterMax, .f32, .rws [.idle], 2, leBytes 4 0x48127C00, true, false, .any, 0⟩,
   ⟨Obj.rasterVelocity, .f32, .rws [.idle], 2, leBytes 4 0x4B64E1C0, true, false, .positive, 0⟩,
   ⟨Obj.rasterAccel, .f32, .rws [.idle], 2, leBytes 4 0x505F8476, true, false, .positive, 0⟩,
   ⟨Obj.rasterShape, .u8, .rws [.idle], 2, [0x00], true, false, .span 0 1, 0⟩,
   ⟨Obj.flybackVelocity, .f32, .rws [.idle], 2, leBytes 4 0x4BE4E1C0, true, false, .positive, 0⟩,
   ⟨Obj.l1Pattern, (.domain 4 16), .rws [.idle], 2, [0, 0, 0, 0], true, true, .any, 0⟩,
   ⟨Obj.l1TrackTol, .f32, .rws [.idle], 2, leBytes 4 0x42480000, true, false, .any, 0⟩,
   ⟨Obj.columnStep, .f32, .rws [.idle], 2, leBytes 4 0x43480000, true, false, .positive, 0⟩,
   ⟨Obj.columnsPerSweep, .u16, .rws [.idle], 2, leBytes 2 1500, true, false, .span 1 65535, 0⟩,
   ⟨Obj.trackTol, .f32, .rws [.idle], 2, leBytes 4 0x42480000, true, false, .any, 0⟩]

/-- The objects at 0x2A30 (R224). -/
def Dict.rows2A30 : List ObjDef :=
  [⟨Obj.facets, .u8, .rws [.idle], 2, [0x04], true, false, .span 1 32, 0⟩,
   ⟨Obj.polySpeed, .f32, .rws [.idle], 2, leBytes 4 0x41A00000, true, false, .any, 0⟩,
   ⟨Obj.encoderAux, .u8, .rws [.idle], 2, [0x06], true, false, .span 0 7, 0⟩,
   ⟨Obj.encoderCounts, .u16, .rws [.idle], 2, leBytes 2 4096, true, false, .any, 0⟩,
   ⟨Obj.indexAux, .u8, .rws [.idle], 2, [0x07], true, false, .span 0 7, 0⟩,
   ⟨Obj.facetGuard, .u16, .rws [.idle], 2, leBytes 2 4096, true, false, .any, 0⟩,
   ⟨Obj.columnsPerFacet, .u16, .rws [.idle], 2, leBytes 2 512, true, false, .span 1 65535, 0⟩,
   ⟨Obj.speedTol, .f32, .rws [.idle], 2, leBytes 4 0x3A83126F, true, false, .any, 0⟩]

/-- The objects at 0x2A40 (R224). -/
def Dict.rows2A40 : List ObjDef :=
  [⟨Obj.resAmplitude, .f32, .rws [.idle], 2, leBytes 4 0x48435000, true, false, .any, 0⟩,
   ⟨Obj.resStartFreq, .f32, .rws [.idle], 2, leBytes 4 0x447A0000, true, false, .any, 0⟩,
   ⟨Obj.resFreqMin, .f32, .rws [.idle], 2, leBytes 4 0x446D8000, true, false, .any, 0⟩,
   ⟨Obj.resFreqMax, .f32, .rws [.idle], 2, leBytes 4 0x44834000, true, false, .any, 0⟩,
   ⟨Obj.resPhaseTarget, .f32, .rws [.idle], 2, leBytes 4 0x42B40000, true, false, .any, 0⟩,
   ⟨Obj.ampTol, .f32, .rws [.idle], 2, leBytes 4 0x3BA3D70A, true, false, .any, 0⟩,
   ⟨Obj.resPhaseTol, .u32, .rws [.idle], 2, leBytes 4 200, true, false, .any, 0⟩,
   ⟨Obj.startDrive, .u16, .rws [.idle], 2, leBytes 2 4000, true, false, .any, 0⟩,
   ⟨Obj.columnsPerHalf, .u16, .rws [.idle], 2, leBytes 2 25, true, false, .span 1 4096, 0⟩]

/-- The objects at 0x2A50 (R224). -/
def Dict.rows2A50 : List ObjDef :=
  [⟨Obj.biasDivider, .u16, .rws [.idle], 2, leBytes 2 2500, true, false, .any, 0⟩,
   ⟨Obj.vbd25, (.domain 32 32), .const, 0, (List.range 16).flatMap (fun r => leBytes 2 (Config.vbd25 r).toNat), false, false, .any, 0⟩,
   ⟨Obj.bdTempCo, .u16, .const, 0, leBytes 2 Config.bdTempCo.toNat, false, false, .any, 0⟩,
   ⟨Obj.excessBias, (.domain 10 10), .rws [.idle], 2, words2 [2500, 3000, 3000, 3200, 3200], true, false, .any, 0⟩,
   ⟨Obj.biasReserve, .u16, .rws [.idle], 2, leBytes 2 300, true, false, .span 100 3000, 0⟩,
   ⟨Obj.biasTrim, (.domain 16 16), .ro, 0, List.replicate 16 0, false, false, .any, 0⟩,
   ⟨Obj.trimClamp, .u16, .ro, 0, leBytes 2 0, false, false, .any, 0⟩]

/-- The objects at 0x2A10 + n (R224). -/
def Dict.loopRows (n : Nat) : List ObjDef :=
  [⟨Obj.loopSampleDivider n, .u8, .rws [.idle], 2, [0x01], true, false, .span 1 16, 0⟩,
   ⟨Obj.loopDeadline n, .u32, .rws [.idle], 2, leBytes 4 (([2000, 2000, 8000, 64000] : List Nat).getD n 0), true, false, .span 1000 4294967295, 0⟩,
   ⟨Obj.loopLoopMode n, .u8, .ro, 0, [0x00], false, false, .any, 0⟩,
   ⟨Obj.loopKp n, .f32, .rws [.idle], 2, leBytes 4 0, true, true, .any, 0⟩,
   ⟨Obj.loopKi n, .f32, .rws [.idle], 2, leBytes 4 0, true, true, .any, 0⟩,
   ⟨Obj.loopKd n, .f32, .rws [.idle], 2, leBytes 4 0, true, true, .any, 0⟩,
   ⟨Obj.loopAlpha n, .f32, .rws [.idle], 2, leBytes 4 0x3F000000, true, true, .milli 0 990, 0⟩,
   ⟨Obj.loopIntLimit n, .f32, .rws [.idle], 2, leBytes 4 0x47000000, true, true, .positive, 0⟩,
   ⟨Obj.loopBiquad1 n, (.domain 20 20), .rws [.idle], 2, words4 [0x3F800000, 0, 0, 0, 0], true, true, .any, 0⟩,
   ⟨Obj.loopBiquad2 n, (.domain 20 20), .rws [.idle], 2, words4 [0x3F800000, 0, 0, 0, 0], true, true, .any, 0⟩,
   ⟨Obj.loopKff n, .f32, .rws [.idle], 2, leBytes 4 0, true, true, .any, 0⟩,
   ⟨Obj.loopOutMin n, .u16, .rws [.idle], 2, leBytes 2 0, true, true, .any, 0⟩,
   ⟨Obj.loopOutMax n, .u16, .rws [.idle], 2, leBytes 2 65535, true, true, .any, 0⟩,
   ⟨Obj.loopVelLimit n, .f32, .rws [.idle], 2, leBytes 4 0x4B989680, true, true, .any, 0⟩,
   ⟨Obj.loopAccLimit n, .f32, .rws [.idle], 2, leBytes 4 0x509502F9, true, true, .any, 0⟩,
   ⟨Obj.loopSensorGain n, .f32, .rws [.idle], 2, leBytes 4 0x3F800000, true, true, .any, 0⟩] ++
  [⟨Obj.loopSensorOffset n, .f32, .rws [.idle], 2, leBytes 4 0, true, true, .any, 0⟩,
   ⟨Obj.loopHingeTol n, .f32, .rws [.idle], 2, leBytes 4 0x43800000, true, true, .any, 0⟩,
   ⟨Obj.loopHingeRamp n, .u16, .rws [.idle], 2, leBytes 2 32, true, true, .span 1 1024, 0⟩,
   ⟨Obj.loopSetpointNow n, .f32, .ro, 0, leBytes 4 0, false, false, .any, 0⟩,
   ⟨Obj.loopMeasuredNow n, .f32, .ro, 0, leBytes 4 0, false, false, .any, 0⟩,
   ⟨Obj.loopOutputNow n, .u16, .ro, 0, (if n < 2 then leBytes 2 0x8000 else leBytes 2 0), false, false, .any, 0⟩,
   ⟨Obj.loopLoopStatus n, .u32, .ro, 0, leBytes 4 0, false, false, .any, 0⟩,
   ⟨Obj.loopDeadlineMissCount n, .u32, .ro, 0, leBytes 4 0, false, false, .any, 0⟩,
   ⟨Obj.loopMaxLatency n, .u32, .ro, 0, leBytes 4 0, false, false, .any, 0⟩,
   ⟨Obj.loopSatCount n, .u32, .ro, 0, leBytes 4 0, false, false, .any, 0⟩,
   ⟨Obj.loopLimitCount n, .u32, .ro, 0, leBytes 4 0, false, false, .any, 0⟩,
   ⟨Obj.loopStartKp n, .f32, .rws [.idle], 2, leBytes 4 0, true, true, .any, 0⟩,
   ⟨Obj.loopStartKi n, .f32, .rws [.idle], 2, leBytes 4 0, true, true, .any, 0⟩,
   ⟨Obj.loopStartKd n, .f32, .rws [.idle], 2, leBytes 4 0, true, true, .any, 0⟩,
   ⟨Obj.loopOutBias n, .f32, .rws [.idle], 2, (if n < 2 then leBytes 4 0x47000000 else leBytes 4 0), true, true, .any, 0⟩]

/-- The objects at 0x2400 (R248). -/
def Dict.rows2400 : List ObjDef :=
  [⟨Obj.mayflyEnable, .bool, .rws [.idle], 1, [0x00], true, true, .any, 0⟩,
   ⟨Obj.kind, .u8, .rws [.idle], 1, [0x01], true, false, .span 0 2, 0⟩,
   ⟨Obj.payloadSize, .u8, .rws [.idle], 1, [0x03], true, false, .span 0 3, 0⟩,
   ⟨Obj.preCount, .u8, .rws [.idle], 1, [0x10], true, true, .span 0 123, 0⟩,
   ⟨Obj.postCount, .u8, .rws [.idle], 1, [0x20], true, true, .span 1 124, 0⟩,
   ⟨Obj.postWindow, .u16, .rws [.idle], 1, leBytes 2 2000, true, true, .span 100 65535, 0⟩,
   ⟨Obj.causeEnable, .u16, .rws [.idle], 1, leBytes 2 0, true, true, .any, 0xe000⟩,
   ⟨Obj.watchList, (.domain 2 32), .rws [.idle], 1, [0, 0], true, true, .any, 0⟩,
   ⟨Obj.channelTrigMask, (.domain 128 128), .rws [.idle], 1, List.replicate 128 0xFF, true, true, .any, 0⟩,
   ⟨Obj.zoomTrigLevel, .u16, .rws [.idle], 1, leBytes 2 2048, true, true, .span 1 4095, 0⟩,
   ⟨Obj.timeTrigger, .time80, .rw, 1, List.replicate 10 0, false, false, .any, 0⟩,
   ⟨Obj.timeTrigPeriod, .u32, .rw, 1, leBytes 4 0, false, false, .zeroOr 10000 4000000000, 0⟩,
   ⟨Obj.hostTrigger, .u8, .wo, 1, [0x00], false, false, .any, 0⟩,
   ⟨Obj.drainMask, .u8, .rws [.idle], 1, [0x01], true, false, .any, 0xfc⟩,
   ⟨Obj.ringUsed, .u32, .ro, 0, leBytes 4 0, false, false, .any, 0⟩,
   ⟨Obj.ringCapacity, .u32, .ro, 0, leBytes 4 32768, false, false, .any, 0⟩] ++
  [⟨Obj.segmentCount, .u32, .ro, 0, leBytes 4 0, false, false, .any, 0⟩,
   ⟨Obj.missedByCause, (.domain 52 52), .ro, 0, List.replicate 52 0, false, false, .any, 0⟩,
   ⟨Obj.missedByReason, (.domain 20 20), .ro, 0, List.replicate 20 0, false, false, .any, 0⟩,
   ⟨Obj.truncActive, .bool, .ro, 0, [0x00], false, false, .any, 0⟩,
   ⟨Obj.effectivePre, .u8, .ro, 0, [0x10], false, false, .any, 0⟩,
   ⟨Obj.effectivePost, .u8, .ro, 0, [0x20], false, false, .any, 0⟩,
   ⟨Obj.ringHighWater, .u32, .ro, 0, leBytes 4 0, false, false, .any, 0⟩]

/-- The objects at 0x2500 (R261). -/
def Dict.rows2500 : List ObjDef :=
  [⟨Obj.intervalStartInput, .u8, .rws [.idle], 1, [0xFF], true, false, .codes (0xFF :: List.range 8), 0⟩,
   ⟨Obj.intervalStopInput, .u8, .rws [.idle], 1, [0xFF], true, false, .codes (0xFF :: List.range 8), 0⟩,
   ⟨Obj.intervalStartSlope, .u8, .rws [.idle], 1, [0x01], true, false, .span 1 2, 0⟩,
   ⟨Obj.intervalStopSlope, .u8, .rws [.idle], 1, [0x01], true, false, .span 1 2, 0⟩,
   ⟨Obj.intervalWindow, .u32, .rws [.idle], 1, leBytes 4 1000, true, false, .span 2 20000000, 0⟩,
   ⟨Obj.lastInterval, (.domain 16 16), .ro, 0, List.replicate 16 0, false, false, .any, 0⟩,
   ⟨Obj.intervalLog, (.domain 1024 1024), .ro, 0, List.replicate 1024 0, false, false, .any, 0⟩,
   ⟨Obj.intervalCount, .u32, .ro, 0, leBytes 4 0, false, false, .any, 0⟩,
   ⟨Obj.noStopCount, .u32, .ro, 0, leBytes 4 0, false, false, .any, 0⟩,
   ⟨Obj.unpairedStopCount, .u32, .ro, 0, leBytes 4 0, false, false, .any, 0⟩,
   ⟨Obj.calrefMode, .u8, .rws [.idle], 2, [0x01], true, false, .span 0 2, 0⟩,
   ⟨Obj.calrefTolPpb, .u32, .rws [.idle], 2, leBytes 4 100000, true, false, .span 1000 1000000, 0⟩,
   ⟨Obj.calrefPresent, .bool, .ro, 0, [0x00], false, false, .any, 0⟩]

/-- The objects at 0x2510 + n (R261). -/
def Dict.auxRows (n : Nat) : List ObjDef :=
  [⟨Obj.auxRole n, .u8, (if n = 8 then .const else .rws [.idle]), 2, (if n = 8 then [6] else [0]), true, false, .codes [0, 2, 5, 6, 7], 0⟩,
   ⟨Obj.auxRoleNow n, .u8, .ro, 0, [0x00], false, false, .any, 0⟩,
   ⟨Obj.auxThreshold n, .u16, .rws [.idle], 2, leBytes 2 0, true, false, .span 0 1023, 0⟩,
   ⟨Obj.auxHysteresis n, .u8, .rws [.idle], 2, [0x14], true, false, .span 0 50, 0⟩,
   ⟨Obj.auxSlope n, .u8, .rws [.idle], 2, [0x01], true, false, .span 0 3, 0⟩,
   ⟨Obj.auxDelay n, .u16, .const, 0, leBytes 2 (Config.auxDelay n).toNat, false, false, .any, 0⟩,
   ⟨Obj.auxEdgeCount n, .u32, .ro, 0, leBytes 4 0, false, false, .any, 0⟩,
   ⟨Obj.auxBlindEdgeCount n, .u32, .ro, 0, leBytes 4 0, false, false, .any, 0⟩,
   ⟨Obj.auxLastStamp n, .time80, .ro, 0, List.replicate 10 0, false, false, .any, 0⟩,
   ⟨Obj.auxFreqGate n, .u32, .rws [.idle], 2, leBytes 4 1000000, true, false, .span 1000 10000000, 0⟩,
   ⟨Obj.auxFreqNominal n, .u64, (if n = 8 then .ro else .rws [.idle]), 2, leBytes 8 0x9184e72a000, true, false, .any, 0⟩,
   ⟨Obj.auxFreqResult n, (.domain 40 40), .ro, 0, List.replicate 40 0, false, false, .any, 0⟩,
   ⟨Obj.auxFreqResultCount n, .u32, .ro, 0, leBytes 4 0, false, false, .any, 0⟩]

/-- The objects at 0x2600 (R284). -/
def Dict.rows2600 : List ObjDef :=
  [⟨Obj.deltaTCal, .u16, .rws [.idle], 2, leBytes 2 300, true, false, .span 50 1000, 0⟩,
   ⟨Obj.calMaxInterval, (.domain 20 20), .rws [.idle], 2, words4 [600, 3600, 1800, 900, 600], true, false, .each 4 false 60 86400, 0⟩,
   ⟨Obj.calConversions, .u32, .rws [.idle], 2, leBytes 4 65536, true, false, .codes [16384, 32768, 65536, 131072, 262144, 524288, 1048576], 0⟩,
   ⟨Obj.tapAgreeTol, .u16, .rws [.idle], 2, leBytes 2 64, true, false, .span 16 256, 0⟩,
   ⟨Obj.scaleAgreeTol, .u16, .rws [.idle], 2, leBytes 2 100, true, false, .span 10 1000, 0⟩,
   ⟨Obj.calDeferMax, .u16, .rws [.idle], 2, leBytes 2 2000, true, false, .span 100 10000, 0⟩,
   ⟨Obj.calInputInterval, .u32, .rws [.idle], 2, leBytes 4 1800, true, false, .span 60 86400, 0⟩,
   ⟨Obj.scaleGates, .u8, .rws [.idle], 2, [0x08], true, false, .span 1 64, 0⟩,
   ⟨Obj.calRequest, .u16, .wo, 1, leBytes 2 0, false, false, .any, 0⟩,
   ⟨Obj.regionDue, .u16, .ro, 0, leBytes 2 0, false, false, .any, 0⟩,
   ⟨Obj.regionRunning, .u16, .ro, 0, leBytes 2 0, false, false, .any, 0⟩,
   ⟨Obj.inputCalDue, .u16, .ro, 0, leBytes 2 0, false, false, .any, 0⟩,
   ⟨Obj.regionCalTime, (.domain 160 160), .ro, 0, List.replicate 160 0, false, false, .any, 0⟩,
   ⟨Obj.regionCalTemp, (.domain 32 32), .ro, 0, List.replicate 32 0, false, false, .any, 0⟩,
   ⟨Obj.scaleErrorPpb, .i32, .ro, 0, leBytes 4 0, false, false, .any, 0⟩,
   ⟨Obj.scaleSource, .u8, .ro, 0, [0x00], false, false, .any, 0⟩] ++
  [⟨Obj.activeBank, .u8, .ro, 0, [0x00], false, false, .any, 0⟩,
   ⟨Obj.activeGeneration, .u32, .ro, 0, leBytes 4 0, false, false, .any, 0⟩,
   ⟨Obj.bankWriteCount, .u32, .ro, 0, leBytes 4 0, false, false, .any, 0⟩,
   ⟨Obj.bankWriteFailCount, .u32, .ro, 0, leBytes 4 0, false, false, .any, 0⟩,
   ⟨Obj.calPassCount, .u32, .ro, 0, leBytes 4 0, false, false, .any, 0⟩,
   ⟨Obj.calFailTotal, .u32, .ro, 0, leBytes 4 0, false, false, .any, 0⟩,
   ⟨Obj.calDeviceUid, .u64, .const, 0, leBytes 8 Config.calDeviceUid.toNat, false, false, .any, 0⟩,
   ⟨Obj.calBankExport, (.domain 179936 179936), .ro, 0, [], false, false, .any, 0⟩,
   ⟨Obj.calBankImport, (.domain 179936 179936), .wos [.idle], 2, [], false, false, .any, 0⟩,
   ⟨Obj.zeroRefRange, (.domain 4096 4096), .rw, 2, List.replicate 4096 0, false, false, .any, 0⟩,
   ⟨Obj.zeroColumns, .u16, .rw, 2, leBytes 2 4096, false, false, .span 256 65535, 0⟩,
   ⟨Obj.zeroRun, .u8, .wo, 2, [0x00], false, false, .span 0 2, 0⟩,
   ⟨Obj.zeroStatus, .u8, .ro, 0, [0x00], false, false, .any, 0⟩,
   ⟨Obj.zeroResult, (.domain 16384 16384), .ro, 0, List.replicate 16384 0, false, false, .any, 0⟩,
   ⟨Obj.zeroApply, .u8, .wo, 2, [0x00], false, false, .any, 0⟩]

/-- The objects at 0x2700 (R302). -/
def Dict.rows2700 : List ObjDef :=
  [⟨Obj.regionTemp, (.domain 32 32), .ro, 0, List.replicate 32 0, false, false, .any, 0⟩,
   ⟨Obj.regionBand, (.domain 16 16), .ro, 0, List.replicate 16 0, false, false, .any, 0⟩,
   ⟨Obj.logicTemp, (.domain 4 4), .ro, 0, List.replicate 4 0, false, false, .any, 0⟩,
   ⟨Obj.packageTemp, (.domain 4 4), .ro, 0, List.replicate 4 0, false, false, .any, 0⟩,
   ⟨Obj.thermTemp, (.domain 4 4), .ro, 0, List.replicate 4 0, false, false, .any, 0⟩,
   ⟨Obj.i2cTemp, .i16, .ro, 0, leBytes 2 0, false, false, .any, 0⟩,
   ⟨Obj.sensorFailed, .u32, .ro, 0, leBytes 4 0, false, false, .any, 0⟩,
   ⟨Obj.staleLimit, .u16, .rws [.idle], 2, leBytes 2 250, true, true, .span 20 2000, 0⟩,
   ⟨Obj.housekeepPeriod, .u16, .rws [.idle], 2, leBytes 2 20, true, true, .span 5 100, 0⟩,
   ⟨Obj.regionRateLimit, .u16, .rws [.idle], 2, leBytes 2 150, true, true, .span 10 1000, 0⟩,
   ⟨Obj.boardRateLimit, .u16, .rws [.idle], 2, leBytes 2 50, true, true, .span 5 1000, 0⟩,
   ⟨Obj.rateSpan, .u16, .rws [.idle], 2, leBytes 2 200, true, true, .span 50 2000, 0⟩,
   ⟨Obj.throttleTemp, .i16, .rws [.idle], 2, leBytes 2 11000, true, true, .span 8000 12400, 0⟩,
   ⟨Obj.throttleHyst, .u16, .rws [.idle], 2, leBytes 2 500, true, true, .span 100 2000, 0⟩,
   ⟨Obj.throttleDwell, .u16, .rws [.idle], 2, leBytes 2 500, true, true, .span 50 10000, 0⟩,
   ⟨Obj.throttleRelease, .u16, .rws [.idle], 2, leBytes 2 10000, true, true, .span 500 60000, 0⟩] ++
  [⟨Obj.tjSafe, .i16, .rws [.idle], 2, leBytes 2 12500, true, true, .span 11000 12500, 0⟩,
   ⟨Obj.boardThrottleTemp, .i16, .rws [.idle], 2, leBytes 2 9200, true, true, .span 6000 9500, 0⟩,
   ⟨Obj.thermTable, (.domain 128 128), .rws [.idle], 2, List.replicate 128 0, true, true, .any, 0⟩,
   ⟨Obj.i2cConfig, (.domain 8 8), .rws [.idle], 2, List.replicate 8 0, true, true, .any, 0⟩,
   ⟨Obj.tempDemand, .u32, .wo, 1, leBytes 4 0, false, false, .any, 0xff800000⟩,
   ⟨Obj.throttleStep, (.domain 17 17), .ro, 0, List.replicate 17 0, false, false, .any, 0⟩,
   ⟨Obj.throttleNow, .u8, .ro, 0, [0x00], false, false, .any, 0⟩,
   ⟨Obj.mramWriteAllowed, .bool, .ro, 0, [0x00], false, false, .any, 0⟩,
   ⟨Obj.regionRate, (.domain 32 32), .ro, 0, List.replicate 32 0, false, false, .any, 0⟩,
   ⟨Obj.boardRate, .i16, .ro, 0, leBytes 2 0, false, false, .any, 0⟩,
   ⟨Obj.sensorFailCount, .u32, .ro, 0, leBytes 4 0, false, false, .any, 0⟩,
   ⟨Obj.refreshWorst, .u32, .ro, 0, leBytes 4 0, false, false, .any, 0⟩]

/-- The objects at 0x1300 (R326). -/
def Dict.rows1300 : List ObjDef :=
  [⟨Obj.nativeTime, .time80, .ro, 0, List.replicate 10 0, false, false, .any, 0⟩,
   ⟨Obj.increment, .u64, .ro, 0, leBytes 8 0x400000000, false, false, .any, 0⟩,
   ⟨Obj.timeSource, .u8, .rws [.idle], 2, [0x01], true, false, .span 0 3, 0⟩,
   ⟨Obj.timeSet, .time80, .wo, 2, List.replicate 10 0, false, false, .any, 0⟩,
   ⟨Obj.timeAdjust, .i64, .wo, 2, leBytes 8 0, false, false, .any, 0⟩,
   ⟨Obj.incrementSet, .u64, .wo, 2, leBytes 8 0, false, false, .any, 0⟩,
   ⟨Obj.servoState, .u8, .ro, 0, [0x00], false, false, .any, 0⟩,
   ⟨Obj.offsetNow, .i32, .ro, 0, leBytes 4 0, false, false, .any, 0⟩,
   ⟨Obj.meanPathDelay, .u32, .ro, 0, leBytes 4 0, false, false, .any, 0⟩,
   ⟨Obj.stepThreshold, .u32, .rws [.idle], 2, leBytes 4 10000, true, false, .span 100 1000000000, 0⟩,
   ⟨Obj.stepPolicy, .u8, .rws [.idle], 2, [0x01], true, false, .span 0 1, 0⟩,
   ⟨Obj.lockThreshold, .u32, .rws [.idle], 2, leBytes 4 100, true, false, .span 10 100000, 0⟩,
   ⟨Obj.servoKp, .f32, .rws [.idle], 2, leBytes 4 0x3F000000, true, false, .milli 0 100000, 0⟩,
   ⟨Obj.servoKi, .f32, .rws [.idle], 2, leBytes 4 0x3CA3D70A, true, false, .milli 0 10000, 0⟩,
   ⟨Obj.maxSlew, .u32, .rws [.idle], 2, leBytes 4 100000, true, false, .span 1000 500000, 0⟩,
   ⟨Obj.delayStepThreshold, .u32, .rws [.idle], 2, leBytes 4 200, true, false, .span 10 100000, 0⟩] ++
  [⟨Obj.delayStepCount, .u8, .rws [.idle], 2, [0x04], true, false, .span 1 32, 0⟩,
   ⟨Obj.requalifyCount, .u8, .rws [.idle], 2, [0x20], true, false, .span 16 255, 0⟩,
   ⟨Obj.delayAsymmetry, (.domain 8 8), .rws [.idle], 2, List.replicate 8 0, true, false, .any, 0⟩,
   ⟨Obj.ptpProfile, .u8, .rws [.idle], 2, [0x00], true, false, .span 0 3, 0⟩,
   ⟨Obj.ptpDomain, .u8, .rws [.idle], 2, [0x00], true, false, .span 0 127, 0⟩,
   ⟨Obj.ptpPortMode, .u8, .rws [.idle], 2, [0x00], true, false, .span 0 2, 0⟩,
   ⟨Obj.portLatency, (.domain 16 16), .rws [.idle], 2, List.replicate 16 0, true, false, .any, 0⟩,
   ⟨Obj.anchorPeriod, .u16, .rws [.idle], 1, leBytes 2 1000, true, false, .span 250 2000, 0⟩,
   ⟨Obj.ppsOutMode, .u8, .rws [.idle], 2, [0x02], true, false, .span 0 2, 0⟩,
   ⟨Obj.ppsOutWidth, .u16, .rws [.idle], 2, leBytes 2 100, true, false, .span 1 900, 0⟩,
   ⟨Obj.ppsInDelay, .i32, .rws [.idle], 2, leBytes 4 0, true, false, .any, 0⟩,
   ⟨Obj.ppsInSource, .u8, .rws [.idle], 2, [0x00], true, false, .span 0 1, 0⟩,
   ⟨Obj.stepCount, .u32, .ro, 0, leBytes 4 0, false, false, .any, 0⟩,
   ⟨Obj.holdoverCount, .u32, .ro, 0, leBytes 4 0, false, false, .any, 0⟩,
   ⟨Obj.launchLateCount, (.domain 32 32), .ro, 0, List.replicate 32 0, false, false, .any, 0⟩,
   ⟨Obj.compatTicks, .u64, .ro, 0, leBytes 8 0, false, false, .any, 0⟩] ++
  [⟨Obj.compatOffset, .i64, .rw, 1, leBytes 8 0, false, false, .any, 0⟩,
   ⟨Obj.compatRate, .i32, .rw, 1, leBytes 4 0, false, false, .any, 0⟩,
   ⟨Obj.compatTime, .u64, .ro, 0, leBytes 8 0, false, false, .any, 0⟩,
   ⟨Obj.timeStatus, .u16, .ro, 0, leBytes 2 0, false, false, .any, 0⟩,
   ⟨Obj.lastStepTime, .time80, .ro, 0, List.replicate 10 0, false, false, .any, 0⟩,
   ⟨Obj.pairTimeOffset, .i32, .ro, 0, leBytes 4 0, false, false, .any, 0⟩,
   ⟨Obj.announceTimeout, .u8, .rws [.idle], 2, [0x03], true, false, .span 2 10, 0⟩,
   ⟨Obj.launchDelay, (.domain 16 16), .rws [.idle], 1, List.replicate 16 0, true, false, .each 4 false 0 100000000, 0⟩,
   ⟨Obj.rateNow, .i32, .ro, 0, leBytes 4 0, false, false, .any, 0⟩,
   ⟨Obj.ptpIgnoredCount, .u32, .ro, 0, leBytes 4 0, false, false, .any, 0⟩,
   ⟨Obj.ppsRejectCount, .u32, .ro, 0, leBytes 4 0, false, false, .any, 0⟩]

/-- The objects at 0x1140 (R350). -/
def Dict.rows1140 : List ObjDef :=
  [⟨Obj.ipMode, .u8, .rws [.idle], 2, [0x00], true, false, .span 0 1, 0⟩,
   ⟨Obj.ipAddress, .u32, .rws [.idle], 2, leBytes 4 0xc0a80140, true, false, .any, 0⟩,
   ⟨Obj.netMask, .u32, .rws [.idle], 2, leBytes 4 0xffffff00, true, false, .any, 0⟩,
   ⟨Obj.gateway, .u32, .rws [.idle], 2, leBytes 4 0, true, false, .any, 0⟩,
   ⟨Obj.ipNow, .u32, .ro, 0, leBytes 4 0, false, false, .any, 0⟩,
   ⟨Obj.dhcpState, .u8, .ro, 0, [0x00], false, false, .any, 0⟩,
   ⟨Obj.mtu, .u16, .rws [.idle], 2, leBytes 2 1500, true, false, .span 1500 9216, 0⟩]

/-- The objects at 0x1141 + p (R350). -/
def Dict.portRows (n : Nat) : List ObjDef :=
  [⟨Obj.portMode n, .u8, .rws [.idle], 2, [0x02], true, false, .span 0 3, 0⟩,
   ⟨Obj.portMacAddress n, (.domain 6 6), .const, 0, beBytes 6 ((Config.macAddress.toNat + n) % 2 ^ 48), false, false, .any, 0⟩,
   ⟨Obj.portVlanId n, .u16, .rws [.idle], 2, leBytes 2 0, true, false, .span 0 4094, 0⟩,
   ⟨Obj.portLinkUp n, .bool, .ro, 0, [0x00], false, false, .any, 0⟩,
   ⟨Obj.portLinkDownCount n, .u32, .ro, 0, leBytes 4 0, false, false, .any, 0⟩]

/-- The objects at 0x1150 + s (R350). -/
def Dict.streamRows (n : Nat) : List ObjDef :=
  [⟨Obj.strEnable n, .bool, (if n = 0 then .const else .rws [.idle]), 1, (if n = 0 then [1] else [0]), true, true, .any, 0⟩,
   ⟨Obj.strDestAddr n, .u32, .rws [.idle], 1, leBytes 4 (0xEF401402 + n), true, true, .any, 0⟩,
   ⟨Obj.strDestPort n, .u16, .rws [.idle], 1, leBytes 2 (46430 + n), true, true, .span 1024 65535, 0⟩,
   ⟨Obj.strPortMap n, .u8, .rws [.idle], 1, [0x00], true, false, .span 0 1, 0⟩,
   ⟨Obj.strNextSequence n, .u32, .ro, 0, leBytes 4 0, false, false, .any, 0⟩,
   ⟨Obj.strPortNow n, .u8, .ro, 0, [0x00], false, false, .any, 0⟩]

/-- The objects at 0x1160 (R350). -/
def Dict.rows1160 : List ObjDef :=
  [⟨Obj.duplicateMode, .bool, .rws [.idle], 2, [0x00], true, false, .any, 0⟩,
   ⟨Obj.failover, .bool, .rws [.idle], 2, [0x01], true, false, .any, 0⟩,
   ⟨Obj.failbackHold, .u16, .rws [.idle], 2, leBytes 2 1000, true, false, .span 10 60000, 0⟩,
   ⟨Obj.columnSplit, .bool, .rws [.idle], 1, [0x00], true, false, .any, 0⟩,
   ⟨Obj.columnRun, .u16, .rws [.idle], 1, leBytes 2 256, true, false, .codes [16, 32, 64, 128, 256, 512], 0⟩,
   ⟨Obj.classMaxWait, (.domain 16 16), .rws [.idle], 2, words4 [1000, 20000, 100000, 500000], true, false, .each 4 false 100 1000000, 0⟩,
   ⟨Obj.queueLimit, (.domain 12 12), .rws [.idle], 2, words4 [1048576, 1048576, 262144], true, false, .each 4 false 65536 4194304, 0⟩,
   ⟨Obj.classPcp, (.domain 8 8), .rws [.idle], 2, [7, 6, 5, 4, 3, 1, 2, 7], true, false, .each 1 false 0 7, 0⟩,
   ⟨Obj.markerInterval, .u32, .rws [.idle], 2, leBytes 4 1000, true, false, .span 100 100000, 0⟩]

/-- The objects at 0x1170 (R350). -/
def Dict.rows1170 : List ObjDef :=
  [⟨Obj.classCounters, (.domain 336 336), .ro, 0, List.replicate 336 0, false, false, .any, 0⟩,
   ⟨Obj.c2LossCount, .u32, .ro, 0, leBytes 4 0, false, false, .any, 0⟩,
   ⟨Obj.lossMarkerCount, .u32, .ro, 0, leBytes 4 0, false, false, .any, 0⟩,
   ⟨Obj.bufferHighWater, (.domain 8 8), .ro, 0, List.replicate 8 0, false, false, .any, 0⟩,
   ⟨Obj.failoverCount, .u32, .ro, 0, leBytes 4 0, false, false, .any, 0⟩]

/-- The objects at 0x2D00 (R374). -/
def Dict.rows2D00 : List ObjDef :=
  [⟨Obj.camPriority, .u8, .rws [.idle], 2, [0x00], true, false, .span 0 1, 0⟩,
   ⟨Obj.tnrMemUsed, (.domain 8 8), .ro, 0, List.replicate 8 0, false, false, .any, 0⟩,
   ⟨Obj.tnrConflict, .bool, .ro, 0, [0x00], false, false, .any, 0⟩]

/-- The objects at 0x2D10 + p (R374). -/
def Dict.camRows (n : Nat) : List ObjDef :=
  [⟨Obj.camEnable n, .bool, .rws [.idle], 1, [0x00], true, false, .any, 0⟩,
   ⟨Obj.camInputDepth n, .u8, .rws [.idle], 2, [0x0C], true, false, .span 8 16, 0⟩,
   ⟨Obj.camPixelsPerClock n, .u8, .rws [.idle], 2, [0x01], true, false, .span 1 2, 0⟩,
   ⟨Obj.camSyncPolarity n, .u8, .rws [.idle], 2, [0x07], true, false, .any, 0xf0⟩,
   ⟨Obj.camCfaPattern n, .u8, .rws [.idle], 2, [0x00], true, false, .span 0 4, 0⟩,
   ⟨Obj.camActiveWidth n, .u16, .rws [.idle], 2, leBytes 2 1920, true, false, .span 256 4096, 0⟩,
   ⟨Obj.camActiveHeight n, .u16, .rws [.idle], 2, leBytes 2 1080, true, false, .span 16 4096, 0⟩,
   ⟨Obj.camFrameMaxTime n, .u32, .rws [.idle], 2, leBytes 4 100000, true, false, .span 1000 1000000, 0⟩,
   ⟨Obj.camPadValue n, .u16, .rws [.idle], 1, leBytes 2 0, true, false, .any, 0⟩,
   ⟨Obj.camTap n, .u8, .rws [.idle], 1, [0x02], true, false, .span 0 2, 0⟩,
   ⟨Obj.camOutFormat n, .u8, .rws [.idle], 1, [0x02], true, false, .span 0 3, 0⟩,
   ⟨Obj.camTrigMode n, .u8, .rws [.idle], 1, [0x00], true, false, .span 0 2, 0⟩,
   ⟨Obj.camTrigWidth n, .u16, .rws [.idle], 2, leBytes 2 100, true, false, .span 1 65535, 0⟩,
   ⟨Obj.camTrigActiveHigh n, .bool, .rws [.idle], 2, [0x01], true, false, .any, 0⟩,
   ⟨Obj.camTrigTime n, .time80, .rw, 1, List.replicate 10 0, false, false, .any, 0⟩,
   ⟨Obj.camTrigPeriod n, .u32, .rw, 1, leBytes 4 0, false, false, .zeroOr 1000000 4000000000, 0⟩] ++
  [⟨Obj.camTrigColumns n, (.domain 2 16), .rws [.idle], 1, [0, 0], true, true, .any, 0⟩,
   ⟨Obj.camTrigDirection n, .u8, .rws [.idle], 1, [0x03], true, true, .any, 0xfc⟩,
   ⟨Obj.camTrigEveryFrames n, .u8, .rws [.idle], 1, [0x01], true, true, .span 1 255, 0⟩,
   ⟨Obj.camTrigDelay n, .u32, .rws [.idle], 1, leBytes 4 0, true, true, .span 0 100000, 0⟩,
   ⟨Obj.camVsyncDelayMin n, .u32, .rws [.idle], 2, leBytes 4 0, true, false, .span 0 999999, 0⟩,
   ⟨Obj.camVsyncDelayMax n, .u32, .rws [.idle], 2, leBytes 4 50000, true, false, .span 1 1000000, 0⟩,
   ⟨Obj.camBlackLevel n, (.domain 8 8), .rws [.idle], 1, List.replicate 8 0, true, true, .any, 0⟩,
   ⟨Obj.camSnrStrength n, .u8, .rws [.idle], 1, [0x08], true, true, .span 0 16, 0⟩,
   ⟨Obj.camSnrThreshold n, .u16, .rws [.idle], 1, leBytes 2 2048, true, true, .any, 0⟩,
   ⟨Obj.camTnrEnable n, .bool, .rws [.idle], 1, [0x00], true, true, .any, 0⟩,
   ⟨Obj.camTnrStrength n, .u8, .rws [.idle], 1, [0x08], true, true, .span 0 15, 0⟩,
   ⟨Obj.camTnrThreshold n, .u16, .rws [.idle], 1, leBytes 2 1024, true, true, .any, 0⟩,
   ⟨Obj.camWbGain n, (.domain 8 8), .rws [.idle], 1, words2 [1024, 1024, 1024, 1024], true, true, .any, 0⟩,
   ⟨Obj.camColourMatrix n, (.domain 18 18), .rws [.idle], 1, words2 [1024, 0, 0, 0, 1024, 0, 0, 0, 1024], true, true, .any, 0⟩,
   ⟨Obj.camGammaLut n, (.domain 66 66), .rws [.idle], 1, words2 ((List.range 32).map (· * 2048) ++ [65535]), true, true, .any, 0⟩,
   ⟨Obj.camFrameCount n, .u32, .ro, 0, leBytes 4 0, false, false, .any, 0⟩] ++
  [⟨Obj.camNextFrameNumber n, .u32, .ro, 0, leBytes 4 0, false, false, .any, 0⟩,
   ⟨Obj.camDropCount n, (.domain 20 20), .ro, 0, List.replicate 20 0, false, false, .any, 0⟩,
   ⟨Obj.camSkippedTrigCount n, .u32, .ro, 0, leBytes 4 0, false, false, .any, 0⟩,
   ⟨Obj.camMalformedCount n, (.domain 24 24), .ro, 0, List.replicate 24 0, false, false, .any, 0⟩,
   ⟨Obj.camStoreHighWater n, .u32, .ro, 0, leBytes 4 0, false, false, .any, 0⟩,
   ⟨Obj.camLastTrailer n, (.domain 36 36), .ro, 0, List.replicate 36 0, false, false, .any, 0⟩,
   ⟨Obj.camLastStats n, (.domain 1424 1424), .ro, 0, List.replicate 1424 0, false, false, .any, 0⟩]

/-- The objects at 0x2E00 (R391). -/
def Dict.rows2E00 : List ObjDef :=
  [⟨Obj.recCommand, .u8, .wo, 1, [0x00], false, false, .any, 0⟩,
   ⟨Obj.recFormat, .u8, .wo, 2, [0x00], false, false, .codes [1], 0⟩,
   ⟨Obj.recPolicy, .u8, .rws [.idle], 2, [0x00], true, false, .span 0 1, 0⟩,
   ⟨Obj.superblockPeriod, .u16, .rws [.idle], 2, leBytes 2 1000, true, false, .span 100 10000, 0⟩,
   ⟨Obj.inFlightLimit, .u32, .rws [.idle], 2, leBytes 4 524288, true, false, .span 131072 4194304, 0⟩,
   ⟨Obj.autoStart, .bool, .rws [.idle], 1, [0x00], true, false, .any, 0⟩,
   ⟨Obj.recState, .u8, .ro, 0, [0x00], false, false, .any, 0⟩,
   ⟨Obj.linkStatus, .u16, .ro, 0, leBytes 2 0, false, false, .any, 0⟩,
   ⟨Obj.driveInfo, (.domain 64 64), .ro, 0, List.replicate 64 0, false, false, .any, 0⟩,
   ⟨Obj.managedExtents, .u32, .ro, 0, leBytes 4 0, false, false, .any, 0⟩,
   ⟨Obj.headExtent, .u32, .ro, 0, leBytes 4 0, false, false, .any, 0⟩,
   ⟨Obj.oldestExtent, .u32, .ro, 0, leBytes 4 0, false, false, .any, 0⟩,
   ⟨Obj.recordingId, .u64, .ro, 0, leBytes 8 0, false, false, .any, 0⟩,
   ⟨Obj.bytesWritten, .u64, .ro, 0, leBytes 8 0, false, false, .any, 0⟩,
   ⟨Obj.recordsWritten, .u64, .ro, 0, leBytes 8 0, false, false, .any, 0⟩,
   ⟨Obj.unrecordedCount, .u32, .ro, 0, leBytes 4 0, false, false, .any, 0⟩] ++
  [⟨Obj.writeErrorCount, .u32, .ro, 0, leBytes 4 0, false, false, .any, 0⟩,
   ⟨Obj.recRateNow, .u32, .ro, 0, leBytes 4 0, false, false, .any, 0⟩,
   ⟨Obj.driveHealth, (.domain 8 8), .ro, 0, List.replicate 8 0, false, false, .any, 0⟩,
   ⟨Obj.readLba, .u64, .rw, 1, leBytes 8 0, false, false, .any, 0⟩,
   ⟨Obj.readBlocks, .u16, .rw, 1, leBytes 2 1, false, false, .span 1 256, 0⟩,
   ⟨Obj.readData, (.domain 4096 1048576), .ro, 1, List.replicate 4096 0, false, false, .any, 0⟩]

/-- The objects at 0x1400 (R413). -/
def Dict.rows1400 : List ObjDef :=
  [⟨Obj.eventRing, (.domain 262144 262144), .ro, 0, List.replicate 262144 0, false, false, .any, 0⟩,
   ⟨Obj.eventHead, .u32, .ro, 0, leBytes 4 0, false, false, .any, 0⟩,
   ⟨Obj.activeAlarms, .u32, .ro, 0, leBytes 4 0, false, false, .any, 0⟩,
   ⟨Obj.highestSeverity, .u8, .ro, 0, [0x00], false, false, .any, 0⟩,
   ⟨Obj.lastFaultCode, .u32, .ro, 0, leBytes 4 0, false, false, .any, 0⟩,
   ⟨Obj.rateLimit, .u16, .rws [.idle], 2, leBytes 2 100, true, false, .span 1 10000, 0⟩,
   ⟨Obj.rateBurst, .u8, .rws [.idle], 2, [0x10], true, false, .span 1 255, 0⟩,
   ⟨Obj.logMinSeverity, .u8, .rws [.idle], 1, [0x01], true, false, .span 0 4, 0⟩,
   ⟨Obj.ringMinSeverity, .u8, .rws [.idle], 1, [0x01], true, false, .span 0 2, 0⟩,
   ⟨Obj.eventCounters, (.domain 60 60), .ro, 0, List.replicate 60 0, false, false, .any, 0⟩,
   ⟨Obj.journal, (.domain 40960 40960), .ro, 0, List.replicate 40960 0, false, false, .any, 0⟩,
   ⟨Obj.journalCount, .u16, .ro, 0, leBytes 2 0, false, false, .any, 0⟩,
   ⟨Obj.journalDropped, .u32, .ro, 0, leBytes 4 0, true, false, .any, 0⟩,
   ⟨Obj.journalClear, .u8, .wo, 2, [0x00], false, false, .any, 0⟩]

/-- The objects at 0x2F00 (R413). -/
def Dict.rows2F00 : List ObjDef :=
  [⟨Obj.pairRole, .u8, .rws [.idle], 2, [0x00], true, false, .span 0 2, 0⟩,
   ⟨Obj.partnerIdentity, .u16, .rws [.idle], 2, leBytes 2 0, true, false, .any, 0⟩,
   ⟨Obj.pairState, .u8, .ro, 0, [0x00], false, false, .any, 0⟩,
   ⟨Obj.owner, .bool, .ro, 0, [0x00], false, false, .any, 0⟩,
   ⟨Obj.heartbeatMissCount, .u32, .ro, 0, leBytes 4 0, false, false, .any, 0⟩,
   ⟨Obj.takeoverCount, .u32, .ro, 0, leBytes 4 0, false, false, .any, 0⟩,
   ⟨Obj.lastTakeoverTime, .time80, .ro, 0, List.replicate 10 0, false, false, .any, 0⟩,
   ⟨Obj.lastTakeoverCause, .u8, .ro, 0, [0x00], false, false, .any, 0⟩,
   ⟨Obj.mirrorLag, .u32, .ro, 0, leBytes 4 0, false, false, .any, 0⟩,
   ⟨Obj.linkErrorCount, .u32, .ro, 0, leBytes 4 0, false, false, .any, 0⟩,
   ⟨Obj.takeoverBudget, .u32, .ro, 0, leBytes 4 0, false, false, .any, 0⟩,
   ⟨Obj.partnerState, .u8, .ro, 0, [0x00], false, false, .any, 0⟩]

/-- The objects at 0x1210 (R430). -/
def Dict.rows1210 : List ObjDef :=
  [⟨Obj.resetCause, .u8, .ro, 0, [0x00], true, false, .any, 0⟩,
   ⟨Obj.bootSlot, .u8, .ro, 0, [0x00], false, false, .any, 0⟩,
   ⟨Obj.slotStatus, (.domain 32 32), .ro, 0, List.replicate 32 0, false, false, .any, 0⟩,
   ⟨Obj.minSecurityVersion, .u16, .ro, 0, leBytes 2 0, true, false, .any, 0⟩,
   ⟨Obj.bootSafeActive, .bool, .ro, 0, [0x00], false, false, .any, 0⟩,
   ⟨Obj.bootTime, .u32, .ro, 0, leBytes 4 0, false, false, .any, 0⟩,
   ⟨Obj.firmwareVersion, .u32, .ro, 0, leBytes 4 0, false, false, .any, 0⟩,
   ⟨Obj.clockStatus, .u8, .ro, 0, [0x00], false, false, .any, 0⟩,
   ⟨Obj.kilcaKeyHash, (.domain 32 32), .const, 0, leBytes 32 Config.kilcaKeyHash.toNat, false, false, .any, 0⟩]

/-- The objects at 0x1010 (R6). -/
def Dict.rows1010 : List ObjDef :=
  [⟨Obj.compatMode, .bool, .rws [.idle], 2, [0x00], true, false, .any, 0⟩,
   ⟨Obj.compatActive, .bool, .ro, 0, [0x00], false, false, .any, 0⟩]

/-- The objects at 0x1100 (R31, R50, R51, R55, R65). -/
def Dict.rows1100 : List ObjDef :=
  [⟨Obj.ethLaneRate, .u8, .rws [.idle], 2, [0x01], true, false, .span 0 1, 0⟩,
   ⟨Obj.dtpUdpPort, .u16, .rws [.idle], 2, leBytes 2 46420, true, false, .span 1024 65535, 0⟩,
   ⟨Obj.knockUdpPort, .u16, .rws [.idle], 2, leBytes 2 46421, true, false, .span 1024 65535, 0⟩,
   ⟨Obj.knockMcastAddr, .u32, .rws [.idle], 2, leBytes 4 0xef401401, true, false, .any, 0⟩,
   ⟨Obj.canNominalRate, .u32, .rws [.idle], 2, leBytes 4 500000, true, false, .span 125000 1000000, 0⟩,
   ⟨Obj.canDataRate, .u32, .rws [.idle], 2, leBytes 4 2000000, true, false, .span 0 8000000, 0⟩,
   ⟨Obj.sessionIdle, .u16, .rw, 2, leBytes 2 60, true, false, .span 5 3600, 0⟩]

/-- The objects at 0x1120 (R58). -/
def Dict.rows1120 : List ObjDef :=
  [⟨Obj.operatorKey, (.domain 32 32), .wo, 2, List.replicate 32 0, true, false, .any, 0⟩,
   ⟨Obj.integratorKey, (.domain 32 32), .wo, 2, leBytes 32 Config.integratorKey.toNat, true, false, .any, 0⟩,
   ⟨Obj.factoryKey, (.domain 32 32), .locked, 3, leBytes 32 Config.factoryKey.toNat, true, false, .any, 0⟩]

/-- The objects at 0x1130 (R65, R66, R68). -/
def Dict.rows1130 : List ObjDef :=
  [⟨Obj.knockGroup, .u16, .rws [.idle], 2, leBytes 2 0, true, false, .any, 0⟩,
   ⟨Obj.knockKey, (.domain 32 32), .wo, 2, List.replicate 32 0, true, false, .any, 0⟩,
   ⟨Obj.lastKnockReport, (.domain 22 22), .ro, 0, List.replicate 22 0, false, false, .any, 0⟩,
   ⟨Obj.knockMalformedCount, .u32, .ro, 0, leBytes 4 0, false, false, .any, 0⟩]

/-- The objects at 0x1200 (R59, R60, R71). -/
def Dict.rows1200 : List ObjDef :=
  [⟨Obj.command, .u16, .wo, 1, leBytes 2 0, false, false, .any, 0⟩,
   ⟨Obj.state, .u8, .ro, 0, [0x00], false, false, .any, 0⟩,
   ⟨Obj.armReady, .bool, .ro, 0, [0x00], false, false, .any, 0⟩,
   ⟨Obj.firmwareImage, (.domain 1 3145728), .rws [.update], 2, [], false, false, .any, 0⟩]

/-- The objects at 0x2000 (R72, R95, R100). -/
def Dict.rows2000 : List ObjDef :=
  [⟨Obj.arrayOffsetX, .i16, .const, 0, leBytes 2 (Config.arrayOffset false).toNat, false, false, .any, 0⟩,
   ⟨Obj.arrayOffsetY, .i16, .const, 0, leBytes 2 (Config.arrayOffset true).toNat, false, false, .any, 0⟩,
   ⟨Obj.histEccCorrected, .u32, .ro, 0, leBytes 4 0, false, false, .any, 0⟩,
   ⟨Obj.deferredHandoverCount, .u32, .ro, 0, leBytes 4 0, false, false, .any, 0⟩]

/-- The objects of one index. -/
def Dict.at (index : Nat) : List ObjDef :=
  if 0x3000 ≤ index ∧ index < 0x3440 then Dict.chanRows (index - 0x3000)
  else if 0x2910 ≤ index ∧ index < 0x2916 then Dict.chainRows (index - 0x2910)
  else if 0x2A10 ≤ index ∧ index < 0x2A14 then Dict.loopRows (index - 0x2A10)
  else if 0x2510 ≤ index ∧ index < 0x2519 then Dict.auxRows (index - 0x2510)
  else if 0x1141 ≤ index ∧ index < 0x1143 then Dict.portRows (index - 0x1141)
  else if 0x1150 ≤ index ∧ index < 0x1157 then Dict.streamRows (index - 0x1150)
  else if 0x2D10 ≤ index ∧ index < 0x2D12 then Dict.camRows (index - 0x2D10)
  else match index with
    | 0x1000 => Dict.rows1000
    | 0x1010 => Dict.rows1010
    | 0x1020 => Dict.rows1020
    | 0x1100 => Dict.rows1100
    | 0x1120 => Dict.rows1120
    | 0x1130 => Dict.rows1130
    | 0x1140 => Dict.rows1140
    | 0x1160 => Dict.rows1160
    | 0x1170 => Dict.rows1170
    | 0x1200 => Dict.rows1200
    | 0x1210 => Dict.rows1210
    | 0x1300 => Dict.rows1300
    | 0x1400 => Dict.rows1400
    | 0x2000 => Dict.rows2000
    | 0x2100 => Dict.rows2100
    | 0x2200 => Dict.rows2200
    | 0x2300 => Dict.rows2300
    | 0x2400 => Dict.rows2400
    | 0x2500 => Dict.rows2500
    | 0x2600 => Dict.rows2600
    | 0x2700 => Dict.rows2700
    | 0x2800 => Dict.rows2800
    | 0x2900 => Dict.rows2900
    | 0x2A00 => Dict.rows2A00
    | 0x2A20 => Dict.rows2A20
    | 0x2A30 => Dict.rows2A30
    | 0x2A40 => Dict.rows2A40
    | 0x2A50 => Dict.rows2A50
    | 0x2B00 => Dict.rows2B00
    | 0x2C00 => Dict.rows2C00
    | 0x2D00 => Dict.rows2D00
    | 0x2E00 => Dict.rows2E00
    | 0x2F00 => Dict.rows2F00
    | _ => []

/-- Every object but the per-channel ones, which stand apart because they are many. -/
def Dict.shared : List ObjDef :=
  Dict.rows1000 ++ Dict.rows1010 ++ Dict.rows1020 ++ Dict.rows1100 ++ Dict.rows1120 ++ Dict.rows1130 ++ 
  Dict.rows1140 ++ Dict.rows1160 ++ Dict.rows1170 ++ Dict.rows1200 ++ Dict.rows1210 ++ Dict.rows1300 ++ 
  Dict.rows1400 ++ Dict.rows2000 ++ Dict.rows2100 ++ Dict.rows2200 ++ Dict.rows2300 ++ Dict.rows2400 ++ 
  Dict.rows2500 ++ Dict.rows2600 ++ Dict.rows2700 ++ Dict.rows2800 ++ Dict.rows2900 ++ Dict.rows2A00 ++ 
  Dict.rows2A20 ++ Dict.rows2A30 ++ Dict.rows2A40 ++ Dict.rows2A50 ++ Dict.rows2B00 ++ Dict.rows2C00 ++ 
  Dict.rows2D00 ++ Dict.rows2E00 ++ Dict.rows2F00 ++ (List.range 6).flatMap Dict.chainRows ++ 
  (List.range 4).flatMap Dict.loopRows ++ (List.range 9).flatMap Dict.auxRows ++ 
  (List.range 2).flatMap Dict.portRows ++ (List.range 7).flatMap Dict.streamRows ++ 
  (List.range 2).flatMap Dict.camRows

end Sys2Proof.Machine
end

