-- ==== Sys2Proof/Machine/Fl.lean ====
section
/-!
DEFINITION. IEEE 754 binary32 and binary64 values and their arithmetic, rounded to nearest with ties to even (R201, R212,
R258). A finite value is an exact rational; the two zeros are one value.
-/

namespace Sys2Proof.Machine

/-- A binary floating-point value. -/
inductive Fl where
  | fin (q : Rat)
  | inf (neg : Bool)
  | nan
deriving DecidableEq, Repr

/-- A format: bits of precision, least and greatest exponent. -/
structure FlFmt where
  prec : Nat
  emin : Int
  emax : Int
deriving DecidableEq, Repr

def fmt32 : FlFmt := ⟨24, -126, 127⟩
def fmt64 : FlFmt := ⟨53, -1022, 1023⟩

/-- 2 to an integer power. -/
def pow2 (e : Int) : Rat := if e ≥ 0 then ((2 ^ e.toNat : Nat) : Rat) else 1 / ((2 ^ (-e).toNat : Nat) : Rat)

/-- The exponent `e` with 2^e ≤ q < 2^(e+1), for positive `q`. -/
def ratExp (q : Rat) : Int :=
  let e : Int := (q.num.natAbs.log2 : Int) - (q.den.log2 : Int)
  if q < pow2 e then e - 1 else e

/-- A non-negative rational rounded to an integer, ties to even. -/
def roundEven (q : Rat) : Nat :=
  let n := q.num.natAbs / q.den
  let r2 := 2 * (q.num.natAbs % q.den)
  if r2 > q.den then n + 1
  else if r2 = q.den then (if n % 2 = 0 then n else n + 1)
  else n

/-- A rational rounded into a format (ties to even; overflow to infinity). -/
def roundFl (f : FlFmt) (q : Rat) : Fl :=
  if q = 0 then .fin 0
  else
    let m := if q < 0 then -q else q
    let e := ratExp m
    let e' := if e < f.emin then f.emin else e
    let ulp := pow2 (e' - (f.prec - 1 : Nat))
    let v := (roundEven (m / ulp) : Rat) * ulp
    if v ≥ pow2 (f.emax + 1) then .inf (decide (q < 0))
    else .fin (if q < 0 then -v else v)

def Fl.neg : Fl → Fl
  | .fin q => .fin (-q)
  | .inf b => .inf !b
  | .nan => .nan

def Fl.abs : Fl → Fl
  | .fin q => .fin (if q < 0 then -q else q)
  | .inf _ => .inf false
  | .nan => .nan

def Fl.add (f : FlFmt) : Fl → Fl → Fl
  | .fin a, .fin b => roundFl f (a + b)
  | .nan, _ => .nan
  | _, .nan => .nan
  | .inf a, .inf b => if a = b then .inf a else .nan
  | .inf a, .fin _ => .inf a
  | .fin _, .inf b => .inf b

def Fl.sub (f : FlFmt) (x y : Fl) : Fl := Fl.add f x y.neg

def Fl.mul (f : FlFmt) : Fl → Fl → Fl
  | .fin a, .fin b => roundFl f (a * b)
  | .nan, _ => .nan
  | _, .nan => .nan
  | .inf a, .inf b => .inf (a != b)
  | .inf a, .fin b => if b = 0 then .nan else .inf (a != decide (b < 0))
  | .fin a, .inf b => if a = 0 then .nan else .inf (b != decide (a < 0))

def Fl.div (f : FlFmt) : Fl → Fl → Fl
  | .fin a, .fin b => if b = 0 then (if a = 0 then .nan else .inf (decide (a < 0))) else roundFl f (a / b)
  | .nan, _ => .nan
  | _, .nan => .nan
  | .inf _, .inf _ => .nan
  | .inf a, .fin b => .inf (a != decide (b < 0))
  | .fin _, .inf _ => .fin 0

/-- The square root, rounded once: the root of a scaled integer with a sticky bit below it. -/
def Fl.sqrt (f : FlFmt) : Fl → Fl
  | .fin q =>
    if q < 0 then .nan
    else if q = 0 then .fin 0
    else
      let k : Int := (f.prec + 4 : Nat) - (ratExp q) / 2
      let s := q * pow2 (2 * k)
      let m := s.num.natAbs / s.den
      let r := isqrt m
      let sticky : Nat := if r * r = m ∧ s.num.natAbs % s.den = 0 then 0 else 1
      roundFl f (((2 * r + sticky : Nat) : Rat) * pow2 (-(k + 1)))
  | .inf false => .inf false
  | .inf true => .nan
  | .nan => .nan

/-- Strict order; false with a NaN. -/
def Fl.lt : Fl → Fl → Bool
  | .fin a, .fin b => decide (a < b)
  | .nan, _ => false
  | _, .nan => false
  | .inf true, .inf true => false
  | .inf true, _ => true
  | _, .inf false => true
  | _, _ => false

/-- Order; false with a NaN. -/
def Fl.le (a b : Fl) : Bool := Fl.lt a b || (a == b && a != .nan)

def Fl.max (a b : Fl) : Fl := if Fl.lt a b then b else a
def Fl.min (a b : Fl) : Fl := if Fl.lt b a then b else a

/-- A value held between two others. -/
def Fl.clamp (lo hi x : Fl) : Fl := if Fl.lt x lo then lo else if Fl.lt hi x then hi else x

/-- The sign of a value as 1, 0 or -1. -/
def Fl.sign : Fl → Rat
  | .fin q => if q < 0 then -1 else if q = 0 then 0 else 1
  | .inf b => if b then -1 else 1
  | .nan => 0

/-- The bits of a binary32 value. -/
def Fl.bits32 : Fl → Nat
  | .nan => 0x7FC00000
  | .inf b => if b then 0xFF800000 else 0x7F800000
  | .fin q =>
    if q = 0 then 0
    else
      let s : Nat := if q < 0 then 2147483648 else 0
      let m := if q < 0 then -q else q
      let e := ratExp m
      if e < -126 then s + (roundEven (m * pow2 149))
      else s + ((e + 127).toNat * 8388608 + (roundEven (m * pow2 (23 - e)) - 8388608))

/-- The value of 32 bits. -/
def Fl.ofBits32 (n : Nat) : Fl :=
  let s := (n / 2147483648) % 2
  let e := (n / 8388608) % 256
  let m := n % 8388608
  if e = 255 then (if m = 0 then .inf (s == 1) else .nan)
  else
    let v : Rat := if e = 0 then (m : Rat) * pow2 (-149) else ((8388608 + m : Nat) : Rat) * pow2 ((e : Int) - 150)
    .fin (if s = 1 then -v else v)

/-- The rational of a finite value; 0 for the others. -/
def Fl.rat : Fl → Rat
  | .fin q => q
  | _ => 0

/-- The rational of 32 bits. -/
def f32q (n : Nat) : Rat := (Fl.ofBits32 n).rat

/-- A rational as binary32 bits. -/
def q32 (q : Rat) : Nat := (roundFl fmt32 q).bits32

/-- The floor of a rational. -/
def ratFloor (q : Rat) : Int := q.num.fdiv q.den

/-- The ceiling of a rational. -/
def ratCeil (q : Rat) : Int := -((-q).num.fdiv q.den)

/-- A rational rounded to the nearest integer, halves up. -/
def ratRound (q : Rat) : Int := ratFloor (q + 1 / 2)

/-- An absolute value. -/
def ratAbs (q : Rat) : Rat := if q < 0 then -q else q

/-- π to sixty binary places (R211, R216). UNVERIFIED: the spec names no precision. -/
def piQ : Rat := 3622009729038561422 / 1152921504606846976

/-- Terms of the sine series in 2^-60 fixed point: `t` the term, `x2` the square of the argument. -/
def sinSeries : Nat → Nat → Int → Int → Int → Int
  | 0, _, _, _, acc => acc
  | n + 1, k, x2, t, acc =>
    let t' := -((t * x2) / (2 : Int) ^ 60) / (((2 * k) * (2 * k + 1) : Nat) : Int)
    sinSeries n (k + 1) x2 t' (acc + t')

/-- The sine of an angle given in turns, to about 2^-50 (R216). UNVERIFIED: the spec names no precision. -/
def sinTurns (turns : Rat) : Rat :=
  let f := turns - (ratFloor turns : Rat)
  let g := if f ≥ 1 / 2 then f - 1 else f
  let h := if g > 1 / 4 then 1 / 2 - g else if g < -(1 / 4) then -(1 / 2) - g else g
  let x := ratFloor (2 * piQ * h * (((2 : Nat) ^ 60 : Nat) : Rat))
  let s := sinSeries 12 1 ((x * x) / (2 : Int) ^ 60) x x
  (s : Rat) / (((2 : Nat) ^ 60 : Nat) : Rat)

/-- Bisection for the angle in turns, from -1/4 to 1/4, whose sine is `y`. -/
def asinGo (y : Rat) : Nat → Rat → Rat → Rat
  | 0, lo, _ => lo
  | n + 1, lo, hi =>
    let mid := (lo + hi) / 2
    if sinTurns mid ≤ y then asinGo y n mid hi else asinGo y n lo mid

/-- The angle in turns, from -1/4 to 1/4, whose sine is `y`, to about 2^-45. -/
def asinTurns (y : Rat) : Rat :=
  if y ≥ 1 then 1 / 4 else if y ≤ -1 then -(1 / 4) else asinGo y 44 (-(1 / 4)) (1 / 4)

end Sys2Proof.Machine
end

