-- ==== Sys2Proof/Machine/StateArray.lean ====
section
/-!
DEFINITION. The parts of the state behind the measurement: paths and the Scarab crossbar, pixels and TDCs, shots, histograms
and returns, the Mantis detector, the Firefly engines, the exposure governor and the charge supply. Tables are lists by rising
key in which a key that is not listed stands for the value at rest.
-/

namespace Sys2Proof.Machine

/-- The tap table of a path or timing input with the run it came from: the factory's, the ideal one of R280, or that of a
passed run (R89): taps, LineLength in fs, native time of the run in 2^-32 ns, temperature in 0.01 °C. -/
inductive Taps where
  | factory
  | ideal
  | run (taps : List Nat) (line : Nat) (native : Nat) (temp : Int)
deriving DecidableEq, Repr

/-- What a path's record of the calibration bank holds, live (R105, Table CAL-4). `serves` is the channel that a Scarab
serves. -/
structure PathRec where
  role : Nat
  fault : Nat
  faultNative : Nat
  suspect : Bool
  fails : Nat
  taps : Taps
deriving DecidableEq, Repr

/-- A crossbar change that a cluster waits for (Table CHAN-7). `since` is the stamp of its cause. -/
inductive CrossCause where
  | scarabFailed (since : Stamp)
  | takeover (ch : Nat) (since : Stamp)
  | toPermanent (ch : Nat) (fault : Nat)
  | endStandin (ch : Nat)
  | beginPermanent (ch : Nat) (fault : Nat)
  | beginStandin (ch : Nat)
deriving DecidableEq, Repr

/-- A cluster: the channel its Scarab serves, the changes that wait, and whether a settle window is open (R99). -/
structure Cluster where
  served : Option Nat
  causes : List CrossCause
  settling : Bool
  settleFrom : Stamp
deriving DecidableEq, Repr

/-- A macro-pixel: SPAD fires that its gate holds, the end of its output pulse, the depth in force, adaptive hold, the Louvre
settings latched at the boundary, and the sums of the column (R74 to R80). `edges` are those counted by R78. -/
structure Pixel where
  fires : List Stamp
  activeUntil : Stamp
  depth : Nat
  nextDepth : Nat
  adaptive : Bool
  hold : Nat
  window : Nat
  edges : Nat
  saturated : Bool
deriving DecidableEq, Repr

/-- A conversion that waits for its assignment: stamp, end of its blind interval, and whether it is kept (R83, R91). -/
structure Conv where
  t : Stamp
  te : Stamp
  kept : Bool
deriving DecidableEq, Repr

/-- A zoom histogram: its first LSB, its bins (bin, count, blind), and the foreign-predicted and total detections (R118,
R136). -/
structure Zoom where
  z0 : Nat
  bins : List (Nat × (Nat × Nat))
  foreign : Nat
  total : Nat
deriving DecidableEq, Repr

/-- A histogram buffer of one path for one integration interval (R120), under the number of
channel `ch`. `zoomReady` is the instant at which placement ended;
`released` says that it is read out. -/
structure HistBuf where
  interval : Nat
  ch : Nat
  depth : Nat
  coarse : List (Nat × (Nat × Nat))
  zooms : List Zoom
  zoomReady : Option Stamp
  searched : Bool
  released : Option Stamp
  blind : Nat
deriving DecidableEq, Repr

/-- The measuring half of a path: hold-off latched, the running blind interval, sums of the column, conversions that wait,
Shutters open by slot, and its two buffers. -/
structure PathMeas where
  holdOff : Nat
  openTick : Nat
  closeTick : Nat
  blindFrom : Stamp
  blindTo : Stamp
  blindSum : Nat
  kept : Nat
  code64 : Nat
  convs : List Conv
  openSlots : List Nat
  bufs : List HistBuf
  ignoreBefore : Stamp
deriving DecidableEq, Repr

/-- A shot slot of a bank after its FIRE instant: index in its column, column and interval numbers, FIRE edge and optical
start in LSB, whether it was muted or drove an edge, its width code, and whether its start was estimated (R111 to R115). -/
structure Shot where
  slot : Nat
  column : Nat
  interval : Nat
  fire : Stamp
  start : Option Stamp
  startNs : Nat
  muted : Bool
  width : Nat
  estimated : Bool
deriving DecidableEq, Repr

/-- A slot that has been enqueued and waits for its FIRE edge; `edge` counts 50 ps. -/
structure EnqSlot where
  slot : Nat
  edge : Nat
  muted : Bool
  width : Nat
deriving DecidableEq, Repr

/-- A bank: generator (R113), the plan of its column (R149), slots enqueued, shots kept until extraction, and its Mantis
trains. `nextEdge` counts 50 ps; `planned` maps intervals to the planned shots N_p; in STANDBY `exceptions` are the
slots that the owner moved, with their edge, or suppressed (R406). -/
structure Bank where
  x : Nat
  nextSlot : Nat
  shots : Nat
  nextEdge : Nat
  base : Nat
  dither : Nat
  width : Nat
  dropped : Bool
  queue : List EnqSlot
  fired : List Shot
  planned : List (Nat × Nat)
  inhibitedSlots : Nat
  exceptions : List (Nat × Option Nat)
  sampled : Bool
  pulseEnd : Stamp
deriving DecidableEq, Repr

/-- A tracked pulse train of another scanner (R135). Period and reference are in LSB as fractions numerator / 65536. -/
structure Train where
  period : Nat
  ref : Int
  residual : Nat
  hits : Nat
  age : Nat
deriving DecidableEq, Repr

/-- Mantis of one bank: stamps of muted slots with the column they came in, newest first, and the trains (R134, R135). -/
structure Mantis where
  stamps : List (Nat × Stamp)
  trains : List Train
deriving DecidableEq, Repr

/-- A channel's results for one interval: return words and the summary word (R138, R140). -/
structure ChanResult where
  interval : Nat
  ch : Nat
  slots : List Nat
  summary : Nat
deriving DecidableEq, Repr

/-- What an integration interval notes for its column packets (Tables STRM-4 to STRM-6). -/
structure IntervalNote where
  interval : Nat
  frame : Nat
  column : Nat
  dir : Bool
  boundary : Stamp
  stampNs : Nat
  columns : Nat
  scaleSource : Nat
  scalePpb : Int
  notLocked : Bool
  inhibit : Bool
  formed : Bool
  settings : List (Nat × Bytes)
  govBanks : List Nat
  throttled : List Nat
  firstNo : Nat
deriving DecidableEq, Repr

/-- The receiver array (R13 to R22, R72 to R141). -/
structure ArrayState where
  paths : List (Nat × PathRec)
  clusters : List (Nat × Cluster)
  pixels : List (Nat × Pixel)
  meas : List (Nat × PathMeas)
  mantis : List (Nat × Mantis)
  results : List ChanResult
  notes : List IntervalNote
  rolesDirty : Bool
deriving DecidableEq, Repr

/-- One window of the exposure governor (R154): sub-sums by cell × 16 + bank, newest first, seventeen in all, and how many
boundaries still cover the saturated sub-sum of the reset (R156). -/
structure GovWindow where
  subs : List (List (Nat × Nat))
  saturated : Nat
  boundaryAt : Nat
deriving DecidableEq, Repr

/-- The Firefly engines, the FIRE outputs and the governor (R142 to R158). Inhibit bits are Table EMIT-6; `released` says that
firing has been released at a column boundary; pin levels are as at the balls. -/
structure FireState where
  banks : List (Nat × Bank)
  placed : List (Nat × Nat)
  inhibit : Nat
  released : Bool
  gov : List GovWindow
  cell : Nat
  doseV : Nat
  safeOffN : Bool
  pfailN : Bool
  pfailHighAt : Nat
  scanValid : Bool
  scanValidAt : Nat
deriving DecidableEq, Repr

/-- One headroom sample: V_b, h_b in 10 mV and the column number (R163). -/
structure Need where
  v : Nat
  h : Nat
  column : Nat
deriving DecidableEq, Repr

/-- The charge supply (R159 to R168). -/
structure ChargeState where
  switching : Bool
  lowAt : Option Nat
  warned : Bool
  pendingCount : Nat
  low : Nat
  needs : List (Nat × Need)
  csRun : Nat
  held : List (Nat × Nat)
  gdrvGate : Bool
  ao3Gate : Bool
deriving DecidableEq, Repr

end Sys2Proof.Machine
end

