-- ==== Sys2Proof/Machine/StateHost.lean ====
section
/-!
DEFINITION. The parts of the state behind the host interface: the object stores, DTP sessions and transfers, Knock, the SPI
status port, events and journal, output streams, ports and network services, and the redundant pair.
-/

namespace Sys2Proof.Machine

/-- Object values: (object number, bytes), numbers strictly rising, no entry equal to the object's default. -/
abbrev Store := List (Nat × Bytes)

/-- The fitted variants of Table SCOPE-1. -/
inductive Variant where
  | sv | au | fl6412
deriving DecidableEq, Repr

/-- A request's answer or another datagram that the device sends on its own account: where it goes and its bytes. -/
structure Answer where
  transport : Transport
  port : Fin 2
  dstAddr : BitVec 32
  dstPort : BitVec 16
  bytes : Bytes
deriving DecidableEq, Repr

/-- An authenticated session (R55, R56). Counters are the last accepted inward and the last sent outward; `seenAt` is
the tick of its last accepted request; `response` is the stored response of R54. -/
structure Session where
  transport : Transport
  id : Nat
  srcAddr : BitVec 32
  srcPort : BitVec 16
  level : Nat
  key : Bytes
  lastIn : Nat
  lastTransaction : Nat
  lastOut : Nat
  seenAt : Nat
  response : Answer
deriving DecidableEq, Repr

/-- A session that waits for its AUTH_RESPONSE (R56). -/
structure PendingSession where
  transport : Transport
  id : Nat
  srcAddr : BitVec 32
  srcPort : BitVec 16
  level : Nat
  hostNonce : Bytes
  deviceNonce : Bytes
  openedAt : Nat
deriving DecidableEq, Repr

/-- An open block transfer (R53). A read holds the value taken at its INIT. -/
structure Transfer where
  owner : XferOwner
  isWrite : Bool
  shadow : Bool
  obj : Nat
  total : Nat
  nextBlock : Nat
  done : Nat
  data : Bytes
  level : Nat
  seenAt : Nat
deriving DecidableEq, Repr

/-- DTP: sessions, transfers, failed proofs per level and the end of a level's lockout (R57). -/
structure DtpState where
  sessions : List Session
  pending : List PendingSession
  transfers : List Transfer
  fails : List Nat
  lockedUntil : List (Option Nat)
  answers : List Answer
deriving DecidableEq, Repr

/-- A pending Knock: where it came from, its fields, and the state in which it was accepted (R66, R67). -/
structure PendingKnock where
  transport : Transport
  port : Fin 2
  srcAddr : BitVec 32
  srcPort : BitVec 16
  group : Nat
  sequence : Nat
  activation : Nat
  state : DevState
deriving DecidableEq, Repr

/-- Shadow set, Knock and waiting COMMIT_SHADOW (R64 to R68). `lastSequence` is kept per group. -/
structure GroupState where
  shadow : Store
  changed : List Nat
  pendingKnock : Option PendingKnock
  lastSequence : List (Nat × Nat)
  commitWaiting : Option DevState
deriving DecidableEq, Repr

/-- The SPI status port (R69 to R71). A pair's snapshot register holds its last 64-bit value; `lastLow` is the pair whose
low word ended the preceding read; `answer` is the last transaction's status byte and words. -/
structure SpiState where
  snapshots : List Nat
  lastLow : Option Nat
  addrErr : Bool
  writeRefused : Bool
  alive : Nat
  aliveAt : Nat
  safeLatched : Bool
  answer : Nat × List Nat
deriving DecidableEq, Repr

/-- An event entry (Table FAULT-1), with the tick at which it opened. -/
structure EventEntry where
  sec : Nat
  ns : Nat
  code : Nat
  source : Nat
  severity : Nat
  cleared : Bool
  journaled : Bool
  number : Nat
  repeats : Nat
  suppressed : Nat
  data : Nat
  openedAt : Nat
deriving DecidableEq, Repr

/-- The rate limit of one event key (R395). Tokens count in 1/250,000,000 so that a tick refills RateLimit of them. -/
structure Bucket where
  code : Nat
  source : Nat
  data : Nat
  cleared : Bool
  tokens : Nat
  asOf : Nat
  suppressed : Nat
deriving DecidableEq, Repr

/-- A journal entry: the event entry, the boot it belongs to, and whether its stored CRC holds (R397). -/
structure JournalEntry where
  entry : EventEntry
  bootCount : Nat
  crcGood : Bool
deriving DecidableEq, Repr

/-- Events, ring, journal and alarms (R392 to R400). `ring` is (slot, entry); `logQueue` holds closed entries for the LOG
stream; `waiting` are journal entries that MRAM refuses for now and `lost` those lost since it refused; `fatal` are the
Fatal causes that CLEAR_SAFE has not ended, by code; `safeWanted` is the code of a Fatal event that has yet to take the device
to SAFE. By alarm bit, `alarmLast` is the newest event (code, source, severity, data) of the alarm's condition and `alarmBy`
the one that started it (R399). `lastSeverity` is the severity whose pattern ALERT_N shows, and `alertSwitch` the one that takes
over, with its tick (R400). -/
structure EventState where
  ring : List (Nat × EventEntry)
  ringFill : Nat
  opened : Nat
  openEntries : List EventEntry
  buckets : List Bucket
  logQueue : List EventEntry
  journal : List JournalEntry
  waiting : List JournalEntry
  lost : Nat
  overwritten : List Nat
  discarded : List Nat
  suppressedCount : List Nat
  droppedSeen : Nat
  c2LossAt : Option Nat
  fatal : List Nat
  safeByFatal : Bool
  safeWanted : Option Nat
  alarmLast : List (Nat × (Nat × Nat × Nat × Nat))
  alarmBy : List (Nat × (Nat × Nat × Nat × Nat))
  lastSeverity : Nat
  alertLow : Bool
  alertSwitch : Option (Nat × Nat)
deriving DecidableEq, Repr

/-- A record that a unit has formed and that waits to enter the merge: its stream, type, class and source number, its
stamp in ns of native time, the body after the common header, and for a column packet its place in the column (R36). `tag`
names the store entry of a holding source that ends with the record, 0 for none. -/
structure Draft where
  group : Nat
  stream : Nat
  rtype : Nat
  cls : Nat
  source : Nat
  order : Nat
  stamp : Nat
  tag : Nat
  body : Bytes
deriving DecidableEq, Repr

/-- A record in an egress queue. `bytes` is the record with its common header; `start` is the tick of its merge entry and
`launch` its launch time in ns, 0 for none; `sentOn` are the ports that have sent it (R347). -/
structure Queued where
  stream : Nat
  cls : Nat
  level : Nat
  seq : Nat
  ordinal : Nat
  stamp : Nat
  launch : Nat
  start : Nat
  launchedAt : Nat
  tag : Nat
  bytes : Bytes
  sentOn : List Nat
deriving DecidableEq, Repr

/-- A frame that is no output record: a DTP response or a network service frame, with its level of R339. -/
structure ServiceFrame where
  level : Nat
  bytes : Bytes
deriving DecidableEq, Repr

/-- Refusals of one key that no marker has reported yet (R345). Times are ticks; `firstNs` is native. -/
structure Episode where
  stream : Nat
  cls : Nat
  reason : Nat
  port : Nat
  count : Nat
  firstSeq : Nat
  lastSeq : Nat
  firstNs : Nat
  lastNs : Nat
  firstAt : Nat
deriving DecidableEq, Repr

/-- A stream: its next sequence, the sequences and stamps of its newest 16 anchors, its enabling state as last seen, and
the port that carries it (R331 to R334, R348). -/
structure StreamState where
  enabled : Bool
  nextSeq : Nat
  anchors : List (Nat × Nat)
  carrier : Nat
deriving DecidableEq, Repr

/-- One port: link, queue, shared area in use, bar, and the frame last put on the wire (R327, R339 to R348). -/
structure PortState where
  linkUp : Bool
  upSince : Nat
  queue : List Queued
  services : List ServiceFrame
  barred : Bool
  lastFrame : Bytes
  echoTokens : Nat
  echoAt : Nat
deriving DecidableEq, Repr

/-- One entry of the ARP cache: address, hardware address when resolved, and the tick of its last resolution (R329). -/
structure ArpEntry where
  ip : Nat
  mac : Option Nat
  asOf : Nat
deriving DecidableEq, Repr

/-- The DHCP client (R328): state as 0x1140:06 reports it, and the lease. -/
structure DhcpClient where
  phase : Nat
  ip : Nat
  netMask : Nat
  gateway : Nat
  server : Nat
  leaseSeconds : Nat
  boundAt : Nat
  xid : Nat
deriving DecidableEq, Repr

/-- The output merge and the network services (R25, R33 to R42, R327 to R350). -/
structure MergeState where
  formed : List Draft
  group : Nat
  ordinal : Nat
  streams : List StreamState
  ports : List PortState
  episodes : List Episode
  markerAt : List ((Nat × Nat × Nat × Nat) × Nat)
  anchorCount : Nat
  anchorAt : Nat
  arp : List ArpEntry
  dhcp : DhcpClient
deriving DecidableEq, Repr

/-- Native time, the servo and PTP (R303 to R326). `native` counts 2^-32 ns from native time 0, so it holds the seconds, the
nanoseconds, the fraction and the hidden residue of R303. -/
structure TimeState where
  running : Bool
  ticks : Nat
  native : Nat
  increment : Nat
  servo : Nat
  integ : Int
  incRef : Nat
  lockRun : Nat
  lockedIncs : List Nat
  rate : Int
  slewing : Bool
  offsetNow : Int
  delays : List Int
  meanDelay : Int
  dev : Nat
  requalQ : List Int
  ptpPort : Nat
  bestMaster : Option (List Nat)
  announceLog : Int
  syncAt : Option Nat
  delayReqSeq : Nat
  ppsHigh : Bool
  ppsRoseAt : Nat
  ppsNextSec : Nat
  ppsAcceptedAt : Option Nat
  pairSource : Bool
deriving DecidableEq, Repr

/-- A frame that the device has sent to its partner (R404). -/
structure PairOut where
  kind : Nat
  sequence : Nat
  payload : Bytes
deriving DecidableEq, Repr

/-- Set-points of one loop as the owner's LOOP frames give them (Table FAULT-7). Numbers are binary32 bits. -/
structure MirrorLoop where
  r : Nat
  v : Nat
  a : Nat
  code : Nat
  mode : Nat
  asOf : Nat
deriving DecidableEq, Repr

/-- The redundant pair (R402 to R412). `checkInAt` is none while the control cores and the loop engine check in, and the tick of the
last check-in once they have stopped. `columns` are COLUMN frames whose boundary is still to come, by stamp; `configs` are the
stamp, object and value of CONFIG frames that wait; `mirrorSeq` is the sequence of the newest COLUMN frame; `lostOnce` says that a
partner has been lost. -/
structure PairState where
  role : Nat
  phase : Nat
  linkUp : Bool
  asserts : Bool
  gpio0 : Bool
  netReleased : Bool
  releasedAt : Nat
  partnerIdentity : Nat
  lastHello : Nat
  lastHeartbeat : Nat
  heartbeatSentAt : Nat
  helloSentAt : Nat
  checkInAt : Option Nat
  missRun : Nat
  releaseSeen : Bool
  claimSent : Bool
  claimAcked : Bool
  startWhenReady : Bool
  outSeq : List Nat
  out : List PairOut
  mirror : List MirrorLoop
  mirrorSeq : Nat
  columns : List (Nat × Bytes)
  configs : List (Nat × Nat × Bytes)
  synced : Bool
  lostOnce : Bool
deriving DecidableEq, Repr

end Sys2Proof.Machine
end

