-- ==== Sys2Proof/Machine/StateLoop.lean ====
section
/-!
DEFINITION. The parts of the state behind the loop engine and the scan: the four loops, the trajectory and its columns
(R195 to R224). Numbers of the control law are binary32, held as their 32 bits.
-/

namespace Sys2Proof.Machine

/-- Loop modes with the codes of R196. -/
inductive LoopMode where
  | off | park | start | track | regulate | shadow
deriving DecidableEq, Repr

/-- The mode codes of R196. -/
def LoopMode.code : LoopMode → Nat
  | .off => 0
  | .park => 1
  | .start => 2
  | .track => 3
  | .regulate => 4
  | .shadow => 5

/-- One loop. `freshMode` says that the next sample is the first in its mode, `fromOff` that the mode before was OFF;
`rampLeft` counts the samples of a Hinge ramp that are left. -/
structure Loop where
  mode : LoopMode
  freshMode : Bool
  fromOff : Bool
  target : Nat
  r : Nat
  v : Nat
  a : Nat
  yPrev : Nat
  d : Nat
  i : Nat
  z1 : List Nat
  z2 : List Nat
  satHi : Bool
  satLo : Bool
  residue : Nat
  rampLeft : Nat
  code : Nat
  err : Nat
  atTarget : Bool
  inTol : Bool
  intHold : Bool
  hingeGap : Bool
  sensOvr : Bool
  sensFill : Bool
  miss : Bool
  limit : Bool
  ovrRun : Nat
  missRun : Nat
  tolRun : Nat
  divider : Nat
  missedNow : Bool
  badSince : Option Nat
  first : Bool
deriving DecidableEq, Repr

/-- The scan (R209 to R218): when L0 entered TRACK, the number of Transom slots and column boundaries since, the column in
progress with its place on the trajectory, and the command that waits for the next boundary (R62). `columnsDone` counts
the columns of the present SCAN, `completed` those since reset (Table DICT-14). Instants are stamps. -/
structure ScanState where
  trackAt : Option Stamp
  columnNo : Nat
  interval : Nat
  intervalLeft : Nat
  boundary : Stamp
  columnEnd : Stamp
  position : Int
  index : Nat
  reverse : Bool
  frame : Nat
  frameStarted : Bool
  running : Bool
  transomFrom : Stamp
  transomTo : Stamp
  patternEntry : Nat
  pendingCmd : Option Cmd
  columnsDone : Nat
  completed : Nat
  fitPeriod : Nat
  fitRef : Stamp
  fitResidual : Nat
  edgeN : Nat
  edges : List (Nat × Stamp)
  indexN : Nat
  indexes : List (Nat × Stamp)
  peak : Nat
  peakNow : Nat
  stall : Bool
  biasSetpoint : Nat
deriving DecidableEq, Repr

end Sys2Proof.Machine
end

