-- ==== Sys2Proof/Machine/StateUnits.lean ====
section
/-!
DEFINITION. The parts of the state behind the sense path, Mayfly, the timing inputs, calibration, the thermal unit, the
cameras and the recorder (R171 to R302, R351 to R391).
-/

namespace Sys2Proof.Machine

/-! ### Converters and filter chains (R171 to R194) -/

/-- One filter chain. `ovrAge`, `fillAge` and `satAge` count inputs since the last one that had the condition; `settleLeft`
counts outputs that still carry SETTLING; `primed` is false until the first input after a synchronising reset. -/
structure Chain where
  lines : List (List Int)
  phases : List Bool
  ma : List Int
  lastX : Int
  primed : Bool
  ovrAge : Option Nat
  fillAge : Option Nat
  satAge : Option Nat
  settleLeft : Nat
  outStamp : Stamp
  outputs : Nat
deriving DecidableEq, Repr

/-- One converter: the slot of its sequence that comes next, whether a discard conversion is due, the tick of a synchronising reset's
cause, and for SC2 and SC3 the sources that wait with the rank of their owner (R289). -/
structure Converter where
  slot : Nat
  discard : Bool
  resetCause : Option Nat
  startAt : Nat
  queue : List (Nat × Nat)
deriving DecidableEq, Repr

/-- Converters, chains, the Count of each source, and the comparators that stand tripped (bit 2n high, 2n + 1 low). -/
structure SenseState where
  convs : List Converter
  chains : List Chain
  counts : List (Nat × Nat)
  tripped : Nat
deriving DecidableEq, Repr

/-! ### Mayfly (R225 to R248) -/

/-- What triggers share (R242, R243): the causes merged, the primary cause, its source and instant, and the native ns and the
part below it of that instant. -/
structure TrigInfo where
  mask : Nat
  primary : Nat
  source : Nat
  instant : Stamp
  ns : Nat
  sub : Nat
deriving DecidableEq, Repr

/-- A capture in progress on an engine (R236), under the settings with which it began. -/
structure Capture where
  info : TrigInfo
  subject : Nat
  pre : List Stamp
  post : List Stamp
  postGoal : Nat
  window : Nat
  truncated : Bool
deriving DecidableEq, Repr

/-- A capture engine: its history of kept conversions, newest first (R232), the capture in progress, the close of its last
segment while it has not re-armed, and the DeadTime that its next segment carries. -/
structure MayflyEngine where
  history : List Stamp
  capture : Option Capture
  closedAt : Option Stamp
  deadTime : Nat
deriving DecidableEq, Repr

/-- A trigger that waits for the extraction of the interval in which it falls (R239). -/
structure BinTrigger where
  info : TrigInfo
  subject : Nat
  interval : Nat
deriving DecidableEq, Repr

/-- A segment in the ring: header and payload, the causes, and which sinks have finished with it (R245, R247). -/
structure Segment where
  number : Nat
  header : Bytes
  payload : Bytes
  mask : Nat
  stampNs : Nat
  streamWaits : Bool
  recWaits : Bool
  offered : Bool
deriving DecidableEq, Repr

/-- Mayfly: engines, bin triggers that wait, the subjects and intervals that have had their segment, the ring in order, and
refusals at source that are still to be shown (R246). -/
structure MayflyState where
  engines : List MayflyEngine
  binWait : List BinTrigger
  ring : List Segment
  missed : Bool
  lossForRec : Nat
deriving DecidableEq, Repr

/-! ### Timing inputs (R249 to R261) -/

/-- A frequency engine (R256, R257): native ns of the gate start, D, index of the next edge, blind edges, and the stored pairs, newest
first. `done` is a gate that has ended and waits for its fit. -/
structure FreqGate where
  startNs : Nat
  d : Nat
  n : Nat
  blind : Nat
  pairs : List (Nat × Stamp)
deriving DecidableEq, Repr

/-- One timing input: the end of its blind interval, its table, and its frequency engine. -/
structure AuxInput where
  blindTo : Stamp
  taps : Taps
  gate : Option FreqGate
  done : Option FreqGate
  level : Bool
deriving DecidableEq, Repr

/-- The timing inputs and the interval unit (R253 to R255): starts not yet decided and stops, with whether they are paired. -/
structure AuxState where
  inputs : List AuxInput
  starts : List Stamp
  stops : List (Stamp × Bool)
  log : List Bytes
  scaleGates : List Int
  scaleRun : Nat
deriving DecidableEq, Repr

/-! ### Calibration (R262 to R283) -/

/-- A region record of a bank (Table CAL-4): native ns, 0.01 °C, complete. -/
structure RegionCal where
  time : Nat
  temp : Int
  complete : Bool
deriving DecidableEq, Repr

/-- A calibration bank: the header's fields and the payload's contents (Tables CAL-3 and CAL-4). Paths and offsets that are not
listed stand for the values at rest. -/
structure CalBank where
  generation : Nat
  writeNs : Nat
  logicTemp : Int
  scalePpb : Int
  scaleSource : Nat
  calref : Nat
  cause : Nat
  regions : List RegionCal
  inputs : List Taps
  paths : List (Nat × PathRec)
  zero : List (Nat × Int)
  subst : List (Nat × Int)
deriving DecidableEq, Repr

/-- The run of one path or input: the passes so far with table and line length, the region reading at its start, when the accumulation
of the pass began, and whether it is deferred (R269, R273). -/
structure CalRun where
  first : Option (List Nat × Nat)
  temp : Int
  began : Nat
  deferred : Bool
deriving DecidableEq, Repr

/-- A passed result that waits for its bank write, with the path (R270). -/
structure CalResult where
  path : Nat
  taps : Taps
deriving DecidableEq, Repr

/-- Calibration: what runs, what waits for the bank, the two slots and the write in progress. `runs` is keyed by path, inputs
at 1088 + n; `todo` are the paths of a cluster still to do in its region run. -/
structure CalState where
  runs : List (Nat × CalRun)
  todo : List (Nat × List Nat)
  queued : Nat
  started : List (Nat × (Nat × Int))
  regions : List RegionCal
  results : List CalResult
  slotA : Option CalBank
  slotB : Option CalBank
  writing : Option CalBank
  retried : Bool
  wanted : List Nat
  fullRun : Bool
  gap : List Nat
  failing : List Nat
  inputAt : List Nat
  zeroMode : Nat
  zeroPos : Nat
  zeroColumns : Nat
  zeroAcc : List (Nat × (Nat × Int × Int))
deriving DecidableEq, Repr

/-! ### Thermal (R285 to R302) -/

/-- A sensor: newest valid reading with its tick, failure, valid readings in a row, and the newest 16 kept readings, newest
first (R287, R295, R301). -/
structure Sensor where
  value : Int
  validAt : Option Nat
  failed : Bool
  validRun : Nat
  gated : Bool
  kept : List (Int × Nat)
deriving DecidableEq, Repr

/-- A throttle target: region 0 to 15 or the board. Times are ticks: since when readings have stayed hot or cool, the last
rise, and the last declared excess. -/
structure Throttle where
  hotSince : Option Nat
  coolSince : Option Nat
  lastRise : Option Nat
  excessAt : Option Nat
deriving DecidableEq, Repr

/-- The thermal unit (R285 to R302): one sensor each by its number, the bands, the throttles of the regions and of the emitter board, the
steps in force, the demands that wait for a Transom slot, and when the schedule and the last release were. -/
structure ThermState where
  sensors : List Sensor
  logicBand : Nat
  thRange : List Nat
  coldHold : Bool
  throttles : List Throttle
  boardKept : List (Int × Nat)
  inForce : List Nat
  step4 : Bool
  step4Cool : Option Nat
  step4Sensor : Option Nat
  hostDemand : Nat
  calDemand : Nat
  nextSched : Nat
  releasedAt : Nat
deriving DecidableEq, Repr

/-! ### Cameras (R351 to R374) -/

/-- A trigger that waits for its frame (R358). -/
structure CamTrigger where
  number : Nat
  atNs : Nat
  tick : Nat
  column : Nat
deriving DecidableEq, Repr

/-- A frame in reception or waiting for its trailer: lines received in order, each with its pixels; `snap` are the values of
objects 0x17 to 0x1F as they stood at its VSYNC edge (R374). -/
structure CamFrame where
  trigger : CamTrigger
  vsync : Stamp
  lines : List (List Nat)
  received : Nat
  surplus : Nat
  syncErr : Bool
  timeout : Bool
  ended : Option Stamp
  dropped : Bool
  waiting : Nat
  reserve : Nat
  snap : List Bytes
deriving DecidableEq, Repr

/-- Statistics of the frame in the pipeline are taken when its trailer is formed; `ref` is the reference frame of R363, empty
for none; `store` are the packets that wait to be offered and sent. -/
structure CamPort where
  trigHigh : Bool
  trigEnd : Nat
  waiting : Option CamTrigger
  nextNs : Nat
  angleNs : List (Nat × Nat)
  frame : Option CamFrame
  ignoring : Bool
  ref : List (Option Nat)
  tnrEmpty : Bool
  memHeld : Bool
  droppedBefore : Nat
  store : List Bytes
  storeStampNs : List Nat
  storeUsed : Nat
deriving DecidableEq, Repr

/-! ### Recorder (R375 to R391) -/

/-- An NVMe command in flight (Table REC-1): kind 0 data write, 1 index write, 2 flush, 3 superblock write. `segments` counts
the segments whose last byte it holds. -/
structure NvmeCmd where
  kind : Nat
  lba : Nat
  data : Bytes
  segments : Nat
  issuedAt : Nat
  retried : Bool
deriving DecidableEq, Repr

/-- The open extent: its data so far, bytes already issued, where its entries start, and the times of its segments. -/
structure OpenExtent where
  extent : Nat
  sequence : Nat
  data : Bytes
  issued : Nat
  starts : List Nat
  firstRecord : Nat
  firstTime : Nat
  lastTime : Nat
  segEnds : List Nat
  closing : Bool
  partialFlag : Bool
deriving DecidableEq, Repr

/-- The recorder. `superStage` is 0 with no superblock update in progress, 1 while its first Flush, 2 while its Write and 3 while its
last Flush is in flight, 4 while the Flush of a power failure is; `superSnap` holds head, oldest, head sequence, next record
and wraps as of the first Flush. `refused` of R381 is counted in MayflyState.lossForRec; `epochKey` is the Kind, PayloadSize and
ScaleSource of the last epoch entry; `rate` holds tick and bytes of the Writes completed within the last second. -/
structure RecState where
  perstHigh : Bool
  resetAt : Nat
  extent : Option OpenExtent
  flight : List NvmeCmd
  extentCount : Nat
  superGen : Nat
  superStage : Nat
  superSnap : List Nat
  superDue : Bool
  superAt : Nat
  headSequence : Nat
  nextRecord : Nat
  wrapCount : Nat
  unrecorded : Nat
  epochKey : Option (Nat × Nat × Nat)
  powerFail : Bool
  rate : List (Nat × Nat)
  smartAt : Nat
  lastRead : Bytes
deriving DecidableEq, Repr

end Sys2Proof.Machine
end

