-- ==== Sys2Proof/Machine/State.lean ====
section
/-!
DEFINITION. The state of the block as plain data, the reasons a step can stop, and the state after reset. Registers and
counters that are objects of the dictionary stand in the store `live`, where an object that is not listed reads as its
default (Dict); state that no object shows stands in the records of the units.
-/

namespace Sys2Proof.Machine

/-- The reasons for which the machine stops with a fault. There are none: the spec gives every abnormal condition an effect
(an event, an abort code, a drop), so nobody raises one. Safe. -/
inductive Fault where
deriving DecidableEq, Repr

/-- The reasons for which a command is refused. -/
inductive Refusal where
  /-- The command has no meaning in the model. Raised by an arm of exec that has not been written; none is left. Safe: the
  model stops where the hardware goes on. -/
  | notModelled (mnemonic : String)
deriving DecidableEq, Repr

/-- What stands in a firmware slot (R422, R426): nothing, the image the device shipped with, or bytes that were written. -/
inductive Image where
  | empty
  | factory
  | written (bytes : Bytes)
deriving DecidableEq, Repr

/-- A slot record with its image (R422, R423): states 0 EMPTY, 1 TRIAL, 2 CONFIRMED, 3 FAILED. -/
structure Slot where
  generation : Nat
  state : Nat
  trials : Nat
  image : Image
deriving DecidableEq, Repr

/-- Device state, reset, clocks and boot (R59 to R63, R414 to R430). `pllLock` has the bits of ClockStatus; `sampled` are
the bootstrap pins of the last release; `identity` is latched at it. -/
structure Device where
  state : DevState
  resetNLow : Bool
  porActive : Bool
  railsLow : List Rail
  nodeId : Nat
  compat : Bool
  safeBoot : Bool
  recovery : Bool
  bootSlot : Nat
  slotA : Slot
  slotB : Slot
  bootTick : Nat
  pllLock : Nat
  identity : Nat
  sensorPowered : Bool
  booted : Bool
deriving DecidableEq, Repr

/-- The state of the block. -/
structure State where
  pending : List Instr
  fresh : Nat
  variant : Variant
  live : Store
  mram : Store
  dev : Device
  time : TimeState
  dtp : DtpState
  grp : GroupState
  spi : SpiState
  ev : EventState
  merge : MergeState
  pair : PairState
  array : ArrayState
  fire : FireState
  charge : ChargeState
  loops : List Loop
  scan : ScanState
  sense : SenseState
  may : MayflyState
  aux : AuxState
  cal : CalState
  therm : ThermState
  cams : List CamPort
  recd : RecState
deriving DecidableEq, Repr

/-! ### Units at rest -/

/-- A filter chain that has had no input. -/
def Chain.rest : Chain :=
  { lines := [], phases := [], ma := [], lastX := 0, primed := false, ovrAge := none, fillAge := none, satAge := none,
    settleLeft := 0, outStamp := 0, outputs := 0 }

/-- A converter at the start of its sequence. -/
def Converter.rest : Converter := { slot := 0, discard := false, resetCause := none, startAt := 0, queue := [] }

/-- The reset code of an output (R196). -/
def resetCode (n : Nat) : Nat := if n < 2 then 0x8000 else 0

/-- A loop in OFF with its output at a code. -/
def Loop.rest (code : Nat) : Loop :=
  { mode := .off, freshMode := false, fromOff := false, target := 0, r := 0, v := 0, a := 0, yPrev := 0, d := 0, i := 0,
    z1 := [0, 0], z2 := [0, 0], satHi := false, satLo := false, residue := 0, rampLeft := 0, code := code, err := 0,
    atTarget := false, inTol := false, intHold := false, hingeGap := false, sensOvr := false, sensFill := false,
    miss := false, limit := false, ovrRun := 0, missRun := 0, tolRun := 0, divider := 0, missedNow := false,
    badSince := none, first := true }

/-- A stream that is disabled. -/
def StreamState.off : StreamState := ⟨false, 0, [], 0⟩

/-- A port without link. -/
def PortState.down : PortState :=
  { linkUp := false, upSince := 0, queue := [], services := [], barred := false, lastFrame := [],
    echoTokens := 0, echoAt := 0 }

/-- A camera port without frame or trigger. -/
def CamPort.rest : CamPort :=
  { trigHigh := false, trigEnd := 0, waiting := none, nextNs := 0, angleNs := [], frame := none, ignoring := false, ref := [],
    tnrEmpty := true, memHeld := false, droppedBefore := 0, store := [], storeStampNs := [], storeUsed := 0 }

/-- A Mayfly engine without history or capture. -/
def MayflyEngine.idle : MayflyEngine := { history := [], capture := none, closedAt := none, deadTime := 0 }

/-- A sensor that has not been read. -/
def Sensor.rest : Sensor := { value := 0, validAt := none, failed := false, validRun := 0, gated := false, kept := [] }

/-- A throttle target at rest. -/
def Throttle.rest : Throttle := { hotSince := none, coolSince := none, lastRise := none, excessAt := none }

/-- A timing input that has seen no edge. -/
def AuxInput.rest : AuxInput := { blindTo := 0, taps := .factory, gate := none, done := none, level := false }

/-- The accumulators at reset: the current sub-sum of each saturated (R156). -/
def govReset : List GovWindow :=
  List.replicate 3 { subs := List.replicate 17 [], saturated := 17, boundaryAt := 0 }

/-! ### Reset -/

/-- The calibration bank with which a device ships: generation 1, cause 0, no stored scale; the tables of its paths and inputs are the
factory's, and no path was found faulty (R452; log entry 9). -/
def CalBank.factory : CalBank :=
  { generation := 1, writeNs := Config.factoryBankNs.toNat, logicTemp := Config.factoryLogicTemp.toInt, scalePpb := 0, scaleSource := 0,
    calref := 0, cause := 0,
    regions := (List.range 16).map (fun r =>
      { time := (Config.factoryRegionNs r).toNat, temp := (Config.factoryRegionTemp r).toInt, complete := true }),
    inputs := List.replicate 9 .factory, paths := [], zero := [], subst := [] }

/-- The device in RESET: every rail up, the power-on reset ended, RESET_N still low. -/
def Device.reset : Device :=
  { state := .reset, resetNLow := true, porActive := false, railsLow := [], nodeId := 0, compat := false, safeBoot := false,
    recovery := false, bootSlot := 0,
    slotA := { generation := 1, state := 2, trials := 0, image := .factory },
    slotB := { generation := 0, state := 0, trials := 0, image := .empty },
    bootTick := 0, pllLock := 0, identity := 0x6400, sensorPowered := false, booted := false }

/-- Native time 0 at the nominal Increment, free-running; the counter stands still until the time PLL runs (R303, R304). -/
def TimeState.reset : TimeState :=
  { running := false, ticks := 0, native := 0, increment := 0x400000000, servo := 0, integ := 0, incRef := 0x400000000, lockRun := 0,
    lockedIncs := [], rate := 0, slewing := false, offsetNow := 0, delays := [], meanDelay := 0, dev := 0,
    requalQ := [], ptpPort := 0, bestMaster := none, announceLog := 0, syncAt := none, delayReqSeq := 0,
    ppsHigh := false, ppsRoseAt := 0, ppsNextSec := 1, ppsAcceptedAt := none, pairSource := false }

/-- No session, no transfer, no failed proof. -/
def DtpState.reset : DtpState :=
  { sessions := [], pending := [], transfers := [], fails := List.replicate 4 0, lockedUntil := List.replicate 4 none, answers := [] }

/-- An empty shadow set, no Knock. -/
def GroupState.reset : GroupState := { shadow := [], changed := [], pendingKnock := none, lastSequence := [], commitWaiting := none }

/-- The SPI status port before its first transaction. -/
def SpiState.reset : SpiState :=
  { snapshots := [0, 0, 0], lastLow := none, addrErr := false, writeRefused := false, alive := 0, aliveAt := 0, safeLatched := false,
    answer := (0, []) }

/-- An empty ring; ALERT_N low (R400). -/
def EventState.reset : EventState :=
  { ring := [], ringFill := 0, opened := 0, openEntries := [], buckets := [], logQueue := [], journal := [], waiting := [], lost := 0,
    overwritten := List.replicate 5 0, discarded := List.replicate 5 0, suppressedCount := List.replicate 5 0, droppedSeen := 0,
    c2LossAt := none, fatal := [], safeByFatal := false, safeWanted := none, alarmLast := [], alarmBy := [], lastSeverity := 0,
    alertLow := true, alertSwitch := none }

/-- No lease, no port up, nothing queued. -/
def MergeState.reset : MergeState :=
  { formed := [], group := 0, ordinal := 0, streams := List.replicate 7 StreamState.off, ports := List.replicate 2 PortState.down,
    episodes := [], markerAt := [], anchorCount := 0, anchorAt := 0, arp := [],
    dhcp := { phase := 0, ip := 0, netMask := 0, gateway := 0, server := 0, leaseSeconds := 0, boundAt := 0, xid := 0 } }

/-- PAIR_OWN and GPIO0 released, the link down (Table PWR-4). -/
def PairState.reset : PairState :=
  { role := 0, phase := 0, linkUp := false, asserts := false, gpio0 := false, netReleased := true, releasedAt := 0, partnerIdentity := 0,
    lastHello := 0, lastHeartbeat := 0, heartbeatSentAt := 0, helloSentAt := 0, checkInAt := none, missRun := 0,
    releaseSeen := false, claimSent := false, claimAcked := false, startWhenReady := false, outSeq := List.replicate 10 0, out := [],
    mirror := (List.range 3).map (fun n => { r := 0, v := 0, a := 0, code := resetCode n, mode := 0, asOf := 0 }), mirrorSeq := 0,
    columns := [], configs := [], synced := false, lostOnce := false }

/-- Every path at rest, no shot, no histogram. -/
def ArrayState.reset : ArrayState :=
  { paths := [], clusters := [], pixels := [], meas := [], mantis := [], results := [], notes := [], rolesDirty := false }

/-- Firing inhibited by STATE (Table EMIT-6), the governor saturated (R156). -/
def FireState.reset : FireState :=
  { banks := [], placed := [], inhibit := 1, released := false, gov := govReset, cell := 0, doseV := 0, safeOffN := true, pfailN := true,
    pfailHighAt := 0, scanValid := false, scanValidAt := 0 }

/-- GDRV low (Table PWR-4). -/
def ChargeState.reset : ChargeState :=
  { switching := false, lowAt := none, warned := false, pendingCount := 0, low := 0, needs := [], csRun := 0, held := [],
    gdrvGate := false, ao3Gate := false }

/-- No trajectory. -/
def ScanState.reset : ScanState :=
  { trackAt := none, columnNo := 0, interval := 0, intervalLeft := 0, boundary := 0, columnEnd := 0, position := 0,
    index := 0, reverse := false, frame := 0, frameStarted := false, running := false, transomFrom := 0, transomTo := 0,
    patternEntry := 0, pendingCmd := none, columnsDone := 0, completed := 0, fitPeriod := 0, fitRef := 0, fitResidual := 0,
    edgeN := 0, edges := [], indexN := 0, indexes := [], peak := 0, peakNow := 0, stall := false, biasSetpoint := 0 }

/-- Converters and chains before their first sample. -/
def SenseState.reset : SenseState :=
  { convs := List.replicate 4 Converter.rest, chains := List.replicate 6 Chain.rest, counts := [], tripped := 0 }

/-- An empty ring. -/
def MayflyState.reset : MayflyState :=
  { engines := List.replicate 16 MayflyEngine.idle, binWait := [], ring := [], missed := false, lossForRec := 0 }

/-- No edge, no interval. -/
def AuxState.reset : AuxState :=
  { inputs := List.replicate 9 AuxInput.rest, starts := [], stops := [], log := [], scaleGates := [], scaleRun := 0 }

/-- No run; the slots are those of MRAM. -/
def CalState.reset : CalState :=
  { runs := [], todo := [], queued := 0, started := [], regions := List.replicate 16 { time := 0, temp := 0, complete := false },
    results := [], slotA := some CalBank.factory, slotB := none, writing := none, retried := false, wanted := [],
    fullRun := false, gap := [], failing := [],
    inputAt := List.replicate 9 0, zeroMode := 0, zeroPos := 0, zeroColumns := 0, zeroAcc := [] }

/-- No reading, every step 0. -/
def ThermState.reset : ThermState :=
  { sensors := List.replicate 23 Sensor.rest, logicBand := 0, thRange := [0, 0], coldHold := false,
    throttles := List.replicate 17 Throttle.rest, boardKept := [], inForce := List.replicate 16 0, step4 := false, step4Cool := none,
    step4Sensor := none, hostDemand := 0, calDemand := 0, nextSched := 0, releasedAt := 0 }

/-- REC_PERST_N low (Table PWR-4). -/
def RecState.reset : RecState :=
  { perstHigh := false, resetAt := 0, extent := none, flight := [], extentCount := 0, superGen := 0, superStage := 0, superSnap := [],
    superDue := false, superAt := 0, headSequence := 0, nextRecord := 0, wrapCount := 0, unrecorded := 0, epochKey := none,
    powerFail := false, rate := [], smartAt := 0, lastRead := [] }

/-- The machine right after a reset: in RESET, every object at its default, as shipped (R416, R417, R427, R452). The next thing to
happen is RESET_RELEASE. Values that the spec does not give are those of log entry 8. -/
def State.reset : State :=
  { pending := [], fresh := 0, variant := .sv, live := [], mram := [], dev := Device.reset, time := TimeState.reset,
    dtp := DtpState.reset, grp := GroupState.reset, spi := SpiState.reset, ev := EventState.reset, merge := MergeState.reset,
    pair := PairState.reset, array := ArrayState.reset, fire := FireState.reset, charge := ChargeState.reset,
    loops := (List.range 4).map (fun n => Loop.rest (resetCode n)), scan := ScanState.reset, sense := SenseState.reset,
    may := MayflyState.reset, aux := AuxState.reset, cal := CalState.reset, therm := ThermState.reset,
    cams := List.replicate 2 CamPort.rest, recd := RecState.reset }

end Sys2Proof.Machine
end

