-- ==== Sys2Proof/Machine/Ops.lean ====
section
/-!
DEFINITION. The named operations that meanings share: reading and writing objects and their stores, time, free values, raising
an event, forming a record, and sending a frame to the partner.
-/

namespace Sys2Proof.Machine

/-! ### Objects -/

/-- The part that a variant is: PartNumber, VariantCode, the presence objects of Table SCOPE-2. -/
def identityBytes (v : Variant) (id : Nat) : Option Bytes :=
  if id = Obj.partNumber then some (leBytes 2 (if v = .fl6412 then 0x6412 else 0x6420))
  else if id = Obj.variantCode then some [if v = .sv then 0x01 else if v = .au then 0x02 else 0x00]
  else if id = Obj.regionsPresent then some (leBytes 2 (if v = .fl6412 then 0x00FF else 0xFFFF))
  else if id = Obj.eth1Present then some [if v = .fl6412 then 0 else 1]
  else if id = Obj.camAPresent then some [if v = .fl6412 then 0 else 1]
  else if id = Obj.camBPresent then some [if v = .sv then 1 else 0]
  else if id = Obj.camPipelinePresent then some [if v = .fl6412 then 0 else 1]
  else if id = Obj.recorderPresent then some [if v = .sv then 1 else 0]
  else none

/-- The dictionary row of an object number. -/
def objDef? (id : Nat) : Option ObjDef := (Dict.at (id / 256)).find? (fun o => o.id == id)

/-- The default of an object (R43). -/
def defaultOf (v : Variant) (id : Nat) : Bytes :=
  match identityBytes v id with
  | some bs => bs
  | none => match objDef? id with
    | some o => o.dflt
    | none => []

/-- An object's value in a store: the entry, or the default where there is none. -/
def Store.get (v : Variant) (st : Store) (id : Nat) : Bytes :=
  match st.find? (fun e => e.1 == id) with
  | some e => e.2
  | none => defaultOf v id

/-- A store with an object's value put into it; a value equal to the default leaves no entry. -/
def Store.put (v : Variant) (st : Store) (id : Nat) (bs : Bytes) : Store :=
  if bs = defaultOf v id then tabDel st id else tabPut st id bs

/-- The live value of an object as it is stored. -/
def State.get (s : State) (id : Nat) : Bytes := Store.get s.variant s.live id

/-- The live value of an object as an unsigned number. -/
def State.u (s : State) (id : Nat) : Nat := leVal (s.get id)

/-- The live value of an object as a two's complement number of its own size. -/
def State.i (s : State) (id : Nat) : Int :=
  let bs := s.get id
  signedOf (8 * bs.length) (leVal bs)

/-- The live value of a BOOL. -/
def State.b (s : State) (id : Nat) : Bool := s.u id != 0

/-- The live value of an F32 as a rational. -/
def State.q (s : State) (id : Nat) : Rat := f32q (s.u id)

/-- The state with an object's live value set. -/
def State.put (s : State) (id : Nat) (bs : Bytes) : State := { s with live := Store.put s.variant s.live id bs }

/-- The size in bytes of an object of fixed size. -/
def objSize (id : Nat) : Nat :=
  match objDef? id with
  | some o => o.ty.sizes.1
  | none => 4

/-- The state with an object's live number set, held to the object's size. -/
def State.setU (s : State) (id n : Nat) : State := s.put id (leBytes (objSize id) n)

/-- The state with an object's live signed number set. -/
def State.setI (s : State) (id : Nat) (n : Int) : State := s.setU id (twosOf (8 * objSize id) n)

/-- The state with a BOOL set. -/
def State.setB (s : State) (id : Nat) (b : Bool) : State := s.setU id (b2n b)

/-- A counter with `n` added; every RO counter wraps. -/
def State.bump (s : State) (id n : Nat) : State := if n = 0 then s else s.setU id (s.u id + n)

/-- A number of `w` bytes at offset `off` of a DOMAIN. -/
def State.word (s : State) (id w off : Nat) : Nat := numAt off w (s.get id)

/-- A number of `w` bytes at offset `off` of a DOMAIN set. -/
def State.setWord (s : State) (id w off n : Nat) : State := s.put id (patch off (leBytes w n) (s.get id))

/-- A counter inside a DOMAIN with `n` added; it wraps. -/
def State.bumpWord (s : State) (id w off n : Nat) : State :=
  if n = 0 then s else s.setWord id w off (s.word id w off + n)

/-- The object's value copied to MRAM (R46). -/
def State.persist (s : State) (id : Nat) : State :=
  { s with mram := Store.put s.variant s.mram id (s.get id) }

/-- A stored RO value set, in MRAM too. -/
def State.setStored (s : State) (id n : Nat) : State := (s.setU id n).persist id

/-! ### Fitted units (R1, R3, R4) -/

/-- Regions fitted: 16, or 8 on the FL6412. -/
def Variant.regions : Variant → Nat
  | .fl6412 => 8
  | _ => 16

/-- Ethernet ports fitted. -/
def Variant.ports : Variant → Nat
  | .fl6412 => 1
  | _ => 2

/-- Camera ports fitted. -/
def Variant.cams : Variant → Nat
  | .sv => 2
  | .au => 1
  | .fl6412 => 0

/-- Whether a path (channel or Scarab) is fitted (Table SCOPE-1). -/
def Variant.hasPath (v : Variant) (p : Nat) : Bool :=
  if p < 1024 then p / 64 < v.regions else (p - 1024) / 4 < v.regions && p < 1088

/-- The cluster of a path (R9). -/
def clusterOf (p : Nat) : Nat := if p < 1024 then p / 16 else p - 1024

/-- The region of a path (R9). -/
def regionOf (p : Nat) : Nat := if p < 1024 then p / 64 else (p - 1024) / 4

/-! ### Time (R303 to R306, R38) -/

/-- One second in ticks of the time counter. -/
def tickHz : Nat := 250000000

/-- Milliseconds and microseconds in ticks. -/
def msTicks (n : Nat) : Nat := n * 250000
def usTicks (n : Nat) : Nat := n * 250

/-- The limit of native time: 48-bit seconds, in 2^-32 ns (R303). -/
def nativeLimit : Nat := 2 ^ 48 * 1000000000 * 4294967296

/-- Native time in ns since native time 0. -/
def State.nowNs (s : State) : Nat := s.time.native / 4294967296

/-- A time in ns as TIME80 (Table DICT-2). -/
def time80 (ns : Nat) : Bytes := leBytes 6 (ns / 1000000000) ++ leBytes 4 (ns % 1000000000)

/-- The ns that a TIME80 stands for. -/
def ofTime80 (bs : Bytes) : Nat := numAt 0 6 bs * 1000000000 + numAt 6 4 bs

/-- The stamp of the present tick (R86). -/
def State.nowStamp (s : State) : Stamp := s.time.ticks * 320

/-- Native time in 2^-32 ns at a stamp, refined below the tick by the tick's own phase (R304). -/
def State.nativeAt (s : State) (t : Stamp) : Nat :=
  let n : Int := s.time.native + ((t : Int) - s.nowStamp) * s.time.increment / 320
  n.toNat

/-- Native ns at a stamp. -/
def State.nsAt (s : State) (t : Stamp) : Nat := s.nativeAt t / 4294967296

/-- `n` ticks of the time counter: CompatTicks counts them and native time gains the increment at each (R303, R306). -/
def State.elapse (s : State) (n : Nat) : State :=
  { s with time := { s.time with ticks := s.time.ticks + n,
                                 native := (s.time.native + n * s.time.increment) % nativeLimit } }

/-- Time run to a tick: forward to it when it lies ahead and the time PLL runs, and not at all otherwise. -/
def State.runTo (s : State) (tick : Nat) : State :=
  if s.time.running ∧ s.time.ticks < tick then s.elapse (tick - s.time.ticks) else s

/-- Time run to the tick in which a stamp lies. -/
def State.runToStamp (s : State) (t : Stamp) : State := s.runTo (t / 320)

/-- The first tick at which native time is at or after `ns`, at the increment in force. -/
def State.tickOfNs (s : State) (ns : Nat) : Nat :=
  let goal := ns * 4294967296
  if s.time.native ≥ goal ∨ s.time.increment = 0 then s.time.ticks
  else s.time.ticks + ceilDiv (goal - s.time.native) s.time.increment

/-! ### Free values -/

/-- The next free value, and the state with its count taken. -/
def State.draw (s : State) : Nat × State := (Config.freeValue s.fresh, { s with fresh := s.fresh + 1 })

/-- `n` random bytes. -/
def State.drawBytes (s : State) : Nat → Bytes × State
  | 0 => ([], s)
  | n + 1 =>
    let (x, s1) := s.draw
    let (bs, s2) := s1.drawBytes n
    (BitVec.ofNat 8 x :: bs, s2)

/-! ### MRAM (R46, R294) -/

/-- Whether MRAM can be written, and the code that refuses when it cannot: the junction outside the write band, or PFAIL_N
asserted (R46). -/
def State.mramRefusal (s : State) : Abort :=
  if !s.fire.pfailN then Abort.powerFail
  else if !s.b Obj.mramWriteAllowed then Abort.mramBand
  else Abort.ok

/-! ### Records (R25, R331 to R337) -/

/-- A record formed into a stream, to enter the merge. A disabled stream forms none (R332), and nothing enters before the end of
BOOT (R453). `stamp` is in native ns. -/
def State.form (s : State) (stream rtype cls source order stamp : Nat) (body : Bytes) (tag : Nat := 0) : State :=
  if s.dev.booted ∧ (getAt s.merge.streams stream ⟨false, 0, [], 0⟩).enabled then
    { s with merge := { s.merge with formed := s.merge.formed ++
        [{ group := s.merge.group, stream := stream, rtype := rtype, cls := cls, source := source, order := order,
           stamp := stamp, tag := tag, body := body }] } }
  else s

/-- A state record of the C0 stream (Table STRM-7): kind and data, stamped with the present (Table ARCH-9). -/
def State.formState (s : State) (kind : Nat) (data : Bytes) : State :=
  s.form 0 0x06 0 0 0 s.nowNs (BitVec.ofNat 8 kind :: 0 :: 0 :: 0 :: data)

/-! ### Events (R392 to R398) -/

/-- The flags byte of an entry (Table FAULT-1). -/
def EventEntry.flags (e : EventEntry) : Nat :=
  b2n (decide (e.repeats > 1)) + 2 * b2n e.journaled + 4 * b2n e.cleared

/-- The 32 bytes of an entry (Table FAULT-1). -/
def EventEntry.bytes (e : EventEntry) : Bytes :=
  leBytes 6 e.sec ++ leBytes 4 e.ns ++ leBytes 2 e.code ++ leBytes 2 e.source ++
    [BitVec.ofNat 8 e.severity, BitVec.ofNat 8 e.flags] ++
    leBytes 4 e.number ++ leBytes 2 e.repeats ++ leBytes 2 e.suppressed ++ leBytes 8 e.data

/-- The 40 bytes of a journal entry (R397). -/
def JournalEntry.bytes (j : JournalEntry) : Bytes :=
  let bs := j.entry.bytes ++ leBytes 4 j.bootCount
  bs ++ leBytes 4 (crc32 bs)

/-- Whether an entry has a key (R394). -/
def EventEntry.hasKey (e : EventEntry) (code source data : Nat) (cleared : Bool) : Bool :=
  e.code == code && e.source == source && e.data == data && e.cleared == cleared

/-- Ticks for which an entry is open (R394). -/
def entryOpen : Nat := 2500000

/-- Entries of the event ring (R396). -/
def ringSize : Nat := 8192

/-- The slot of the ring entry of a severity whose number is least or greatest, if the ring holds one. -/
def pickSlot (ring : List (Nat × EventEntry)) (sev : Nat) (newest : Bool) : Option Nat :=
  (ring.foldl (fun (best : Option (Nat × Nat)) e =>
    if e.2.severity = sev then
      match best with
      | none => some (e.1, e.2.number)
      | some b => if (newest && decide (e.2.number > b.2)) || (!newest && decide (e.2.number < b.2))
                  then some (e.1, e.2.number) else some b
    else best) none).map (fun b => b.1)

/-- The slot that a new entry takes in a full ring (Table FAULT-4): the first that exists. -/
def slotInFull (ring : List (Nat × EventEntry)) (sev : Nat) : Option Nat :=
  let tries : List (Nat × Bool) :=
    if sev = 0 then [(0, false)]
    else if sev = 1 then [(0, false), (1, false)]
    else if sev = 2 then [(0, false), (1, false), (2, false)]
    else if sev = 3 then [(0, false), (1, false), (3, true)]
    else [(0, false), (1, false), (3, true), (4, true)]
  tries.findSome? (fun t => pickSlot ring t.1 t.2)

/-- The ring with a new entry (R396). -/
def EventState.ringPut (ev : EventState) (e : EventEntry) : EventState :=
  if ev.ringFill < ringSize then
    { ev with ring := tabPut ev.ring ev.ringFill e, ringFill := ev.ringFill + 1 }
  else match slotInFull ev.ring e.severity with
    | some k =>
      let old := (tabGet ev.ring k e).severity
      { ev with ring := tabPut ev.ring k e, overwritten := modAt ev.overwritten old (· + 1) }
    | none => { ev with discarded := modAt ev.discarded e.severity (· + 1) }

/-- Journal entries (R397). -/
def journalSize : Nat := 1024

/-- The place of the newest journal entry of the same or lower severity among Error and Fatal. -/
def journalVictim (js : List JournalEntry) (sev : Nat) : Option Nat :=
  ((js.zipIdx.reverse.find? (fun p => p.1.entry.severity ≤ sev)).map (fun p => p.2))

/-- The journal with an entry written; how many entries were dropped (R397). -/
def journalPut (js : List JournalEntry) (j : JournalEntry) : List JournalEntry × Nat :=
  if js.length < journalSize then (js ++ [j], 0)
  else match journalVictim js j.entry.severity with
    | some k => (js.eraseIdx k ++ [j], 1)
    | none => (js, 1)

/-- JournalDropped with `n` added (R397, R398); it is a stored object. -/
def State.dropJournal (s : State) (n : Nat) : State :=
  if n = 0 then s
  else
    let s1 := s.bump Obj.journalDropped n
    if s1.mramRefusal = Abort.ok then s1.persist Obj.journalDropped else s1

/-- An Error or Fatal entry sent to the journal: written, or waiting while MRAM refuses, up to 64 (R397, R398). -/
def State.journalAdd (s : State) (e : EventEntry) : State :=
  let j : JournalEntry := { entry := e, bootCount := s.u Obj.bootCount, crcGood := true }
  if s.mramRefusal = Abort.ok ∧ s.ev.waiting = [] then
    let (js, n) := journalPut s.ev.journal j
    { s with ev := { s.ev with journal := js } }.dropJournal n
  else if s.ev.waiting.length < 64 then
    { s with ev := { s.ev with waiting := s.ev.waiting ++ [j] } }
  else { s with ev := { s.ev with lost := s.ev.lost + 1 } }.dropJournal 1

/-- Tokens that a bucket holds now, in 1/250,000,000 of a token (R395). -/
def Bucket.refilled (b : Bucket) (now rate burst : Nat) : Nat :=
  satNat (burst * tickHz) (b.tokens + (now - b.asOf) * rate)

/-- The bucket of a key, a full one where there is none (R395). -/
def State.bucketOf (s : State) (code source data : Nat) (cleared : Bool) : Bucket :=
  match s.ev.buckets.find? (fun b => b.code == code && b.source == source && b.data == data && b.cleared == cleared) with
  | some b => { b with tokens := b.refilled s.time.ticks (s.u Obj.rateLimit) (s.u Obj.rateBurst), asOf := s.time.ticks }
  | none => { code := code, source := source, data := data, cleared := cleared,
              tokens := s.u Obj.rateBurst * tickHz, asOf := s.time.ticks, suppressed := 0 }

/-- A bucket put back as the most recently used of 256 (R395). -/
def EventState.bucketPut (ev : EventState) (b : Bucket) : EventState :=
  let rest := ev.buckets.filter (fun c =>
    !(c.code == b.code && c.source == b.source && c.data == b.data && c.cleared == b.cleared))
  { ev with buckets := (b :: rest).take 256 }

/-- A repeat merged into the open entry of its key, in the ring too (R394). -/
def EventState.repeatOpen (ev : EventState) (number : Nat) : EventState :=
  let up (e : EventEntry) : EventEntry :=
    if e.number = number then { e with repeats := satNat 65535 (e.repeats + 1) } else e
  { ev with openEntries := ev.openEntries.map up, ring := ev.ring.map (fun p => (p.1, up p.2)) }

/-- An entry opened: it takes its number, a ring slot, a place in the journal when Error or Fatal, and LastFaultCode (R392,
R396, R397, 0x1400:05). -/
def State.openEntry (s : State) (code source sev data : Nat) (cleared : Bool) (suppressed : Nat) : State :=
  let e : EventEntry :=
    { sec := s.nowNs / 1000000000, ns := s.nowNs % 1000000000, code := code, source := source, severity := sev,
      cleared := cleared, journaled := decide (sev ≥ 3), number := s.ev.opened % 4294967296, repeats := 1,
      suppressed := satNat 65535 suppressed, data := data, openedAt := s.time.ticks }
  let s1 := { s with ev := { s.ev.ringPut e with opened := s.ev.opened + 1,
                                                 openEntries := s.ev.openEntries ++ [e] } }
  let s2 := s1.setU Obj.eventHead e.number
  if sev ≥ 3 then (s2.setU Obj.lastFaultCode (code + 65536 * source)).journalAdd e else s2

/-- The alarm bits (Table FAULT-5) whose condition an event code and severity tell of (Table FAULT-3). -/
def alarmBits (code sev : Nat) : List Nat :=
  (if sev = 4 then [0] else []) ++
  (if code / 256 = 0x02 then [2]
   else if code = 0x0302 ∨ code = 0x0303 ∨ code = 0x0306 ∨ code = 0x0307 then [1]
   else if code = 0x0601 then [6]
   else if code = 0x0603 then [4, 5]
   else if code = 0x0702 then [14]
   else if code = 0x0801 then [7]
   else if code = 0x0901 then [10]
   else if code = 0x0C03 then [13]
   else if code = 0x0D02 then [12]
   else if code = 0x0E03 then [15]
   else [])

/-- An event taken down as the newest of its alarms. -/
def EventState.noteAlarm (ev : EventState) (code source sev data : Nat) : EventState :=
  { ev with alarmLast := (alarmBits code sev).foldl (fun t k => tabPut t k (code, source, sev, data)) ev.alarmLast }

/-- An event raised (R392 to R397): below RingMinSeverity it leaves no trace; a key with an open entry repeats it; a key
without a token is suppressed unless Fatal; otherwise an entry opens. -/
def State.eventEnter (s : State) (code source sev data : Nat) (cleared : Bool) : State :=
  if sev < s.u Obj.ringMinSeverity then s
  else match s.ev.openEntries.find? (fun e => e.hasKey code source data cleared && s.time.ticks < e.openedAt + entryOpen) with
    | some e => { s with ev := s.ev.repeatOpen e.number }
    | none =>
      let b := s.bucketOf code source data cleared
      if b.tokens ≥ tickHz ∨ sev = 4 then
        let b' := { b with tokens := b.tokens - tickHz, suppressed := 0 }
        { s with ev := s.ev.bucketPut b' }.openEntry code source sev data cleared b.suppressed
      else
        let b' := { b with suppressed := satNat 65535 (b.suppressed + 1) }
        { s with ev := { s.ev.bucketPut b' with
            suppressedCount := modAt s.ev.suppressedCount sev (· + 1) } }

/-- An event raised, and taken down for the alarm that it starts. -/
def State.raise (s : State) (code source sev data : Nat) : State :=
  ({ s with ev := s.ev.noteAlarm code source sev data }).eventEnter code source sev data false

/-- A Fatal event: raised, kept as a cause until it ends, and the device is to enter SAFE (R63, R393). -/
def State.fatal (s : State) (code source data : Nat) : State :=
  let s1 := s.raise code source 4 data
  { s1 with ev := { s1.ev with fatal := if s1.ev.fatal.contains code then s1.ev.fatal else s1.ev.fatal ++ [code],
                               safeWanted := some code } }

/-! ### Refusals and loss markers (R338, R344, R345) -/

/-- A refusal added to the episode of its key, or a new episode (R345). -/
def State.episodeAdd (s : State) (stream cls reason port seq : Nat) : State :=
  let es := s.merge.episodes
  let hit (e : Episode) : Bool := e.stream == stream && e.cls == cls && e.reason == reason && e.port == port
  let es' := if es.any hit then
      es.map (fun e => if hit e then { e with count := e.count + 1, lastSeq := seq, lastNs := s.nowNs } else e)
    else es ++ [{ stream := stream, cls := cls, reason := reason, port := port, count := 1, firstSeq := seq, lastSeq := seq,
                  firstNs := s.nowNs, lastNs := s.nowNs, firstAt := s.time.ticks }]
  { s with merge := { s.merge with episodes := es' } }

/-- The body of a loss marker (Table STRM-8). -/
def Episode.body (e : Episode) : Bytes :=
  [BitVec.ofNat 8 e.cls, BitVec.ofNat 8 e.reason, BitVec.ofNat 8 e.port, 0] ++ leBytes 4 e.count ++ leBytes 4 e.firstSeq ++
    leBytes 4 e.lastSeq ++ leBytes 4 (satNat 0xFFFFFFFF (e.lastNs - e.firstNs))

/-- The key of an episode. -/
def Episode.key (e : Episode) : Nat × Nat × Nat × Nat := (e.stream, e.cls, e.reason, e.port)

/-- The marker of an episode formed, unless one with its key was formed less than MarkerInterval ago (R345). -/
def State.formMarker (s : State) (e : Episode) : State :=
  let held := s.merge.markerAt.any (fun m => m.1 == e.key && decide (s.time.ticks < m.2 + usTicks (s.u Obj.markerInterval)))
  if held ∨ !(getAt s.merge.streams e.stream ⟨false, 0, [], 0⟩).enabled then s
  else
    let s1 := s.form e.stream 0x07 0 1 0 e.firstNs e.body
    { s1 with merge := { s1.merge with
        episodes := s1.merge.episodes.filter (fun d => d.key != e.key),
        markerAt := (e.key, s.time.ticks) :: s1.merge.markerAt.filter (fun m => m.1 != e.key) } }.bump Obj.lossMarkerCount 1

/-! ### Frames to the partner (R404) -/

/-- A frame sent to the partner under its type's next sequence; only while the link is up. -/
def State.pairSend (s : State) (kind : Nat) (payload : Bytes) : State :=
  if s.pair.linkUp ∧ s.pair.role ≠ 0 then
    let n := getAt s.pair.outSeq kind 0
    { s with pair := { s.pair with outSeq := setAt s.pair.outSeq kind ((n + 1) % 4294967296),
                                   out := s.pair.out ++ [⟨kind, n, payload⟩] } }
  else s

end Sys2Proof.Machine
end

