-- ==== Sys2Proof/Machine/Frames.lean ====
section
/-!
DEFINITION. Frames on the Ethernet ports from the destination address to the last byte before the frame check: Ethernet header
with VLAN tag, IPv4, UDP, and the messages of the network services (R328 to R330). What R328 to R330 do not say of these
layouts is PRESUMED from the standards they name (assumption 30).
-/

namespace Sys2Proof.Machine

/-- Whether a port's link is up. -/
def State.portUp (s : State) (p : Nat) : Bool := match s.merge.ports[p]? with | some x => x.linkUp | none => false

/-- The 16-bit words, most significant byte first, that bytes hold, summed. -/
def sum16 : Bytes → Nat
  | [] => 0
  | [a] => a.toNat * 256
  | a :: b :: rest => a.toNat * 256 + b.toNat + sum16 rest

/-- The Internet checksum. -/
def inetSum (bs : Bytes) : Nat :=
  let x := sum16 bs
  let y := x % 65536 + x / 65536
  let z := y % 65536 + y / 65536
  65535 - z % 65536

/-- An IPv4 datagram with DF set, TTL 64, DSCP 0 and no options (R329). -/
def ipPacket (proto src dst : Nat) (payload : Bytes) : Bytes :=
  let head (sum : Nat) : Bytes := [0x45, 0] ++ beBytes 2 (20 + payload.length) ++ [0, 0, 0x40, 0, 64, BitVec.ofNat 8 proto] ++
    beBytes 2 sum ++ beBytes 4 src ++ beBytes 4 dst
  head (inetSum (head 0)) ++ payload

/-- A UDP datagram in its IPv4 datagram. -/
def udpPacket (src dst sport dport : Nat) (payload : Bytes) : Bytes :=
  let n := 8 + payload.length
  let seg (sum : Nat) : Bytes := beBytes 2 sport ++ beBytes 2 dport ++ beBytes 2 n ++ beBytes 2 sum ++ payload
  let sum := inetSum (beBytes 4 src ++ beBytes 4 dst ++ [0, 17] ++ beBytes 2 n ++ seg 0)
  ipPacket 17 src dst (seg (if sum = 0 then 65535 else sum))

/-- Whether an IPv4 address is a multicast group. -/
def isGroup (ip : Nat) : Bool := decide (ip / 2 ^ 28 % 16 = 14)

/-- The hardware address of an IPv4 group (R329). -/
def groupMac (ip : Nat) : Nat := 0x01005E000000 + ip % 2 ^ 23

/-- The hardware address of all stations. -/
def broadcastMac : Nat := 0xFFFFFFFFFFFF

/-- The MAC address of a port (R328). -/
def portMac (p : Nat) : Nat := (Config.macAddress.toNat + p) % 2 ^ 48

/-- A frame of a port: destination, source, the tag of R330 with its priority (none for an 802.1AS frame), type, payload. -/
def State.ethFrame (s : State) (p dst : Nat) (pcp : Option Nat) (etherType : Nat) (payload : Bytes) : Bytes :=
  let vid := s.u (Obj.portVlanId p)
  let tag : Bytes := match pcp with
    | some c => if 1 ≤ vid ∧ vid ≤ 4094 then [0x81, 0x00] ++ beBytes 2 (c * 8192 + vid) else []
    | none => []
  beBytes 6 dst ++ beBytes 6 (portMac p) ++ tag ++ beBytes 2 etherType ++ payload

/-- The priority code points of ClassPcp: classes 0 to 5, 6 DTP responses, 7 UDP PTP (R330). The services of R328 and R329 take
that of DTP responses, with which they share a level. -/
def State.pcp (s : State) (k : Nat) : Nat := s.word Obj.classPcp 1 k

/-- A frame that is no output record queued on a port, with its level of R339 (1 PTP event, 3 responses and services). -/
def State.service (s : State) (port level : Nat) (frame : Bytes) : State :=
  if s.portUp port then
    { s with merge := { s.merge with ports := modAt s.merge.ports port (fun p =>
        { p with services := p.services ++ [⟨level, frame⟩] }) } }
  else s

/-- A PTP message sent: UDP to 224.0.1.129 under profile 0, layer 2 and untagged under profile 1 (Table TIME-2, R330). -/
def State.ptpSend (s : State) (port : Nat) (event : Bool) (msg : Bytes) : State :=
  let level := if event then 1 else 3
  if s.u Obj.ptpProfile = 0 then
    let group := 0xE0000181
    let udp := if event then 319 else 320
    s.service port level (s.ethFrame port (groupMac group) (some (s.pcp 7)) 0x0800
      (udpPacket (s.u Obj.ipNow) group udp udp msg))
  else s.service port level (s.ethFrame port 0x0180C200000E none 0x88F7 msg)

/-- An ARP packet: operation 1 request, 2 reply. -/
def arpPacket (op smac sip tmac tip : Nat) : Bytes :=
  [0, 1, 8, 0, 6, 4] ++ beBytes 2 op ++ beBytes 6 smac ++ beBytes 4 sip ++ beBytes 6 tmac ++ beBytes 4 tip

/-- An ARP packet of a port queued, to a hardware address. -/
def State.arpSend (s : State) (port dst op tmac tip : Nat) : State :=
  s.service port 3 (s.ethFrame port dst (some (s.pcp 6)) 0x0806 (arpPacket op (portMac port) (s.u Obj.ipNow) tmac tip))

/-- A gratuitous ARP on a port, while the device has an address (R329). -/
def State.arpGratuitous (s : State) (port : Nat) : State :=
  if s.u Obj.ipNow = 0 then s else s.arpSend port broadcastMac 1 0 (s.u Obj.ipNow)

/-- An ARP request for an address on a port. -/
def State.arpAsk (s : State) (port ip : Nat) : State := s.arpSend port broadcastMac 1 0 ip

/-- The groups that the device receives (R329). -/
def State.groups (s : State) : List Nat :=
  (if isGroup (s.u Obj.knockMcastAddr) then [s.u Obj.knockMcastAddr] else []) ++
    (if s.u Obj.ptpProfile = 0 then [0xE0000181] else [])

/-- An IGMPv2 membership report for a group on a port (R329). -/
def State.igmpReport (s : State) (port group : Nat) : State :=
  let msg (sum : Nat) : Bytes := [0x16, 0] ++ beBytes 2 sum ++ beBytes 4 group
  s.service port 3 (s.ethFrame port (groupMac group) (some (s.pcp 6)) 0x0800
    (ipPacket 2 (s.u Obj.ipNow) group (msg (inetSum (msg 0)))))

/-- Membership reports for every group on a port. -/
def State.igmpReports (s : State) (port : Nat) : State :=
  s.groups.foldl (fun (s : State) g => s.igmpReport port g) s

/-- A DHCP message of the client (R328): 1 DISCOVER, 3 REQUEST, with option 50 and, where given, option 54. -/
def State.dhcpMessage (s : State) (port kind ciaddr : Nat) (ask server : Option Nat) : Bytes :=
  let opt (code : Nat) (v : Option Nat) : Bytes := match v with
    | some x => [BitVec.ofNat 8 code, 4] ++ beBytes 4 x
    | none => []
  [1, 1, 6, 0] ++ beBytes 4 s.merge.dhcp.xid ++ [0, 0, 0, 0] ++ beBytes 4 ciaddr ++ List.replicate 12 0 ++ beBytes 6 (portMac port) ++
    List.replicate 202 0 ++ [0x63, 0x82, 0x53, 0x63, 53, 1, BitVec.ofNat 8 kind] ++ opt 50 ask ++ opt 54 server ++ [255]

/-- The lowest-numbered port that has link (R328). -/
def State.dhcpPort (s : State) : Option Nat := (List.range 2).find? (fun p => s.portUp p)

/-- A DHCP message sent by broadcast, or by unicast to the bound server. -/
def State.dhcpSend (s : State) (kind : Nat) (ask server : Option Nat) (unicast : Bool) : State :=
  match s.dhcpPort with
  | none => s
  | some p =>
    let d := s.merge.dhcp
    let src := if d.phase = 2 then d.ip else 0
    let msg := s.dhcpMessage p kind src ask server
    let mac := if unicast then (Config.peerMac (BitVec.ofNat 32 d.server)).toNat else broadcastMac
    let dst := if unicast then d.server else 0xFFFFFFFF
    s.service p 3 (s.ethFrame p mac (some (s.pcp 6)) 0x0800 (udpPacket src dst 68 67 msg))

end Sys2Proof.Machine
end

