-- ==== Sys2Proof/Machine/Channel.lean ====
section
/-!
DEFINITION. Receiver channels (R72 to R109): the settings in force, the Louvre gate, the Shutter, the TDC, blind periods,
channel faults, and the Scarab crossbar with its roles.
-/

namespace Sys2Proof.Machine

/-! ### Records of paths and clusters -/

/-- A path's record where none is listed: on its own path or idle, with the factory's tables. -/
def PathRec.rest (p : Nat) : PathRec :=
  { role := if p < 1024 then 0x0 else 0x8, fault := 0, faultNative := 0, suspect := false, fails := 0, taps := .factory }

def State.path (s : State) (p : Nat) : PathRec := tabGet s.array.paths p (PathRec.rest p)

def State.setPath (s : State) (p : Nat) (x : PathRec) : State :=
  { s with array := { s.array with paths := if x = PathRec.rest p then tabDel s.array.paths p else tabPut s.array.paths p x } }

def Cluster.rest : Cluster := { served := none, causes := [], settling := false, settleFrom := 0 }

def State.cluster (s : State) (k : Nat) : Cluster := tabGet s.array.clusters k Cluster.rest

def State.setCluster (s : State) (k : Nat) (c : Cluster) : State :=
  { s with array := { s.array with clusters := if c = Cluster.rest then tabDel s.array.clusters k
                                               else tabPut s.array.clusters k c } }

/-- Roles that a bank stores (R105): the others are stored as at rest. -/
def storedRole (r : Nat) : Bool := [0x2, 0x3, 0x4, 0xA, 0xB].contains r

/-- A path's role changed; a change of a stored role asks for a bank write with Cause 7 (R105). -/
def State.setRole (s : State) (p role : Nat) : State :=
  let x := s.path p
  let dirty := (storedRole x.role || storedRole role) && x.role != role
  let s1 := s.setPath p { x with role := role }
  { s1 with array := { s1.array with rolesDirty := s1.array.rolesDirty || dirty } }

/-! ### Settings in force (R76, R82, R93) -/

/-- Throttle step in force of a region (R298). -/
def State.stepOf (s : State) (r : Nat) : Nat := getAt s.therm.inForce r 0

/-- A region disabled by the throttle at step 3 or 4 (R20, R149). -/
def State.regionOff (s : State) (r : Nat) : Bool := s.stepOf r ≥ 3

/-- The band of a region, 0 to 4 (R292). -/
def State.bandOf (s : State) (r : Nat) : Nat := s.word Obj.regionBand 1 r

/-- Coarse bin width B in LSB (R118). -/
def State.binLsb (s : State) : Nat := 64 * 2 ^ s.u Obj.coarseBinWidth

/-- Zoom bin width Z in LSB (R118). -/
def State.zoomLsb (s : State) : Nat := 8 * 2 ^ s.u Obj.zoomBinWidth

/-- Histogram window length in coarse ticks (R82). -/
def State.windowTicks (s : State) : Nat := 1024 * 2 ^ s.u Obj.coarseBinWidth

/-- Louvre depth mode of a channel: 1 fixed, 2 adaptive (R76). -/
def State.depthMode (s : State) (ch : Nat) : Nat :=
  let m := s.u (Obj.chLouvreDepthMode ch)
  if m = 0 then s.u Obj.louvreDepthMode else m

/-- Fixed depth of a channel (R76). -/
def State.fixedDepth (s : State) (ch : Nat) : Nat :=
  if s.u (Obj.chLouvreDepthMode ch) = 1 then s.u (Obj.chLouvreDepthFixed ch) else s.u Obj.louvreDepthFixed

/-- Louvre window code of a channel, 0.1 ns (R76). -/
def State.louvreWindow (s : State) (ch : Nat) : Nat :=
  let w := s.u (Obj.chLouvreWindow ch)
  if w = 0 then s.u Obj.louvreWindow else w

/-- Hold-off code of a channel: its own, or that of its region's band (R93). -/
def State.holdOffOf (s : State) (ch : Nat) : Nat :=
  let h := s.u (Obj.chHoldOff ch)
  if h ≠ 0 then h
  else s.u (getAt [Obj.holdOffB0, Obj.holdOffB1, Obj.holdOffB2, Obj.holdOffB3, Obj.holdOffB4] (s.bandOf (ch / 64)) Obj.holdOffB4)

/-- Shutter of a channel in coarse ticks, open and close, with 0 read as the window length (R82). -/
def State.shutterOf (s : State) (ch : Nat) : Nat × Nat :=
  let own := s.b (Obj.chShutterOverride ch)
  let o := if own then s.u (Obj.chShutterOpen ch) else s.u Obj.shutterOpen
  let c := if own then s.u (Obj.chShutterClose ch) else s.u Obj.shutterClose
  (o, if c = 0 then s.windowTicks else c)

/-- The path that serves a channel's pixel (0x02 ServedBy): its own, its cluster's Scarab, or none. -/
def State.servingPath (s : State) (ch : Nat) : Option Nat :=
  if s.regionOff (ch / 64) then none
  else match (s.path ch).role with
    | 0x0 => some ch
    | 0x1 | 0x2 => some (1024 + ch / 16)
    | _ => none

/-- The channel whose pixel a path serves. -/
def State.servedChannel (s : State) (p : Nat) : Option Nat :=
  if p < 1024 then (if s.servingPath p = some p then some p else none)
  else match (s.cluster (p - 1024)).served with
    | some ch => if s.servingPath ch = some p then some ch else none
    | none => none

/-- The measuring half of a path as it is before it has measured, with the settings of a channel latched. -/
def State.measRest (s : State) (ch : Nat) : PathMeas :=
  { holdOff := s.holdOffOf ch, openTick := (s.shutterOf ch).1, closeTick := (s.shutterOf ch).2,
    blindFrom := 0, blindTo := 0, blindSum := 0, kept := 0, code64 := 0, convs := [], openSlots := [], bufs := [],
    ignoreBefore := 0 }

def State.meas (s : State) (p : Nat) : PathMeas :=
  tabGet s.array.meas p (s.measRest (if p < 1024 then p else ((s.cluster (p - 1024)).served).getD (16 * (p - 1024))))

def State.setMeas (s : State) (p : Nat) (m : PathMeas) : State :=
  { s with array := { s.array with meas := tabPut s.array.meas p m } }

/-- A pixel before its first column: the fixed depth in force. -/
def State.pixelRest (s : State) (ch : Nat) : Pixel :=
  { fires := [], activeUntil := 0, depth := s.fixedDepth ch, nextDepth := s.fixedDepth ch,
    adaptive := false, hold := 0, window := s.louvreWindow ch, edges := 0, saturated := false }

def State.pixel (s : State) (ch : Nat) : Pixel := tabGet s.array.pixels ch (s.pixelRest ch)

def State.setPixel (s : State) (ch : Nat) (x : Pixel) : State :=
  { s with array := { s.array with pixels := tabPut s.array.pixels ch x } }

/-! ### Banks and shots -/

def Bank.rest : Bank :=
  { x := 0, nextSlot := 0, shots := 0, nextEdge := 0, base := 0, dither := 0, width := 0, dropped := false, queue := [],
    fired := [], planned := [], inhibitedSlots := 0, exceptions := [], sampled := false, pulseEnd := 0 }

def State.bank (s : State) (b : Nat) : Bank := tabGet s.fire.banks b Bank.rest

def State.setBank (s : State) (b : Nat) (x : Bank) : State :=
  { s with fire := { s.fire with banks := tabPut s.fire.banks b x } }

/-- Open and close edges of a path's Shutter for a shot (R82). -/
def PathMeas.shutter (m : PathMeas) (j : Shot) : Stamp × Stamp :=
  ((j.fire / 64 + m.openTick) * 64, (j.fire / 64 + m.closeTick) * 64)

/-- Whether a stamp lies in the Shutter of a shot. -/
def PathMeas.within (m : PathMeas) (j : Shot) (t : Stamp) : Bool :=
  let e := m.shutter j
  decide (e.1 ≤ t) && decide (t < e.2)

/-- Whether the TDC input is enabled for a shot at an instant: 0.1 ns before the open edge to 0.1 ns after the close edge
(R83). -/
def PathMeas.enabled (m : PathMeas) (j : Shot) (t : Stamp) : Bool :=
  let e := m.shutter j
  decide (e.1 ≤ t + 8) && decide (t < e.2 + 8)

/-! ### TDC (R86 to R92) -/

/-- Tap `k` of a path or, from 1088 up, of a timing input, in 1/256 LSB. The ideal table spreads the tick evenly over its 64
taps (R280). -/
def Taps.entry (t : Taps) (p k : Nat) : Nat :=
  match t with
  | .factory => (Config.tapEntry p k).toNat
  | .ideal => 256 * k + 128
  | .run ts _ _ _ => ts.getD k 0

/-- The stamp of a conversion sampled at coarse count `cs` with a raw code: 64 cs - T[code]/256 to the nearest LSB, halves
up; code 64 uses the entry of 63 (R87, R88). -/
def Taps.stamp (t : Taps) (p cs code : Nat) : Stamp :=
  (64 * 256 * cs + 128 - t.entry p (if code ≥ 64 then 63 else code)) / 256

/-- The end of the blind interval of a conversion under a hold-off code of 0.4 ns: the first coarse tick at or after
t_d + 1.6 ns + h (R91). -/
def blindEnd (td holdOff : Nat) : Stamp := ceilDiv (td + 128 + 32 * holdOff) 64 * 64

/-- A Louvre edge at the TDC of the path that serves a channel; answers the stamp of a kept conversion (R78, R83, R87, R88, R91,
R92). -/
def State.tdcEdge (s : State) (ch p : Nat) (t : Stamp) (code : Nat) : State × Option Stamp :=
  let m := s.meas p
  if t < m.ignoreBefore then (s, none)
  else if m.blindFrom ≤ t ∧ t < m.blindTo then (s.bump (Obj.chBlindEdgeCount ch) 1, none)
  else
    let px := s.pixel ch
    let s1 := s.setPixel ch { px with edges := px.edges + 1 }
    let shots := (s.bank (ch / 64)).fired
    if shots.any (fun j => m.enabled j t) then
      let td := (s.path p).taps.stamp p (t / 64 + 1) code
      let te := blindEnd td m.holdOff
      let kept := shots.any (fun j => m.within j td)
      let m' := { m with blindFrom := td, blindTo := te, blindSum := m.blindSum + (te - td),
                         kept := m.kept + b2n kept, code64 := m.code64 + b2n (code ≥ 64),
                         convs := m.convs ++ [⟨td, te, kept⟩] }
      ((s1.setMeas p m').bump (Obj.chLineOverrunCount ch) (b2n (code ≥ 64)), if kept then some td else none)
    else (s1, none)

/-- A SPAD fires (R74): during the 1.0 ns of an active output the fire is discarded; else it joins the fires of the last
window, and when depth is reached the gate passes an event and clears them. `t` is the fire's instant at the TDC input (log entry 28).
Answers the stamp of a kept conversion. -/
def State.spadFire (s : State) (ch : Nat) (t : Stamp) (code : Nat) : State × Option Stamp :=
  if !s.dev.sensorPowered ∨ !s.variant.hasPath ch ∨ (s.path ch).role = 0x3 then (s, none)
  else
    let px := s.pixel ch
    if t < px.activeUntil then (s, none)
    else
      let fires := px.fires.filter (fun u => decide (t < u + 8 * px.window)) ++ [t]
      if fires.length < px.depth then (s.setPixel ch { px with fires := fires }, none)
      else
        let s1 := s.setPixel ch { px with fires := [], activeUntil := t + 80 }
        match s1.servingPath ch with
        | none => (s1, none)
        | some p => if (s1.cluster (ch / 16)).settling then (s1, none) else s1.tdcEdge ch p t code

/-! ### Faults (R95, R96, R103, R104) -/

/-- A fault recorded on a path and raised as 0x0201 to 0x0206 with the serving path as data (R95, Table FAULT-3). -/
def State.recordFault (s : State) (p code serving : Nat) : State :=
  let x := s.path p
  (s.setPath p { x with fault := code, faultNative := s.time.native }).raise (0x0200 + code) p 3 serving

/-- A crossbar cause added to a cluster once. -/
def State.addCause (s : State) (k : Nat) (c : CrossCause) : State :=
  let x := s.cluster k
  if x.causes.contains c then s else s.setCluster k { x with causes := x.causes ++ [c] }

/-- Whether a Scarab is idle and fitted. -/
def State.scarabIdle (s : State) (k : Nat) : Bool := (s.path (1024 + k)).role == 0x8

/-- A path fault (code 0x1 or 0x2) of a channel that measures on its own path: takeover when the Scarab is idle and unclaimed;
out of service when the Scarab is in permanent use or failed (R16); while it stands in for another channel, out of service
at once and permanent replacement after the stand-in has been ended (R103). -/
def State.channelPathFault (s : State) (ch code : Nat) : State :=
  let k := ch / 16
  let s1 := s.recordFault ch code ch
  match (s.path (1024 + k)).role with
  | 0x8 => if (s.cluster k).causes.any (fun c => match c with | .takeover _ _ => true | _ => false)
           then s1.setRole ch 0x4
           else s1.addCause k (.takeover ch s.nowStamp)
  | 0x9 =>
    let s2 := (s1.setRole ch 0x4).addCause k (.beginPermanent ch code)
    match (s.cluster k).served with
    | some c => (s2.setPath c { s2.path c with suspect := true }).addCause k (.endStandin c)
    | none => s2
  | _ => s1.setRole ch 0x4

/-- A path check failing (R95): on a Scarab while it serves, code 0x6; on a channel, the code itself. -/
def State.pathFault (s : State) (p code : Nat) : State :=
  if p ≥ 1024 then
    match (s.cluster (p - 1024)).served with
    | some _ => (s.recordFault p 0x6 p).addCause (p - 1024) (.scarabFailed s.nowStamp)
    | none => s
  else if (s.path p).role = 0x0 ∧ (s.path p).fault = 0 then s.channelPathFault p code
  else if (s.path p).role = 0x1 then
    (s.recordFault p code p).addCause (p / 16) (.toPermanent p code)
  else s

/-- Whether channel faults are declared: from the end of BOOT on (R95). -/
def State.checksRun (s : State) : Bool := s.dev.booted

/-- A histogram memory error of a path (R95): corrected ones count, uncorrectable ones are fault 0x1. -/
def State.eccError (s : State) (p : Nat) (uncorrectable : Bool) : State :=
  if !s.variant.hasPath p ∨ !s.checksRun then s
  else if uncorrectable then s.pathFault p 0x1
  else s.bump Obj.histEccCorrected 1

/-- More than 16 code-64 conversions in the column are fault 0x2. -/
def State.overrunFault (s : State) (p : Nat) : State :=
  if s.variant.hasPath p ∧ s.checksRun ∧ (s.meas p).code64 > 16 then s.pathFault p 0x2 else s

/-- A Louvre output active for 100 ns without a break is pixel fault 0x4: the channel leaves service and its input is masked
(R95, R96). A channel that its Scarab serves leaves the Scarab idle. -/
def State.stuckFault (s : State) (ch : Nat) : State :=
  let r := (s.path ch).role
  if !s.variant.hasPath ch ∨ !s.checksRun ∨ !s.dev.sensorPowered ∨ r = 0x3 then s
  else
    let s1 := (s.recordFault ch 0x4 ((s.servingPath ch).getD 0xFFFF)).setRole ch 0x3
    if r = 0x1 ∨ r = 0x2 then
      (s1.setRole (1024 + ch / 16) 0x8).setCluster (ch / 16) { s1.cluster (ch / 16) with served := none }
    else s1

/-! ### Crossbar changes (R98 to R104) -/

/-- Which cause comes first where several ask for a change (R103). -/
def CrossCause.rank : CrossCause → Nat
  | .scarabFailed _ => 1
  | .takeover _ _ => 2
  | .toPermanent _ _ => 3
  | .endStandin _ => 4
  | .beginPermanent _ _ => 5
  | .beginStandin _ => 6

/-- The channel a cause is about, where it is about one. -/
def CrossCause.channel : CrossCause → Option Nat
  | .scarabFailed _ => none
  | .takeover c _ | .toPermanent c _ | .endStandin c | .beginPermanent c _ | .beginStandin c => some c

/-- The cause of least rank. -/
def firstCause (cs : List CrossCause) : Option CrossCause :=
  cs.foldl (fun best c => match best with
    | none => some c
    | some b => if c.rank < b.rank then some c else some b) none

/-- A Scarab made to serve a channel from an instant on: it is loaded with the channel's latched Shutter and hold-off (R99,
R102). -/
def State.route (s : State) (ch : Nat) (t : Stamp) : State :=
  let k := ch / 16
  let m := s.measRest ch
  (s.setMeas (1024 + k) { m with ignoreBefore := t, bufs := (s.meas (1024 + k)).bufs }).setCluster k
    { s.cluster k with served := some ch }

/-- A crossbar change made at an instant. -/
def State.crossbar (s : State) (k : Nat) (c : CrossCause) (t : Stamp) : State :=
  let x := s.cluster k
  let s0 := s.setCluster k { x with causes := x.causes.filter (fun d => d != c) }
  let sc := 1024 + k
  match c with
  | .scarabFailed _ =>
    let s1 := s0.setRole sc 0xB
    match x.served with
    | none => s1
    | some ch =>
      let s2 := s1.setCluster k { s1.cluster k with served := none, causes := (s1.cluster k).causes.filter (fun d =>
        match d with | .endStandin _ => false | .toPermanent _ _ => false | _ => true) }
      if (s.path ch).role = 0x1 then s2.setRole ch 0x0 else s2.setRole ch 0x4
  | .takeover ch _ => ((s0.setRole ch 0x2).setRole sc 0xA).route ch t
  | .toPermanent ch _ => (s0.setRole ch 0x2).setRole sc 0xA
  | .endStandin ch =>
    if x.served = some ch then
      ((s0.setRole ch 0x0).setRole sc 0x8).setCluster k { s0.cluster k with served := none, settling := true, settleFrom := t }
    else s0
  | .beginPermanent ch f =>
    let s1 := ((s0.setRole ch 0x2).setRole sc 0xA).route ch t
    let s2 := if (s1.path ch).fault = 0 then s1.recordFault ch f sc else s1
    s2.setCluster k { s2.cluster k with settling := true, settleFrom := t }
  | .beginStandin ch =>
    let s1 := ((s0.setRole ch 0x1).setRole sc 0x9).route ch t
    s1.setCluster k { s1.cluster k with settling := true, settleFrom := t }

/-- A change made at a column boundary: the first at least 0.5 µs after the declaration (R101). -/
def CrossCause.dueAtBoundary (c : CrossCause) (b : Stamp) : Bool :=
  match c with
  | .scarabFailed since | .takeover _ since => decide (since + 40000 ≤ b)
  | _ => false

/-- Crossbar changes of every cluster that has causes, at a column boundary (R101, R103). -/
def State.crossbarAtBoundary (s : State) (b : Stamp) : State :=
  s.array.clusters.foldl (fun s e =>
    match firstCause (e.2.causes.filter (fun c => c.dueAtBoundary b)) with
    | some c => s.crossbar e.1 c b
    | none => s) s

/-- Whether the crossbar could make a cause's change at a Transom slot: the Scarab free for it (R17). -/
def State.causeReady (s : State) (k : Nat) : CrossCause → Bool
  | .toPermanent ch _ | .endStandin ch => (s.cluster k).served == some ch
  | .beginPermanent _ _ | .beginStandin _ => s.scarabIdle k
  | _ => false

/-- Crossbar changes at a Transom slot that starts at `t`: stand-in to permanent at any slot, the others only where the slot
meets R99; else the change is deferred and counted (R99, R100, R103). -/
def State.crossbarAtSlot (s : State) (t : Stamp) (long : Bool) : State :=
  s.array.clusters.foldl (fun s e =>
    match firstCause (e.2.causes.filter (fun c => s.causeReady e.1 c)) with
    | some (.toPermanent ch f) => s.crossbar e.1 (.toPermanent ch f) t
    | some c => if long then s.crossbar e.1 c t else s.bump Obj.deferredHandoverCount 1
    | none => s) s

/-- The settle window of a cluster ends 60 ns after the change (R99). -/
def State.settleEnd (s : State) (k : Nat) : State :=
  let x := s.cluster k
  if x.settling then
    let s1 := s.runToStamp (x.settleFrom + 4800)
    s1.setCluster k { x with settling := false }
  else s

/-! ### Requests (R106) -/

/-- Whether a channel is substituted (R16). -/
def State.substituted (s : State) (ch : Nat) : Bool := [0x1, 0x2].contains (s.path ch).role

/-- Whether a replacement of the channel waits (0x17 reads 1). -/
def State.replacePending (s : State) (ch : Nat) : Bool :=
  (s.cluster (ch / 16)).causes.any (fun c => match c with
    | .beginPermanent d f => d == ch && f == 5
    | .toPermanent d f => d == ch && f == 5
    | _ => false)

/-- A write to ReplaceRequest: 1 schedules, 0 cancels (R106). In IDLE and ARMED, outside Transom slots, an idle Scarab takes over
at once (Table CHAN-7). -/
def State.replaceRequest (s : State) (ch v : Nat) : Abort × State :=
  let k := ch / 16
  if v = 0 then
    (Abort.ok, s.setCluster k { s.cluster k with causes := (s.cluster k).causes.filter (fun c =>
      match c with
      | .beginPermanent d f => !(d == ch && f == 5)
      | .toPermanent d f => !(d == ch && f == 5)
      | _ => true) })
  else
    let other := match (s.cluster k).served with | some d => d != ch | none => false
    if other || [0xA, 0xB].contains (s.path (1024 + k)).role || (s.path ch).role == 0x2 then (Abort.notAllowedNow, s)
    else if (s.path ch).role = 0x1 then (Abort.ok, s.addCause k (.toPermanent ch 5))
    else if s.dev.state = .idle ∨ s.dev.state = .armed then
      (Abort.ok, s.crossbar k (.beginPermanent ch 5) s.nowStamp)
    else (Abort.ok, s.addCause k (.beginPermanent ch 5))

/-- A write of 1 to RestoreRequest (R106). -/
def State.restoreRequest (s : State) (p v : Nat) : Abort × State :=
  let r := (s.path p).role
  if v = 0 then (Abort.ok, s)
  else if p < 1024 then
    if r = 0x2 ∨ r = 0x3 ∨ r = 0x4 then
      let k := p / 16
      let s1 := if r = 0x2 then
          ((s.setRole (1024 + k) 0x8).setCluster k { s.cluster k with served := none })
        else s
      let s2 := s1.setRole p 0x0
      (Abort.ok, s2.setPath p { s2.path p with fault := 0, faultNative := 0, fails := 0, suspect := true })
    else (Abort.notAllowedNow, s)
  else if r = 0xB then
    let s1 := s.setRole p 0x8
    (Abort.ok, s1.setPath p { s1.path p with fault := 0, faultNative := 0, suspect := true })
  else (Abort.notAllowedNow, s)

/-! ### The column boundary (R77 to R80, R94) -/

/-- MonitorRate of a column: edges over live time, in events per second (R78). -/
def monitorRate (edges interval blind : Nat) : Nat :=
  if interval ≤ blind then 0xFFFFFFFF else satNat 0xFFFFFFFF (edges * 80000000000 / (interval - blind))

/-- The limits and rates of the adaptive mode (Table CHAN-2), read once for all channels. -/
structure AdaptSet where
  lo : Nat
  hi : Nat
  rateLow : Nat
  rateHigh : Nat
  holdColumns : Nat
  satFraction : Nat
deriving DecidableEq, Repr

def State.adaptSet (s : State) : AdaptSet :=
  { lo := s.u Obj.louvreDepthMin, hi := s.u Obj.louvreDepthMax, rateLow := s.u Obj.adaptRateLow,
    rateHigh := s.u Obj.adaptRateHigh, holdColumns := s.u Obj.adaptHoldColumns, satFraction := s.u Obj.louvreSatFraction }

/-- One evaluation of the adaptive depth (R79). -/
def Pixel.adapt (px : Pixel) (a : AdaptSet) (rate : Nat) : Pixel :=
  if px.nextDepth < a.lo then { px with nextDepth := a.lo, hold := a.holdColumns }
  else if px.nextDepth > a.hi then { px with nextDepth := a.hi, hold := a.holdColumns }
  else if px.hold > 0 then { px with hold := px.hold - 1 }
  else if rate > a.rateHigh ∧ px.nextDepth < a.hi then { px with nextDepth := px.nextDepth + 1, hold := a.holdColumns }
  else if rate < a.rateLow ∧ px.nextDepth > a.lo then { px with nextDepth := px.nextDepth - 1, hold := a.holdColumns }
  else px

/-- The depth, window and mode latched at a boundary; inside an integration interval the depth in force stays (R77). -/
def State.latchPixel (s : State) (ch : Nat) (px : Pixel) (a : AdaptSet) (rate : Nat) (newInterval : Bool) : Pixel :=
  let px1 := if newInterval then { px with depth := px.nextDepth, window := s.louvreWindow ch } else px
  if s.depthMode ch = 2 then
    if px.adaptive then px1.adapt a rate
    else { px1 with adaptive := true, hold := 0, nextDepth := s.fixedDepth ch }
  else
    let d := s.fixedDepth ch
    { px1 with adaptive := false, hold := 0, nextDepth := d, depth := if newInterval then d else px1.depth }

/-- One channel at a column boundary: its column's rate, blind time, conversions and saturation are reported, its settings latched,
and its sums start again. Answers whether the column was saturated (R80). -/
def State.channelBoundary (s : State) (a : AdaptSet) (b interval : Nat) (newInterval : Bool) (ch : Nat) : State × Bool :=
  let px := s.pixel ch
  match s.servingPath ch with
  | none =>
    (s.setPixel ch (s.latchPixel ch { px with edges := 0, saturated := false } a 0 newInterval), false)
  | some p =>
    let m := s.meas p
    let spill := if m.blindTo > b then m.blindTo - (if m.blindFrom > b then m.blindFrom else b) else 0
    let blind := m.blindSum - spill
    let rate := monitorRate px.edges interval blind
    let top := if px.adaptive then a.hi else px.depth
    let sat := decide (blind * 100 ≥ a.satFraction * interval) && decide (px.depth = top)
    let px' := s.latchPixel ch { px with edges := 0, saturated := sat } a rate newInterval
    let sh := s.shutterOf ch
    let m' := { m with blindSum := spill, kept := 0, code64 := 0,
                       holdOff := if newInterval then s.holdOffOf ch else m.holdOff,
                       openTick := if newInterval then sh.1 else m.openTick,
                       closeTick := if newInterval then sh.2 else m.closeTick }
    let s1 := ((s.setPixel ch px').setMeas p m').setU (Obj.chMonitorRate ch) rate
    let s2 := (s1.setU (Obj.chBlindTimeLast ch) blind).setU (Obj.chConversionsLast ch) m.kept
    (if sat then s2.bump (Obj.chLouvreSatCount ch) 1 else s2, sat)

/-- Every fitted channel at a column boundary; answers the saturated ones, in ascending order. -/
def State.channelsBoundary (s : State) (b interval : Nat) (newInterval : Bool) : State × List Nat :=
  let a := s.adaptSet
  (List.range (64 * s.variant.regions)).foldl (fun (acc : State × List Nat) ch =>
    let r := acc.1.channelBoundary a b interval newInterval ch
    (r.1, if r.2 then acc.2 ++ [ch] else acc.2)) (s, [])

/-! ### Status objects (R107 to R109) -/

/-- The role that ChannelStatus shows: 0x5 while the throttle disables the region, unless the channel is out of service by a
fault (Table CHAN-11). -/
def State.roleNow (s : State) (p : Nat) : Nat :=
  let r := (s.path p).role
  if s.regionOff (regionOf p) ∧ p < 1024 ∧ r ≠ 0x3 ∧ r ≠ 0x4 then 0x5 else r

/-- Whether a crossbar change for a path waits. -/
def State.handoverPending (s : State) (p : Nat) : Bool :=
  (s.cluster (clusterOf p)).causes.any (fun c => p ≥ 1024 || c.channel == some p)

/-- ChannelStatus (Table CHAN-10). -/
def State.channelStatus (s : State) (p : Nat) : Nat :=
  let x := s.path p
  let ch := if p < 1024 then some p else (s.cluster (p - 1024)).served
  let px := match ch with | some c => s.pixel c | none => { s.pixelRest 0 with depth := 0, hold := 0, saturated := false }
  let pos := match ch with | some c => c % 16 | none => 0
  x.fault * 2 ^ 24 + px.depth * 2 ^ 20 + b2n px.saturated * 2 ^ 19 + b2n (decide (px.hold ≠ 0)) * 2 ^ 18 +
    b2n x.suspect * 2 ^ 17 + b2n (s.handoverPending p) * 2 ^ 16 + s.roleNow p * 2 ^ 8 + pos

/-- ServedBy (Table CHAN-9). -/
def State.servedBy (s : State) (p : Nat) : Nat :=
  if p < 1024 then (s.servingPath p).getD 0xFFFF
  else ((s.cluster (p - 1024)).served).getD 0xFFFF

/-- The bytes of a path's tap table (0x10). -/
def State.tapBytes (s : State) (p : Nat) : Bytes := (List.range 64).flatMap (fun k => leBytes 2 ((s.path p).taps.entry p k))

/-- The value that a per-channel object shows where it is not kept in the store: status and "Now" objects, the calibration record,
and the counters of a Scarab, which are those of the pixel it serves. -/
def State.chanRead (s : State) (p sub : Nat) : Option Bytes :=
  let x := s.path p
  let served := if p < 1024 then some p else (s.cluster (p - 1024)).served
  match sub with
  | 0x01 => some (leBytes 4 (s.channelStatus p))
  | 0x02 => some (leBytes 2 (s.servedBy p))
  | 0x10 => some (s.tapBytes p)
  | 0x11 => some (leBytes 4 (match x.taps with
      | .factory => (Config.lineLength p).toNat
      | .ideal => 1000000
      | .run _ l _ _ => l))
  | 0x12 => some (match x.taps with
      | .factory => time80 ((Config.tapTime p).toNat * 1000000000)
      | .ideal => time80 0
      | .run _ _ t _ => time80 (t / 4294967296))
  | 0x13 => some (match x.taps with
      | .factory => leBytes 2 (Config.tapTemp p).toNat
      | .ideal => leBytes 2 0
      | .run _ _ _ c => leBytes 2 (twosOf 16 c))
  | 0x14 => some [BitVec.ofNat 8 x.fails]
  | 0x17 => some [BitVec.ofNat 8 (b2n (s.replacePending p))]
  | 0x18 => some [0]
  | 0x19 => some (time80 (x.faultNative / 4294967296))
  | 0x1A => some [match served with
      | some c => BitVec.ofNat 8 (match s.servingPath c with | some q => (s.meas q).holdOff | none => s.holdOffOf c)
      | none => 0]
  | 0x1B => some [match served with | some c => BitVec.ofNat 8 (s.pixel c).window | none => 0]
  | 0x1C => some (match served with
      | some c =>
        let m := match s.servingPath c with | some q => s.meas q | none => s.measRest c
        leBytes 4 (m.openTick * 65536 + m.closeTick)
      | none => leBytes 4 0)
  | _ => if p ≥ 1024 ∧ 0x0A ≤ sub ∧ sub ≤ 0x0F then
           some (match served with
             | some c => s.get ((0x3000 + c) * 256 + sub)
             | none => leBytes 4 0)
         else none

end Sys2Proof.Machine
end

