-- ==== Sys2Proof/Machine/Mayfly.lean ====
section
/-!
DEFINITION. Mayfly segment capture (R225 to R248): triggers and their merging, EVENTS captures, the ring, and the trigger
schedule. Bin segments are formed by extraction (Hist) through the operations here.
-/

namespace Sys2Proof.Machine

/-! ### Settings and counters -/

/-- Capture is armed (R225). -/
def State.mayArmed (s : State) : Bool := s.b Obj.mayflyEnable && s.dev.state.hasColumns

/-- Payload bytes of a segment (R233). -/
def State.payloadBytes (s : State) : Nat := 64 * 2 ^ s.u Obj.payloadSize

/-- Item capacity C (R233). -/
def State.itemCap (s : State) : Nat := (s.payloadBytes - 16) / 4

/-- Whether the layout clamps the counts (R234). -/
def State.truncActive (s : State) : Bool := decide (s.u Obj.preCount + s.u Obj.postCount > s.itemCap)

/-- Pre items in force (R234). -/
def State.effPre (s : State) : Nat := if s.truncActive then min (s.u Obj.preCount) (s.itemCap - 1) else s.u Obj.preCount

/-- Post items in force (R234). -/
def State.effPost (s : State) : Nat := if s.truncActive then min (s.u Obj.postCount) (s.itemCap - s.effPre) else s.u Obj.postCount

/-- Segments that the ring takes (R245). -/
def State.ringCap (s : State) : Nat := 262144 / 2 ^ s.u Obj.payloadSize

/-- The watch list (R232). -/
def State.watchList (s : State) : List Nat :=
  let bs := s.get Obj.watchList
  words 2 (bs.length / 2) bs

/-- A missed trigger counted under its cause and a reason: 0 RING_FULL, 1 BUSY, 2 LATE, 3 NODATA, 4 NOTARMED. -/
def State.miss (s : State) (cause reason : Nat) : State :=
  (s.bumpWord Obj.missedByCause 4 (4 * cause) 1).bumpWord Obj.missedByReason 4 (4 * reason) 1

/-- Every cause of a mask counted as missed, and the reason once (R246). -/
def State.missMask (s : State) (mask reason : Nat) : State :=
  let s1 := (List.range 13).foldl (fun s c => if bitOf mask c then s.bumpWord Obj.missedByCause 4 (4 * c) 1 else s) s
  s1.bumpWord Obj.missedByReason 4 (4 * reason) 1

/-! ### Coincidence (R242) -/

/-- The place of a cause in the order of R242. -/
def causeRank (c : Nat) : Nat :=
  if c = 8 then 0 else if c < 8 then 1 + c else if c = 10 then 9 else if c = 9 then 10 else if c = 11 then 11 else 12

/-- The stamp at a native time in ns (R228). -/
def State.stampOfNs (s : State) (ns : Nat) : Stamp :=
  if s.time.increment = 0 then s.nowStamp
  else ((s.nowStamp : Int) + (((ns * 4294967296 : Nat) : Int) - s.time.native) * 320 / s.time.increment).toNat

/-- A trigger of one cause. -/
def State.trigInfo (s : State) (cause source : Nat) (t : Stamp) : TrigInfo :=
  let n := s.nativeAt t
  { mask := 2 ^ cause, primary := cause, source := source, instant := t, ns := n / 4294967296,
    sub := (n % 4294967296) * 80 / 4294967296 }

/-- A further cause merged into a trigger of the same coarse tick. -/
def TrigInfo.merge (a b : TrigInfo) : TrigInfo :=
  if causeRank b.primary < causeRank a.primary then { b with mask := a.mask ||| b.mask }
  else { a with mask := a.mask ||| b.mask }

/-- Whether two triggers fall in one coarse tick. -/
def TrigInfo.coincides (a b : TrigInfo) : Bool := a.instant / 64 == b.instant / 64

/-! ### The ring (R243 to R247) -/

/-- The segment header (Table MAYF-3). -/
def segHeader (i : TrigInfo) (deadTime : Nat) (truncated missed : Bool) (size : Nat) : Bytes :=
  leBytes 8 i.ns ++ leBytes 2 i.mask ++ leBytes 2 i.source ++ leBytes 2 deadTime ++
    [BitVec.ofNat 8 (i.primary * 16 + 8 * b2n truncated + 4 * b2n missed + size), 0]

/-- A payload: preamble, items, zeros to the payload's end (R244). -/
def segPayload (bytes : Nat) (subject kind sub shots items pre origin zoom flags width : Nat) (xs : List Nat) : Bytes :=
  let bs := leBytes 2 subject ++ [BitVec.ofNat 8 kind, BitVec.ofNat 8 sub] ++ leBytes 2 shots ++
    [BitVec.ofNat 8 items, BitVec.ofNat 8 pre] ++ leBytes 4 origin ++ [BitVec.ofNat 8 zoom, BitVec.ofNat 8 flags] ++
    leBytes 2 width ++ xs.flatMap (leBytes 4)
  bs ++ List.replicate (bytes - bs.length) 0

/-- A segment enters the ring, or is refused at source when no slot is free (R245, R246). -/
def State.ringEnter (s : State) (i : TrigInfo) (deadTime : Nat) (truncated : Bool) (payload : Bytes) : State :=
  if s.may.ring.length ≥ s.ringCap then
    let s1 := s.missMask i.mask 0
    { s1 with may := { s1.may with missed := true, lossForRec := s1.may.lossForRec + 1 } }.episodeAdd 5 4 6 0xFF 0xFFFFFFFF
  else
    let s1 := s.bump Obj.segmentCount 1
    let mask := s1.u Obj.drainMask
    let seg : Segment := { number := s1.u Obj.segmentCount, header := segHeader i deadTime truncated s1.may.missed (s1.u Obj.payloadSize),
                           payload := payload, mask := i.mask, stampNs := i.ns, streamWaits := bitOf mask 0,
                           recWaits := bitOf mask 1, offered := false }
    let s2 := { s1 with may := { s1.may with ring := s1.may.ring ++ [seg], missed := false } }
    let s3 := if s2.may.ring.length > s2.u Obj.ringHighWater then s2.setU Obj.ringHighWater s2.may.ring.length else s2
    match s3.merge.episodes.find? (fun e => e.stream == 5 && e.reason == 6) with
    | some e => s3.formMarker e
    | none => s3

/-- The ring with the slots freed that every selected sink has finished with (R247). -/
def State.ringFree (s : State) : State :=
  { s with may := { s.may with ring := s.may.ring.filter (fun g => g.streamWaits || g.recWaits) } }

/-- The stream sink has finished with a segment. -/
def State.streamDone (s : State) (number : Nat) : State :=
  { s with may := { s.may with ring := s.may.ring.map (fun (g : Segment) =>
      if g.number = number then { g with streamWaits := false } else g) } }.ringFree

/-- The recorder sink has finished with a segment. -/
def State.recDone (s : State) (number : Nat) : State :=
  { s with may := { s.may with ring := s.may.ring.map (fun (g : Segment) =>
      if g.number = number then { g with recWaits := false } else g) } }.ringFree

/-! ### EVENTS captures (R236 to R238) -/

def State.engine (s : State) (e : Nat) : MayflyEngine := getAt s.may.engines e MayflyEngine.idle

def State.setEngine (s : State) (e : Nat) (x : MayflyEngine) : State :=
  { s with may := { s.may with engines := setAt s.may.engines e x } }

/-- A capture closed at an instant: its segment is formed (R236). -/
def State.closeCapture (s : State) (e : Nat) (t : Stamp) (short : Bool) : State :=
  let x := s.engine e
  match x.capture with
  | none => s
  | some c =>
    let items := (c.pre ++ c.post).map (fun (u : Nat) => twosOf 32 ((u : Int) - (c.info.instant : Nat)))
    let payload := segPayload s.payloadBytes c.subject 0 c.info.sub 0 items.length c.pre.length 0 0xFF (8 * b2n short) 0 items
    (s.setEngine e { x with capture := none, closedAt := some t }).ringEnter c.info x.deadTime c.truncated payload

/-- A real-time trigger on engine `e` with subject `ch` (R236, R237, R242). -/
def State.engineTrigger (s : State) (e ch : Nat) (i : TrigInfo) : State :=
  let x := s.engine e
  match x.capture with
  | some c =>
    if c.info.coincides i then s.setEngine e { x with capture := some { c with info := c.info.merge i } }
    else s.miss i.primary 1
  | none =>
    if x.closedAt.isSome then s.miss i.primary 1
    else
      let pre := ((x.history.filter (fun t => decide (t < i.instant) && decide (i.instant - t ≤ 2147483647))).take s.effPre).reverse
      let post := (x.history.filter (fun t => decide (t ≥ i.instant))).reverse.take s.effPost
      let c : Capture := { info := i, subject := ch, pre := pre, post := post, postGoal := s.effPost,
                           window := 80 * s.u Obj.postWindow, truncated := s.truncActive }
      let s1 := s.setEngine e { x with capture := some c }
      match post.getLast? with
      | some t => if post.length ≥ c.postGoal then s1.closeCapture e t false else s1
      | none => s1

/-- A kept conversion of a channel goes to the histories and captures of its engines (R232, R236). -/
def State.mayConv (s : State) (ch : Nat) (td : Stamp) : State :=
  s.watchList.zipIdx.foldl (fun s p =>
    if p.1 ≠ ch then s
    else
      let e := p.2
      let s0 := match (s.engine e).capture with
        | some c => if td > c.info.instant + c.window then s.closeCapture e (c.info.instant + c.window) true else s
        | none => s
      let x := s0.engine e
      let x1 := { x with history := (td :: x.history).take 124 }
      match x1.capture with
      | some c =>
        if td ≥ c.info.instant then
          let c1 := { c with post := c.post ++ [td] }
          let s1 := s0.setEngine e { x1 with capture := some c1 }
          if c1.post.length ≥ c1.postGoal then s1.closeCapture e td false else s1
        else s0.setEngine e x1
      | none => s0.setEngine e x1) s

/-- SEGMENT_CLOSE: a capture that PostWindow ends (R236). -/
def State.segmentClose (s : State) (e : Nat) : State :=
  match (s.engine e).capture with
  | none => s
  | some c => (s.runToStamp (c.info.instant + c.window)).closeCapture e (c.info.instant + c.window) true

/-- An engine re-arms, at most 150 ns after its segment closed (R237). -/
def State.engineRearm (s : State) (e : Nat) : State :=
  let x := s.engine e
  match x.closedAt with
  | none => s
  | some t =>
    let at' := if s.nowStamp < t then t else if s.nowStamp > t + 12000 then t + 12000 else s.nowStamp
    s.setEngine e { x with closedAt := none, deadTime := (at' - t) / 80 }

/-- Captures in progress closed with SHORT: the engines that `p` picks (R238). -/
def State.closeCaptures (s : State) (p : Nat → Capture → Bool) : State :=
  (List.range 16).foldl (fun s e =>
    match (s.engine e).capture with
    | some c => if p e c then s.closeCapture e s.nowStamp true else s
    | none => s) s

/-! ### Triggers (R226 to R230, R239, R240) -/

/-- The interval in which an instant falls: the newest whose boundary is not after it. -/
def State.intervalAt (s : State) (t : Stamp) : Nat :=
  match (s.array.notes.filter (fun n => decide (n.boundary ≤ t))).getLast? with
  | some n => n.interval
  | none => s.scan.interval

/-- A bin trigger on a subject for an interval: merged with a coincident one, missed where another tick has the subject and interval, else
kept for extraction (R239, R240, R242). -/
def State.binTrigger (s : State) (ch interval : Nat) (i : TrigInfo) : State :=
  match s.may.binWait.find? (fun b => b.subject == ch && b.interval == interval) with
  | some b =>
    if b.info.coincides i then
      { s with may := { s.may with binWait := s.may.binWait.map (fun c =>
          if c = b then { c with info := c.info.merge i } else c) } }
    else s.miss i.primary 1
  | none => { s with may := { s.may with binWait := s.may.binWait ++ [{ info := i, subject := ch, interval := interval }] } }

/-- A real-time trigger (AUX, TIME or HOST): every watch-list channel is a subject (Table MAYF-1). -/
def State.mayTrigger (s : State) (cause source : Nat) (t : Stamp) : State :=
  if !bitOf (s.u Obj.causeEnable) cause then s
  else if !s.mayArmed then (if cause = 11 then s.miss 11 4 else s)
  else
    let i := s.trigInfo cause source t
    if s.u Obj.kind = 0 then
      s.watchList.zipIdx.foldl (fun s p => s.engineTrigger p.2 p.1 i) s
    else
      s.watchList.foldl (fun s ch => s.binTrigger ch (s.intervalAt t) i) s

/-- Whether a channel's own causes are enabled (R226). -/
def State.chanTrig (s : State) (ch : Nat) : Bool := bitOf (s.word Obj.channelTrigMask 1 (ch / 8)) (ch % 8)

/-- LOUVRESAT: at the boundary that ends a saturated column, for the interval of that column, once per interval (R226). -/
def State.louvreTrigger (s : State) (ch interval : Nat) (t : Stamp) : State :=
  if bitOf (s.u Obj.causeEnable) 9 && s.mayArmed && s.chanTrig ch &&
      !s.may.binWait.any (fun b => b.subject == ch && b.interval == interval && bitOf b.info.mask 9) then
    s.binTrigger ch interval (s.trigInfo 9 ch t)
  else s

/-- MANTIS: the watch-list channels of the bank's region, or its first channel when there is none (Table MAYF-1). -/
def State.mantisTrigger (s : State) (b interval : Nat) (q : Stamp) : State :=
  if bitOf (s.u Obj.causeEnable) 10 && s.mayArmed then
    let ws := s.watchList.filter (fun ch => ch / 64 == b)
    (if ws = [] then [64 * b] else ws).foldl (fun s ch => s.binTrigger ch interval (s.trigInfo 10 b q)) s
  else s

/-- TIME_TRIGGER_MATCH: native time reaches TimeTrigger; the next time is scheduled when there is a period (R229). -/
def State.timeTriggerMatch (s : State) : State :=
  let ns := ofTime80 (s.get Obj.timeTrigger)
  if ns = 0 then s
  else
    let s0 := s.runTo (s.tickOfNs ns)
    let period := s0.u Obj.timeTrigPeriod
    let s1 := s0.put Obj.timeTrigger (if period = 0 then time80 0 else time80 (ns + period))
    s1.mayTrigger 11 0xFFFF (s1.stampOfNs ns)

/-- Bin triggers of intervals that no extraction will form: missed for want of data (R240). -/
def State.binNoData (s : State) (p : BinTrigger → Bool) : State :=
  let gone := s.may.binWait.filter p
  gone.foldl (fun s b => s.missMask b.info.mask 3)
    { s with may := { s.may with binWait := s.may.binWait.filter (fun b => !p b) } }

end Sys2Proof.Machine
end

