-- ==== Sys2Proof/Machine/Hist.lean ====
section
/-!
DEFINITION. Histograms and returns (R112, R116 to R133, R138 to R140): assignment of conversions to shots, blind counts, zoom
placement, peak extraction, bin segments, and the forming of column packets.
-/

namespace Sys2Proof.Machine

/-! ### Intervals and buffers (R120) -/

def State.note (s : State) (i : Nat) : Option IntervalNote := s.array.notes.find? (fun n => n.interval == i)

/-- The state as the settings of an interval have it, for reading its objects (R120). -/
def State.under (s : State) (i : Nat) : State :=
  match s.note i with
  | some n => { s with live := n.settings }
  | none => s

/-- Whether an interval has ended: a later one has begun, or columns have ceased. -/
def State.intervalEnded (s : State) (i : Nat) : Bool := decide (i < s.scan.interval) || !s.dev.state.hasColumns

/-- A buffer before its first count. -/
def State.bufRest (s : State) (p i : Nat) : HistBuf :=
  let ch := (s.servedChannel p).getD (if p < 1024 then p else 16 * (p - 1024))
  { interval := i, ch := ch, depth := (s.pixel ch).depth, coarse := [], zooms := [], zoomReady := none, searched := false,
    released := none, blind := 0 }

def PathMeas.buf? (m : PathMeas) (i : Nat) : Option HistBuf := m.bufs.find? (fun b => b.interval == i)

/-- A path's buffer of an interval changed; made when it is not there. -/
def State.withBuf (s : State) (p i : Nat) (f : HistBuf → HistBuf) : State :=
  let m := s.meas p
  let bufs := match m.buf? i with
    | some _ => m.bufs.map (fun b => if b.interval = i then f b else b)
    | none => m.bufs ++ [f (s.bufRest p i)]
  s.setMeas p { m with bufs := bufs }

/-! ### Counts (R116, R119, R123) -/

/-- Bins of a histogram: (bin, count, blind). -/
abbrev Bins := List (Nat × (Nat × Nat))

/-- One count added to a bin's detections; answers whether the counter saturated by it (R119). -/
def Bins.hit (bs : Bins) (k : Nat) : Bins × Nat :=
  let x := tabGet bs k (0, 0)
  if x.1 ≥ 4095 then (bs, 0) else (tabPut bs k (x.1 + 1, x.2), b2n (x.1 + 1 == 4095))

/-- One count added to a bin's blind counter. -/
def Bins.dark (bs : Bins) (k : Nat) : Bins × Nat :=
  let x := tabGet bs k (0, 0)
  if x.2 ≥ 4095 then (bs, 0) else (tabPut bs k (x.1, x.2 + 1), b2n (x.2 + 1 == 4095))

/-- Blind counts added to the bins from `lo` to `hi`. -/
def Bins.darkSpan (bs : Bins) (lo hi : Int) : Bins × Nat :=
  if hi < lo then (bs, 0)
  else (rangeFrom lo.toNat ((hi - lo).toNat + 1)).foldl (fun acc k =>
    let r := Bins.dark acc.1 k
    (r.1, acc.2 + r.2)) (bs, 0)

/-- Whether a shot belongs to a buffer's zooms: its start lies after the zoom-ready instant (R122). -/
def HistBuf.zoomed (b : HistBuf) (start : Stamp) : Bool :=
  match b.zoomReady with
  | some r => decide (r < start) && decide (b.zooms ≠ [])
  | none => false

/-- A detection at `t` counted for a shot with start `st`; `foreign` is R136. Answers the saturation events. -/
def HistBuf.count (b : HistBuf) (t st big small : Nat) (foreign : Bool) : HistBuf × Nat :=
  let k := (t - st) / big
  let (cs, n) := if k < 1024 then Bins.hit b.coarse k else (b.coarse, 0)
  if b.zoomed st then
    let zs := b.zooms.map (fun z =>
      let d : Int := (t : Int) - st - z.z0
      let kz := floorDivInt d small
      if 0 ≤ kz ∧ kz ≤ 63 then
        let r := Bins.hit z.bins kz.toNat
        ({ z with bins := r.1, total := z.total + 1, foreign := z.foreign + b2n foreign }, r.2)
      else (z, 0))
    ({ b with coarse := cs, zooms := zs.map (fun r => r.1) }, n + (zs.map (fun r => r.2)).foldl (· + ·) 0)
  else ({ b with coarse := cs }, n)

/-- The blind interval [td, te) counted for a shot with start `st` (R123). -/
def HistBuf.shade (b : HistBuf) (td te st big small : Nat) : HistBuf × Nat :=
  let a : Int := (td : Int) - st
  let e : Int := (te : Int) - st
  let span (z0 : Int) (w last : Nat) : Int × Int :=
    let lo := floorDivInt (a - z0) w + 1
    let hi := floorDivInt (e - 1 - z0) w
    (if lo < 0 then 0 else lo, if hi > last then last else hi)
  let c := span 0 big 1023
  let (cs, n) := Bins.darkSpan b.coarse c.1 c.2
  if b.zoomed st then
    let zs := b.zooms.map (fun z =>
      let sp := span z.z0 small 63
      let r := Bins.darkSpan z.bins sp.1 sp.2
      ({ z with bins := r.1 }, r.2))
    ({ b with coarse := cs, zooms := zs.map (fun r => r.1) }, n + (zs.map (fun r => r.2)).foldl (· + ·) 0)
  else ({ b with coarse := cs }, n)

/-! ### Mantis (R134 to R137) -/

def State.mantisOf (s : State) (b : Nat) : Mantis := tabGet s.array.mantis b { stamps := [], trains := [] }

def State.setMantis (s : State) (b : Nat) (x : Mantis) : State :=
  { s with array := { s.array with mantis := tabPut s.array.mantis b x } }

/-- The distance of a stamp from the nearest pulse of a train, in 1/65536 LSB. -/
def trainDist (t : Stamp) (q : Int) (p : Nat) : Nat :=
  let d : Int := (t : Int) * 65536 - q
  let n := roundDivInt d p
  (d - n * p).natAbs

/-- Whether a stamp lies within MantisTol of a train (R136). -/
def State.foreignAt (s : State) (b : Nat) (t : Stamp) : Bool :=
  let tol := 8 * 65536 * s.u Obj.mantisTol
  (s.mantisOf b).trains.any (fun tr => decide (tr.period > 0) && decide (trainDist t tr.ref tr.period ≤ tol))

/-- The fit of R135 over stamps: period, reference and rms, in 1/65536 LSB; none when the stamps span no period. -/
def mantisFit (ts : List Stamp) (q : Int) (p : Nat) : Option (Nat × Int × Nat) :=
  let m := ts.length
  let pts : List (Rat × Rat) := ts.map (fun (t : Nat) =>
    (((roundDivInt ((t : Int) * 65536 - q) p : Int) : Rat), ((t * 65536 : Nat) : Rat)))
  if m = 0 then none
  else
    let nb := sumRat (pts.map (fun x => x.1)) / m
    let tb := sumRat (pts.map (fun x => x.2)) / m
    let den := sumRat (pts.map (fun x => (x.1 - nb) * (x.1 - nb)))
    if den = 0 then none
    else
      let pr := sumRat (pts.map (fun x => (x.1 - nb) * (x.2 - tb))) / den
      let qr := tb - pr * nb
      let ms := sumRat (pts.map (fun x => (x.2 - qr - pr * x.1) * (x.2 - qr - pr * x.1))) / m
      some ((ratRound pr).toNat, ratRound qr, isqrt (ratFloor ms).toNat)

/-- Hits of a train among stamps; stamps of one instant within the tolerance count once (R134). -/
def trainHits (ts : List Stamp) (q : Int) (p tol : Nat) : List Stamp :=
  let hs := ts.filter (fun t => decide (trainDist t q p ≤ tol))
  hs.foldl (fun acc t => if acc.any (fun u => decide (natDist u t * 65536 ≤ tol)) then acc else acc ++ [t]) []

/-- Candidate trains from pairs of remaining stamps (R135): score, start and period. -/
def trainCands (ts : List Stamp) (lo hi tol : Nat) : List (Nat × Stamp × Nat) :=
  ts.flatMap (fun tj => (ts.filter (fun ti => decide (ti < tj))).flatMap (fun ti =>
    (rangeFrom 1 8).filterMap (fun m =>
      let p0 := (tj - ti) * 65536 / m
      if lo ≤ p0 ∧ p0 ≤ hi then some ((trainHits ts (65536 * ti) p0 tol).length, ti, p0) else none)))

/-- MANTIS_UPDATE of one bank at a boundary (R134, R135): trains refitted or dropped, one accepted. Answers the reference of a new
train. -/
def State.mantisUpdate (s : State) (b columnNo : Nat) : State × Option (Stamp × Nat) :=
  let m := s.mantisOf b
  let window := s.u Obj.mantisWindow
  let tol := 8 * 65536 * s.u Obj.mantisTol
  let need := s.u Obj.mantisMinHits
  let kept := (m.stamps.filter (fun e => decide (columnNo ≤ e.1 + window))).take 512
  let ts := kept.map (fun e => e.2)
  let trains := m.trains.filterMap (fun tr =>
    let hs := trainHits ts tr.ref tr.period tol
    let fresh := (kept.filter (fun e => decide (e.1 + 1 ≥ columnNo))).map (fun e => e.2)
    let age := if trainHits fresh tr.ref tr.period tol = [] then tr.age + 1 else 0
    if age ≥ 64 then none
    else if hs.length ≥ need then
      match mantisFit hs tr.ref tr.period with
      | some (p, q, r) => some { tr with period := p, ref := q, residual := r, hits := hs.length, age := age }
      | none => some { tr with age := age }
    else some { tr with age := age })
  let rest := (ts.filter (fun t => !trains.any (fun tr => decide (trainDist t tr.ref tr.period ≤ tol)))).take 128
  let cands := trainCands rest (s.u Obj.mantisPeriodMin * 80 * 65536) (s.u Obj.mantisPeriodMax * 80 * 65536) tol
  let best := cands.foldl (fun (a : Option (Nat × Stamp × Nat)) c => match a with
    | none => some c
    | some x => if c.1 > x.1 ∨ (c.1 = x.1 ∧ c.2.2 < x.2.2) then some c else some x) none
  let s0 := s.setMantis b { stamps := kept, trains := trains }
  match best with
  | some (score, ti, p0) =>
    if score ≥ need ∧ trains.length < 4 then
      match mantisFit (trainHits rest (65536 * ti) p0 tol) (65536 * ti) p0 with
      | some (p, q, r) =>
        if 2 * r ≤ tol ∧ p > 0 then
          let tr : Train := { period := p, ref := q, residual := r, hits := score, age := 0 }
          let s1 := (s0.setMantis b { stamps := kept, trains := trains ++ [tr] }).bump Obj.foreignTrainCount 1
          let ps := p * 25 / (2 * 65536)
          (s1.raise 0x0A01 b 1 ps, some ((q / 65536).toNat, ps))
        else (s0, none)
      | none => (s0, none)
    else (s0, none)
  | none => (s0, none)

/-- One record of MantisTrains (Table HIST-9). -/
def State.trainBytes (s : State) (tr : Train) : Bytes :=
  leBytes 4 (tr.period * 25 / (2 * 65536)) ++ leBytes 4 (s.nsAt (tr.ref / 65536).toNat) ++
    leBytes 2 (satNat 65535 (tr.residual * 25 / (2 * 65536))) ++ leBytes 2 tr.hits ++ leBytes 4 tr.age

/-- MantisTrains (R137). -/
def State.mantisBytes (s : State) : Bytes :=
  (List.range 16).flatMap (fun b =>
    let rs := (s.mantisOf b).trains.flatMap s.trainBytes
    rs ++ List.replicate (64 - rs.length) 0)

/-! ### Assignment (R112, R116, R117, R123) -/

/-- Blind time of a conversion split over the intervals (R94, Table HIST-11). -/
def State.addBlind (s : State) (p td te : Nat) : State :=
  let ns := s.array.notes
  ns.zipIdx.foldl (fun s e =>
    let next := match ns[e.2 + 1]? with | some n => n.boundary | none => te
    let hi := min te next
    let lo := max td e.1.boundary
    if lo < hi ∧ !e.1.formed then s.withBuf p e.1.interval (fun b => { b with blind := b.blind + (hi - lo) }) else s) s

/-- One fired shot's share of a conversion. -/
def State.assignShot (s : State) (p : Nat) (c : Conv) (j : Shot) (foreign : Bool) : State :=
  let m := s.meas p
  let st := j.start.getD j.fire
  let e := m.shutter j
  let u := s.under j.interval
  let big := u.binLsb
  let small := u.zoomLsb
  let counts := c.kept && m.within j c.t && decide (st ≤ c.t)
  let shades := (decide (j.fire ≤ c.t) && decide (c.t < e.2)) || (decide (c.t < st) && decide (st < c.te))
  let b0 := (m.buf? j.interval).getD (s.bufRest p j.interval)
  let r1 := if counts then b0.count c.t st big small foreign else (b0, 0)
  let r2 := if shades then r1.1.shade c.t c.te st big small else (r1.1, 0)
  if counts || shades then
    (s.withBuf p j.interval (fun _ => r2.1)).bump Obj.saturatedBinCount (r1.2 + r2.2)
  else s

/-- DETECTION_ASSIGN: the oldest conversion of a path that waits, once the starts of every shot that could claim it are known
(R112); else nothing. -/
def State.detectionAssign (s : State) (p : Nat) : State :=
  let m := s.meas p
  match m.convs with
  | [] => s
  | c :: rest =>
    let bk := regionOf p
    let shots := (s.bank bk).fired
    let concerned := shots.filter (fun j => decide (j.fire < c.te) &&
      (m.within j c.t || decide (c.t < (m.shutter j).2)))
    if concerned.any (fun j => j.start.isNone) then s
    else
      let s0 := s.setMeas p { m with convs := rest }
      let fired := concerned.filter (fun j => !j.muted)
      let cands := fired.filter (fun j => c.kept && m.within j c.t && decide (j.start.getD j.fire ≤ c.t))
      let early := c.kept && cands.isEmpty && fired.any (fun j => m.within j c.t && decide (c.t < j.start.getD j.fire))
      let s1 := if early then s0.bump Obj.earlyCount 1 else s0
      let s2 := match concerned.find? (fun j => j.muted && c.kept && m.within j c.t) with
        | some j =>
          let x := s1.mantisOf bk
          s1.setMantis bk { x with stamps := ((j.column, c.t) :: x.stamps).take 512 }
        | none => s1
      let foreign := s2.foreignAt bk c.t
      (fired.foldl (fun s j => s.assignShot p c j foreign) s2).addBlind p c.t c.te

/-! ### Shutters (R82, R84) -/

/-- A shot's mark among a path's open Shutters. -/
def Shot.mark (j : Shot) : Nat := j.column * 256 + j.slot

/-- SHUTTER_OPEN: the Shutter of the next shot with that slot number opens at tick F + open. -/
def State.shutterOpen (s : State) (p slot : Nat) : State :=
  let m := s.meas p
  match (s.bank (regionOf p)).fired.find? (fun j => j.slot == slot && !m.openSlots.contains j.mark &&
      decide (s.nowStamp ≤ (m.shutter j).2)) with
  | some j => (s.runToStamp (m.shutter j).1).setMeas p { m with openSlots := m.openSlots ++ [j.mark] }
  | none => s

/-- SHUTTER_CLOSE: the Shutter of the oldest open shot with that slot number closes. -/
def State.shutterClose (s : State) (p slot : Nat) : State :=
  let m := s.meas p
  match m.openSlots.find? (fun k => k % 256 == slot) with
  | some k =>
    let s1 := match (s.bank (regionOf p)).fired.find? (fun j => j.mark == k) with
      | some j => s.runToStamp (m.shutter j).2
      | none => s
    s1.setMeas p { m with openSlots := m.openSlots.filter (fun x => x != k) }
  | none => s

/-! ### Gating and background (R121, R126) -/

/-- First and last coarse bin that lie wholly in the Shutters of all shots. -/
def PathMeas.gate (m : PathMeas) (shots : List Shot) (big : Nat) : Int × Int :=
  shots.foldl (fun g j =>
    let e := m.shutter j
    let st := j.start.getD j.fire
    let lo : Int := -(floorDivInt ((st : Int) - e.1) big)
    let hi : Int := floorDivInt ((e.2 : Int) - st) big - 1
    (if lo > g.1 then lo else g.1, if hi < g.2 then hi else g.2)) (0, 1023)

/-- Rationals sorted ascending by insertion. -/
def insRat (x : Rat) : List Rat → List Rat
  | [] => [x]
  | y :: ys => if x ≤ y then x :: y :: ys else y :: insRat x ys

/-- The mean of the lowest `n` of a list. -/
def lowMean (xs : List Rat) (n : Nat) : Rat :=
  if n = 0 then 0 else sumRat ((xs.foldr insRat []).take n) / n

/-- The background: mean of the lower half of the last BgBins live bins, or of the lowest quarter where fewer than 16 exist
(R126). `vs` are the rates of the non-gated live bins in order. -/
def background (vs : List Rat) (bgBins : Nat) : Rat :=
  let last := vs.drop (vs.length - bgBins)
  if last.length ≥ 16 then lowMean last (last.length / 2)
  else if vs.length = 0 then 0 else lowMean vs (max 1 (vs.length / 4))

/-- A kernel's taps as offsets from the centre with their weights (R127). -/
def kernelTaps (bs : Bytes) : List (Int × Nat) :=
  (bs.zipIdx.map (fun p => ((p.2 : Int) - 7, p.1.toNat))).filter (fun t => t.2 != 0)

/-- The sum of the taps, the square of the noise gain, and the half-extent (R127). -/
def kernelFigures (ts : List (Int × Nat)) : Nat × Rat × Nat :=
  let sum := sumNat (ts.map (fun t => t.2))
  let sq := sumNat (ts.map (fun t => t.2 * t.2))
  let h := (ts.map (fun t => t.1.natAbs)).foldl max 0 + 1
  (sum, if sum = 0 then (0 : Rat) else (sq : Rat) / ((sum * sum : Nat) : Rat), h)

/-- Settings that extraction reads. -/
structure HistSet where
  big : Nat
  small : Nat
  kc : List (Int × Nat)
  kz : List (Int × Nat)
  bgBins : Nat
  sigma : Nat
  minRate : Nat
  liveMin : Nat
  zooms : Nat
deriving DecidableEq, Repr

def State.histSet (s : State) : HistSet :=
  { big := s.binLsb, small := s.zoomLsb, kc := kernelTaps (s.get Obj.kernelCoarse), kz := kernelTaps (s.get Obj.kernelZoom),
    bgBins := s.u Obj.bgBins, sigma := s.u Obj.detectSigma, minRate := s.u Obj.minRate, liveMin := s.u Obj.liveMinFraction,
    zooms := s.u Obj.zoomCount }

/-! ### One histogram (R124, R127 to R130) -/

/-- A histogram as extraction sees it: bin width, first LSB, non-gated bins from `lo` to `hi`, shots, rates corrected and raw. -/
structure HistView where
  size : Nat
  width : Nat
  z0 : Nat
  lo : Int
  hi : Int
  n : Nat
  count : Array Nat
  blind : Array Nat
  rho : Array Rat

/-- Dense counts of a sparse histogram. -/
def denseCounts (bs : Bins) (size : Nat) (second : Bool) : Array Nat :=
  bs.foldl (fun a e => a.set! e.1 (if second then e.2.2 else e.2.1)) (Array.replicate size 0)

/-- Live shots of a bin (R124). -/
def HistView.live (v : HistView) (k : Nat) : Int := (v.n : Int) - (v.blind.getD k 0 : Nat)

/-- Whether a bin lies in the histogram and is not gated. -/
def HistView.inside (v : HistView) (k : Int) : Bool := decide (v.lo ≤ k) && decide (k ≤ v.hi)

/-- The nearest live bin's rate from `k` in a direction, among non-gated bins. -/
def HistView.nearest (v : HistView) (raw : Array Rat) (step : Int) : Nat → Int → Option Rat
  | 0, _ => none
  | f + 1, k =>
    let k' := k + step
    if !v.inside k' then none
    else if v.live k'.toNat > 0 then some (raw.getD k'.toNat 0)
    else v.nearest raw step f k'

/-- The view of a histogram with its corrected rates; a dead bin takes the mean of its live neighbours (R124). -/
def mkView (bs : Bins) (size width z0 n : Nat) (lo hi : Int) : HistView :=
  let v0 : HistView := { size := size, width := width, z0 := z0, lo := lo, hi := hi, n := n, count := denseCounts bs size false,
                         blind := denseCounts bs size true, rho := #[] }
  let raw : Array Rat := ((List.range size).map (fun (k : Nat) =>
    if v0.live k > 0 then ((v0.count.getD k 0 : Nat) : Rat) / ((v0.live k : Int) : Rat) else 0)).toArray
  let rho : Array Rat := ((List.range size).map (fun (k : Nat) =>
    if v0.live k > 0 ∨ !v0.inside k then raw.getD k 0
    else match v0.nearest raw (-1) size k, v0.nearest raw 1 size k with
      | some a, some b => (a + b) / 2
      | some a, none => a
      | none, some b => b
      | none, none => 0)).toArray
  { v0 with rho := rho }

/-- Rates of the non-gated live bins, in order. -/
def HistView.liveRates (v : HistView) : List Rat :=
  ((List.range v.size).filter (fun (k : Nat) => v.inside k && decide (v.live k > 0))).map (fun (k : Nat) => v.rho.getD k 0)

/-- d of a bin: rate less background, 0 outside and in gated bins (R126, R127). -/
def HistView.d (v : HistView) (bg : Rat) (k : Int) : Rat := if v.inside k then v.rho.getD k.toNat 0 - bg else 0

/-- f of a bin (R127). -/
def HistView.f (v : HistView) (bg : Rat) (ts : List (Int × Nat)) (sum : Nat) (k : Int) : Rat :=
  if sum = 0 then 0 else sumRat (ts.map (fun t => ((t.2 : Nat) : Rat) * v.d bg (k + t.1))) / sum

/-- A peak (R128 to R132). `tau` is in LSB; `zoom` names the zoom it comes from. -/
structure Peak where
  f : Rat
  zoom : Option Nat
  bin : Nat
  tau : Rat
  centre : Rat
  range : Nat
  strength : Nat
  width : Nat
  quality : Nat
  flags : Nat

/-- Flag bits of a return record (Table HIST-10). -/
def flagCalgap : Nat := 2 ^ 63
def flagNostart : Nat := 2 ^ 62
def flagForeign : Nat := 2 ^ 61
def flagVeil : Nat := 2 ^ 60
def flagSoft : Nat := 2 ^ 59
def flagLowlive : Nat := 2 ^ 58
def flagSatcnt : Nat := 2 ^ 57
def flagDeadbin : Nat := 2 ^ 56
def flagEdge : Nat := 2 ^ 55
def flagCoarse : Nat := 2 ^ 54
def flagChfault : Nat := 2 ^ 53
def flagValid : Nat := 2 ^ 52

/-- Whether a flag is among flags. -/
def hasFlag (fs flag : Nat) : Bool := decide (fs &&& flag ≠ 0)

/-- The square of SNR[k] (R128); 0 for a dead bin or an f that is not above 0. -/
def HistView.snr2 (v : HistView) (bg f g2 : Rat) (k : Nat) : Rat :=
  let noise := max bg (1 / (v.n : Rat))
  if v.live k ≤ 0 ∨ f ≤ 0 ∨ v.n = 0 ∨ g2 * noise = 0 then 0 else f * f * ((v.live k : Int) : Rat) / (g2 * noise)

/-- The bins that hold a peak by the three conditions of R128, with f. A neighbour outside the histogram counts as below. -/
def HistView.peakBins (v : HistView) (bg : Rat) (ts : List (Int × Nat)) (c : HistSet) : List (Nat × Rat) :=
  let (sum, g2, _) := kernelFigures ts
  let fs : Array Rat := ((List.range v.size).map (fun (k : Nat) => v.f bg ts sum k)).toArray
  (List.range v.size).filterMap (fun k =>
    let f := fs.getD k 0
    let left := k = 0 ∨ f > fs.getD (k - 1) 0
    let right := k + 1 = v.size ∨ f ≥ fs.getD (k + 1) 0
    let snr := v.snr2 bg f g2 k * 100 ≥ ((c.sigma * c.sigma : Nat) : Rat)
    let rate := f ≥ (c.minRate : Rat) / 65536 * v.width / 80
    if v.inside k ∧ v.live k > 0 ∧ left ∧ right ∧ snr ∧ rate ∧ f > 0 then some (k, f) else none)

/-- The half-height crossing from `k` in a direction, up to 32 bins (R130). -/
def HistView.half (v : HistView) (bg h : Rat) (step : Int) : Nat → Int → Option Rat
  | 0, _ => none
  | n + 1, j =>
    let j' := j + step
    if !v.inside j' then none
    else
      let a := v.d bg j
      let b := v.d bg j'
      if b < h then some ((j : Rat) + (step : Rat) * (a - h) / (a - b)) else v.half bg h step n j'

/-- A peak measured (R129, R130, and the flags of R119, R124). -/
def HistView.measure (v : HistView) (bg : Rat) (ts : List (Int × Nat)) (c : HistSet) (nAll : Nat) (offset : Int) (zoom : Option Nat)
    (flags0 : Nat) (kf : Nat × Rat) : Peak :=
  let (sum, g2, h) := kernelFigures ts
  let k := kf.1
  let f := kf.2
  let ki : Int := k
  let edge := !v.inside (ki - 1) || !v.inside (ki + 1)
  let fl := v.f bg ts sum (ki - 1)
  let fr := v.f bg ts sum (ki + 1)
  let den := 2 * (fl - 2 * f + fr)
  let raw : Rat := if edge ∨ den = 0 then 0 else (fl - fr) / den
  let delta : Rat := max (-(1 / 2)) (min (1 / 2) raw)
  let tau : Rat := (v.z0 : Rat) + ((k : Rat) + 1 / 2 + delta) * v.width
  let rng := ratRound (tau * 15 / 8 - (offset : Rat) / 1000)
  let span := (List.range (2 * h + 1)).map (fun (i : Nat) => ki + (i : Int) - h) |>.filter v.inside
  let strength := ratRound (1024 * sumRat (span.map (v.d bg)))
  let half := v.d bg ki / 2
  let width : Nat := if v.d bg ki ≤ 0 then 63 else match v.half bg half (-1) 32 ki, v.half bg half 1 32 ki with
    | some a, some b => satNat 63 (ratRound ((b - a) * v.width / 32)).toNat
    | _, _ => 63
  let q2 := v.snr2 bg f g2 k
  let dead := span.any (fun j => decide (v.live j.toNat ≤ 0))
  let sat := span.any (fun j => decide (v.count.getD j.toNat 0 ≥ 4095) || decide (v.blind.getD j.toNat 0 ≥ 4095))
  let low := decide (v.live k * 100 < ((c.liveMin * nAll : Nat) : Int))
  { f := f, zoom := zoom, bin := k, tau := tau, centre := (v.z0 : Rat) + ((k : Rat) + 1 / 2) * v.width,
    range := if rng < 0 then 0 else rng.toNat % 1048576,
    strength := (clampInt 0 4095 strength).toNat, width := width,
    quality := if q2 < 64 then 0 else if q2 < 256 then 1 else if q2 < 1024 then 2 else 3,
    flags := flags0 + (if edge ∨ rng < 0 then flagEdge else 0) + (if dead then flagDeadbin else 0) +
      (if sat then flagSatcnt else 0) + (if low then flagLowlive else 0) }

/-- Peaks sorted by a strict order. -/
def insPeak (before : Peak → Peak → Bool) (x : Peak) : List Peak → List Peak
  | [] => [x]
  | y :: ys => if before x y then x :: y :: ys else y :: insPeak before x ys

def sortPeaks (before : Peak → Peak → Bool) (ps : List Peak) : List Peak := ps.foldr (insPeak before) []

/-! ### Zoom placement (R122, R125) -/

/-- Muted slots among the first `k` of a column (R114). -/
def mutedBelow (period k : Nat) : Nat := if period = 0 then 0 else k / period

/-- Shots planned in the interval of a bank, and per column (R122, R149). -/
def Bank.plannedIn (x : Bank) (i : Nat) : Nat := tabGet x.planned i 0

/-- The place of a slot among the planned shots of its interval. -/
def planIndex (n : IntervalNote) (total period column slot : Nat) : Nat :=
  (column - n.firstNo) * (total / n.columns) + (slot - mutedBelow period slot)

/-- N_s (R122). -/
def zoomSplitOf (planned split : Nat) : Nat := max 1 (ceilDiv (planned * split) 16)

/-- Whether two spans of length `l` overlap. -/
def overlaps (l a b : Nat) : Bool := decide (a < b + l) && decide (b < a + l)

/-- Zooms placed for candidates by falling strength; answers them in the order placed with the number of drops (R125). -/
def placeZooms (big small limit : Nat) (g0 g1 : Nat) (cands : List Nat) : List Nat × Nat :=
  let l := 64 * small
  cands.foldl (fun (acc : List Nat × Nat) c =>
    let placed := acc.1
    if placed.length ≥ limit then acc
    else
      let m2 := (2 * c + 1) * big
      if placed.any (fun z => decide (2 * z ≤ m2) && decide (m2 < 2 * (z + l))) then acc
      else
        let zr := floorDivInt ((m2 : Int) - l) 2
        let z1 := floorDivInt zr small * small
        let z2 : Int := if l ≥ g1 - g0 then g0 else min (max z1 g0) ((g1 : Int) - l)
        let z := z2.toNat
        match placed.find? (fun p => overlaps l z p) with
        | none => (placed ++ [z], acc.2)
        | some p =>
          let z3 : Int := if m2 > 2 * p + l then (p : Int) + l else (p : Int) - l
          if z3 < g0 ∨ z3 + l > g1 ∨ placed.any (fun q => overlaps l z3.toNat q) then (placed, acc.2 + 1)
          else (placed ++ [z3.toNat], acc.2)) ([], 0)

/-- ZOOM_PLACEMENT on a path: for its oldest buffer that has not been searched, once the first N_s planned shots have fired, 20 ns
after the last of their Shutters closes. -/
def State.zoomPlacement (s : State) (p : Nat) : State :=
  let m := s.meas p
  match m.bufs.find? (fun b => !b.searched && b.released.isNone) with
  | none => s
  | some b =>
    match s.note b.interval with
    | none => s
    | some n =>
      let u := s.under b.interval
      let x := s.bank (regionOf p)
      let total := x.plannedIn b.interval
      let period := u.u Obj.mantisMutePeriod
      let ns := zoomSplitOf total (u.u Obj.zoomSplit)
      let idx (column slot : Nat) : Nat := planIndex n total period column slot
      let waiting := x.queue.any (fun q => decide (idx s.scan.columnNo q.slot < ns)) ||
        (decide (s.scan.interval = b.interval) && decide (x.nextSlot < x.shots) && decide (idx s.scan.columnNo x.nextSlot < ns))
      let first := x.fired.filter (fun j => decide (j.interval = b.interval) && !j.muted && decide (idx j.column j.slot < ns))
      if waiting ∨ first.any (fun j => j.start.isNone) then s
      else
        let close := (first.map (fun j => (m.shutter j).2)).foldl max 0
        let s1 := if close = 0 then s else s.runToStamp (close + 1600)
        let c := u.histSet
        let shots := x.fired.filter (fun j => decide (j.interval = b.interval) && !j.muted && j.start.isSome)
        let g := m.gate shots c.big
        let v := mkView b.coarse 1024 c.big 0 first.length g.1 g.2
        let r : HistView := { v with rho := ((List.range 1024).map (fun k =>
          ((v.count.getD k 0 : Nat) : Rat) / ((max 1 (v.live k) : Int) : Rat))).toArray }
        let bg := background r.liveRates c.bgBins
        let bins := if first.isEmpty ∨ g.2 < g.1 then [] else r.peakBins bg c.kc c
        let asPeak (kf : Nat × Rat) : Peak :=
          { f := kf.2, zoom := none, bin := kf.1, tau := 0, centre := 0, range := 0, strength := 0, width := 0, quality := 0,
            flags := 0 }
        let sorted := sortPeaks (fun a d => decide (a.f > d.f) || (decide (a.f = d.f) && decide (a.bin < d.bin))) (bins.map asPeak)
        let placed := placeZooms c.big c.small c.zooms (g.1.toNat * c.big) ((g.2 + 1).toNat * c.big) (sorted.map (fun k => k.bin))
        let zs : List Zoom := placed.1.map (fun z => { z0 := z, bins := [], foreign := 0, total := 0 })
        (s1.withBuf p b.interval (fun b => { b with zooms := zs, searched := true,
                                                    zoomReady := if zs = [] then none else some s1.nowStamp })).bump
          Obj.zoomDropCount placed.2

/-! ### Release (R28, R120) -/

/-- Fired shots of a bank in an interval. -/
def Bank.shotsIn (x : Bank) (i : Nat) : List Shot := x.fired.filter (fun j => decide (j.interval = i) && !j.muted)

/-- BUFFER_RELEASE on a path: its oldest buffer of an ended interval that has not been released, an empty one where nothing was
counted, W + 20 ns after the last optical start; waits for conversions and starts that are not known. -/
def State.bufferRelease (s : State) (p : Nat) : State :=
  let m := s.meas p
  let x := s.bank (regionOf p)
  let due (n : IntervalNote) : Bool := !n.formed && s.intervalEnded n.interval && decide (x.shotsIn n.interval ≠ []) &&
    (match m.buf? n.interval with
     | some b => b.released.isNone
     | none => (s.servedChannel p).isSome &&
         !s.array.results.any (fun r => r.interval == n.interval && some r.ch == s.servedChannel p))
  match s.array.notes.find? due with
  | none => s
  | some n =>
    let shots := x.shotsIn n.interval
    if shots.any (fun j => j.start.isNone) ∨ m.convs ≠ [] then s
    else
      let last := (shots.map (fun j => j.start.getD j.fire)).foldl max 0
      let s1 := s.runToStamp (last + 1024 * (s.under n.interval).binLsb + 1600)
      s1.withBuf p n.interval (fun b => { b with released := some s1.nowStamp })

/-! ### Extraction (R124 to R133, R138) -/

/-- The view of zoom `z` (R121, R122). -/
def zoomView (z : Zoom) (c : HistSet) (lo hi : Int) (n : Nat) : HistView :=
  let g0 := lo * c.big
  let g1 := (hi + 1) * c.big
  let first := -(floorDivInt ((z.z0 : Int) - g0) c.small)
  let last := floorDivInt (g1 - z.z0) c.small - 1
  mkView z.bins 64 c.small z.z0 n (if first < 0 then 0 else first) (if last > 63 then 63 else last)

/-- The peak list of a buffer: zoom peaks, coarse peaks outside the zooms, the seven highest (R128), with SOFT, VEIL and FOREIGN
(R131, R132, R136). -/
def State.peaksOf (s : State) (p : Nat) (b : HistBuf) (offset : Int) : List Peak × Nat :=
  let u := s.under b.interval
  let c := u.histSet
  let shots := (s.bank (regionOf p)).shotsIn b.interval
  let g := (s.meas p).gate shots c.big
  let n := shots.length
  let v := mkView b.coarse 1024 c.big 0 n g.1 g.2
  let bg := background v.liveRates c.bgBins
  let ambient := satNat 4095 (ratRound (10000 * bg * 80 / c.big)).toNat
  if n = 0 ∨ g.2 < g.1 then ([], 0)
  else
    let zshots := shots.filter (fun j => b.zoomed (j.start.getD j.fire))
    let nz := zshots.length
    let nostart (js : List Shot) : Nat := if js.any (fun j => j.estimated) then flagNostart else 0
    let zs := if nz = 0 then [] else b.zooms
    let ratio := u.u Obj.mantisRatio
    let zpeaks := zs.zipIdx.flatMap (fun e =>
      let vz := zoomView e.1 c g.1 g.2 nz
      let bz := bg * c.small / c.big
      let foreign := if 256 * (e.1.total - e.1.foreign) < ratio * e.1.total then flagForeign else 0
      (vz.peakBins bz c.kz c).map (vz.measure bz c.kz c n offset (some e.2) (nostart zshots + foreign)))
    let cpeaks := ((v.peakBins bg c.kc c).map (v.measure bg c.kc c n offset none (flagCoarse + nostart shots))).filter (fun k =>
      !zs.any (fun z => decide ((z.z0 : Rat) ≤ k.centre) && decide (k.centre < ((z.z0 + 64 * c.small : Nat) : Rat))))
    let all := sortPeaks (fun a d => decide (a.f > d.f) || (decide (a.f = d.f) && decide (a.range < d.range))) (zpeaks ++ cpeaks)
    let softW := u.u Obj.softWidth
    let veilEnd := u.u Obj.veilEnd
    let near := (List.range 1024).filter (fun (k : Nat) => v.inside k && decide (v.live k > 0) &&
      decide (max 0 (ratRound (((k : Rat) + 1 / 2) * c.big * 15 / 8 - (offset : Rat) / 1000)) < (veilEnd : Int)))
    let mean : Rat := sumRat (near.map (fun (k : Nat) => v.d bg k)) / (near.length : Rat)
    let veil := decide (veilEnd ≠ 0) && decide (near ≠ []) &&
      decide (mean / (c.big : Rat) * 80 ≥ ((u.u Obj.veilLevel : Nat) : Rat) / 65536)
    ((all.take 7).map (fun k =>
      let soft := decide (k.width ≥ softW) && decide (k.strength < u.u Obj.softStrength)
      let veiled := veil && decide (k.range < veilEnd) && decide (k.width ≥ softW)
      { k with flags := k.flags + (if soft then flagSoft else 0) + (if veiled then flagVeil else 0) }), ambient)

/-- Records per channel (Table HIST-7). -/
def State.slotsPer (s : State) : Nat :=
  match s.u Obj.returnMode with
  | 3 => 2
  | 4 => s.u Obj.returnSlots
  | _ => 1

/-- The first peak under an order, if there is one. -/
def bestPeak (before : Peak → Peak → Bool) (ps : List Peak) : Option Peak := (sortPeaks before ps).head?

/-- Return selection (R133, Table HIST-7). -/
def State.select (s : State) (ps : List Peak) : List (Option Peak) :=
  let mode := s.u Obj.returnMode
  let strongest (a b : Peak) : Bool := decide (a.strength > b.strength) || (decide (a.strength = b.strength) && decide (a.range < b.range))
  let nearest (a b : Peak) : Bool := decide (a.range < b.range) || (decide (a.range = b.range) && decide (a.strength > b.strength))
  let farthest (a b : Peak) : Bool := decide (a.range > b.range) || (decide (a.range = b.range) && decide (a.strength > b.strength))
  let p1 := if mode ≤ 3 ∧ s.b Obj.veilSkip then ps.filter (fun k => !hasFlag k.flags flagVeil) else ps
  let p2 := if (mode = 1 ∨ mode = 2) ∧ s.b Obj.softSkip then p1.filter (fun k => !hasFlag k.flags flagSoft) else p1
  match mode with
  | 0 => [bestPeak strongest p2]
  | 1 => [bestPeak nearest p2]
  | 2 => [bestPeak farthest p2]
  | 3 =>
    let a := bestPeak nearest p2
    let b := bestPeak strongest p2
    match a, b with
    | some x, some y => [some x, if x.tau = y.tau ∧ x.zoom = y.zoom then none else some y]
    | _, _ => [a, none]
  | _ => (sortPeaks nearest ((sortPeaks strongest p2).take (s.u Obj.returnSlots))).map some

/-- A return record (Table HIST-10). -/
def Peak.word (k : Peak) (ambient extra : Nat) : Nat :=
  k.flags + extra + flagValid + ambient * 2 ^ 40 + k.width * 2 ^ 34 + k.quality * 2 ^ 32 + k.strength * 2 ^ 20 + k.range

/-- Whether a path has failed, so that its results are empty with CHFAULT (R101). -/
def State.pathFailed (s : State) (p : Nat) : Bool := [0x1, 0x2, 0x6].contains (s.path p).fault && decide ((s.path p).role ≠ 0x1)

/-- The offset that a path subtracts for a channel: ZeroOffset, or SubstOffset where a Scarab serves (R102, R129). -/
def State.offsetOf (s : State) (p ch : Nat) : Int :=
  if p < 1024 then s.i (Obj.chZeroOffset ch) else intAt (4 * (ch % 16)) 4 (s.get (Obj.chSubstOffset p))

/-- The measurement of a zero run taken from one column (R282). -/
def State.zeroTake (s : State) (p ch : Nat) (ps : List Peak) : State :=
  let bad := flagNostart + flagSatcnt + flagDeadbin + flagEdge + flagCoarse + flagSoft + flagVeil + flagForeign
  let good := ps.filter (fun k => !hasFlag k.flags bad)
  let key? : Option Nat :=
    if s.cal.zeroMode = 1 then some ch
    else if s.cal.zeroMode = 2 ∧ p ≥ 1024 then some (1024 + 16 * (p - 1024) + ch % 16) else none
  match key?, bestPeak (fun a b => decide (a.strength > b.strength) || (decide (a.strength = b.strength) && decide (a.range < b.range))) good with
  | some k, some q =>
    let raw := ratRound (q.tau * 1875)
    let x := tabGet s.cal.zeroAcc k (0, 0, 0)
    { s with cal := { s.cal with zeroAcc := tabPut s.cal.zeroAcc k (x.1 + 1, x.2.1 + raw, x.2.2 + raw * raw) } }
  | _, _ => s

/-! ### Bin segments (R239 to R241) -/

/-- Items of a bin segment: bins from `first`, `n` of them; outside the histogram all ones. -/
def binItems (bs : Bins) (size : Nat) (first : Int) (n : Nat) : List Nat × Bool :=
  let ks := (List.range n).map (fun (i : Nat) => first + (i : Int))
  let out (k : Int) : Bool := decide (k < 0) || decide (k ≥ size)
  (ks.map (fun k => if out k then 0xFFFFFFFF else
    let x := tabGet bs k.toNat (0, 0)
    x.1 + x.2 * 4096), ks.any out)

/-- The segment of a subject's waiting trigger formed from its buffer (R239), or refused as LATE (R241). -/
def State.binSegment (s : State) (p : Nat) (b : HistBuf) (ps : List Peak) (i : TrigInfo) : State :=
  let late := match b.released with
    | some r => decide (s.nowStamp > r + 192000)
    | none => false
  if late then s.missMask i.mask 2
  else
    let u := s.under b.interval
    let c := u.histSet
    let shots := (s.bank (regionOf p)).shotsIn b.interval
    let g := (s.meas p).gate shots c.big
    let stronger (a d : Peak) : Bool := decide (a.strength > d.strength) || (decide (a.strength = d.strength) && decide (a.range < d.range))
    let zbest := bestPeak stronger (ps.filter (fun k => k.zoom.isSome))
    let best := if i.primary = 8 then zbest else bestPeak stronger ps
    let pre := s.effPre
    let n := pre + s.effPost
    if s.u Obj.kind = 1 ∧ b.zooms ≠ [] then
      let (zi, k, nopeak) : Nat × Nat × Bool := match zbest with
        | some q => (q.zoom.getD 0, q.bin, false)
        | none => (0, 32, true)
      let z := getAt b.zooms zi { z0 := 0, bins := [], foreign := 0, total := 0 }
      let first : Int := (k : Int) - pre
      let (xs, pad) := binItems z.bins 64 first n
      let nz := (shots.filter (fun j => b.zoomed (j.start.getD j.fire))).length
      s.ringEnter i 0 s.truncActive (segPayload s.payloadBytes b.ch 1 i.sub nz n pre (twosOf 32 ((z.z0 : Int) + first * c.small)) zi
        (2 * b2n nopeak + b2n pad) c.small xs)
    else
      let (k, nopeak) : Int × Bool := match best with
        | some q => (ratFloor (q.tau / c.big), false)
        | none => (g.1, true)
      let first : Int := k - pre
      let (xs, pad) := binItems b.coarse 1024 first n
      s.ringEnter i 0 s.truncActive (segPayload s.payloadBytes b.ch 2 i.sub shots.length n pre (twosOf 32 (first * c.big)) 0xFF
        (4 * b2n (s.u Obj.kind = 1) + 2 * b2n nopeak + b2n pad) c.big xs)

/-- The ZOOMPEAK trigger of a channel's peaks (Table MAYF-1). -/
def State.zoomTrigger (s : State) (p : Nat) (b : HistBuf) (ps : List Peak) : State :=
  if bitOf (s.u Obj.causeEnable) 8 && s.mayArmed && s.chanTrig b.ch then
    let level := s.u Obj.zoomTrigLevel
    let hits := ps.filter (fun k => k.zoom.isSome && decide (k.strength ≥ level))
    let zshots := ((s.bank (regionOf p)).shotsIn b.interval).filter (fun j => b.zoomed (j.start.getD j.fire))
    match bestPeak (fun a d => decide (a.strength > d.strength) || (decide (a.strength = d.strength) && decide (a.range < d.range))) hits,
          zshots.head? with
    | some k, some j => s.binTrigger b.ch b.interval (s.trigInfo 8 b.ch ((j.start.getD j.fire) + (ratFloor k.tau).toNat))
    | _, _ => s
  else s

/-- PEAK_EXTRACTION_DONE on a path: its oldest released buffer is read out into return records and a summary word; ZOOMPEAK and
waiting triggers form their segment; the buffer is free again. -/
def State.extractDone (s : State) (p : Nat) : State :=
  let m := s.meas p
  match m.bufs.find? (fun b => b.released.isSome) with
  | none => s
  | some b =>
    let u := s.under b.interval
    let (ps, ambient) := s.peaksOf p b (s.offsetOf p b.ch)
    let out := s.pathFailed p || (s.path b.ch).role == 0x3 || (s.path b.ch).role == 0x4
    let extra := if s.cal.gap.contains b.ch then flagCalgap else 0
    let slots : List Nat := if out then List.replicate u.slotsPer flagChfault
      else
        let ws := (u.select ps).map (fun k => match k with
          | some q => q.word ambient extra
          | none => 0)
        ws ++ List.replicate (u.slotsPer - ws.length) 0
    let summary := (if out then 0 else b.depth) * 2 ^ 28 + satNat 0x0FFFFFFF b.blind
    let s1 : State := { s with array := { s.array with results := s.array.results ++
      [{ interval := b.interval, ch := b.ch, slots := slots, summary := summary }] } }
    let s2 := (s1.zeroTake p b.ch (if out then [] else ps)).zoomTrigger p b ps
    let s3 := match s2.may.binWait.find? (fun (w : BinTrigger) => w.subject == b.ch && w.interval == b.interval) with
      | some w => { s2 with may := { s2.may with binWait := s2.may.binWait.filter (fun x => x != w) } }.binSegment p b ps w.info
      | none => s2
    s3.setMeas p { m with bufs := m.bufs.filter (fun x => x.interval != b.interval) }

/-! ### Column packets (R139, R140, R335, R336) -/

/-- The records and summary of a channel for an interval (R138, R139). -/
def State.chanWords (s u : State) (i ch : Nat) (bankFired : Bool) : List Nat × Nat :=
  let r := (s.path ch).role
  match s.array.results.find? (fun x => x.interval == i && x.ch == ch) with
  | some x => if r = 0x3 ∨ r = 0x4 then (List.replicate u.slotsPer flagChfault, x.summary % 2 ^ 28) else (x.slots, x.summary)
  | none =>
    if r = 0x3 ∨ r = 0x4 then (List.replicate u.slotsPer flagChfault, 0)
    else (List.replicate u.slotsPer 0, if s.roleNow ch = 0x5 ∨ !bankFired then 0 else (s.pixel ch).depth * 2 ^ 28)

/-- One column packet of the channels from `first`. -/
def State.columnBody (s u : State) (n : IntervalNote) (chs : List Nat) (fired : List Nat) : Bytes :=
  let ws := chs.map (fun ch => s.chanWords u n.interval ch (fired.contains (ch / 64)))
  let summary := u.b Obj.columnSummary
  let calgap := ws.any (fun w => w.1.any (fun x => hasFlag x flagCalgap))
  let banks := chs.map (· / 64)
  let layout := (n.columns - 1) * 2 ^ 28 + n.scaleSource * 2 ^ 26 + b2n summary * 2 ^ 25 + b2n n.dir * 2 ^ 24 +
    u.slotsPer * 2 ^ 21 + chs.length * 2 ^ 10 + chs.headD 0
  let flags := b2n n.inhibit * 2 ^ 31 + b2n (banks.any n.govBanks.contains) * 2 ^ 30 + b2n (banks.any n.throttled.contains) * 2 ^ 29 +
    b2n calgap * 2 ^ 28 + b2n n.notLocked * 2 ^ 27 + twosOf 24 (clampInt (-8388608) 8388607 n.scalePpb)
  leBytes 2 n.frame ++ leBytes 2 n.column ++ leBytes 4 layout ++ leBytes 4 flags ++
    ws.flatMap (fun w => w.1.flatMap (leBytes 8)) ++ (if summary then ws.flatMap (fun w => leBytes 4 w.2) else [])

/-- COLUMN_PACKET_FORM: the packets of the oldest ended interval whose buffers have all been read out. An interval in which no bank fired
forms none (R139). -/
def State.columnPacketForm (s : State) : State :=
  match s.array.notes.find? (fun n => !n.formed && s.intervalEnded n.interval) with
  | none => s
  | some n =>
    let busy := s.array.meas.any (fun e => e.2.bufs.any (fun b => b.interval == n.interval))
    if busy then s
    else
      let u := s.under n.interval
      let fired := (List.range 16).filter (fun b => decide ((s.bank b).shotsIn n.interval ≠ []))
      let firsts := fired.flatMap (fun b => (s.bank b).shotsIn n.interval)
      let lead := match firsts.filter (fun j => decide (j.column = n.firstNo)) with
        | [] => firsts
        | xs => xs
      let stamp := match lead.foldl (fun (a : Option Shot) j => match a with
          | none => some j
          | some x => if j.fire < x.fire then some j else some x) none with
        | some j => j.startNs
        | none => n.stampNs
      let run := max 1 (u.u Obj.columnRun)
      let halves : List (Nat × Nat × Nat) := if u.b Obj.columnSplit then [(1, 0, 512), (2, 512, 1024)] else [(1, 0, 1024)]
      let s1 := if fired = [] then s
        else halves.foldl (fun s h =>
          (List.range ((h.2.2 - h.2.1) / run)).foldl (fun s k =>
            let first := h.2.1 + k * run
            let chs := (rangeFrom first run).filter s.variant.hasPath
            if chs = [] then s
            else s.form h.1 0x01 2 0 (n.firstNo * 1024 + first) stamp (s.columnBody u n chs fired)) s) s
      let keep (j : Shot) : Bool := decide (j.interval ≠ n.interval) && decide (j.interval + 2 > n.interval)
      let s2 := (List.range 16).foldl (fun s b =>
        let x := s.bank b
        if x.fired = [] then s else s.setBank b { x with fired := x.fired.filter keep,
                                                         planned := x.planned.filter (fun e => decide (e.1 > n.interval)) }) s1
      let notes := s2.array.notes.map (fun x => if x.interval = n.interval then { x with formed := true } else x)
      { s2 with array := { s2.array with
          results := s2.array.results.filter (fun r => r.interval != n.interval),
          notes := notes.filter (fun x => !x.formed || decide (x.interval + 2 ≥ s2.scan.interval)) } }.binNoData
        (fun w => w.interval == n.interval)

end Sys2Proof.Machine
end

