-- ==== Sys2Proof/Machine/Fire.lean ====
section
/-!
DEFINITION. Emitters and Firefly engines (R110, R111, R113 to R115, R142 to R158): programs, resolution at a boundary, slots, the
exposure governor, FIRE edges, optical starts, and the firing inhibits.
-/

namespace Sys2Proof.Machine

/-! ### Inhibits (Table EMIT-6) -/

def inhState : Nat := 0
def inhScanValid : Nat := 1
def inhSafeOff : Nat := 2
def inhStall : Nat := 3
def inhCharge : Nat := 4
def inhBoardTemp : Nat := 5
def inhSupply : Nat := 6
def inhPfail : Nat := 7

/-- The notes of the interval in progress marked as touched by an inhibit (Table STRM-6). -/
def State.touchNotes (s : State) : State :=
  { s with array := { s.array with notes := s.array.notes.map (fun n =>
      if n.interval = s.scan.interval ∧ !n.formed then { n with inhibit := true } else n) } }

/-- Every FIRE output forced to idle: a pulse in progress is cut short (R158). -/
def State.cutPulses (s : State) : State :=
  { s with fire := { s.fire with banks := s.fire.banks.map (fun e =>
      (e.1, if e.2.pulseEnd > s.nowStamp then { e.2 with pulseEnd := s.nowStamp } else e.2)) } }

/-- An inhibit bit set; firing is no longer released (R157, R158). -/
def State.inhibitOn (s : State) (bit : Nat) : State :=
  if bitOf s.fire.inhibit bit then s
  else { s with fire := { s.fire with inhibit := setBit s.fire.inhibit bit true, released := false } }.cutPulses.touchNotes

/-- An inhibit bit cleared; firing is released only at a column boundary (R158). -/
def State.inhibitOff (s : State) (bit : Nat) : State :=
  { s with fire := { s.fire with inhibit := setBit s.fire.inhibit bit false } }

/-- INHIBIT_RELEASE: at a column boundary at which no bit is set, firing is released (R158). -/
def State.inhibitRelease (s : State) : State :=
  if s.fire.inhibit = 0 then { s with fire := { s.fire with released := true } } else s

/-! ### Programs (R144 to R147) -/

/-- Set bits of a mask below `n`. -/
def bitsBelow (m n : Nat) : Nat := ((List.range n).filter (bitOf m)).length

/-- A program's fields (Tables EMIT-2 to EMIT-4) read from its bytes. -/
def progEnabled (bs : Bytes) : Bool := decide (bs ≠ []) && bitOf (numAt 1 1 bs) 0
def progMask (bs : Bytes) : Nat := numAt 2 2 bs
def progRois (bs : Bytes) : Nat := numAt 4 1 bs
def progEntry (bs : Bytes) (b : Nat) : Bytes := slice (8 + 12 * bitsBelow (progMask bs) b) 12 bs
def progRoi (bs : Bytes) (k : Nat) : Bytes := slice (8 + 12 * bitsBelow (progMask bs) 16 + 8 * k) 8 bs

/-- The ROI entry that applies to a bank in a cell: the lowest-numbered one (R147). -/
def roiFor (bs : Bytes) (b cell : Nat) : Option Bytes :=
  if bitOf (numAt 1 1 bs) 2 then
    ((List.range (progRois bs)).map (progRoi bs)).find? (fun r =>
      decide (numAt 0 1 r ≤ cell) && decide (cell ≤ numAt 1 1 r) && bitOf (numAt 2 2 r) b)
  else none

/-- The object of an engine's program. -/
def progObj (e : Nat) : Nat := Obj.fireflyProgram0 + e

/-- The angular cell of a position (R145). -/
def State.cellOf (s : State) (p : Int) : Nat :=
  (clampInt 0 255 (floorDivInt ((p - s.i Obj.cellOrigin) * 256) (s.u Obj.cellSpan))).toNat

/-- What an engine resolves for a bank at a boundary: shots and width code with the number of clamps, or nothing to fire (R149). -/
def State.resolveBank (s : State) (bs : Bytes) (b cell : Nat) : Option (Nat × Nat) × Nat :=
  let e := progEntry bs b
  let roi := roiFor bs b cell
  let t0 := if numAt 8 1 e = 1 then
      numAt (16 * cell + b) 1 (s.get (if bitOf (numAt 1 1 bs) 1 then Obj.powerTableB else Obj.powerTableA))
    else numAt 9 1 e
  let t := match roi with | some r => if numAt 6 1 r ≠ 0xFF then numAt 6 1 r else t0 | none => t0
  let shots0 := match roi with | some r => numAt 4 2 r | none => numAt 6 2 e
  let step := s.stepOf b
  if step ≥ 3 ∨ bitOf t 7 then (none, 0)
  else
    let shots := if step ≥ 1 then ceilDiv shots0 2 else shots0
    let comp := s.i (Obj.fireWidthCompB0 + s.bandOf b)
    let c0 : Int := ((t % 64 : Nat) : Int) + comp
    let c1 := (clampInt 0 47 c0).toNat
    let w0 := (5 + 2 * c1) * s.u Obj.derateScale / 256
    let w1 := if step ≥ 2 then w0 * s.u Obj.throttleWidthScale / 256 else w0
    (some (shots, if w1 < 5 then 0 else (w1 - 5) / 2), b2n (decide (c0 ≠ c1)))

/-- FIREFLY_RESOLVE: at a boundary of SCAN every bank's column is resolved; the banks of the column before that the governor inhibited
raise their Warning (R149, R155). `b` is the boundary's stamp, `p` the position. -/
def State.fireflyResolve (s : State) (bd : Stamp) (p : Int) (newInterval : Bool) : State :=
  let cell := s.cellOf p
  let v := max (s.u Obj.chargeSetpoint) (s.u Obj.chargeMeasured)
  let s0 : State := { s with fire := { s.fire with cell := cell, doseV := v } }
  let progs := (List.range 4).map (fun e => s0.get (progObj e))
  let period := s.u Obj.mantisMutePeriod
  let cols := s.u Obj.integrationColumns
  (List.range 16).foldl (fun s b =>
    let x := s.bank b
    let s1 := if x.inhibitedSlots > 0 then s.raise 0x0301 b 2 x.inhibitedSlots else s
    match progs.find? (fun bs => progEnabled bs && bitOf (progMask bs) b) with
    | none => if x = Bank.rest then s1 else s1.setBank b { x with nextSlot := 0, shots := 0, inhibitedSlots := 0, sampled := false }
    | some bs =>
      let (r, clamps) := s1.resolveBank bs b cell
      let s2 := s1.bump Obj.widthClampCount clamps
      let e := progEntry bs b
      match r with
      | none => s2.setBank b { x with nextSlot := 0, shots := 0, inhibitedSlots := 0, sampled := false }
      | some (shots, width) =>
        let np := (shots - mutedBelow period shots) * cols
        let planned := if newInterval then tabPut x.planned s.scan.interval np else x.planned
        s2.setBank b { x with nextSlot := 0, shots := shots, nextEdge := bd / 4 + numAt 0 2 e, base := numAt 2 2 e,
                              dither := numAt 4 2 e, width := width, dropped := false, planned := planned,
                              inhibitedSlots := 0, sampled := false }) s0

/-- The generators loaded at an entry to SCAN from ARMED or STANDBY (R113). -/
def State.loadGenerators (s : State) : State :=
  (List.range 16).foldl (fun s b =>
    s.setBank b { s.bank b with x := (s.u Obj.shotSeed) ^^^ ((b * 0x00010001) % 4294967296) }) s

/-- Engines stop: no slot waits (R142, R152). -/
def State.stopEngines (s : State) : State :=
  { s with fire := { s.fire with banks := s.fire.banks.map (fun e => (e.1, { e.2 with queue := [], shots := 0, nextSlot := 0 })),
                                 placed := [] } }

/-! ### Exposure governor (R153 to R156) -/

def sat48 : Nat := 2 ^ 48 - 1

/-- The dose of a slot (R153). -/
def State.doseOf (s : State) (b c : Nat) : Nat := (5 + 2 * c) * s.fire.doseV * s.word Obj.doseGain 2 (2 * b) / 4096

/-- The accumulator of a window, cell and bank (R154). -/
def GovWindow.acc (w : GovWindow) (key : Nat) : Nat :=
  if w.saturated > 0 then sat48 else satNat sat48 (sumNat (w.subs.map (fun t => tabGet t key 0)))

/-- A dose charged to the current sub-sum. -/
def GovWindow.charge (w : GovWindow) (key d : Nat) : GovWindow :=
  match w.subs with
  | [] => w
  | t :: ts => { w with subs := tabPut t key (satNat sat48 (tabGet t key 0 + d)) :: ts }

/-- The limit of a window and bank. -/
def State.govLimit (s : State) (w b : Nat) : Nat := s.word Obj.govLimits 8 (8 * (16 * w + b))

/-- GovFill raised to the fill of an accumulator, in 1/65,536 of the limit (R156). -/
def State.fillSeen (s : State) (w b acc : Nat) : State :=
  let lim := s.govLimit w b
  let f := if lim = 0 then 0xFFFF else satNat 0xFFFF (acc * 65536 / lim)
  if f > s.word Obj.govFill 2 (2 * (16 * w + b)) then s.setWord Obj.govFill 2 (2 * (16 * w + b)) f else s

/-- A dose charged in all windows, GovFill following. -/
def State.govCharge (s : State) (b d : Nat) : State :=
  let key := s.fire.cell * 16 + b
  let gov := s.fire.gov.map (fun w => w.charge key d)
  let s1 : State := { s with fire := { s.fire with gov := gov } }
  gov.zipIdx.foldl (fun s e => s.fillSeen e.2 b (e.1.acc key)) s1

/-- GOVERNOR_DECISION: whether a slot of the bank at a width passes all three windows (R155). -/
def State.govPasses (s : State) (b c : Nat) : Bool :=
  let key := s.fire.cell * 16 + b
  s.fire.gov.zipIdx.all (fun e => decide (e.1.acc key + s.doseOf b c ≤ s.govLimit e.2 b))

/-- Length of a sub-interval of window `w` in ticks (R154). -/
def State.govStep (s : State) (w : Nat) : Nat := s.u (Obj.govWindow0 + w) * 250 / 16

/-- GOV_SUBINTERVAL_BOUNDARY of window `w`: at its next boundary, counted from the end of BOOT, the oldest sub-sums are discarded. -/
def State.govBoundary (s : State) (w : Nat) : State :=
  match s.fire.gov[w]? with
  | none => s
  | some g =>
    if !s.dev.booted then s
    else
      let l := max 1 (s.govStep w)
      let due := s.dev.bootTick + ((g.boundaryAt - s.dev.bootTick) / l + 1) * l
      let s1 := s.runTo due
      let g' : GovWindow := { g with subs := [] :: g.subs.take 16, saturated := g.saturated - 1, boundaryAt := due }
      { s1 with fire := { s1.fire with gov := setAt s1.fire.gov w g' } }

/-! ### Slots (R113 to R115, R150, R151, R155) -/

/-- The next state of a bank's generator (R113). -/
def genNext (x : Nat) : Nat := (69069 * x + 1) % 4294967296

/-- The spacing of a slot in 50 ps from the generator's state (R113). -/
def genSpacing (x base dither : Nat) : Nat := base + (x / 16777216) * dither / 256

/-- The edge moved behind the edges placed for other banks within the gap (R150); `n` bounds the moves. -/
def collide (placed : List (Nat × Nat)) (b gap : Nat) : Nat → Nat → Nat
  | 0, f => f
  | n + 1, f =>
    let hits := (placed.filter (fun e => decide (e.2 ≠ b) && decide (natDist e.1 f < gap))).map (fun e => e.1)
    if hits = [] then f else collide placed b gap n (hits.foldl max 0 + gap)

/-- SLOT_ENQUEUE of a bank: its next slot of the column. The generator advances for every slot after slot 0; a slot whose edge would
lie at or after the column's end is not placed, and the rest of the column's slots are dropped; a muted slot drives no edge; else
the governor decides, and a slot that passes is placed (R150, R151, R155). In STANDBY the owner's exceptions stand for the decisions
(R152, R406). -/
def State.slotEnqueue (s : State) (b : Nat) : State :=
  let x := s.bank b
  if (s.dev.state ≠ .scan ∧ s.dev.state ≠ .standby) ∨ x.nextSlot ≥ x.shots ∨ x.dropped then s
  else
    let i := x.nextSlot
    let x1 := if i = 0 then x.x else genNext x.x
    let edge := if i = 0 then x.nextEdge else x.nextEdge + genSpacing x1 x.base x.dither
    let limit := s.scan.columnEnd
    let own := decide (s.dev.state = .scan)
    let told := x.exceptions.find? (fun e => e.1 == i)
    let drop (s : State) : State :=
      (s.setBank b { x with x := x1, nextSlot := x.shots, dropped := true }).bump Obj.shotOverrunCount (x.shots - i)
    if own ∧ edge * 4 ≥ limit then drop s
    else
      let period := s.u Obj.mantisMutePeriod
      if decide (period ≠ 0) && decide (i % period = period - 1) then
        s.setBank b { x with x := x1, nextSlot := i + 1, nextEdge := edge,
                             queue := x.queue ++ [{ slot := i, edge := edge, muted := true, width := x.width }] }
      else if own ∧ !s.govPasses b x.width then
        let s1 := s.bumpWord Obj.govInhibitCount 4 (4 * b) 1
        let s2 : State := { s1 with array := { s1.array with notes := s1.array.notes.map (fun n =>
          if n.interval = s1.scan.interval ∧ !n.govBanks.contains b then { n with govBanks := n.govBanks ++ [b] } else n) } }
        s2.setBank b { x with x := x1, nextSlot := i + 1, nextEdge := edge, inhibitedSlots := x.inhibitedSlots + 1 }
      else if !own ∧ told == some (i, none) then s.setBank b { x with x := x1, nextSlot := i + 1, nextEdge := edge }
      else
        let f := match own, told with
          | true, _ => collide s.fire.placed b (s.u Obj.fireMinGap) 16 edge
          | false, some (_, some e) => e
          | false, _ => edge
        let s0 := if own then s.bump Obj.fireCollisionCount (b2n (decide (f ≠ edge))) else s
        if own ∧ f * 4 ≥ limit then drop s0
        else
          let s2 := if own then s0.govCharge b (s0.doseOf b x.width) else s0
          let q : EnqSlot := { slot := i, edge := f, muted := false, width := x.width }
          let s3 := s2.setBank b { x with x := x1, nextSlot := i + 1, nextEdge := f, queue := x.queue ++ [q] }
          { s3 with fire := { s3.fire with placed := (f, b) :: s3.fire.placed.filter (fun e => decide (e.1 + 4096 > f)) } }

/-- StartNominal of a bank, LSB. -/
def State.startNominal (s : State) (b : Nat) : Nat := s.word Obj.startNominal 2 (2 * b)

/-- FIRE_EDGE of a bank: its oldest slot in the queue at its edge. A muted slot has its nominal start; a slot whose edge falls while a
cause is set, or before firing was released, is suppressed; else the output drives a pulse of the slot's width (R142, R158).
In STANDBY the slot counts as fired and the output stays idle (R152). -/
def State.fireEdge (s : State) (b : Nat) : State :=
  let x := s.bank b
  match x.queue with
  | [] => s
  | q :: rest =>
    let f := q.edge * 4
    let s1 := s.runToStamp f
    let nominal := f + s1.startNominal b
    let src0 := s1.u Obj.startSource = 0
    let shot : Shot := { slot := q.slot, column := s1.scan.columnNo, interval := s1.scan.interval, fire := f,
                         start := if q.muted ∨ src0 then some nominal else none, startNs := s1.nsAt nominal, muted := q.muted,
                         width := q.width, estimated := decide src0 }
    let fires := q.muted || s1.dev.state == .standby || (s1.dev.state == .scan && s1.fire.inhibit == 0 && s1.fire.released)
    let drives := fires && !q.muted && s1.dev.state == .scan
    s1.setBank b { x with queue := rest, fired := if fires then x.fired ++ [shot] else x.fired,
                          pulseEnd := if drives then f + 80 + 32 * q.width else x.pulseEnd }

/-! ### Optical starts (R110, R111) -/

/-- The banks that a start input serves. -/
def State.startBanks (s : State) (n : Nat) : List Nat :=
  match s.u Obj.startSource with
  | 1 => if n = 0 then List.range 16 else []
  | 2 => (List.range 16).filter (fun b => b / 4 == n)
  | _ => []

/-- OPTICAL_START: a stamp on a start input goes to the earliest-fired qualifying shot without a start, or is stray (R111). -/
def State.opticalStart (s : State) (n : Nat) (a : Stamp) : State :=
  let lo := 8 * s.u Obj.startWindowMin
  let hi := 8 * s.u Obj.startWindowMax
  let cands := (s.startBanks n).flatMap (fun b => ((s.bank b).fired.filter (fun j =>
    j.start.isNone && decide (j.fire + lo ≤ a) && decide (a ≤ j.fire + hi))).map (fun j => (b, j)))
  match cands.foldl (fun (best : Option (Nat × Shot)) c => match best with
      | none => some c
      | some d => if c.2.fire < d.2.fire then some c else some d) none with
  | none => s.bump Obj.strayStartCount 1
  | some (b, j) =>
    let x := s.bank b
    s.setBank b { x with fired := x.fired.map (fun k => if k = j then { k with start := some a, startNs := s.nsAt a } else k) }

/-- START_WINDOW_EXPIRY: the oldest shot of the bank with that slot number that has no start takes the nominal one (R111). -/
def State.startWindowExpiry (s : State) (b slot : Nat) : State :=
  let x := s.bank b
  match x.fired.find? (fun j => j.slot == slot && j.start.isNone) with
  | none => s
  | some j =>
    let s1 := s.runToStamp (j.fire + 8 * s.u Obj.startWindowMax)
    let st := j.fire + s1.startNominal b
    (s1.setBank b { x with fired := x.fired.map (fun k =>
      if k = j then { k with start := some st, startNs := s1.nsAt st, estimated := true } else k) }).bump Obj.missingStartCount 1

/-! ### Scan-valid and power-fail (R157, R158) -/

/-- Scan-valid falls: the direct gate acts in every state; in SCAN and HOLD the SCANVALID bit is set with its Error, and in SCAN the
fall is counted. -/
def State.scanValidFall (s : State) : State :=
  if !s.fire.scanValid then s
  else
    let s1 : State := { s with fire := { s.fire with scanValid := false } }.cutPulses
    let s2 := if s1.dev.state = .scan then s1.bump Obj.scanValidDropCount 1 else s1
    if s2.dev.state = .scan ∨ s2.dev.state = .hold then
      let s3 := s2.inhibitOn inhScanValid
      s3.raise 0x0302 0 3 s3.fire.inhibit
    else s2

/-- Scan-valid rises. -/
def State.scanValidRise (s : State) : State :=
  if s.fire.scanValid then s
  else { s with fire := { s.fire with scanValid := true, scanValidAt := s.time.ticks } }

/-- SCANVALID_CLEAR: scan-valid has been high for 10 µs. -/
def State.scanvalidClear (s : State) : State :=
  if s.fire.scanValid then (s.runTo (s.fire.scanValidAt + usTicks 10)).inhibitOff inhScanValid else s

/-- PFAIL_CLEAR: PFAIL_N has been high for 10 µs. -/
def State.pfailClear (s : State) : State :=
  if s.fire.pfailN then (s.runTo (s.fire.pfailHighAt + usTicks 10)).inhibitOff inhPfail else s

end Sys2Proof.Machine
end

