-- ==== Sys2Proof/Machine/Charge.lean ====
section
/-!
DEFINITION. The charge supply and the emitter board (R159 to R168): GDRV, the adaptive set-point, over-current, derating.
-/

namespace Sys2Proof.Machine

/-- GDRV held low: ChargeSetpoint reads 0, and the time from which VCHG must fall is noted (R162). -/
def State.gdrvLow (s : State) : State :=
  let at' := if s.charge.switching then some s.time.ticks else s.charge.lowAt
  ({ s with charge := { s.charge with switching := false, lowAt := at', pendingCount := 0, low := 0,
                                      warned := if s.charge.switching then false else s.charge.warned } }).setU Obj.chargeSetpoint 0

/-- The set-point at ARM: ChargeStart in adaptive mode, ChargeFixed in fixed mode (R162). -/
def State.startSetpoint (s : State) : Nat := if s.u Obj.chargeMode = 0 then s.u Obj.chargeFixed else s.u Obj.chargeStart

/-- GDRV starts switching (R162); a direct gate of R161 keeps it low until the state leaves ARMED, SCAN and HOLD. -/
def State.gdrvStart (s : State) : State :=
  if s.charge.gdrvGate then s
  else ({ s with charge := { s.charge with switching := true, lowAt := none, warned := false, pendingCount := 0, low := 0,
                                           needs := [] } }).setU Obj.chargeSetpoint s.startSetpoint

/-- CHARGE_SETPOINT_UPDATE at a boundary (R163). -/
def State.setpointUpdate (s : State) (columnNo : Nat) : State :=
  if !s.charge.switching then s
  else
    let needs := s.charge.needs.filter (fun e => decide (columnNo ≤ e.2.column + s.u Obj.chargeNeedAge))
    let target0 : Nat := if s.u Obj.chargeMode = 0 then s.u Obj.chargeFixed
      else if needs = [] then s.u Obj.chargeStart
      else ((needs.map (fun e => e.2.v - e.2.h)).foldl max 0) + ceilDiv (s.u Obj.headroomMargin) 10
    let target := min (max target0 (s.u Obj.chargeMin)) (s.u Obj.chargeMax)
    let now := s.u Obj.chargeSetpoint
    if target > now then ({ s with charge := { s.charge with pendingCount := 0, low := 0 } }).setU Obj.chargeSetpoint target
    else if target < now then
      let n := s.charge.pendingCount + 1
      let low := max s.charge.low target
      if n ≥ s.u Obj.chargeLowerHold then
        ({ s with charge := { s.charge with pendingCount := 0, low := 0 } }).setU Obj.chargeSetpoint low
      else { s with charge := { s.charge with pendingCount := n, low := low } }
    else { s with charge := { s.charge with pendingCount := 0, low := 0 } }

/-- DERATE_UPDATE at a boundary (R165). -/
def State.derateUpdate (s : State) : State :=
  let t := s.i Obj.boardTemp
  let a := s.i Obj.derateStart
  let e := s.i Obj.derateEnd
  let lo := s.u Obj.derateMinScale
  let d : Nat := if t ≤ a then 256
    else if t ≥ e then lo
    else (ratFloor (256 - (256 - (lo : Rat)) * ((t - a : Int) : Rat) / ((e - a : Int) : Rat))).toNat
  s.setU Obj.derateScale d

/-- HEADROOM_HOLD: the bank of the column's turn holds its headroom on its first fired slot; the sample waits for an INSERT slot (R163,
R177). -/
def State.headroomHold (s : State) (b : Nat) : State :=
  let x := s.bank b
  match x.fired.find? (fun j => decide (j.column = s.scan.columnNo) && !j.muted) with
  | none => s
  | some j =>
    if s.dev.state ≠ .scan ∨ s.scan.columnsDone % 16 ≠ b ∨ x.sampled then s
    else
      let s1 := s.runToStamp (j.fire + 80 + 32 * j.width - 32 * s.u Obj.headroomLead)
      let s2 := s1.setBank b { x with sampled := true }
      { s2 with charge := { s2.charge with held := s2.charge.held ++ [(b, s2.u Obj.chargeMeasured)] } }

/-- A headroom sample converted: h_b in mV, and the need that enters R163. -/
def State.headroomResult (s : State) (b v code : Nat) : State :=
  let mv := code * 4 * s.u Obj.headroomDivider / 1000
  let s1 := s.setWord Obj.bankHeadroom 2 (2 * b) (satNat 0xFFFE mv)
  { s1 with charge := { s1.charge with needs := tabPut s1.charge.needs b { v := v, h := mv / 10, column := s1.scan.columnNo } } }

/-- A VCHG conversion: ChargeMeasured and VchgDischarged (R159, R162). -/
def State.vchgResult (s : State) (code : Nat) : State :=
  let v := code * s.u Obj.chargeDivider * 4 / 10000
  (s.setU Obj.chargeMeasured v).setB Obj.vchgDischarged (decide (v < 500))

/-- VCHG_DISCHARGE_TIMEOUT: 250 ms after GDRV went low VCHG has not fallen below 5.0 V (R162). -/
def State.dischargeTimeout (s : State) : State :=
  match s.charge.lowAt with
  | none => s
  | some t =>
    let s1 := s.runTo (t + msTicks 250)
    if s1.b Obj.vchgDischarged ∨ s1.charge.warned then s1
    else { s1 with charge := { s1.charge with warned := true } }.raise 0x0308 0xFFFF 2 (s1.u Obj.chargeMeasured)

/-- The supply fault of R161: SUPPLY set, GDRV gated, a Fatal event. -/
def State.supplyFault (s : State) : State :=
  let s1 : State := { s with charge := { s.charge with gdrvGate := true } }
  (s1.inhibitOn inhSupply).gdrvLow.fatal 0x0305 0xFFFF (s.u Obj.chargeMeasured)

/-- CS_LIMIT_CYCLE: a switching cycle ended, by CsLimit or by the L2 threshold. The CS checks are suspended in STANDBY (R161). -/
def State.csCycle (s : State) (byLimit : Bool) : State :=
  if !s.charge.switching then s
  else if byLimit then
    { s with charge := { s.charge with csRun := s.charge.csRun + 1 } }.bump Obj.csLimitCount 1
  else { s with charge := { s.charge with csRun := 0 } }

/-- OVERCURRENT_FAULT: a run of 1024 cycles ended by CsLimit (R161). -/
def State.overcurrent (s : State) : State :=
  if s.charge.csRun ≥ 1024 then { s with charge := { s.charge with csRun := 0 } }.supplyFault else s

end Sys2Proof.Machine
end

