-- ==== Sys2Proof/Machine/Sense.lean ====
section
/-!
DEFINITION. Converters, filter chains, window comparators and synchronising resets (R171 to R194).
-/

namespace Sys2Proof.Machine

/-! ### Chains (R187 to R190) -/

/-- The settings of a chain: the shift of each stage, the moving average's length and its shift (Table SENSE-8). -/
structure ChainSet where
  shifts : List Nat
  maLen : Nat
  maShift : Nat
deriving DecidableEq, Repr

/-- The settings in force of chain `n` (R188, R194). -/
def State.chainSet (s : State) (n : Nat) : ChainSet :=
  match s.u (Obj.chainPreset n) with
  | 0 => ⟨[], 1, 0⟩
  | 1 => ⟨[8], 4, 2⟩
  | 2 => ⟨[8, 8, 9], 8, 3⟩
  | 3 => ⟨[8, 8, 8, 9, 9], 16, 4⟩
  | _ => ⟨((s.get (Obj.chainShifts n)).take (s.u (Obj.chainStages n))).map (·.toNat), s.u (Obj.chainMaLength n),
          s.u (Obj.chainMaShift n)⟩

/-- Decimation factor and impulse length of a chain (R187). -/
def ChainSet.dec (c : ChainSet) : Nat := 2 ^ c.shifts.length
def ChainSet.len (c : ChainSet) : Nat := 10 * (c.dec - 1) + (c.maLen - 1) * c.dec + 1

/-- The DC gain of a chain, 2^F for every preset (R188). -/
def ChainSet.gain (c : ChainSet) : Rat :=
  (c.shifts.foldl (fun (g : Rat) (h : Nat) => g * pow2 (9 - (h : Int))) 1) * (c.maLen : Rat) / pow2 c.maShift

/-- A value held to 24 signed bits, and whether that changed it. -/
def sat24 (v : Int) : Int × Bool :=
  let w := clampInt (-8388608) 8388607 v
  (w, decide (w ≠ v))

/-- A sum shifted right with its rounding term (R187). -/
def shiftRound (v : Int) (sh : Nat) : Int := if sh = 0 then v else (v + 2 ^ (sh - 1)) / (2 ^ sh : Int)

/-- The half-band coefficients (R187). -/
def halfBand : List Int := [3, 0, -25, 0, 150, 256, 150, 0, -25, 0, 3]

/-- One stage's result from its line. -/
def stageOut (line : List Int) (sh : Nat) : Int × Bool :=
  sat24 (shiftRound (sumInt (List.zipWith (fun (a b : Int) => a * b) halfBand line)) sh)

/-- A value run through the stages: the lines and phases after it, the value that leaves the last stage if one does, and whether a stage
saturated (R187). -/
def runStages : List Nat → List (List Int) → List Bool → Int → List (List Int) × List Bool × Option Int × Bool
  | [], _, _, v => ([], [], some v, false)
  | sh :: shs, lines, phases, v =>
    let line := (v :: lines.headD (List.replicate 11 0)).take 11
    let phase := !(phases.headD true)
    if phase then (line :: lines.tail, phase :: phases.tail, none, false)
    else
      let r := stageOut line sh
      let t := runStages shs lines.tail phases.tail r.1
      (line :: t.1, phase :: t.2.1, t.2.2.1, r.2 || t.2.2.2)

/-- The lines that a constant input would have filled, and the value that leaves the last stage (R192). -/
def prefill : List Nat → Int → List (List Int) × Int
  | [], v => ([], v)
  | sh :: shs, v =>
    let line := List.replicate 11 v
    let r := prefill shs (stageOut line sh).1
    (line :: r.1, r.2)

def State.chain (s : State) (n : Nat) : Chain := getAt s.sense.chains n Chain.rest

/-- A condition's age after one more input. -/
def ageNext (now : Bool) (age : Option Nat) : Option Nat := if now then some 0 else age.map (· + 1)

/-- Whether a condition falls within the last `len` inputs. -/
def ageIn (len : Nat) (age : Option Nat) : Bool := match age with | some a => decide (a < len) | none => false

/-- The chain made ready for its first input after a synchronising reset (R192). -/
def Chain.prime (c : Chain) (cs : ChainSet) (x : Int) : Chain :=
  let p := prefill cs.shifts x
  { c with lines := p.1, phases := List.replicate cs.shifts.length true, ma := List.replicate cs.maLen p.2, primed := true,
           ovrAge := none, fillAge := none, satAge := none, settleLeft := ceilDiv (cs.len - 1) cs.dec }

/-- One input of a chain: the chain after it and the output word if one leaves (R187, R190, R192). -/
def Chain.input (c : Chain) (cs : ChainSet) (x : Int) (fill ovr : Bool) (t : Stamp) : Chain × Option Nat :=
  let c0 := if c.primed then c else c.prime cs x
  let r := runStages cs.shifts c0.lines c0.phases x
  let out := r.2.2.1.map (fun v =>
    let ma := (v :: c0.ma).take cs.maLen
    (ma, sat24 (shiftRound (sumInt ma) cs.maShift)))
  let sat := r.2.2.2 || (match out with | some o => o.2.2 | none => false)
  let c1 : Chain := { c0 with lines := r.1, phases := r.2.1, lastX := x, ovrAge := ageNext ovr c0.ovrAge,
                              fillAge := ageNext fill c0.fillAge, satAge := ageNext sat c0.satAge }
  match out with
  | none => (c1, none)
  | some o =>
    let word := b2n (ageIn cs.len c1.ovrAge) * 2 ^ 31 + b2n (ageIn cs.len c1.fillAge) * 2 ^ 30 +
      b2n (decide (c1.settleLeft > 0)) * 2 ^ 29 + b2n (ageIn cs.len c1.satAge) * 2 ^ 28 + twosOf 24 o.2.1
    ({ c1 with ma := o.1, settleLeft := c1.settleLeft - 1, outStamp := t, outputs := c1.outputs + 1 }, some word)

/-- An input given to chain `n`: Output and FillCount follow. -/
def State.chainInput (s : State) (n : Nat) (x : Int) (fill ovr : Bool) (t : Stamp) : State :=
  let r := (s.chain n).input (s.chainSet n) x fill ovr t
  let s1 : State := { s with sense := { s.sense with chains := setAt s.sense.chains n r.1 } }
  let s2 := s1.bump (Obj.chainFillCount n) (b2n fill)
  match r.2 with
  | some w => s2.setU (Obj.chainOutput n) w
  | none => s2

/-! ### Sequences (R176) -/

/-- The sequence of SC0 or SC1. -/
def State.sequence (s : State) (c : Nat) : List Nat :=
  (s.get (if c = 0 then Obj.sc0Sequence else Obj.sc1Sequence)).map (·.toNat)

/-- The converter of a chain. -/
def chainConv (n : Nat) : Nat := if n < 3 then 0 else 1

/-- How often a chain's source stands in its sequence, and the sequence's length. -/
def State.chainSlots (s : State) (n : Nat) : Nat × Nat :=
  let q := s.sequence (chainConv n)
  ((q.filter (· == n)).length, q.length)

/-- Whether a chain is idle: its source stands in no sequence. -/
def State.chainIdle (s : State) (n : Nat) : Bool := (s.chainSlots n).1 == 0

/-- The sample period of a chain's source in ns, 0 when idle. -/
def State.inputPeriodNs (s : State) (n : Nat) : Nat :=
  let k := s.chainSlots n
  if k.1 = 0 then 0 else 1000 * k.2 / k.1

/-- OutputRate in mHz, GroupDelay and SettlingTime in ns (R189, R194). -/
def State.outputRate (s : State) (n : Nat) : Nat :=
  let p := s.inputPeriodNs n
  if p = 0 then 0 else 1000000000000 / (p * (s.chainSet n).dec)
def State.groupDelay (s : State) (n : Nat) : Nat := ((s.chainSet n).len - 1) * s.inputPeriodNs n / 2
def State.settlingTime (s : State) (n : Nat) : Nat :=
  ((s.chainSet n).len + (s.chainSet n).dec - 1) * s.inputPeriodNs n

/-! ### Results (R179 to R183) -/

/-- Count of a source increased (R179). -/
def State.countSource (s : State) (src : Nat) : State :=
  { s with sense := { s.sense with counts := tabPut s.sense.counts src ((tabGet s.sense.counts src 0 + 1) % 256) } }

/-- Whether a source is converted differentially (R172). -/
def State.differential (s : State) (src : Nat) : Bool := src == 0 && bitOf (s.u Obj.pairMode) 0

/-- The right-aligned code of a sample, with the clamp of R181. -/
def State.sampleCode (s : State) (src : Nat) (x : Sample) : Int :=
  if s.differential src then
    if x.overRange then (if x.code.toNat < 2048 then 2047 else -2048) else signedOf 12 x.code.toNat
  else if x.overRange then (if x.code.toNat ≥ 2048 then 4095 else 0)
  else (x.code.toNat : Int)

/-- The result word of Table SENSE-3 with Code aligned (Table SENSE-4). -/
def State.resultWord (s : State) (src : Nat) (code : Int) (ovr : Bool) : Nat :=
  let aligned := if s.u Obj.resultAlign = 1 then code * 16 else code
  b2n ovr * 2 ^ 31 + b2n (s.differential src) * 2 ^ 30 + src * 2 ^ 24 + tabGet s.sense.counts src 0 * 2 ^ 16 + twosOf 16 aligned

/-- A conversion of a source stored: Count, LastResults and OvrCount (R179, R181). -/
def State.storeResult (s : State) (src : Nat) (code : Int) (ovr : Bool) : State :=
  let s1 := s.countSource src
  (s1.setWord Obj.lastResults 4 (4 * src) (s1.resultWord src code ovr)).bumpWord Obj.ovrCount 4 (4 * src) (b2n ovr)

def State.conv (s : State) (c : Nat) : Converter := getAt s.sense.convs c Converter.rest

def State.setConv (s : State) (c : Nat) (x : Converter) : State :=
  { s with sense := { s.sense with convs := setAt s.sense.convs c x } }

/-- A discard conversion counted (R182). -/
def State.countDiscard (s : State) (c : Nat) : State :=
  (s.bumpWord Obj.discardCount 4 (4 * c) 1).setConv c { s.conv c with discard := false }

/-- An over-range asks for a discard conversion (R182). -/
def State.wantDiscard (s : State) (c : Nat) (ovr : Bool) : State :=
  if ovr then s.setConv c { s.conv c with discard := true } else s

/-! ### Synchronising resets (R191, R192) -/

/-- A synchronising reset caused now on the converters of a mask. -/
def State.syncCause (s : State) (mask : Nat) : State :=
  (List.range 2).foldl (fun s c =>
    if bitOf mask c then s.setConv c { s.conv c with resetCause := some s.time.ticks } else s) s

/-- SYNC_RESET: at the slot boundary at which converter `c` stands, a reset that was caused at least 1.0 µs before takes effect. -/
def State.syncReset (s : State) (c : Nat) : State :=
  let x := s.conv c
  match x.resetCause with
  | none => s
  | some r =>
    if x.startAt < r + 250 then s
    else
      let s1 := (s.runTo x.startAt).setConv c { x with slot := 0, resetCause := none }
      { s1 with sense := { s1.sense with chains := s1.sense.chains.zipIdx.map (fun e =>
          if chainConv e.2 = c then { e.1 with primed := false } else e.1) } }

/-- Whether the conversion of the slot that ends at `e` is kept from its chain by a reset that takes effect at `e` (R191). -/
def Converter.cutOff (x : Converter) (e : Nat) : Bool := match x.resetCause with | some r => decide (e ≥ r + 250) | none => false

/-- CONVERSION_SLOT: the slot in progress on SC0 or SC1 ends (R174, R177, R179, R182). -/
def State.conversionSlot (s0 : State) (c : Nat) (x : Sample) : State :=
  if !s0.dev.booted then s0
  else
    let s := s0.syncReset c
    let v := s.conv c
    let e := v.startAt + 250
    let t : Stamp := v.startAt * 320 + 20000
    let cut := v.cutOff e
    let q := s.sequence c
    let src := getAt q (v.slot % max 1 q.length) 0xFF
    let s1 := (s.runTo e).setConv c { v with slot := (v.slot + 1) % max 1 q.length, startAt := e }
    if v.discard then
      let s2 := s1.countDiscard c
      if src = 0xFE then { s2 with charge := { s2.charge with held := s2.charge.held.tail } }
      else if src < 6 then
        let s3 := s2.countSource src
        if cut then s3 else s3.chainInput src (s3.chain src).lastX true false t
      else s2
    else if src = 0xFE then
      match s1.charge.held with
      | [] => s1
      | (b, vh) :: rest =>
        let code := s1.sampleCode (8 + b) x
        let s2 : State := { s1 with charge := { s1.charge with held := rest } }
        ((s2.storeResult (8 + b) code x.overRange).headroomResult b vh code.toNat).wantDiscard c x.overRange
    else if src < 6 then
      let code := s1.sampleCode src x
      let s2 := (s1.storeResult src code x.overRange).wantDiscard c x.overRange
      let s3 := if src = 4 then s2.vchgResult code.toNat else s2
      if cut then s3 else s3.chainInput src code false x.overRange t
    else s1

/-- CHAIN_SYNC: a write to ChainSync (R191). -/
def State.chainSync (s : State) (v : Nat) : Abort × State :=
  if s.dev.state = .idle ∨ s.dev.state = .armed ∨ s.dev.state = .calibrate then (Abort.ok, s.syncCause (v % 4))
  else (Abort.notAllowedNow, s)

/-! ### Window comparators (R184, R185) -/

/-- WC0's High from ChargeOvp (R184). -/
def State.wc0High (s : State) : Nat := s.u Obj.chargeOvp * 10000 * 100 / max 1 (s.u Obj.chargeDivider) / 400

/-- WcConfig as it reads: WC0's High computed (R184). -/
def State.wcConfig (s : State) : Bytes := patch 6 (leBytes 2 s.wc0High) (s.get Obj.wcConfig)

/-- Whether comparator `n` watches: enabled with a source, after the end of BOOT (R185). -/
def State.wcOn (s : State) (n : Nat) : Bool :=
  let r := slice (8 * n) 8 (s.get Obj.wcConfig)
  s.dev.booted && numAt 0 1 r != 0xFF && bitOf (numAt 1 1 r) 0 && decide (fieldOf s.sense.tripped (2 * n + 1) (2 * n) = 0)

/-- The severity of a trip (Tables SENSE-6 and SENSE-7). -/
def State.wcSeverity (s : State) (n : Nat) (low : Bool) : Nat :=
  if n = 0 then 4 else if n = 1 then (if low then 3 else 4) else if n = 2 then 3
  else numAt (8 * n + 3) 1 (s.get Obj.wcConfig) + 1

/-- A trip: latched bit, count, event, and the direct gates of WC0 and WC1 (R185). -/
def State.wcTrip (s : State) (n : Nat) (low : Bool) : State :=
  if !s.wcOn n ∨ (n = 0 ∧ low) then s
  else
    let bit := 2 * n + b2n low
    let s1 : State := { s with sense := { s.sense with tripped := setBit s.sense.tripped bit true } }
    let s2 := (s1.setU Obj.wcStatus (setBit (s1.u Obj.wcStatus) bit true)).bumpWord Obj.wcTripCount 4 (4 * n) 1
    let s3 := if n = 0 then
        (if s2.dev.state.live then s2.supplyFault
         else (s2.inhibitOn inhSupply).fatal 0x0305 0xFFFF (s2.u Obj.chargeMeasured))
      else if n = 1 ∧ !low ∧ s2.dev.state.live then { s2 with charge := { s2.charge with ao3Gate := true } }
      else s2
    let sev := s3.wcSeverity n low
    if sev = 4 then s3.fatal (0x0501 + n) n (b2n low) else s3.raise (0x0501 + n) n sev (b2n low)

/-- WC_REARM: the comparator may trip again. -/
def State.wcRearm (s : State) (n : Nat) : State :=
  { s with sense := { s.sense with tripped := setBit (setBit s.sense.tripped (2 * n) false) (2 * n + 1) false } }

end Sys2Proof.Machine
end

