-- ==== Sys2Proof/Machine/Loop.lean ====
section
/-!
DEFINITION. The loop engine (R195 to R208, R218 to R224): measured inputs, set-points, the slew limiter, the control law, the
Hinge, deadlines, scan-valid, stall, and the bias set-point.
-/

namespace Sys2Proof.Machine

/-! ### Names for binary32 arithmetic -/

def fAdd (a b : Fl) : Fl := Fl.add fmt32 a b
def fSub (a b : Fl) : Fl := Fl.sub fmt32 a b
def fMul (a b : Fl) : Fl := Fl.mul fmt32 a b
def fDiv (a b : Fl) : Fl := Fl.div fmt32 a b
def fOf (q : Rat) : Fl := roundFl fmt32 q

/-- The value of an F32 object. -/
def State.f (s : State) (id : Nat) : Fl := Fl.ofBits32 (s.u id)

/-! ### Loops -/

def State.loop (s : State) (n : Nat) : Loop := getAt s.loops n (Loop.rest (resetCode n))

def State.setLoop (s : State) (n : Nat) (l : Loop) : State := { s with loops := setAt s.loops n l }

/-- The chain that feeds a loop (Table LOOP-1). -/
def loopChain (n : Nat) : Nat := getAt [0, 2, 4, 3] n 0

/-- T_n in ns under a store's settings, 0 when the chain is idle (R197). -/
def State.loopPeriodNs (s : State) (n : Nat) : Nat :=
  let k := s.u (Obj.loopSampleDivider n)
  if n = 0 ∧ s.u Obj.mirrorType = 1 then 2000 * k
  else s.inputPeriodNs (loopChain n) * (s.chainSet (loopChain n)).dec * k

/-- The deadline of a loop's samples in ns; the default stands for T_n (R198). -/
def State.deadlineNs (s : State) (n : Nat) : Nat := s.u (Obj.loopDeadline n)

/-- A mode given to a loop (R196, R206): OFF drops the output to its reset code; another new mode makes a Hinge at the next sample. -/
def State.setMode (s : State) (n : Nat) (m : LoopMode) : State :=
  let l := s.loop n
  if l.mode = m then s
  else
    let l' : Loop := if m = .off then
        { Loop.rest (resetCode n) with yPrev := l.yPrev, first := l.first, missRun := l.missRun, miss := l.miss,
                                       limit := l.limit, divider := l.divider, missedNow := l.missedNow }
      else { l with mode := m, freshMode := true, fromOff := decide (l.mode = .off) || l.fromOff, rampLeft := 0, residue := 0,
                    tolRun := 0, atTarget := false, badSince := none }
    (s.setLoop n l').setU (Obj.loopLoopMode n) m.code |>.setU (Obj.loopOutputNow n) l'.code

/-- ArmReady (R196). -/
def State.armReady (s : State) : Bool :=
  (s.loop 0).mode == .track && (s.loop 1).mode == .track && (s.loop 2).mode == .regulate && (s.loop 3).mode == .regulate

/-! ### Measured inputs (R195, R201, R215, R216, R220, R221) -/

/-- The value of a chain's last output over its DC gain, in converter codes. -/
def State.chainValue (s : State) (n : Nat) : Rat :=
  (signedOf 24 (s.u (Obj.chainOutput n)) : Rat) / (s.chainSet n).gain

/-- What `Value * 2^-F` stands for on a loop: codes for the axes, 10 mV for L2 through ChargeDivider, mV for L3 through
BiasDivider (R220, R221). -/
def State.loopValue (s : State) (n : Nat) : Rat :=
  let x := s.chainValue (loopChain n)
  if n = 2 then x * s.u Obj.chargeDivider * 4 / 10000
  else if n = 3 then x * s.u Obj.biasDivider * 4 / 1000
  else x

/-- The scaled input of a loop's chain (R201). -/
def State.scaled (s : State) (n : Nat) : Fl :=
  fAdd (fMul (s.f (Obj.loopSensorGain n)) (fOf (s.loopValue n))) (s.f (Obj.loopSensorOffset n))

/-- The fitted encoder speed in revolutions per second (R215). -/
def State.polySpeedNow (s : State) : Rat :=
  if s.scan.fitPeriod = 0 then 0
  else 80000000000 * 4294967296 / ((s.scan.fitPeriod : Rat) * max 1 (s.u Obj.encoderCounts))

/-- The frequency of the resonant model, Hz (R216). -/
def State.resFreqNow (s : State) : Rat :=
  if s.scan.fitPeriod = 0 then 0 else 80000000000 * 4294967296 / (s.scan.fitPeriod : Rat)

/-- The resonant model's angle at a stamp: A sin(2π f (t − t0)) (R216). -/
def State.resTheta (s : State) (t : Stamp) : Rat :=
  f32q s.scan.peak * sinTurns (s.resFreqNow * (((t : Int) - (s.scan.fitRef : Int) : Int) : Rat) / 80000000000)

/-- The measured value y of a loop (R201, R215, R216). -/
def State.loopY (s : State) (n : Nat) : Fl :=
  if n = 0 ∧ s.u Obj.mirrorType = 1 then fOf s.polySpeedNow
  else if n = 0 ∧ s.u Obj.mirrorType = 2 then Fl.ofBits32 s.scan.peakNow
  else s.scaled n

/-! ### The raster (R212, R213) -/

/-- The raster's set-point at a stamp: r, v and a (R212). `t0` is the instant of the entry vertex. -/
def State.rasterAt (s : State) (t0 t : Stamp) : Rat × Rat × Rat :=
  let lo := s.q Obj.rasterMin
  let hi := s.q Obj.rasterMax
  let v := s.q Obj.rasterVelocity
  let a := s.q Obj.rasterAccel
  let x : Rat := ((t - t0 : Nat) : Rat) / 80000000000
  let h := v / a
  let sweep := (hi - lo) / v
  if x < h then (lo - v * v / (2 * a) + a * x * x / 2, a * x, a)
  else if s.u Obj.rasterShape = 0 then
    let frame := 2 * sweep + 4 * h
    let u0 := x - h
    let u := u0 - (ratFloor (u0 / frame) : Rat) * frame
    if u < sweep then (lo + v * u, v, 0)
    else if u < sweep + 2 * h then
      let w := u - sweep
      (hi + v * w - a * w * w / 2, v - a * w, -a)
    else if u < 2 * sweep + 2 * h then (hi - v * (u - sweep - 2 * h), -v, 0)
    else
      let w := u - 2 * sweep - 2 * h
      (lo - v * w + a * w * w / 2, a * w - v, a)
  else
    let vf := s.q Obj.flybackVelocity
    let span := hi - lo
    let long := span + (v * v - vf * vf) / a
    let w := if long ≥ 0 then vf else (Fl.sqrt fmt64 (roundFl fmt64 (span * a + v * v))).rat
    let arc := (v + w) / a
    let flat := if long ≥ 0 then long / vf else 0
    let fly := 2 * arc + flat
    let frame := sweep + fly
    let u0 := x - h
    let u := u0 - (ratFloor (u0 / frame) : Rat) * frame
    if u < sweep then (lo + v * u, v, 0)
    else
      let y := u - sweep
      if y < arc then (hi + v * y - a * y * y / 2, v - a * y, -a)
      else
        let top := hi + v * arc - a * arc * arc / 2
        if y < arc + flat then (top - w * (y - arc), -w, 0)
        else
          let z := y - arc - flat
          (top - w * flat - w * z + a * z * z / 2, a * z - w, a)

/-- The targets of L1Pattern (R214). -/
def State.l1Pattern (s : State) : List Int :=
  (List.range ((s.get Obj.l1Pattern).length / 4)).map (fun k => intAt (4 * k) 4 (s.get Obj.l1Pattern))

/-! ### Bias (R221, R222) -/

/-- Region temperature as R221 takes it, 0.01 °C: the newest valid reading, or the fail-hot one while the sensor is failed (R222, R300);
the sensor holds either. -/
def State.regionTemp (s : State) (r : Nat) : Int := match s.therm.sensors[r]? with | some x => x.value | none => 12500

/-- Regions that count in R221: fitted and not disabled by the throttle. -/
def State.biasRegions (s : State) : List Nat := (List.range s.variant.regions).filter (fun r => !s.regionOff r)

/-- need[r] in mV. -/
def State.biasNeed (s : State) (r : Nat) : Rat :=
  (s.word Obj.vbd25 2 (2 * r) : Rat) + (s.u Obj.bdTempCo : Rat) / 1000 * ((s.regionTemp r - 2500 : Int) : Rat) / 100 +
    (s.word Obj.excessBias 2 (2 * s.bandOf r) : Rat)

/-- The bias set-point and the trims computed and applied (R221). -/
def State.biasUpdate (s : State) : State :=
  match s.biasRegions with
  | [] => s
  | r0 :: rs =>
    let top := rs.foldl (fun (m : Rat) r => if s.biasNeed r > m then s.biasNeed r else m) (s.biasNeed r0)
    let sp := top + (s.u Obj.biasReserve : Rat)
    let s1 : State := { s with scan := { s.scan with biasSetpoint := q32 sp } }
    let trims := (r0 :: rs).map (fun r => (r, ratRound ((sp - s.biasNeed r) / 12)))
    let mask := trims.foldl (fun (m : Nat) e => if e.2 < 0 ∨ e.2 > 250 then setBit m e.1 true else m) 0
    let s2 := trims.foldl (fun (s : State) e => s.setWord Obj.biasTrim 1 e.1 (clampInt 0 250 e.2).toNat) s1
    let s3 := s2.setU Obj.trimClamp mask
    if mask ≠ 0 then s3.raise 0x0405 3 2 mask else s3

/-! ### Set-points (R195, R203, R213 to R217, R220, R221, R223) -/

/-- The mirrored set-point of a loop (R223). -/
def State.mirror (s : State) (n : Nat) : MirrorLoop :=
  getAt s.pair.mirror n { r := 0, v := 0, a := 0, code := resetCode n, mode := 0, asOf := 0 }

/-- The entry vertex of a raster (R213). -/
def State.entryVertex (s : State) : Rat :=
  s.q Obj.rasterMin - s.q Obj.rasterVelocity * s.q Obj.rasterVelocity / (2 * s.q Obj.rasterAccel)

/-- The requested set-point of a loop, before R203. -/
def State.request (s : State) (n : Nat) : Fl :=
  let m := (s.loop n).mode
  if n = 0 then
    match s.u Obj.mirrorType with
    | 0 => if m = .park then s.f Obj.parkPosition else fOf s.entryVertex
    | 1 => if m = .park then .fin 0 else s.f Obj.polySpeed
    | _ => if m = .park then .fin 0 else s.f Obj.resAmplitude
  else if n = 1 then
    if m = .park then .fin 0
    else if m = .start then fOf (getAt s.l1Pattern 0 0 : Int)
    else fOf (getAt s.l1Pattern s.scan.patternEntry 0 : Int)
  else if n = 2 then fOf (s.u Obj.chargeSetpoint)
  else Fl.ofBits32 s.scan.biasSetpoint

/-- The limits of a set-point, where R203 gives some. -/
def State.limitsOf (s : State) (n : Nat) : Option (Rat × Rat) :=
  if n = 2 then some (s.u Obj.chargeMin, s.u Obj.chargeMax)
  else if n = 3 then some (20000, 32000)
  else none

/-- One step of the slew limiter (R204): r, v, a and whether at target. -/
def slew (target r v ts vmax amax : Fl) : Fl × Fl × Fl × Bool :=
  let dist := fSub target r
  if Fl.le dist.abs (fMul (fMul amax ts) ts) && Fl.le v.abs (fMul amax ts) then (target, .fin 0, .fin 0, true)
  else
    let left := Fl.max (fSub dist.abs (fMul v.abs ts)) (.fin 0)
    let top := Fl.min vmax (Fl.sqrt fmt32 (fMul (fMul (.fin 2) amax) left))
    let vdes := fMul (.fin dist.sign) top
    let a := Fl.clamp amax.neg amax (fDiv (fSub vdes v) ts)
    let v' := fAdd v (fMul a ts)
    (fAdd r (fMul v' ts), v', a, false)

/-- A set-point with R203 and R204 applied to a loop at a sample instant: the raster and the mirrored stream give r, v and a
themselves. -/
def State.setpoint (s : State) (n : Nat) (t : Stamp) (y : Fl) : Loop × Bool :=
  let l0 := s.loop n
  let l := if l0.fromOff && l0.freshMode then { l0 with r := y.bits32, v := 0, a := 0 } else l0
  match l.mode, n, s.scan.trackAt with
  | .shadow, _, _ =>
    let m := s.mirror n
    ({ l with r := m.r, v := m.v, a := m.a, atTarget := false }, false)
  | .track, 0, some t0 =>
    if s.u Obj.mirrorType = 0 then
      let g := s.rasterAt t0 t
      ({ l with r := q32 g.1, v := q32 g.2.1, a := q32 g.2.2, atTarget := false }, false)
    else slewed l
  | _, _, _ => slewed l
where
  slewed (l : Loop) : Loop × Bool :=
    let want := s.request n
    let (goal, out) := match s.limitsOf n with
      | some (lo, hi) => (Fl.clamp (.fin lo) (.fin hi) want, Fl.lt want (.fin lo) || Fl.lt (.fin hi) want)
      | none => (want, false)
    let ts := fOf ((s.loopPeriodNs n : Rat) / 1000000000)
    let g := slew goal (.ofBits32 l.r) (.ofBits32 l.v) ts (s.f (Obj.loopVelLimit n)) (s.f (Obj.loopAccLimit n))
    let fresh := out && decide (l.target ≠ want.bits32)
    ({ l with r := g.1.bits32, v := g.2.1.bits32, a := g.2.2.1.bits32, atTarget := g.2.2.2, target := want.bits32,
              limit := l.limit || fresh }, fresh)

/-! ### Control law (R201, R207) -/

/-- The coefficients of a loop's biquads: b0, b1, b2, a1, a2. -/
def biquadOf (bs : Bytes) : List Fl := (List.range 5).map (fun k => Fl.ofBits32 (numAt (4 * k) 4 bs))

/-- One biquad in transposed direct form II: output and the two states (R201). -/
def biquadStep (c : List Fl) (x z1 z2 : Fl) : Fl × Fl × Fl :=
  let g (k : Nat) : Fl := c.getD k (.fin 0)
  let o := fAdd (fMul (g 0) x) z1
  (o, fAdd (fSub (fMul (g 1) x) (fMul (g 3) o)) z2, fSub (fMul (g 2) x) (fMul (g 4) o))

/-- The DC gain of a biquad (R207). -/
def biquadGain (c : List Fl) : Fl :=
  let g (k : Nat) : Fl := c.getD k (.fin 0)
  fDiv (fAdd (fAdd (g 0) (g 1)) (g 2)) (fAdd (fAdd (.fin 1) (g 3)) (g 4))

/-- The steady state of a biquad for an input: output and states (R207). -/
def biquadSteady (c : List Fl) (x : Fl) : Fl × Fl × Fl :=
  let o := fMul (biquadGain c) x
  (o, fSub o (fMul (c.getD 0 (.fin 0)) x), fSub (fMul (c.getD 2 (.fin 0)) x) (fMul (c.getD 4 (.fin 0)) o))

/-- The law's result before it is latched: the loop's states, u, and whether a Hinge gap was found. -/
structure LawOut where
  l : Loop
  u : Fl
  gap : Bool
deriving DecidableEq, Repr

/-- The feed-forward input (R201). -/
def State.xff (s : State) (n : Nat) (l : Loop) : Fl :=
  if n < 2 then .ofBits32 l.a
  else if n = 2 then fSub (.ofBits32 l.r) (fOf (s.chainValue 5))
  else .fin 0

/-- Whether L0 drives a resonant mirror, whose law gives an amplitude (R216). -/
def State.resonant (s : State) (n : Nat) : Bool := n == 0 && s.u Obj.mirrorType == 2

/-- The control law of a loop on the input y under the limiter's r, with the Hinge at the first sample of a mode (R201, R207). -/
def State.law (s : State) (n : Nat) (l : Loop) (y : Fl) : LawOut :=
  let soft := n < 2 && (l.mode == .start || l.mode == .park)
  let kp := s.f (if soft then Obj.loopStartKp n else Obj.loopKp n)
  let ki := s.f (if soft then Obj.loopStartKi n else Obj.loopKi n)
  let kd := s.f (if soft then Obj.loopStartKd n else Obj.loopKd n)
  let alpha := s.f (Obj.loopAlpha n)
  let lim := s.f (Obj.loopIntLimit n)
  let ts := fOf ((s.loopPeriodNs n : Rat) / 1000000000)
  let bias := if s.resonant n then .fin 0 else s.f (Obj.loopOutBias n)
  let yPrev := if l.first then y else .ofBits32 l.yPrev
  let e := fSub (.ofBits32 l.r) y
  let p := fMul kp e
  let d := fAdd (fMul alpha (.ofBits32 l.d)) (fDiv (fMul (fMul (fSub (.fin 1) alpha) kd) (fSub yPrev y)) ts)
  let ff := fMul (s.f (Obj.loopKff n)) (s.xff n l)
  let c1 := biquadOf (s.get (Obj.loopBiquad1 n))
  let c2 := biquadOf (s.get (Obj.loopBiquad2 n))
  let l1 : Loop := { l with yPrev := y.bits32, first := false, d := d.bits32, err := e.bits32, freshMode := false, fromOff := false }
  let zs (k : Nat) (z : List Nat) : Fl := .ofBits32 (z.getD k 0)
  if l.freshMode then
    let g := fMul (biquadGain c1) (biquadGain c2)
    let i := fSub (fSub (fDiv (fSub (fSub (fOf l.code) ff) bias) g) p) d
    let ic := Fl.clamp lim.neg lim i
    let residue := fMul (fSub i ic) g
    let b1 := biquadSteady c1 (fAdd (fAdd p ic) d)
    let b2 := biquadSteady c2 b1.1
    let ramp := s.u (Obj.loopHingeRamp n)
    let gap := Fl.lt (s.f (Obj.loopHingeTol n)) residue.abs
    { l := { l1 with i := ic.bits32, residue := residue.bits32, rampLeft := ramp - 1, hingeGap := gap, intHold := false,
                     z1 := [b1.2.1.bits32, b2.2.1.bits32], z2 := [b1.2.2.bits32, b2.2.2.bits32] },
      u := fAdd (fAdd (fAdd b2.1 ff) bias) residue, gap := gap }
  else
    let hold := (l.satHi && Fl.lt (.fin 0) e) || (l.satLo && Fl.lt e (.fin 0))
    let i := if hold then Fl.ofBits32 l.i else Fl.clamp lim.neg lim (fAdd (.ofBits32 l.i) (fMul (fMul ki ts) e))
    let b1 := biquadStep c1 (fAdd (fAdd p i) d) (zs 0 l.z1) (zs 0 l.z2)
    let b2 := biquadStep c2 b1.1 (zs 1 l.z1) (zs 1 l.z2)
    let ramp := s.u (Obj.loopHingeRamp n)
    let part := if l.rampLeft = 0 then Fl.fin 0
      else fDiv (fMul (.ofBits32 l.residue) (fOf l.rampLeft)) (fOf ramp)
    { l := { l1 with i := i.bits32, rampLeft := l.rampLeft - 1, intHold := hold,
                     z1 := [b1.2.1.bits32, b2.2.1.bits32], z2 := [b1.2.2.bits32, b2.2.2.bits32] },
      u := fAdd (fAdd (fAdd b2.1 ff) bias) part, gap := false }

/-! ### Scan-valid, stall and CHARGE (R218 to R220) -/

/-- Facet units per encoder edge (R215). -/
def State.facetPerEdge (s : State) : Rat := 65536 * (s.u Obj.facets : Rat) / max 1 (s.u Obj.encoderCounts)

/-- How far an edge or index is overdue at the present, in position units: past one period after the newest (R218, R219). -/
def State.overdue (s : State) : Rat :=
  if s.scan.fitPeriod = 0 then 0
  else
    let period := (s.scan.fitPeriod : Rat) / 4294967296
    let last : Stamp := match s.u Obj.mirrorType with
      | 1 => (s.scan.edges.head?.map (·.2)).getD s.nowStamp
      | _ => (s.scan.indexes.head?.map (·.2)).getD s.nowStamp
    let late := ((s.nowStamp - last : Nat) : Rat) / period - 1
    if late ≤ 0 then 0
    else if s.u Obj.mirrorType = 1 then late * s.facetPerEdge
    else late * 2 * piQ * f32q s.scan.peak

/-- The error of an axis that R218 and R219 judge. -/
def State.axisError (s : State) (n : Nat) : Rat :=
  if n = 0 ∧ s.u Obj.mirrorType = 1 then
    match s.scan.edges.head? with
    | none => 0
    | some (k, t) =>
      let model : Rat := (s.scan.fitRef : Rat) + (((k : Int) - (s.scan.edgeN : Int) : Int) : Rat) * (s.scan.fitPeriod : Rat) / 4294967296
      let late := if s.scan.fitPeriod = 0 then 0
        else ((t : Rat) - model) / ((s.scan.fitPeriod : Rat) / 4294967296) * s.facetPerEdge
      if s.overdue > ratAbs late then s.overdue else late
  else if s.resonant n then
    let e := (s.scaled 0).rat - s.resTheta (s.chain 0).outStamp
    if s.overdue > ratAbs e then s.overdue else e
  else f32q (s.loop n).err

/-- Whether an axis lies within its tolerance. -/
def State.axisInTol (s : State) (n : Nat) : Bool :=
  decide (ratAbs (s.axisError n) ≤ s.q (if n = 0 then Obj.trackTol else Obj.l1TrackTol))

/-- Scan-valid as R218 gives it. -/
def State.scanValidNow (s : State) : Bool :=
  let ok (n : Nat) : Bool :=
    let l := s.loop n
    l.mode == .track && l.rampLeft == 0 && !l.freshMode && s.axisInTol n && !l.missedNow
  ok 0 && ok 1 && !s.scan.stall

/-- Scan-valid driven to what R218 gives, with its direct gate (R157, R218). -/
def State.scanValidDrive (s : State) : State :=
  let on := s.scanValidNow
  let s1 := s.setB Obj.scanValid on
  if on then s1.scanValidRise else s1.scanValidFall

/-- L2 in tolerance (R220). -/
def State.chargeOk (s : State) : Bool :=
  let l := s.loop 2
  l.mode == .regulate && l.atTarget && decide (ratAbs (f32q l.err) ≤ (s.u Obj.chargeTol : Rat))

/-- The CHARGE inhibit follows L2 (R220); in SCAN its setting is an Error (0x0307). -/
def State.chargeInhibit (s : State) : State :=
  if s.chargeOk then s.inhibitOff inhCharge
  else if bitOf s.fire.inhibit inhCharge then s
  else
    let s1 := s.inhibitOn inhCharge
    if s1.dev.state = .scan then s1.raise 0x0307 0xFFFF 3 (s1.u Obj.chargeMeasured) else s1

/-- STALL_LATCH: the error of L0 has exceeded StallTol for StallTime in TRACK; a resonant frequency out of range is treated as one
(R216, R219). -/
def State.stallLatch (s : State) : State :=
  let l := s.loop 0
  let out := s.resonant 0 && (decide (s.resFreqNow < s.q Obj.resFreqMin) || decide (s.resFreqNow > s.q Obj.resFreqMax))
  if l.mode ≠ .track ∨ s.scan.stall then s
  else match (if out then some s.time.ticks else l.badSince) with
    | none => s
    | some t =>
      let s1 := if out then s else s.runTo (t + ceilDiv (s.u Obj.stallTime) 4)
      let s2 : State := { s1 with scan := { s1.scan with stall := true } }
      let s3 := (s2.inhibitOn inhStall).fatal 0x0402 0 (q32 (s1.axisError 0))
      (List.range 2).foldl (fun s n => (s.setLoop n { s.loop n with code := 0x8000 }).setU (Obj.loopOutputNow n) 0x8000) s3
        |>.scanValidDrive

/-! ### Deadlines (R199) -/

/-- A missed deadline: the DAC keeps its code; at MissLimit every output goes to its reset code and the device to SAFE. -/
def State.deadlineMiss (s : State) (n : Nat) : State :=
  let l := s.loop n
  if l.mode = .off then s
  else
    let run := satNat 255 (l.missRun + 1)
    let s1 := (s.setLoop n { l with miss := true, missRun := run, missedNow := true }).bump (Obj.loopDeadlineMissCount n) 1
    let s2 := if n < 2 then s1.scanValidDrive else s1
    if run ≥ s2.u Obj.missLimit ∧ ¬ s2.ev.fatal.contains 0x0401 then
      ((List.range 4).foldl (fun s m => (s.setLoop m { s.loop m with code := resetCode m }).setU (Obj.loopOutputNow m) (resetCode m))
        s2).fatal 0x0401 n run
    else s2

/-! ### A loop sample (R197 to R202, R206) -/

/-- The instant of a loop's sample. -/
def State.sampleAt (s : State) (n : Nat) : Stamp :=
  if n = 0 ∧ s.u Obj.mirrorType = 1 then s.nowStamp else (s.chain (loopChain n)).outStamp

/-- The code of u: halves up, and a free value for a u that is no number. -/
def State.codeOf (s : State) (u lo hi : Fl) : Nat × State :=
  match Fl.clamp lo hi u with
  | .fin q => ((clampInt 0 65535 (ratRound q)).toNat, s)
  | .inf b => (if b then 0 else 65535, s)
  | .nan => let d := s.draw; (d.1 % 65536, d.2)

/-- The drive code of a resonant mirror: OutBias + u sin(2π f (t − t0) + ResPhaseTarget); before the fit holds 16 stamps the drive runs
open loop at ResStartFreq with amplitude StartDrive (R216, R217). -/
def State.resonantCode (s : State) (t : Stamp) (u : Rat) : Nat :=
  let bias := s.q (Obj.loopOutBias 0)
  let closed := decide (s.scan.indexes.length ≥ 16)
  let turns := if closed then
      s.resFreqNow * (((t : Int) - (s.scan.fitRef : Int) : Int) : Rat) / 80000000000 + s.q Obj.resPhaseTarget / 360
    else s.q Obj.resStartFreq * (t : Rat) / 80000000000
  let amp := if closed then u else (s.u Obj.startDrive : Rat)
  (clampInt 0 65535 (ratRound (bias + amp * sinTurns turns))).toNat

/-- Whether START has converged for a sample: ATTARGET within tolerance, the polygon's speed, or the resonant amplitude and fit (R213
to R217). -/
def State.converged (s : State) (n : Nat) (l : Loop) (y : Fl) : Bool :=
  if n = 0 ∧ s.u Obj.mirrorType = 1 then
    decide (ratAbs (y.rat - s.q Obj.polySpeed) ≤ s.q Obj.speedTol * s.q Obj.polySpeed)
  else if s.resonant n then
    decide (s.scan.indexes.length ≥ 16) &&
      decide (ratAbs (y.rat - s.q Obj.resAmplitude) ≤ s.q Obj.ampTol * s.q Obj.resAmplitude) &&
      decide (s.scan.fitResidual ≤ s.u Obj.resPhaseTol)
  else l.atTarget && decide (ratAbs (f32q l.err) ≤ s.q (if n = 0 then Obj.trackTol else Obj.l1TrackTol))

/-- INTOL (Table LOOP-10). -/
def State.tolOf (s : State) (n : Nat) (l : Loop) (y : Fl) : Bool :=
  match n with
  | 2 => decide (ratAbs (f32q l.err) ≤ (s.u Obj.chargeTol : Rat))
  | 3 => let sp := f32q s.scan.biasSetpoint; decide (ratAbs (y.rat - sp) ≤ ratAbs sp / 100)
  | m => s.axisInTol m

/-- Whether a loop has its next sample: SampleDivider outputs of its chain since the last one (R197); the polygon's timebase and the
resonant half period stand apart from the chain. -/
def State.sampleReady (s : State) (n : Nat) : Bool :=
  (n == 0 && s.u Obj.mirrorType != 0) ||
    decide ((s.chain (loopChain n)).outputs ≥ (s.loop n).divider + s.u (Obj.loopSampleDivider n))

/-- START to TRACK when the condition has held for HingeCount samples; L0 then starts its trajectory (R213 to R217). -/
def State.hingeIn (s : State) (n : Nat) (ok : Bool) (t : Stamp) : State :=
  let l := s.loop n
  if l.mode ≠ .start then s
  else
    let run := if ok then l.tolRun + 1 else 0
    let s1 := s.setLoop n { l with tolRun := run }
    if ok ∧ run ≥ s.u Obj.hingeCount then
      let s2 := s1.setMode n .track
      if n = 0 then { s2 with scan := { s2.scan with trackAt := some t, transomFrom := 0, transomTo := 0 } }
      else { s2 with scan := { s2.scan with patternEntry := 0 } }
    else s1

/-- LOOP_SAMPLE: the loop takes its input, runs limiter and law, and latches the code when the evaluation ends by the deadline; a
later one commits its states and its output is discarded (R199, R201). `latency` is in ns from the sampling instant. -/
def State.loopSample (s0 : State) (n latency : Nat) (ecc : Bool) : State :=
  if !s0.dev.booted ∨ !s0.sampleReady n then s0
  else
    let t := s0.sampleAt n
    let word := s0.u (Obj.chainOutput (loopChain n))
    let s := s0.bump Obj.coefEccCount (b2n ecc)
    let y := s.loopY n
    let chained := !(n == 0 && s.u Obj.mirrorType == 1)
    let ovr := chained && bitOf word 31
    let fill := chained && bitOf word 30
    let sp := s.setpoint n t y
    let outs := (s.chain (loopChain n)).outputs
    let s1 := if s.resonant n then { s with scan := { s.scan with peak := s.scan.peakNow, peakNow := 0 } } else s
    let meas := s1.setU (Obj.loopMeasuredNow n) y.bits32
    if (s.loop n).mode = .off then
      meas.setLoop n { s.loop n with yPrev := y.bits32, first := false, divider := outs }
    else
      let o := s1.law n sp.1 y
      let lo' : Fl := fOf (s.u (Obj.loopOutMin n))
      let hi' : Fl := fOf (s.u (Obj.loopOutMax n))
      let satHi := Fl.lt hi' o.u
      let satLo := Fl.lt o.u lo'
      let late := decide (latency > s.deadlineNs n)
      let (code0, s2) := meas.codeOf o.u lo' hi'
      let code := if s.resonant n then s1.resonantCode t (Fl.clamp lo' hi' o.u).rat else code0
      let ovrRun := if ovr then o.l.ovrRun + 1 else 0
      let l1 : Loop := { o.l with satHi := satHi, satLo := satLo, sensOvr := ovr, sensFill := fill, ovrRun := ovrRun, divider := outs }
      let s3 := (((s2.setLoop n l1).setU (Obj.loopSetpointNow n) l1.r).bump (Obj.loopLimitCount n) (b2n sp.2)).bump
        (Obj.loopSatCount n) (b2n (satHi || satLo))
      let s4 := if o.gap then s3.raise 0x0403 n 1 l1.residue else s3
      let s5 := if ovrRun = 16 ∧ (l1.mode = .track ∨ l1.mode = .regulate) then s4.raise 0x0404 n 3 0 else s4
      let s6 := if late then (if l1.missedNow then s5 else s5.deadlineMiss n)
        else
          let out := if n = 3 ∧ s5.charge.ao3Gate then 0 else code
          let s' := (s5.setLoop n { l1 with code := out, missRun := 0, missedNow := false }).setU (Obj.loopOutputNow n) out
          if latency > s'.u (Obj.loopMaxLatency n) then s'.setU (Obj.loopMaxLatency n) latency else s'
      let l6 := s6.loop n
      let bad := decide (n = 0) && l6.mode == .track && decide (ratAbs (s6.axisError 0) > s6.q Obj.stallTol)
      let l7 : Loop := { l6 with inTol := s6.tolOf n l6 y,
                                 badSince := if bad then some (l6.badSince.getD (t / 320)) else none }
      let s7 := (s6.setLoop n l7).hingeIn n (s6.converged n l6 y) t
      let s8 := if n < 2 then s7.scanValidDrive else if n = 2 then s7.chargeInhibit else s7
      let s9 := if late then s8.setLoop n { s8.loop n with missedNow := false } else s8
      let parked := n == 0 && s9.u Obj.mirrorType == 1 && l7.mode == .park && l7.atTarget
      if parked then s9.setMode 0 .off else s9

/-- LoopStatus (Table LOOP-10). -/
def State.loopStatus (s : State) (n : Nat) : Nat :=
  let l := s.loop n
  l.mode.code * 2 ^ 28 + b2n l.miss * 2 ^ 27 + b2n l.satHi * 2 ^ 26 + b2n l.satLo * 2 ^ 25 + b2n l.intHold * 2 ^ 24 +
    b2n l.limit * 2 ^ 23 + b2n (decide (l.rampLeft > 0) || l.freshMode) * 2 ^ 22 + b2n l.hingeGap * 2 ^ 21 +
    b2n l.sensOvr * 2 ^ 20 + b2n l.sensFill * 2 ^ 19 + b2n l.inTol * 2 ^ 18 + b2n (decide (n = 0) && s.scan.stall) * 2 ^ 17 +
    b2n l.atTarget * 2 ^ 16 + l.missRun

/-- The modes of the four loops in a device state (Table LOOP-2); `kept` says that ARMED was entered by STOP, and STALL keeps the axes
OFF in SAFE. -/
def loopModes (st : DevState) (kept stall : Bool) : List LoopMode :=
  match st with
  | .reset | .boot => [.off, .off, .off, .off]
  | .idle | .calibrate | .update => [.park, .park, .off, .off]
  | .armed => if kept then [.track, .track, .regulate, .regulate] else [.start, .start, .regulate, .regulate]
  | .scan | .hold => [.track, .track, .regulate, .regulate]
  | .standby => [.shadow, .shadow, .shadow, .regulate]
  | .safe => if stall then [.off, .off, .off, .off] else [.park, .park, .off, .off]

/-- The loops given the modes of a device state; outside TRACK and SHADOW the trajectory ends. The bias set-point is computed at the
entry to REGULATE (R221). -/
def State.loopsFollow (s : State) (kept : Bool) : State :=
  let ms := loopModes s.dev.state kept s.scan.stall
  let enters := (s.loop 3).mode ≠ .regulate ∧ getAt ms 3 .off = .regulate
  let s0 := if enters then s.biasUpdate else s
  let s1 := ms.zipIdx.foldl (fun (s : State) e => s.setMode e.2 e.1) s0
  let m0 := (s1.loop 0).mode
  let s2 : State := if m0 = .track ∨ m0 = .shadow then s1 else { s1 with scan := { s1.scan with trackAt := none } }
  s2.scanValidDrive.chargeInhibit

end Sys2Proof.Machine
end

