-- ==== Sys2Proof/Machine/Scan.lean ====
section
/-!
DEFINITION. The scan trajectory (R209 to R217, R260): column boundaries and Transom slots of a galvanometer, a polygon and a
resonant mirror, P_min, the tracking fit, and what a boundary and a slot do to the measuring units.
-/

namespace Sys2Proof.Machine

/-! ### Fits (R258, R260) -/

/-- The least-squares line t = q + p n through pairs (n, t): p and q (R258). -/
def lineFit (ps : List (Nat × Int)) : Rat × Rat :=
  let m : Rat := (ps.length : Nat)
  if ps.length < 2 then (0, 0)
  else
    let nbar : Rat := (sumNat (ps.map (fun e => e.1)) : Rat) / m
    let tbar : Rat := (sumInt (ps.map (fun e => e.2)) : Rat) / m
    let num := sumRat (ps.map (fun e => ((e.1 : Rat) - nbar) * ((e.2 : Rat) - tbar)))
    let den := sumRat (ps.map (fun e => ((e.1 : Rat) - nbar) * ((e.1 : Rat) - nbar)))
    let p := if den = 0 then 0 else num / den
    (p, tbar - p * nbar)

/-- The sum of squared residuals of a line. -/
def fitSquares (ps : List (Nat × Int)) (p q : Rat) : Rat :=
  sumRat (ps.map (fun e => let r := (e.2 : Rat) - q - p * (e.1 : Rat); r * r))

/-- The tracking fit refitted over the newest stamps: period in 2^-32 LSB, the model's instant of the newest edge, and the rms residual in ns
(R258, R260). -/
def trackFit (xs : List (Nat × Stamp)) : Nat × Stamp × Nat :=
  match xs with
  | [] => (0, 0, 0)
  | (n0, t0) :: _ =>
    let last := (xs.getLast?.map (·.1)).getD 0
    let ps := xs.map (fun e => (e.1 - last, (e.2 : Int) - (t0 : Int)))
    let pq := lineFit ps
    let here := pq.2 + pq.1 * ((n0 - last : Nat) : Rat)
    let sq := if xs.length < 3 then 0 else fitSquares ps pq.1 pq.2 / ((xs.length - 2 : Nat) : Rat)
    let rms := (Fl.sqrt fmt64 (roundFl fmt64 sq)).rat
    ((ratFloor (pq.1 * 4294967296)).toNat, ((t0 : Int) + ratRound here).toNat, (ratRound (rms / 80)).toNat)

/-- An edge on an input that an axis tracks: the encoder of a polygon or the index of a resonant mirror is refitted; the index of a
polygon is kept (R215, R216, R260). A blind edge advances n without a pair. -/
def State.trackEdge (s : State) (input : Nat) (t : Stamp) (blind : Bool) : State :=
  let mt := s.u Obj.mirrorType
  let fitted (s : State) (xs : List (Nat × Stamp)) (n : Nat) : State :=
    let f := trackFit xs
    { s with scan := { s.scan with fitPeriod := f.1, fitRef := f.2.1, fitResidual := f.2.2, edgeN := n } }
  let s1 : State := if mt = 1 ∧ input = s.u Obj.encoderAux then
      let n := s.scan.edgeN + 1
      if blind then { s with scan := { s.scan with edgeN := n } }
      else
        let xs := ((n, t) :: s.scan.edges).take 64
        fitted { s with scan := { s.scan with edges := xs } } xs n
    else s
  if mt ≠ 0 ∧ input = s1.u Obj.indexAux then
    let n := s1.scan.indexN + 1
    if blind then { s1 with scan := { s1.scan with indexN := n } }
    else
      let xs := ((n, t) :: s1.scan.indexes).take 16
      let s2 : State := { s1 with scan := { s1.scan with indexes := xs, indexN := n } }
      if mt = 2 then fitted s2 xs s2.scan.edgeN else s2
  else s1

/-! ### P_min (R211, R212, R215, R216) -/

/-- P_min in seconds, 0 where the settings give none. -/
def State.pMin (s : State) : Rat :=
  let step := s.q Obj.columnStep
  let d : Rat := match s.u Obj.mirrorType with
    | 0 => s.q Obj.rasterVelocity
    | 1 => 65536 * (s.u Obj.facets : Rat) * s.q Obj.polySpeed * (1 + s.q Obj.speedTol)
    | _ => 2 * piQ * s.q Obj.resFreqMax * s.q Obj.resAmplitude * (1 + s.q Obj.ampTol)
  if d ≤ 0 then 0 else step / d

/-- ColumnPeriodMin in ns. -/
def State.pMinNs (s : State) : Nat := (ratRound (s.pMin * 1000000000)).toNat

/-! ### Trajectories (R209, R210) -/

/-- A trajectory: the instant of frame 0 and the frame length in LSB, the columns of a frame with their start and end, position index,
direction and position, whether one starts a frame of R210, and the Transom slots of a frame with whether one precedes a forward
sweep. `lead` is the slot before frame 0; boundaries begin at `from`. -/
structure Traj where
  origin : Rat
  frame : Rat
  cols : Nat
  start : Nat → Rat
  stop : Nat → Rat
  index : Nat → Nat
  reverse : Nat → Bool
  place : Nat → Rat
  first : Nat → Bool
  slots : List (Rat × Rat × Bool)
  lead : Option (Rat × Rat × Bool)
  begins : Stamp

/-- A column boundary. -/
structure Bdy where
  t : Stamp
  stop : Stamp
  index : Nat
  reverse : Bool
  place : Rat
  first : Bool
deriving DecidableEq, Repr

/-- The first timing-domain tick at or after an instant (R209). -/
def tickAfter (q : Rat) : Stamp := (ratCeil (q / 64)).toNat * 64

/-- LSB in a second. -/
def lsbHz : Rat := 80000000000

/-- The galvanometer's raster from the instant `t0` of its entry vertex (R212, R213). -/
def State.galvoTraj (s : State) (t0 : Stamp) : Traj :=
  let v := s.q Obj.rasterVelocity
  let a := s.q Obj.rasterAccel
  let lo := s.q Obj.rasterMin
  let hi := s.q Obj.rasterMax
  let step := s.q Obj.columnStep
  let n := s.u Obj.columnsPerSweep
  let h := v / a * lsbHz
  let sweep := (hi - lo) / v * lsbHz
  let p := step / v * lsbHz
  let org : Rat := (t0 : Rat) + h
  if s.u Obj.rasterShape = 0 then
    let back := sweep + 2 * h
    { origin := org, frame := 2 * sweep + 4 * h, cols := 2 * n,
      start := fun i => if i < n then (i : Rat) * p else if i = n then back else back + sweep - ((2 * n - i : Nat) : Rat) * p,
      stop := fun i => if i + 1 < n then ((i + 1 : Nat) : Rat) * p
        else if i < n then sweep
        else back + sweep - ((2 * n - 1 - i : Nat) : Rat) * p,
      index := fun i => if i < n then i else 2 * n - 1 - i, reverse := fun i => decide (i ≥ n),
      place := fun i => if i < n then lo + (i : Rat) * step else lo + ((2 * n - i : Nat) : Rat) * step,
      first := fun i => i == 0, slots := [(sweep, sweep + 2 * h, false), (2 * sweep + 2 * h, 2 * sweep + 4 * h, true)],
      lead := some ((t0 : Rat), org, true), begins := t0 }
  else
    let vf := s.q Obj.flybackVelocity
    let span := hi - lo
    let long := span + (v * v - vf * vf) / a
    let w := if long ≥ 0 then vf else (Fl.sqrt fmt64 (roundFl fmt64 (span * a + v * v))).rat
    let fly := (2 * (v + w) / a + (if long ≥ 0 then long / vf else 0)) * lsbHz
    { origin := org, frame := sweep + fly, cols := n, start := fun i => (i : Rat) * p,
      stop := fun i => if i + 1 < n then ((i + 1 : Nat) : Rat) * p else sweep,
      index := fun i => i, reverse := fun _ => false, place := fun i => lo + (i : Rat) * step,
      first := fun i => i == 0, slots := [(sweep, sweep + fly, true)], lead := some ((t0 : Rat), org, true), begins := t0 }

/-- The polygon's phase model from its newest index on, one facet a frame (R215). -/
def State.polyTraj (s : State) (t0 : Stamp) : Option Traj :=
  match s.scan.indexes.head? with
  | none => none
  | some (_, ti) =>
    if s.scan.fitPeriod = 0 then none
    else
      let facet := (s.scan.fitPeriod : Rat) / 4294967296 * (s.u Obj.encoderCounts : Rat) / max 1 (s.u Obj.facets)
      let guard : Rat := s.u Obj.facetGuard
      let step := s.q Obj.columnStep
      let n := s.u Obj.columnsPerFacet
      let at' (u : Rat) : Rat := u / 65536 * facet
      some { origin := (ti : Rat), frame := facet, cols := n, start := fun i => at' (guard + (i : Rat) * step),
             stop := fun i => at' (guard + ((i + 1 : Nat) : Rat) * step), index := fun i => i, reverse := fun _ => false,
             place := fun i => guard + (i : Rat) * step, first := fun i => i == 0,
             slots := [(at' (guard + (n : Rat) * step), facet + at' guard, true)], lead := none, begins := t0 }

/-- The resonant model: a frame is a period from the lower extreme; columns stand at equal angle steps in both half periods (R216). -/
def State.resTraj (s : State) (t0 : Stamp) : Option Traj :=
  if s.scan.fitPeriod = 0 then none
  else
    let period := (s.scan.fitPeriod : Rat) / 4294967296
    let amp := f32q s.scan.peak
    let step := s.q Obj.columnStep
    let n := s.u Obj.columnsPerHalf
    let low := -((n : Rat) * step / 2)
    let phase (x : Rat) : Rat := if amp ≤ 0 then 0 else asinTurns (x / amp) * period
    let up (j : Nat) : Rat := period / 4 + phase (low + (j : Rat) * step)
    let down (j : Nat) : Rat := 3 * period / 4 - phase (low + (j : Rat) * step)
    let org : Rat := (s.scan.fitRef : Rat) - period / 4
    let since : Rat := ((t0 : Rat) - org) / (period / 2)
    some { origin := org, frame := period, cols := 2 * n,
           start := fun i => if i < n then up i else down (2 * n - i),
           stop := fun i => if i < n then up (i + 1) else down (2 * n - 1 - i),
           index := fun i => if i < n then i else 2 * n - 1 - i, reverse := fun i => decide (i ≥ n),
           place := fun i => if i < n then low + (i : Rat) * step else low + ((2 * n - i : Nat) : Rat) * step,
           first := fun i => i == 0,
           slots := [(up n, down n, false), (down 0, period + up 0, true)], lead := none,
           begins := tickAfter (org + (ratCeil since : Rat) * (period / 2)) }

/-- The trajectory in force while L0 is in TRACK. -/
def State.traj (s : State) : Option Traj :=
  match s.scan.trackAt with
  | none => none
  | some t0 =>
    match s.u Obj.mirrorType with
    | 0 => some (s.galvoTraj t0)
    | 1 => s.polyTraj t0
    | _ => s.resTraj t0

/-- The first boundary of a trajectory at or after a stamp. -/
def Traj.next (j : Traj) (x0 : Stamp) : Option Bdy :=
  let x := max x0 j.begins
  if j.frame ≤ 0 then none
  else
    let k := (ratFloor (((x : Rat) - j.origin) / j.frame)).toNat
    (rangeFrom k 2).findSome? (fun (k : Nat) =>
      let o := j.origin + (k : Rat) * j.frame
      (List.range j.cols).findSome? (fun i =>
        let t := tickAfter (o + j.start i)
        if t ≥ x then some { t := t, stop := tickAfter (o + j.stop i), index := j.index i, reverse := j.reverse i,
                             place := j.place i, first := j.first i }
        else none))

/-- The first Transom slot of a trajectory that starts at or after a stamp: start, end, and whether a forward sweep follows. -/
def Traj.nextSlot (j : Traj) (x : Stamp) : Option (Stamp × Stamp × Bool) :=
  let near (o : Rat) (e : Rat × Rat × Bool) : Option (Stamp × Stamp × Bool) :=
    let t := tickAfter (o + e.1)
    if t ≥ x then some (t, tickAfter (o + e.2.1), e.2.2) else none
  match (match j.lead with | some e => near 0 e | none => none) with
  | some e => some e
  | none =>
    if j.frame ≤ 0 then none
    else
      let k := (ratFloor (((x : Rat) - j.origin) / j.frame)).toNat - 1
      (rangeFrom k 4).findSome? (fun (k : Nat) => j.slots.findSome? (near (j.origin + (k : Rat) * j.frame)))

/-- The next column boundary: the trajectory's first after the one in force and not before now. -/
def State.nextBdy (s : State) : Option Bdy :=
  match s.traj with
  | some j => j.next (max s.nowStamp (s.scan.boundary + 1))
  | none => none

/-- The next Transom slot. -/
def State.nextTransom (s : State) : Option (Stamp × Stamp × Bool) :=
  match s.traj with
  | some j => j.nextSlot (if s.scan.transomTo = 0 then 0 else s.scan.transomFrom + 1)
  | none => none

/-! ### Converter slots with the resonant peak (R216) -/

/-- CONVERSION_SLOT with what it feeds: the peak of |y| of chain 0 over the half period of a resonant mirror. -/
def State.converterSlot (s : State) (c : Nat) (x : Sample) : State :=
  let s1 := s.conversionSlot c x
  if s1.u Obj.mirrorType = 2 ∧ (s1.chain 0).outputs ≠ (s.chain 0).outputs then
    let y := (s1.scaled 0).abs
    if Fl.lt (.ofBits32 s1.scan.peakNow) y then { s1 with scan := { s1.scan with peakNow := y.bits32 } } else s1
  else s1

/-! ### Transom slots (R99, R210, R214, R221) -/

/-- The optical start of the last shot before a stamp, or the stamp itself. -/
def State.lastShot (s : State) (t : Stamp) : Stamp :=
  let xs := s.fire.banks.flatMap (fun e => (e.2.fired.filter (fun j => !j.muted && decide (j.fire ≤ t))).map (fun j => j.start.getD j.fire))
  match xs with
  | [] => t
  | x :: rest => min t (rest.foldl max x)

/-- TRANSOM_SLOT: the next slot begins: it is counted, L1 steps to its next entry before a forward sweep, the bias set-point is computed,
and crossbar handovers run (R99, R210, R214, R221). -/
def State.transomSlot (s : State) : State :=
  match s.nextTransom with
  | none => s
  | some (t, e, forward) =>
    let s1 := s.runToStamp t
    let n := max 1 s1.l1Pattern.length
    let lead := s1.scan.transomTo == 0
    let entry := if forward && !lead then (s1.scan.patternEntry + 1) % n else s1.scan.patternEntry
    let s2 : State := { s1 with scan := { s1.scan with transomFrom := t, transomTo := e, patternEntry := entry } }
    let s3 := (s2.bump Obj.transomCount 1).biasUpdate
    let long := decide (e - s3.lastShot t ≥ 64 * s3.windowTicks + 8000)
    s3.crossbarAtSlot t long

/-! ### What a boundary does to the measuring units -/

/-- The objects whose values an integration interval keeps (R120, R148). -/
def noteIndex (id : Nat) : Bool := id / 256 == 0x2200 || id / 256 == 0x2300 || id / 256 == 0x1160

/-- The columns' sums cleared: no column was in progress. -/
def State.clearSums (s : State) : State :=
  { s with array := { s.array with
      pixels := s.array.pixels.map (fun e => (e.1, { e.2 with edges := 0, saturated := false })),
      meas := s.array.meas.map (fun e => (e.1, { e.2 with blindSum := 0, kept := 0, code64 := 0 })) } }

/-- The column in progress ended and the next begun: number, interval, frame, and the note of a new interval (R120, R209, R210). -/
def State.openColumn (s : State) (b : Bdy) : State × Bool :=
  let x := s.scan
  let fresh := !x.running || decide (x.intervalLeft ≤ 1)
  let cols := s.u Obj.integrationColumns
  let no := x.columnNo + 1
  let frame := if s.dev.state = .scan then (if x.frameStarted then x.frame + b2n b.first else 0) else x.frame
  let s1 : State := { s with scan := { x with
    columnNo := no, interval := if fresh then x.interval + 1 else x.interval,
    intervalLeft := if fresh then cols else x.intervalLeft - 1, boundary := b.t, columnEnd := b.stop,
    position := ratRound b.place, index := b.index, reverse := b.reverse, frame := frame,
    frameStarted := x.frameStarted || decide (s.dev.state = .scan),
    columnsDone := if s.dev.state = .scan && x.frameStarted then x.columnsDone + 1 else 0,
    completed := x.completed + b2n x.running, running := true } }
  let s2 := s1.setI Obj.boundaryPosition (ratRound b.place)
  if fresh then
    let n : IntervalNote :=
      { interval := s2.scan.interval, frame := frame % 4294967296, column := b.index, dir := b.reverse, boundary := b.t,
        stampNs := s2.nsAt b.t, columns := cols, scaleSource := s2.u Obj.scaleSource, scalePpb := s2.i Obj.scaleErrorPpb,
        notLocked := decide (s2.u Obj.servoState ≠ 2), inhibit := decide (s2.fire.inhibit ≠ 0), formed := false,
        settings := s2.live.filter (fun e => noteIndex e.1), govBanks := [],
        throttled := (List.range 16).filter (fun r => decide (s2.stepOf r ≥ 1)), firstNo := no }
    ({ s2 with array := { s2.array with notes := s2.array.notes ++ [n] } }, true)
  else (s2, false)

/-- The trains of every bank that holds muted stamps or trains, and their Mayfly triggers (R134, R135). -/
def State.mantisAll (s : State) (interval : Nat) : State :=
  s.array.mantis.foldl (fun s e =>
    let r := s.mantisUpdate e.1 s.scan.columnNo
    match r.2 with
    | some (q, _) => r.1.mantisTrigger e.1 interval q
    | none => r.1) s

/-- The measuring units at a boundary: channels, adaptive depths, Louvre saturation and Mantis of the column that ends; crossbar
changes that wait for a boundary; the release of firing; the charge set-point and derating; then the engines' resolution
(R77 to R80, R99, R134, R149, R158, R163, R165). -/
def State.unitsAtBoundary (s : State) (b : Bdy) : State :=
  let was := s.scan.running
  let old := s.scan.interval
  let s0 := if was then s else s.clearSums
  let span := if was then b.t - s.scan.boundary else 1
  let fresh := !s0.scan.running || decide (s0.scan.intervalLeft ≤ 1)
  let c := s0.channelsBoundary b.t span fresh
  let s1 := if was then (c.2.foldl (fun s ch => s.louvreTrigger ch old b.t) c.1).mantisAll old else c.1
  let s2 := s1.crossbarAtBoundary b.t
  let s3 := if s2.dev.state = .scan then s2.inhibitRelease else s2
  let (s4, newInterval) := s3.openColumn b
  let s5 := (s4.setpointUpdate s4.scan.columnNo).derateUpdate
  if s5.dev.state = .scan then s5.fireflyResolve b.t s5.scan.position newInterval else s5

end Sys2Proof.Machine
end

