-- ==== Sys2Proof/Machine/TimeBase.lean ====
section
/-!
DEFINITION. Native time, its sources and servo, steps, anchors, PTP and PPS (R303 to R322).
-/

namespace Sys2Proof.Machine

/-! ### Servo states (Table TIME-1) -/

def servoFree : Nat := 0
def servoAcquire : Nat := 1
def servoLocked : Nat := 2
def servoHoldover : Nat := 3
def servoRequalify : Nat := 4

/-- The servo state entered, with its object. -/
def State.setServo (s : State) (k : Nat) : State :=
  ({ s with time := { s.time with servo := k, lockRun := 0 } }).setU Obj.servoState k

/-- The time source in use (R307). -/
def State.timeSourceNow (s : State) : Nat := if s.time.pairSource then 3 else s.u Obj.timeSource

/-- The held Increment: the mean of the last 16 made in LOCKED, else that in force (R308). -/
def State.heldIncrement (s : State) : Nat :=
  match s.time.lockedIncs with
  | [] => s.time.increment
  | xs => roundDiv (sumNat xs) xs.length

/-- ACQUIRE entered: the reference Increment is the one in force (R310). -/
def State.enterAcquire (s : State) : State :=
  ({ s with time := { s.time with incRef := s.time.increment } }).setServo servoAcquire

/-- HOLDOVER entered: the Increment is held (R308, R312). -/
def State.enterHoldover (s : State) : State :=
  let s1 : State := { s with time := { s.time with increment := s.heldIncrement } }
  s1.setServo servoHoldover

/-- REQUALIFY entered, with its Warning and count (R313). -/
def State.enterRequalify (s : State) (data : Nat) : State :=
  let s1 : State := { s with time := { s.time with increment := s.heldIncrement, requalQ := [], dev := 0 } }
  ((s1.setServo servoRequalify).bump Obj.holdoverCount 1).raise 0x0801 s.time.ptpPort 2 data

/-! ### Anchors (R318, Table TIME-5) -/

/-- An offset held to I32. -/
def clamp32 (i : Int) : Int := clampInt (-2147483648) 2147483647 i

/-- The body of an anchor. -/
def State.anchorBody (s : State) (native seq : Nat) (step : Option Int) : Bytes :=
  let st := s.time.servo
  let flags := b2n step.isSome + 2 * b2n (decide (st = 2)) + 4 * b2n (decide (st = 3 ∨ st = 4)) + 8 * b2n (decide (st = 0)) +
    16 * b2n s.dev.compat + 32 * b2n s.time.pairSource
  time80 (native / 4294967296) ++ leBytes 2 (native % 4294967296 / 65536) ++ leBytes 4 seq ++ leBytes 8 s.time.increment ++
    leBytes 8 (twosOf 64 (step.getD 0)) ++ leBytes 8 s.time.ticks ++
    [BitVec.ofNat 8 st, BitVec.ofNat 8 s.timeSourceNow] ++ leBytes 2 flags ++ leBytes 4 (twosOf 32 (clamp32 s.time.offsetNow))

/-- An anchor formed in every enabled stream, at one instant (R318). -/
def State.anchorAll (s : State) (native : Nat) (step : Option Int) : State :=
  let body := s.anchorBody native s.merge.anchorCount step
  let s1 := (List.range 16).foldl (fun (s : State) st => s.form st 0x02 1 2 0 (native / 4294967296) body) s
  { s1 with merge := { s1.merge with anchorCount := (s1.merge.anchorCount + 1) % 4294967296,
                                     anchorAt := native / 4294967296 } }

/-- The next anchor instant in ns: the first multiple of AnchorPeriod that has had none. -/
def State.nextAnchor (s : State) : Nat :=
  let p := max 1 (s.u Obj.anchorPeriod) * 1000000
  (s.merge.anchorAt / p + 1) * p

/-- ANCHOR_INSTANT: native time reaches the next multiple of AnchorPeriod (R318). -/
def State.anchorInstant (s : State) : State :=
  if !s.dev.booted then s
  else
    let at' := s.nextAnchor
    let s1 := s.runTo (s.tickOfNs at')
    s1.anchorAll (at' * 4294967296) none

/-! ### Steps (R315 to R317, Table TIME-4) -/

/-- An ns value moved by a step. -/
def moveNs (amount : Int) (ns : Nat) : Nat := ((ns : Int) + amount).toNat

/-- Times taken before a step in records that have not been offered, moved by the step (R316): short stamps, and TriggerTime of
segments. -/
def State.moveTimes (s : State) (amount : Int) : State :=
  let info (i : TrigInfo) : TrigInfo := { i with ns := moveNs amount i.ns }
  let seg (g : Segment) : Segment :=
    if g.offered then g
    else { g with stampNs := moveNs amount g.stampNs,
                  header := patch 0 (leBytes 8 (moveNs amount (numAt 0 8 g.header))) g.header }
  { s with
    may := { s.may with ring := s.may.ring.map seg,
                        binWait := s.may.binWait.map (fun b => { b with info := info b.info }),
                        engines := s.may.engines.map (fun e =>
                          { e with capture := e.capture.map (fun c => { c with info := info c.info }) }) },
    array := { s.array with notes := s.array.notes.map (fun n => if n.formed then n else { n with stampNs := moveNs amount n.stampNs }) },
    fire := { s.fire with banks := s.fire.banks.map (fun e =>
      (e.1, { e.2 with fired := e.2.fired.map (fun j => { j with startNs := moveNs amount j.startNs }) })) },
    cams := s.cams.map (fun c => { c with storeStampNs := c.storeStampNs.map (moveNs amount) }) }

/-- A frame launched late counted, by port and class (R323). -/
def State.launchLate (s : State) (port cls : Nat) : State := s.bumpWord Obj.launchLateCount 4 (16 * port + 4 * (cls - 2)) 1

/-- Waiting frames whose launch time a forward step has passed counted late; they may start at once (Table TIME-4). -/
def State.launchesPassed (s : State) (old : Nat) : State :=
  let hit (q : Queued) : Bool := decide (q.launch ≠ 0 ∧ old < q.launch ∧ q.launch ≤ s.nowNs)
  let each (s : State) (p : Nat) (qs : List Queued) : State :=
    (qs.filter hit).foldl (fun (s : State) q => s.launchLate p q.cls) s
  let s1 := s.merge.ports.zipIdx.foldl (fun (s : State) (e : PortState × Nat) => each s e.2 e.1.queue) s
  { s1 with merge := { s1.merge with ports := s1.merge.ports.map (fun x =>
      { x with queue := x.queue.map (fun q => if hit q then { q with launch := 0, launchedAt := s.time.ticks } else q) }) } }

/-- A step of native time by `amount` ns (R315): count, LastStepTime, Notice, STEP anchors, frequency gates discarded, and a Mayfly
time that the step passes triggers at the step instant. -/
def State.stepTime (s : State) (amount : Int) : State :=
  let old := s.nowNs
  let native := ((s.time.native : Int) + amount * 4294967296).toNat % nativeLimit
  let s1 : State := { s with time := { s.time with native := native, slewing := false, ppsNextSec := native / 4294967296 / 1000000000 + 1 },
                             aux := { s.aux with inputs := s.aux.inputs.map (fun a => { a with gate := none }) } }
  let s2 := ((s1.bump Obj.stepCount 1).put Obj.lastStepTime (time80 s1.nowNs)).raise 0x0803 0xFFFF 1 (twosOf 64 amount)
  let s3 := ((s2.launchesPassed old).moveTimes amount).anchorAll native (some amount)
  let ns := ofTime80 (s3.get Obj.timeTrigger)
  if ns ≠ 0 ∧ old < ns ∧ ns ≤ s3.nowNs then
    let period := s3.u Obj.timeTrigPeriod
    let next := if period = 0 then 0 else ns + ((s3.nowNs - ns) / period + 1) * period
    (s3.put Obj.timeTrigger (time80 next)).mayTrigger 11 0xFFFF s3.nowStamp
  else s3

/-- Whether the servo may step in the present state (R317). -/
def State.mayStep (s : State) : Bool :=
  s.u Obj.stepPolicy == 0 || (match s.dev.state with | .idle | .calibrate | .safe | .update => true | _ => false)

/-! ### The servo (R310) -/

/-- 2^32 parts of a ppb, in which the integral term is kept. -/
def ppbUnit : Nat := 4294967296

/-- An offset applied to the servo. -/
def State.applyOffset (s : State) (o : Int) : State :=
  let thr := s.u Obj.stepThreshold
  let s0 : State := ({ s with time := { s.time with offsetNow := o } }).setI Obj.offsetNow (clamp32 o)
  if o.natAbs > thr ∧ s0.mayStep then
    let s1 := s0.stepTime (-o)
    ({ s1 with time := { s1.time with integ := 0 } }).enterAcquire
  else
    let top : Rat := s0.u Obj.maxSlew
    let hold (x : Rat) : Rat := if x > top then top else if x < -top then -top else x
    let integ := ratRound (hold ((s0.time.integ : Rat) / (ppbUnit : Nat) + s0.q Obj.servoKi * (o : Rat)) * ((ppbUnit : Nat) : Rat))
    let r := hold (s0.q Obj.servoKp * (o : Rat) + (integ : Rat) / ((ppbUnit : Nat) : Rat))
    let inc := (ratRound ((s0.time.incRef : Rat) * (1 - r / 1000000000))).toNat
    let run := if o.natAbs ≤ s0.u Obj.lockThreshold then s0.time.lockRun + 1 else 0
    let locked := s0.time.servo = 2
    let s1 : State := { s0 with time := { s0.time with
      integ := integ, rate := ratRound r, increment := inc, slewing := decide (o.natAbs > thr), lockRun := run,
      lockedIncs := if locked then (inc :: s0.time.lockedIncs).take 16 else s0.time.lockedIncs } }
    let s2 := s1.setI Obj.rateNow (ratRound r)
    if run ≥ 16 ∧ s2.time.servo = 1 then s2.setServo servoLocked else s2

/-- SERVO_OFFSET: an offset measurement from the source in use. The first one enters ACQUIRE; while a path delay is doubted, and in
HOLDOVER and REQUALIFY, none is applied; PPS and the Rilman link, which have no path delay to requalify, return to ACQUIRE from
HOLDOVER. A PPS offset heard in REQUALIFY ends it and is not applied (R308, R310, R312, R313, R325). -/
def State.servoOffset (s : State) (o : Int) : State :=
  if s.timeSourceNow = 0 then s
  else match s.time.servo with
    | 0 => ({ s with time := { s.time with integ := 0 } }).enterAcquire.applyOffset o
    | 1 | 2 => if s.time.dev > 0 then s else s.applyOffset o
    | 3 => if s.timeSourceNow = 1 then s else s.enterAcquire.applyOffset o
    | _ => if s.timeSourceNow = 2 then (s.raise 0x0802 s.time.ptpPort 1 (twosOf 64 s.time.meanDelay)).enterAcquire else s

/-- Mean of the newest delays. -/
def meanInt (xs : List Int) : Int := if xs = [] then 0 else ratRound ((sumInt xs : Rat) / (xs.length : Nat))

/-- D set from its window (R313). -/
def State.setDelays (s : State) (xs : List Int) : State :=
  let w := xs.take 16
  ({ s with time := { s.time with delays := w, meanDelay := meanInt w } }).setU Obj.meanPathDelay (meanInt w).toNat

/-- A delay measurement handled as R313 gives it. -/
def State.delayMeasured (s : State) (m : Int) : State :=
  let thr := s.u Obj.delayStepThreshold
  if s.time.servo = 4 then
    let need := s.u Obj.requalifyCount
    let q := (m :: s.time.requalQ).take need
    let mean : Rat := (sumInt q : Rat) / max 1 (q.length : Nat)
    let near := q.all (fun (x : Int) => decide (ratAbs ((x : Rat) - mean) ≤ (thr : Rat)))
    let s1 : State := { s with time := { s.time with requalQ := q } }
    if q.length = need ∧ near then
      let s2 := s1.setDelays q
      (s2.raise 0x0802 s2.time.ptpPort 1 (twosOf 64 s2.time.meanDelay)).enterAcquire
    else s1
  else if s.time.delays ≠ [] ∧ (m - s.time.meanDelay).natAbs > thr then
    let dev := s.time.dev + 1
    if dev ≥ s.u Obj.delayStepCount then s.enterRequalify (twosOf 64 m)
    else { s with time := { s.time with dev := dev } }
  else ({ s with time := { s.time with dev := 0 } }).setDelays (m :: s.time.delays)

/-! ### Host writes (R309) -/

/-- TIME_SET. -/
def State.timeSet (s : State) (sec ns : Nat) : Abort × State :=
  if s.timeSourceNow ≠ 0 ∧ s.timeSourceNow ≠ 2 then (Abort.notAllowedNow, s)
  else (Abort.ok, s.stepTime ((sec * 1000000000 + ns : Nat) - (s.nowNs : Int)))

/-- TIME_ADJUST. -/
def State.timeAdjust (s : State) (d : Int) : Abort × State :=
  let n := (s.time.native : Int) + d * 4294967296
  if n < 0 ∨ n ≥ nativeLimit then (Abort.range, s)
  else if s.timeSourceNow ≠ 0 ∧ s.timeSourceNow ≠ 2 then (Abort.notAllowedNow, s)
  else (Abort.ok, s.stepTime d)

/-- The nominal Increment. -/
def nominalInc : Nat := 0x400000000

/-- INCREMENT_SET: within 500 ppm of the nominal. -/
def State.incrementSet (s : State) (v : Nat) : Abort × State :=
  if natDist v nominalInc * 1000000 > 500 * nominalInc then (Abort.range, s)
  else if s.timeSourceNow ≠ 0 then (Abort.notAllowedNow, s)
  else (Abort.ok, { s with time := { s.time with increment := v } })

/-! ### PTP (R311 to R314) -/

/-- A PTP message or option that is ignored and counted. -/
def State.ptpIgnore (s : State) : State := s.bump Obj.ptpIgnoredCount 1

/-- Whether a PTP message belongs to the domain, profile and port in use. -/
def State.ptpMatches (s : State) (port domain sdo : Nat) : Bool :=
  port == s.time.ptpPort && domain == s.u Obj.ptpDomain && sdo == s.u Obj.ptpProfile

/-- A transmitter's rank, lower is better (R311). -/
def announceRank (m : PtpAnnounceMsg) : List Nat :=
  [m.priority1.toNat, m.clockClass.toNat, m.clockAccuracy.toNat, m.clockVariance.toNat, m.priority2.toNat,
   m.grandmasterId.toNat, m.stepsRemoved.toNat, m.sourceId.toNat, m.sourcePort.toNat]

/-- Order of ranks. -/
def rankLt : List Nat → List Nat → Bool
  | a :: as, b :: bs => if a < b then true else if b < a then false else rankLt as bs
  | _, _ => false

/-- PTP_ANNOUNCE: the best transmitter heard is kept. -/
def State.ptpAnnounce (s : State) (m : PtpAnnounceMsg) : State :=
  if s.timeSourceNow ≠ 1 then s
  else if !s.ptpMatches m.port m.domain.toNat m.majorSdoId.toNat then s.ptpIgnore
  else
    let r := announceRank m
    let take : State := { s with time := { s.time with bestMaster := some r, announceLog := m.logInterval } }
    match s.time.bestMaster with
    | none => take
    | some b => if b.drop 7 = r.drop 7 ∨ rankLt r b then take else s

/-- The per-port correction objects. -/
def State.asymmetry (s : State) (port : Nat) : Int := intAt (4 * port) 4 (s.get Obj.delayAsymmetry)
def State.ingressPs (s : State) (port : Nat) : Int := intAt (8 * port) 4 (s.get Obj.portLatency)

/-- PTP_SYNC: the offset of a Sync of the chosen transmitter, o = t2 − t1 − D − A; a Sync heard in HOLDOVER is the source's return
(R311, R312). -/
def State.ptpSync (s : State) (m : PtpSyncMsg) : State :=
  if s.timeSourceNow ≠ 1 then s
  else
    let known := match s.time.bestMaster with
      | some r => r.drop 7 == [m.sourceId.toNat, m.sourcePort.toNat]
      | none => false
    if !s.ptpMatches m.port m.domain.toNat m.majorSdoId.toNat || !known || decide (m.logInterval < -7) || decide (m.logInterval > 0) then
      s.ptpIgnore
    else
      let s1 : State := { s with time := { s.time with syncAt := some s.time.ticks } }
      if s1.time.servo = 3 then s1.enterRequalify (twosOf 64 s1.time.meanDelay)
      else if s1.time.delays = [] then s1
      else
        let t2 : Rat := (s1.nativeAt m.rxStamp : Rat) / 4294967296 - (s1.ingressPs m.port : Rat) / 1000
        let t1 : Rat := ((m.originSec.toNat * 1000000000 + m.originNs.toNat : Nat) : Rat) + (m.correction : Rat) / 65536
        s1.servoOffset (ratRound (t2 - t1 - (s1.time.meanDelay : Rat) - (s1.asymmetry m.port : Rat)))

/-- The clock identity of the PTP messages that the device sends: the port's address with FF FE in its middle. -/
def clockIdentity (port : Nat) : Bytes :=
  let mac := beBytes 6 (portMac port)
  mac.take 3 ++ [0xFF, 0xFE] ++ mac.drop 3

/-- A PTP message header as IEEE 1588 lays it out, with its sequence. -/
def State.ptpHeader (s : State) (kind len port seq : Nat) : Bytes :=
  [BitVec.ofNat 8 (s.u Obj.ptpProfile * 16 + kind), 2] ++ beBytes 2 len ++ [BitVec.ofNat 8 (s.u Obj.ptpDomain), 0] ++
    List.replicate 14 0 ++ clockIdentity port ++ beBytes 2 1 ++ beBytes 2 seq ++ [1, 0x7F]

/-- PTP_DELAY_REQ_SEND: a Delay_Req, or a Pdelay_Req under profile 1 (Table TIME-2). -/
def State.ptpDelayReqSend (s : State) : State :=
  if s.timeSourceNow ≠ 1 then s
  else
    let n := (s.time.delayReqSeq + 1) % 65536
    let s1 : State := { s with time := { s.time with delayReqSeq := n } }
    let msg := if s1.u Obj.ptpProfile = 0 then s1.ptpHeader 1 44 s1.time.ptpPort n ++ List.replicate 10 0
      else s1.ptpHeader 2 54 s1.time.ptpPort n ++ List.replicate 20 0
    s1.ptpSend s1.time.ptpPort true msg

/-- PTP_DELAY_MEASUREMENT: the exchange of the last request gives m (R311, R313). Under profile 1 a neighbour delay above 800 ns makes the
port incapable: it has no D. -/
def State.ptpDelay (s : State) (m : PtpDelayMsg) : State :=
  if s.timeSourceNow ≠ 1 then s
  else if m.port.val ≠ s.time.ptpPort ∨ m.domain.toNat ≠ s.u Obj.ptpDomain ∨ m.peer ≠ decide (s.u Obj.ptpProfile = 1) ∨
      m.sequence.toNat ≠ s.time.delayReqSeq then s.ptpIgnore
  else
    let sum : Int := if m.peer then (m.t4 - m.t1) - (m.t3 - m.t2) else (m.t2 - m.t1) + (m.t4 - m.t3)
    let d := ratRound (((sum : Rat) - (m.correction : Rat) / 65536) / 2)
    if m.peer ∧ d > 800 then s.setDelays [] else s.delayMeasured d

/-- PTP_PDELAY_REQ: answered under profile 1 by Pdelay_Resp and Pdelay_Resp_Follow_Up (Table TIME-2). -/
def State.ptpPdelayReq (s : State) (m : PtpPdelayReqMsg) : State :=
  if s.u Obj.ptpProfile = 0 ∨ m.majorSdoId.toNat ≠ 1 ∨ m.domain.toNat ≠ s.u Obj.ptpDomain then s.ptpIgnore
  else
    let be80 (ns : Nat) : Bytes := beBytes 6 (ns / 1000000000) ++ beBytes 4 (ns % 1000000000)
    let who := beBytes 8 m.sourceId.toNat ++ beBytes 2 m.sourcePort.toNat
    let resp := s.ptpHeader 3 54 m.port m.sequence.toNat ++ be80 (s.nsAt m.rxStamp) ++ who
    let follow := s.ptpHeader 0xA 54 m.port m.sequence.toNat ++ be80 s.nowNs ++ who
    (s.ptpSend m.port true resp).ptpSend m.port false follow

/-- The PTP source lost: PortMode 2 moves to the other port and requalifies; else HOLDOVER (R312). A servo that has had no measurement
stays in FREERUN (R308). -/
def State.ptpLost (s : State) : State :=
  let moves := decide (s.u Obj.ptpPortMode = 2) && s.portUp (1 - s.time.ptpPort)
  let s0 : State := { s with time := { s.time with bestMaster := none, syncAt := none,
                                                   ptpPort := if moves then 1 - s.time.ptpPort else s.time.ptpPort } }
  if s0.time.servo = 0 then s0
  else if moves then s0.enterRequalify (twosOf 64 s0.time.meanDelay)
  else if s0.time.servo = 3 then s0
  else s0.enterHoldover

/-- PTP_SOURCE_LOST: no Sync for AnnounceTimeout Announce intervals (R312). -/
def State.ptpSourceLost (s : State) : State :=
  match s.time.syncAt with
  | none => s
  | some t =>
    if s.timeSourceNow ≠ 1 then s
    else
      let k := s.u Obj.announceTimeout
      let l := s.time.announceLog
      let wait := if l ≥ 0 then k * tickHz * 2 ^ l.toNat else k * tickHz / 2 ^ (-l).toNat
      (s.runTo (t + wait)).ptpLost

/-! ### PPS (R320, R321) -/

/-- A PPS edge at a native time in 2^-32 ns (R321). -/
def State.ppsEdge (s : State) (native : Nat) : State :=
  if s.timeSourceNow ≠ 2 then s
  else
    let e : Rat := (native : Rat) / 4294967296 - (s.i Obj.ppsInDelay : Rat)
    let sec := ratRound (e / 1000000000)
    let off := ratRound (e - (sec : Rat) * 1000000000)
    if off.natAbs > 100000000 then s.bump Obj.ppsRejectCount 1
    else ({ s with time := { s.time with ppsAcceptedAt := some s.time.ticks } }).servoOffset off

/-- PPS_IN_EDGE: sampled on the timing clock (R321). -/
def State.ppsInEdge (s : State) (t : Stamp) : State :=
  if s.u Obj.ppsInSource ≠ 0 then s else s.ppsEdge (s.nativeAt (ceilDiv t 64 * 64))

/-- PPS_SOURCE_LOST: three seconds without an accepted edge (R321). -/
def State.ppsSourceLost (s : State) : State :=
  match s.time.ppsAcceptedAt with
  | none => s
  | some t =>
    if s.timeSourceNow ≠ 2 then s
    else
      let s1 := s.runTo (t + 3 * tickHz)
      let s2 : State := { s1 with time := { s1.time with ppsAcceptedAt := none } }
      if s2.time.servo = 0 ∨ s2.time.servo = 3 then s2 else s2.enterHoldover

/-- Whether PPS_OUT runs (R320). -/
def State.ppsRuns (s : State) : Bool :=
  s.u Obj.ppsOutMode == 1 || (s.u Obj.ppsOutMode == 2 && decide (s.time.servo ≥ 2))

/-- PPS_OUT_RISE: the next whole second is reached. -/
def State.ppsOutRise (s : State) : State :=
  if !s.ppsRuns ∨ !s.dev.booted then s
  else
    let sec := if s.time.ppsNextSec ≥ s.nowNs / 1000000000 then s.time.ppsNextSec else s.nowNs / 1000000000 + 1
    let s1 := s.runTo (s.tickOfNs (sec * 1000000000))
    { s1 with time := { s1.time with ppsHigh := true, ppsRoseAt := s1.time.ticks, ppsNextSec := sec + 1 } }

/-- PPS_OUT_FALL: PpsOutWidth after the rise. -/
def State.ppsOutFall (s : State) : State :=
  if s.time.ppsHigh then
    let s1 := s.runTo (s.time.ppsRoseAt + msTicks (s.u Obj.ppsOutWidth))
    { s1 with time := { s1.time with ppsHigh := false } }
  else s

/-- TimeStatus (Table TIME-8). -/
def State.timeStatus (s : State) : Nat :=
  128 * b2n s.time.slewing + 64 * b2n (s.timeSourceNow == 1 && s.u Obj.ptpPortMode == 2 && s.time.ptpPort == 1) +
    32 * b2n s.time.pairSource + 16 * b2n (s.time.servo == 0 && s.u Obj.timeSource != 0) +
    8 * b2n (decide (s.time.dev > 0) || s.time.servo == 4) + s.time.servo

/-- CompatTime (R306). -/
def State.compatTime (s : State) : Nat :=
  let d : Rat := (s.time.ticks : Rat) * 4 * (1 + (s.i Obj.compatRate : Rat) / 1099511627776)
  twosOf 64 (s.i Obj.compatOffset + ratFloor d)

end Sys2Proof.Machine
end

