-- ==== Sys2Proof/Machine/AuxIn.lean ====
section
/-!
DEFINITION. Timing inputs (R249 to R261) and range scale (R263, R264): stamping, roles, the interval unit, the frequency
engines.
-/

namespace Sys2Proof.Machine

def State.auxIn (s : State) (n : Nat) : AuxInput := getAt s.aux.inputs n AuxInput.rest

def State.setAux (s : State) (n : Nat) (x : AuxInput) : State :=
  { s with aux := { s.aux with inputs := setAt s.aux.inputs n x } }

/-- The role in force of an input (Table AUX-2). -/
def State.auxRoleNow (s : State) (n : Nat) : Nat :=
  if n = 8 then 6
  else if (s.u Obj.startSource = 1 ∧ n = 0) ∨ (s.u Obj.startSource = 2 ∧ n < 4) then 1
  else if s.u Obj.mirrorType = 1 ∧ s.u Obj.encoderAux = n then 3
  else if s.u Obj.mirrorType ≠ 0 ∧ s.u Obj.indexAux = n then 4
  else s.u (Obj.auxRole n)

/-- Whether a slope code takes an edge. -/
def slopeTakes (slope : Nat) (rising : Bool) : Bool := bitOf slope (if rising then 0 else 1)

/-! ### Interval unit (R253 to R255) -/

/-- A result formed (Table AUX-3). -/
def State.intervalResult (s : State) (start : Stamp) (lsb : Int) (blind : Bool) : State :=
  let s1 := s.bump Obj.intervalCount 1
  let flags := b2n (decide (lsb < 0)) + 2 * b2n (decide (lsb = 0)) + 4 * b2n blind
  let r := leBytes 4 (s1.nsAt start % 4294967296) ++ leBytes 4 (twosOf 32 lsb) ++ leBytes 4 (s1.u Obj.intervalCount) ++
    leBytes 2 flags ++ leBytes 2 0
  let log := if s1.aux.log.length ≥ 64 then s1.aux.log.drop (s1.aux.log.length - 63) ++ [r] else s1.aux.log ++ [r]
  { s1.put Obj.lastInterval r with aux := { s1.aux with log := log } }

/-- IntervalWindow in LSB. -/
def State.intervalLsb (s : State) : Nat := 80 * s.u Obj.intervalWindow

/-- Whether the unit runs on one input, which is its start and stop. -/
def State.intervalSingle (s : State) : Bool := s.u Obj.intervalStartInput == s.u Obj.intervalStopInput

/-- INTERVAL_DECIDE: the earliest start is paired at its stamp plus IntervalWindow (R253). -/
def State.intervalDecide (s : State) : State :=
  if s.intervalSingle then s
  else match s.aux.starts with
    | [] => s
    | t :: rest =>
      let w := s.intervalLsb
      let s1 := s.runToStamp (t + w)
      let cands := (s1.aux.stops.map (fun e => e.1)).filter (fun x => decide (natDist x t ≤ w))
      let best := cands.foldl (fun (a : Option Nat) x => match a with
        | none => some x
        | some y => if natDist x t < natDist y t ∨ (natDist x t = natDist y t ∧ x > y) then some x else some y) none
      let s2 : State := { s1 with aux := { s1.aux with starts := rest } }
      match best with
      | none => s2.bump Obj.noStopCount 1
      | some x =>
        { s2 with aux := { s2.aux with stops := s2.aux.stops.erase (x, false) } }.intervalResult t ((x : Int) - (t : Int)) false

/-- UNPAIRED_STOP_EXPIRY: no start can still claim the earliest stop (R253). -/
def State.unpairedStop (s : State) : State :=
  match s.aux.stops with
  | [] => s
  | e :: rest =>
    let s1 := s.runToStamp (e.1 + 2 * s.intervalLsb)
    { s1 with aux := { s1.aux with stops := rest } }.bump Obj.unpairedStopCount 1

/-- INTERVAL_NO_STOP: no stop edge came within IntervalWindow on one input (R254). -/
def State.intervalNoStop (s : State) : State :=
  if !s.intervalSingle then s
  else match s.aux.starts with
    | [] => s
    | t :: rest =>
      let s1 := s.runToStamp (t + s.intervalLsb)
      { s1 with aux := { s1.aux with starts := rest } }.bump Obj.noStopCount 1

/-- An edge of an input in INTERVAL role, stamped or blind (R253, R254). -/
def State.intervalEdge (s : State) (n : Nat) (rising : Bool) (stamp : Option Stamp) : State :=
  let isStart := s.u Obj.intervalStartInput == n && slopeTakes (s.u Obj.intervalStartSlope) rising
  let isStop := s.u Obj.intervalStopInput == n && slopeTakes (s.u Obj.intervalStopSlope) rising
  if s.intervalSingle then
    match s.aux.starts, stamp with
    | t :: rest, some x =>
      if isStop && decide (x ≤ t + s.intervalLsb) then
        { s with aux := { s.aux with starts := rest } }.intervalResult t ((x : Int) - (t : Int)) false
      else if decide (x > t + s.intervalLsb) then
        let s1 := { s with aux := { s.aux with starts := if isStart then [x] else [] } }
        s1.bump Obj.noStopCount 1
      else s
    | t :: rest, none =>
      if isStop && decide ((s.auxIn n).blindTo = t + 128) then
        { s with aux := { s.aux with starts := rest } }.intervalResult t 128 true
      else s
    | [], some x => if isStart then { s with aux := { s.aux with starts := [x] } } else s
    | [], none => s
  else match stamp with
    | none => s
    | some x =>
      let s1 : State := if isStart then { s with aux := { s.aux with starts := s.aux.starts ++ [x] } } else s
      if isStop then { s1 with aux := { s1.aux with stops := s1.aux.stops ++ [(x, false)] } } else s1

/-- A change of any interval object discards the starts and clears the log (R255). -/
def State.intervalClear (s : State) : State := { s with aux := { s.aux with starts := [], stops := [], log := [] } }

/-! ### Frequency engines (R256 to R259) -/

/-- FreqGate of an input in ns. -/
def State.gateNs (s : State) (n : Nat) : Nat := max 1 (s.u (Obj.auxFreqGate n)) * 1000

/-- Whether an input collects: in FREQUENCY role, input 8 with a CALREF. -/
def State.freqRuns (s : State) (n : Nat) : Bool :=
  s.dev.booted && decide (s.auxRoleNow n = 6) && (n != 8 || s.u Obj.calrefMode != 0)

def FreqGate.at (startNs : Nat) : FreqGate := { startNs := startNs, d := 1, n := 0, blind := 0, pairs := [] }

/-- A gate ended and the next begun. -/
def State.gateTurn (s : State) (n startNs : Nat) : State :=
  let x := s.auxIn n
  s.setAux n { x with done := x.gate, gate := some (FreqGate.at startNs) }

/-- FREQ_GATE_END: the next gate boundary of the input: the gate in progress goes to its fit, and a new one begins (R256). -/
def State.freqGateEnd (s : State) (n : Nat) : State :=
  if !s.freqRuns n then s
  else
    let g := s.gateNs n
    let due := match (s.auxIn n).gate with
      | some x => x.startNs + g
      | none => (s.nowNs / g + 1) * g
    (s.runTo (s.tickOfNs due)).gateTurn n due

/-- The pairs kept when a buffer is full. -/
def gateStore : Nat := 65536

/-- A qualifying edge of the gate in progress (R257). -/
def State.freqEdge (s : State) (n : Nat) (ns : Nat) (stamp : Option Stamp) : State :=
  if !s.freqRuns n then s
  else
    let s1 := match (s.auxIn n).gate with
      | some x => if ns ≥ x.startNs + s.gateNs n then s.gateTurn n (ns / s.gateNs n * s.gateNs n) else s
      | none => s
    let x := s1.auxIn n
    match x.gate with
    | none => s1
    | some g =>
      let g1 : FreqGate :=
        if g.n % g.d = 0 then
          match stamp with
          | none => { g with blind := g.blind + 1 }
          | some t =>
            let ps := (g.n, t) :: g.pairs
            if ps.length ≥ gateStore then
              { g with pairs := ps.filter (fun e => e.1 % (2 * g.d) == 0), d := 2 * g.d }
            else { g with pairs := ps }
        else g
      s1.setAux n { x with gate := some { g1 with n := g.n + 1 } }

/-- FreqNominal of an input in µHz (R259). -/
def State.freqNominal (s : State) (n : Nat) : Nat :=
  if n = 8 then (if s.u Obj.calrefMode = 2 then 1000000 else 10000000000000) else s.u (Obj.auxFreqNominal n)

/-- ScaleSource and ScaleErrorPpb after a gate of input 8 (R263, R264). `stored` is the active bank's record where it was LIVE. -/
def State.scaleGate (s : State) (present : Bool) (offsetPpb : Int) (stored : Option Int) : State :=
  let need := s.u Obj.scaleGates
  let eg := ratRound (1000000000 * (1 / (1 + (offsetPpb : Rat) / 1000000000) - 1))
  let gates := if present then (eg :: s.aux.scaleGates).take 255 else s.aux.scaleGates
  let run := if present then s.aux.scaleRun + 1 else 0
  let s1 : State := { s with aux := { s.aux with scaleGates := gates, scaleRun := run } }
  let live := present && decide (run ≥ need)
  let (src, ppb) : Nat × Int := if live then
      let w := gates.take need
      (1, ratRound ((sumInt w : Rat) / max 1 (w.length : Nat)))
    else match stored with
      | some e => (2, e)
      | none => (0, 0)
  (s1.setU Obj.scaleSource src).setI Obj.scaleErrorPpb ppb

/-- A frequency result (Table AUX-5) from a gate that has ended; answers its OffsetPpb and whether there is a result. -/
def State.freqResult (s : State) (n : Nat) (g : FreqGate) : Bytes × Int × Bool :=
  let m := g.pairs.length
  let head := time80 g.startNs ++ leBytes 2 0
  if m < 3 then (time80 0 ++ List.replicate 28 0 ++ leBytes 2 1, 0, false)
  else
    let ps := g.pairs.reverse
    let t0 := (ps.head?.map (·.2)).getD 0
    let xs : List (Nat × Int) := ps.map (fun e => (e.1, (e.2 : Int) - (t0 : Int)))
    let (p, q) := lineFit xs
    let sq := fitSquares xs p q / ((m - 2 : Nat) : Rat)
    let rms := (Fl.sqrt fmt64 (roundFl fmt64 sq)).rat * 25 / 2
    let f : Rat := if p ≤ 0 then 0 else 80000000000 / p
    let nom : Rat := (s.freqNominal n : Rat) / 1000000
    let off := ratRound ((if nom = 0 then 0 else f / nom - 1) * 1000000000)
    let offC := clamp32 off
    let tc := s.stampOfNs (g.startNs + s.gateNs n / 2)
    let ph : Rat := if p ≤ 0 then 0 else (((tc : Int) - (t0 : Int) : Int) - q) / p
    let frac := ph - (ratFloor ph : Rat)
    let flags := 2 * b2n (decide (g.d > 1)) + 4 * b2n (decide (g.blind > 0)) + 8 * b2n (decide (offC ≠ off))
    (head ++ leBytes 8 (ratRound (f * 1000000)).toNat ++ leBytes 4 (twosOf 32 offC) ++
      leBytes 4 (ratFloor (frac * 4294967296)).toNat ++ leBytes 4 (ratRound rms).toNat ++ leBytes 4 m ++ leBytes 2 g.d ++
      leBytes 2 flags, offC, true)

/-- FREQ_FIT_DONE: the fit of the gate that ended (R258, R259). -/
def State.freqFitDone (s : State) (n : Nat) (stored : Option Int) : State :=
  let x := s.auxIn n
  match x.done with
  | none => s
  | some g =>
    let r := s.freqResult n g
    let s1 := ((s.setAux n { x with done := none }).put (Obj.auxFreqResult n) r.1).bump (Obj.auxFreqResultCount n) 1
    if n = 8 then
      let present := r.2.2 && decide (r.2.1.natAbs ≤ s1.u Obj.calrefTolPpb)
      (s1.setB Obj.calrefPresent present).scaleGate present r.2.1 stored
    else s1

/-! ### Edges (R249, R250, R252) -/

/-- AUX_EDGE: an edge of the comparator output of input `n`, sampled at `t` with a raw code. -/
def State.auxEdge (s : State) (n : Nat) (rising : Bool) (t : Stamp) (code : Nat) : State :=
  let x := s.auxIn n
  let s0 := s.setAux n { x with level := rising }
  if !s.dev.booted ∨ !slopeTakes (s.u (Obj.auxSlope n)) rising then s0
  else
    let delay := s.u (Obj.auxDelay n)
    let raw := x.taps.stamp (1088 + n) (t / 64 + 1) code
    let stamp := ((raw : Int) - roundDiv (delay * 2) 25).toNat
    let blind := decide (stamp < x.blindTo)
    let s1 := s0.bump (Obj.auxEdgeCount n) 1
    let s2 := if blind then s1.bump (Obj.auxBlindEdgeCount n) 1
      else (s1.setAux n { s1.auxIn n with blindTo := stamp + 128 }).put (Obj.auxLastStamp n) (time80 (s1.nsAt stamp))
    let st := if blind then none else some stamp
    match s2.auxRoleNow n, st with
    | 1, some a => s2.opticalStart n a
    | 2, some a => s2.mayTrigger n n a
    | 3, _ => s2.trackEdge n stamp blind
    | 4, _ => s2.trackEdge n stamp blind
    | 5, _ => s2.intervalEdge n rising st
    | 6, _ => s2.freqEdge n (s2.nsAt stamp) st
    | 7, some a => if rising ∧ s2.u Obj.ppsInSource = 1 then s2.ppsEdge (s2.nativeAt a) else s2
    | _, _ => s2

end Sys2Proof.Machine
end

