-- ==== Sys2Proof/Machine/Cal.lean ====
section
/-!
DEFINITION. Calibration (R89, R262 to R284): region runs, stand-in and deferred runs, input TDCs, full calibration, banks in MRAM,
and the zero range.
-/

namespace Sys2Proof.Machine

/-! ### Passes (R89, R269, R270) -/

/-- The tap table and LineLength of a code-density run over `m` conversions (R89). -/
def tapsOf (counts : List Nat) (m : Nat) : List Nat × Nat :=
  let w (n : Nat) : Rat := 16384 * (n : Rat) / max 1 m
  let ts := (counts.take 64).foldl (fun (a : List Nat × Rat) n =>
    (a.1 ++ [(ratRound (a.2 + w n / 2)).toNat], a.2 + w n)) ([], (0 : Rat))
  let kMax := ((List.range 64).filter (fun k => decide (counts.getD k 0 > 0))).getLast?.getD 0
  let mid := (counts.drop 1).take (kMax - 1)
  let nbar : Rat := if mid = [] then 0 else (sumNat mid : Rat) / (mid.length : Nat)
  (ts.1, (ratRound (51200000 * nbar / max 1 m)).toNat)

/-- Whether a pass fails (R269): code 64, a missing code, or a line out of its limits. -/
def passFails (counts : List Nat) (line : Nat) : Bool :=
  let kMax := ((List.range 64).filter (fun k => decide (counts.getD k 0 > 0))).getLast?.getD 0
  decide (counts.getD 64 0 > 0) || (List.range kMax).any (fun k => decide (counts.getD k 0 = 0)) ||
    decide (line < 850000) || decide (line > 1250000)

/-- Whether two passes agree (R269). -/
def State.passesAgree (s : State) (a b : List Nat × Nat) : Bool :=
  (List.zip a.1 b.1).all (fun e => decide (natDist e.1 e.2 ≤ s.u Obj.tapAgreeTol)) &&
    decide (natDist a.2 b.2 * 2000000 ≤ s.u Obj.scaleAgreeTol * (a.2 + b.2))

/-- The reading of a sensor, 0.01 °C. -/
def State.reading (s : State) (k : Nat) : Int := match s.therm.sensors[k]? with | some x => x.value | none => 0

/-- The higher logic-die reading. -/
def State.logicTemp (s : State) : Int := max (s.reading 16) (s.reading 17)

/-! ### Due regions (R265 to R267) -/

def State.setCal (s : State) (c : CalState) : State := { s with cal := c }

/-- Whether a cluster calibrates in deferred mode (R273). -/
def State.clusterDeferred (s : State) (k : Nat) : Bool := [0xA, 0xB].contains (s.path (1024 + k)).role

def State.regionDueBit (s : State) (r : Nat) : Bool := bitOf (s.u Obj.regionDue) r
def State.regionRunning (s : State) (r : Nat) : Bool := bitOf (s.u Obj.regionRunning) r

/-- A region becomes due; while it runs one further run is queued (R265, R274). -/
def State.makeDue (s : State) (r : Nat) : State :=
  if s.regionRunning r then s.setCal { s.cal with queued := setBit s.cal.queued r true }
  else if s.regionDueBit r then s
  else
    let chs := (rangeFrom (4 * r) 4).flatMap (fun k =>
      if s.clusterDeferred k then (rangeFrom (16 * k) 16).filter (fun ch =>
        (s.path ch).role == 0x0 || (s.cluster k).served == some ch) else [])
    (s.setCal { s.cal with gap := s.cal.gap ++ chs.filter (fun c => !s.cal.gap.contains c) }).setU Obj.regionDue
      (setBit (s.u Obj.regionDue) r true)

/-- CAL_REQUEST (R266). -/
def State.calRequest (s : State) (mask : Nat) : Abort × State :=
  if (List.range 16).any (fun r => bitOf mask r && decide (r ≥ s.variant.regions)) then (Abort.notFitted, s)
  else if !s.dev.state.hasColumns then (Abort.notAllowedNow, s)
  else (Abort.ok, (List.range 16).foldl (fun s r => if bitOf mask r && !s.regionRunning r then s.makeDue r else s) s)

/-- The conditions under which region runs proceed (R267). -/
def State.calProceeds (s : State) (r : Nat) : Bool :=
  s.dev.state.hasColumns && s.mramRefusal == Abort.ok && !s.regionOff r

/-- The paths of a cluster that a region run calibrates, in order (R268, R273). -/
def State.clusterPaths (s : State) (k : Nat) : List Nat :=
  let sc := 1024 + k
  let role := (s.path sc).role
  let own := (rangeFrom (16 * k) 16).filter (fun ch => (s.path ch).role == 0x0)
  (if role = 0x8 ∨ role = 0xA then [sc] else []) ++ own

/-- REGION_RUN_START: a due region whose conditions hold starts its run (R267, R268). -/
def State.regionRunStart (s : State) (r : Nat) : State :=
  if !s.regionDueBit r || s.regionRunning r || !s.calProceeds r then s
  else
    let todo := (rangeFrom (4 * r) 4).foldl (fun t k => tabPut t k (s.clusterPaths k)) s.cal.todo
    (s.setCal { s.cal with todo := todo, started := tabPut s.cal.started r (s.nowNs, s.reading r) }).setU Obj.regionRunning
      (setBit (s.u Obj.regionRunning) r true)

/-- The run of a path. -/
def State.calRun (s : State) (p : Nat) : Option CalRun := (s.cal.runs.find? (fun e => e.1 == p)).map (·.2)

def State.setRun (s : State) (p : Nat) (x : CalRun) : State := s.setCal { s.cal with runs := tabPut s.cal.runs p x }
def State.dropRun (s : State) (p : Nat) : State := s.setCal { s.cal with runs := tabDel s.cal.runs p }

/-- A fresh run of a path under the present reading. -/
def State.newRun (s : State) (p : Nat) (deferred : Bool) : CalRun :=
  { first := none, temp := if p < 1088 then s.reading (regionOf p) else s.logicTemp, began := s.nowNs, deferred := deferred }

/-- Whether a path can take the stimulus now: in full calibration directly; an idle Scarab; a channel whose stand-in is in force; a path
of a deferred cluster (R268, R273, R276). -/
def State.onStimulus (s : State) (p : Nat) : Bool :=
  s.cal.fullRun ||
    (if p ≥ 1024 then (s.path p).role == 0x8 || s.clusterDeferred (p - 1024)
     else (s.path p).role == 0x1 || s.clusterDeferred (p / 16))

/-- The first path of every cluster's list begins its run when it can. -/
def State.calBegin (s : State) : State :=
  s.cal.todo.foldl (fun s e =>
    match e.2 with
    | [] => s
    | p :: _ =>
      if (s.calRun p).isNone && s.onStimulus p then
        s.setRun p (s.newRun p (!s.cal.fullRun && s.clusterDeferred e.1))
      else s) s

/-- A region whose clusters have finished: its record, its bits, and a queued run (R265, R274). -/
def State.regionFinish (s : State) (r : Nat) : State :=
  if s.regionRunning r && (rangeFrom (4 * r) 4).all (fun k => tabGet s.cal.todo k [] == []) then
    let st := tabGet s.cal.started r (s.nowNs, s.reading r)
    let s1 := s.setCal { s.cal with regions := setAt s.cal.regions r { time := st.1, temp := st.2, complete := true },
                                    queued := setBit s.cal.queued r false,
                                    gap := s.cal.gap.filter (fun c => c / 64 != r) }
    let s2 := (s1.setU Obj.regionRunning (setBit (s1.u Obj.regionRunning) r false)).setU Obj.regionDue
      (setBit (s1.u Obj.regionDue) r false)
    let s3 := s2.put Obj.regionCalTime (patch (10 * r) (time80 st.1) (s2.get Obj.regionCalTime))
    let s4 := s3.setWord Obj.regionCalTemp 2 (2 * r) (twosOf 16 st.2)
    if bitOf s.cal.queued r then s4.makeDue r else s4
  else s

/-- A path struck from its cluster's list. -/
def State.calNext (s : State) (p : Nat) : State :=
  let k := clusterOf p
  let s1 := s.setCal { s.cal with todo := tabPut s.cal.todo k ((tabGet s.cal.todo k []).filter (· != p)) }
  (s1.regionFinish (regionOf p)).calBegin

/-! ### Bank writes (R277 to R281) -/

/-- The active bank. -/
def State.activeBank (s : State) : Option CalBank :=
  match s.u Obj.activeBank with
  | 1 => s.cal.slotA
  | 2 => s.cal.slotB
  | _ => none

/-- The error that a bank recorded while LIVE (R264). -/
def State.storedScale (s : State) : Option Int :=
  match s.activeBank with
  | some b => if b.scaleSource = 1 then some b.scalePpb else none
  | none => none

/-- A bank write requested, for a cause (R278). -/
def State.wantBank (s : State) (cause : Nat) : State :=
  if s.cal.wanted.contains cause then s else s.setCal { s.cal with wanted := s.cal.wanted ++ [cause] }

/-- The offsets that the live objects hold, where not 0. -/
def State.liveZero (s : State) : List (Nat × Int) :=
  (s.live.filter (fun e => decide (0x3000 ≤ e.1 / 256) && decide (e.1 / 256 < 0x3400) && e.1 % 256 == 0x15)).map
    (fun e => (e.1 / 256 - 0x3000, intAt 0 4 e.2))
def State.liveSubst (s : State) : List (Nat × Int) :=
  ((s.live.filter (fun e => decide (0x3400 ≤ e.1 / 256) && decide (e.1 / 256 < 0x3440) && e.1 % 256 == 0x16)).flatMap
    (fun e => (List.range 16).map (fun i => (16 * (e.1 / 256 - 0x3400) + i, intAt (4 * i) 4 e.2)))).filter (fun e => e.2 != 0)

/-- A passed result put into a path's or an input's record (R270). -/
def State.applyResult (s : State) (r : CalResult) : State :=
  if r.path < 1088 then s.setPath r.path { s.path r.path with taps := r.taps, suspect := false, fails := 0 }
  else s.setAux (r.path - 1088) { s.auxIn (r.path - 1088) with taps := r.taps }

/-- The bank that the live state gives, with results that have passed (R270, R277). -/
def State.bankNow (s : State) (cause : Nat) : CalBank :=
  let t := s.cal.results.foldl (fun (s : State) r => s.applyResult r) s
  { generation := s.u Obj.activeGeneration + 1, writeNs := s.nowNs, logicTemp := s.logicTemp, scalePpb := s.i Obj.scaleErrorPpb,
    scaleSource := s.u Obj.scaleSource, calref := b2n (s.b Obj.calrefPresent) + 2 * s.u Obj.calrefMode, cause := cause,
    regions := s.cal.regions, inputs := t.aux.inputs.map (fun a => a.taps), paths := t.array.paths, zero := s.liveZero,
    subst := s.liveSubst }

/-- A bank made active in the slot that does not hold the active one (R278). -/
def State.installBank (s : State) (b : CalBank) : State :=
  let toB := s.u Obj.activeBank = 1
  let s1 := s.setCal (if toB then { s.cal with slotB := some b } else { s.cal with slotA := some b })
  ((s1.setU Obj.activeBank (if toB then 2 else 1)).setU Obj.activeGeneration b.generation).bump Obj.bankWriteCount 1

/-- BANK_WRITE: a requested write starts when none is in progress (R278, R279). -/
def State.bankWrite (s : State) : State :=
  match s.cal.wanted with
  | [] => s
  | c :: _ =>
    if s.cal.writing.isSome ∨ s.mramRefusal ≠ Abort.ok then s
    else s.setCal { s.cal with writing := some (s.bankNow c), retried := false, wanted := [] }

/-- Results whose bank stands are loaded: a deferred path's table waits for the next Transom slot; a stand-in ends (R270, R273). -/
def State.resultsStored (s : State) : State :=
  let done := s.cal.results
  let late (r : CalResult) : Bool := decide (r.path < 1088) && s.clusterDeferred (clusterOf r.path)
  let s1 := s.setCal { s.cal with results := done.filter late }
  done.foldl (fun (s : State) r =>
    let s2 := if late r then s else s.applyResult r
    if r.path ≥ 1088 then
      (s2.setCal { s2.cal with inputAt := setAt s2.cal.inputAt (r.path - 1088) s2.nowNs }).setU Obj.inputCalDue
        (setBit (s2.u Obj.inputCalDue) (r.path - 1088) false)
    else
      let k := clusterOf r.path
      let s3 := if r.path < 1024 ∧ (s2.path r.path).role = 0x1 then s2.addCause k (.endStandin r.path) else s2
      s3.calNext r.path) s1

/-- BANK_WRITE_DONE: the read-back holds and the header stands, or it fails; the first failure is retried (R278). -/
def State.bankWriteDone (s : State) (ok : Bool) : State :=
  match s.cal.writing with
  | none => s
  | some b =>
    if !s.fire.pfailN then s
    else if ok then
      let s1 := s.setCal { s.cal with writing := none, retried := false }
      (s1.installBank b).resultsStored
    else if !s.cal.retried then s.setCal { s.cal with retried := true }
    else
      ((s.setCal { s.cal with writing := none, retried := false }).bump Obj.bankWriteFailCount 1).raise 0x0701 0xFFFF 3 b.generation

/-- CRC-protected bytes of a bank: 64-byte header and payload (Tables CAL-3 and CAL-4). -/
def tapsRecord (p : Nat) (t : Taps) : Bytes :=
  ((List.range 64).flatMap (fun k => leBytes 2 (t.entry p k))) ++
    (match t with
     | .factory => leBytes 4 (Config.lineLength p).toNat ++ time80 ((Config.tapTime p).toNat * 1000000000) ++
         leBytes 2 (Config.tapTemp p).toNat
     | .ideal => leBytes 4 1000000 ++ time80 0 ++ leBytes 2 0
     | .run _ l n c => leBytes 4 l ++ time80 (n / 4294967296) ++ leBytes 2 (twosOf 16 c))

def pathRecord (p : Nat) (x : PathRec) (zero : Int) : Bytes :=
  tapsRecord p x.taps ++
    [BitVec.ofNat 8 x.fails, BitVec.ofNat 8 (b2n x.suspect + 2 * (if storedRole x.role then x.role else if p < 1024 then 0 else 8)),
     BitVec.ofNat 8 x.fault, 0] ++ leBytes 4 (twosOf 32 zero) ++ leBytes 8 (x.faultNative / 4294967296)

def CalBank.payload (b : CalBank) (v : Variant) : Bytes :=
  b.regions.flatMap (fun r => time80 r.time ++ leBytes 2 (twosOf 16 r.temp) ++ leBytes 2 (b2n r.complete) ++ leBytes 2 0) ++
    b.inputs.zipIdx.flatMap (fun e => tapsRecord (1088 + e.2) e.1 ++ List.replicate 16 0) ++
    (List.range 1088).flatMap (fun p =>
      if v.hasPath p then pathRecord p (tabGet b.paths p (PathRec.rest p)) (if p < 1024 then tabGet b.zero p 0 else 0)
      else List.replicate 160 0) ++
    (List.range 1024).flatMap (fun i => leBytes 4 (twosOf 32 (tabGet b.subst i 0)))

def bankMagic : Nat := 0x3142434B
def bankPayloadLength : Nat := 179872

def CalBank.bytes (b : CalBank) (v : Variant) : Bytes :=
  let pay := b.payload v
  let head := leBytes 4 bankMagic ++ leBytes 2 1 ++ leBytes 2 64 ++ leBytes 4 b.generation ++ leBytes 4 bankPayloadLength ++
    leBytes 4 (crc32 pay) ++ time80 b.writeNs ++ leBytes 2 (twosOf 16 b.logicTemp) ++ leBytes 4 (twosOf 32 b.scalePpb) ++
    [BitVec.ofNat 8 b.scaleSource, BitVec.ofNat 8 b.calref, BitVec.ofNat 8 b.cause, 0] ++
    leBytes 8 Config.calDeviceUid.toNat ++ List.replicate 12 0
  head ++ leBytes 4 (crc32 head) ++ pay

/-- A record's tables read. -/
def tapsRead (bs : Bytes) : Taps :=
  .run (words 2 64 bs) (numAt 128 4 bs) (ofTime80 (slice 132 10 bs) * 4294967296) (intAt 142 2 bs)

def pathRead (p : Nat) (bs : Bytes) : PathRec :=
  let fl := numAt 145 1 bs
  let role := fieldOf fl 4 1
  { role := if storedRole role then role else (PathRec.rest p).role, fault := numAt 146 1 bs,
    faultNative := numAt 152 8 bs * 4294967296, suspect := bitOf fl 0, fails := numAt 144 1 bs, taps := tapsRead bs }

/-- A bank read from its bytes. -/
def bankRead (v : Variant) (bs : Bytes) : CalBank :=
  let pay := bs.drop 64
  let ps := (List.range 1088).filter v.hasPath
  { generation := numAt 8 4 bs, writeNs := ofTime80 (slice 20 10 bs), logicTemp := intAt 30 2 bs, scalePpb := intAt 32 4 bs,
    scaleSource := numAt 36 1 bs, calref := numAt 37 1 bs, cause := numAt 38 1 bs,
    regions := (List.range 16).map (fun r => let e := slice (16 * r) 16 pay
      { time := ofTime80 e, temp := intAt 10 2 e, complete := bitOf (numAt 12 2 e) 0 }),
    inputs := (List.range 9).map (fun n => tapsRead (slice (256 + 160 * n) 160 pay)),
    paths := ps.map (fun p => (p, pathRead p (slice (1696 + 160 * p) 160 pay))),
    zero := ((ps.filter (· < 1024)).map (fun p => (p, intAt (1696 + 160 * p + 148) 4 pay))).filter (fun e => e.2 != 0),
    subst := ((List.range 1024).map (fun i => (i, intAt (175776 + 4 * i) 4 pay))).filter (fun e => e.2 != 0) }

/-- The checks of R280 on a bank's bytes, but for the device's own number. -/
def bankGood (bs : Bytes) : Bool :=
  decide (bs.length = 64 + bankPayloadLength) && numAt 0 4 bs == bankMagic && numAt 4 2 bs == 1 && numAt 6 2 bs == 64 &&
    numAt 12 4 bs == bankPayloadLength && numAt 60 4 bs == crc32 (bs.take 60) && numAt 16 4 bs == crc32 (bs.drop 64)

/-- A bank's payload loaded into the live objects: tables, roles, faults, offsets, region records and the stored scale (R105, R264,
R280). -/
def State.loadBank (s : State) (b : CalBank) : State :=
  let clusters := b.paths.filterMap (fun e =>
    if e.1 < 1024 ∧ e.2.role = 0x2 then some (e.1 / 16, { Cluster.rest with served := some e.1 }) else none)
  let s1 : State := { s with
    array := { s.array with paths := b.paths.filter (fun e => e.2 != PathRec.rest e.1),
                            clusters := clusters.foldl (fun t e => tabPut t e.1 e.2) [] },
    aux := { s.aux with inputs := s.aux.inputs.zipIdx.map (fun e => { e.1 with taps := getAt b.inputs e.2 .factory }) },
    cal := { s.cal with regions := b.regions },
    live := s.live.filter (fun e => !((decide (0x3000 ≤ e.1 / 256) && decide (e.1 / 256 < 0x3400) && e.1 % 256 == 0x15) ||
      (decide (0x3400 ≤ e.1 / 256) && decide (e.1 / 256 < 0x3440) && e.1 % 256 == 0x16))) }
  let s2 := b.zero.foldl (fun (s : State) e => s.setI (Obj.chZeroOffset e.1) e.2) s1
  let s3 := b.subst.foldl (fun (s : State) e => s.setWord (Obj.chSubstOffset (1024 + e.1 / 16)) 4 (4 * (e.1 % 16)) (twosOf 32 e.2)) s2
  let s4 := s3.put Obj.regionCalTime (b.regions.flatMap (fun r => time80 r.time))
  let s5 := s4.put Obj.regionCalTemp (b.regions.flatMap (fun r => leBytes 2 (twosOf 16 r.temp)))
  if s5.u Obj.scaleSource = 1 then s5
  else if b.scaleSource = 1 then (s5.setU Obj.scaleSource 2).setI Obj.scaleErrorPpb b.scalePpb
  else (s5.setU Obj.scaleSource 0).setI Obj.scaleErrorPpb 0

/-- CAL_BANK_IMPORT: a completed block write, in IDLE; the bank is written as the next generation with Cause 6 and loaded at once
(R281). -/
def State.calBankImport (s : State) (bs : Bytes) : Abort × State :=
  if !bankGood bs ∨ numAt 40 8 bs ≠ Config.calDeviceUid.toNat then (Abort.inconsistent, s)
  else if s.mramRefusal ≠ Abort.ok then (s.mramRefusal, s)
  else
    let b : CalBank := { bankRead s.variant bs with generation := s.u Obj.activeGeneration + 1, cause := 6, writeNs := s.nowNs }
    (Abort.ok, (s.installBank b).loadBank b)

/-! ### Pass results (R269 to R271, R273) -/

/-- A run that failed: Suspect and CalFailCount, and at the third failure fault 0x3 (R271, R273, R276). -/
def State.runFailed (s : State) (p : Nat) (x : CalRun) : State :=
  let s0 := s.bump Obj.calFailTotal 1
  if p ≥ 1088 then s0.setRun p (s0.newRun p x.deferred)
  else
    let y := s0.path p
    let n := y.fails + 1
    let s1 := (s0.setPath p { y with suspect := true, fails := satNat 3 n }).wantBank 5
    if n < 3 then s1.setRun p (s1.newRun p x.deferred)
    else
      let s2 := s1.dropRun p
      let k := clusterOf p
      let s3 :=
        if s2.cal.fullRun then s2.setCal { s2.cal with failing := s2.cal.failing ++ [p] }
        else if p ≥ 1024 then (s2.recordFault p 3 p).setRole p 0xB
        else if s2.clusterDeferred k then (s2.recordFault p 3 p).setRole p 0x4
        else (s2.recordFault p 3 (1024 + k)).addCause k (.toPermanent p 3)
      s3.calNext p

/-- CAL_PASS_COMPLETE: a pass of a path or input holds CalConversions; after the second the run passes or fails. -/
def State.passComplete (s : State) (p : Nat) (counts : List Nat) : State :=
  let m := s.u Obj.calConversions
  let run := match s.calRun p with
    | some x => some x
    | none => if p ≥ 1088 ∧ (s.cal.fullRun ∨ bitOf (s.u Obj.inputCalDue) (p - 1088)) then some (s.newRun p true) else none
  match run with
  | none => s
  | some x =>
    if sumNat counts ≠ m then s
    else
      let t := tapsOf counts m
      if passFails counts t.2 then s.runFailed p x
      else match x.first with
        | none => s.setRun p { x with first := some t, began := s.nowNs }
        | some t1 =>
          if s.passesAgree t1 t then
            let taps := (List.zip t1.1 t.1).map (fun e => (e.1 + e.2 + 1) / 2)
            let r : CalResult := { path := p, taps := .run taps ((t1.2 + t.2 + 1) / 2) s.time.native x.temp }
            let s1 := ((s.dropRun p).setCal { (s.dropRun p).cal with results := s.cal.results ++ [r] }).bump Obj.calPassCount 1
            if s1.cal.fullRun then (if p < 1088 then s1.calNext p else s1)
            else s1.wantBank 1
          else s.runFailed p x

/-- CAL_DEFER_TIMEOUT: a deferred pass that spans more than CalDeferMax is discarded and restarted (R273). -/
def State.deferTimeout (s : State) (p : Nat) : State :=
  match s.calRun p with
  | none => s
  | some x =>
    if x.deferred then
      let s1 := s.runTo (s.tickOfNs (x.began + 1000000 * s.u Obj.calDeferMax))
      s1.setRun p { x with began := s1.nowNs }
    else s

/-- Stand-ins that the region runs and Suspect channels ask for at a Transom slot (R268, R269). -/
def State.calAtSlot (s : State) (t : Stamp) (long : Bool) : State :=
  let s0 := s.cal.results.foldl (fun (s : State) r => s.applyResult r)
    (s.setCal { s.cal with results := s.cal.results.filter (fun r => s.cal.wanted ≠ [] || s.cal.writing.isSome || decide (r.path ≥ 1088)) })
  let s1 := (List.range 16).foldl (fun (s : State) r =>
    let due := getAt s.cal.regions r { time := 0, temp := 0, complete := false }
    let limit := s.word Obj.calMaxInterval 4 (4 * s.bandOf r) * 1000000000
    if s.dev.state.hasColumns && decide (r < s.variant.regions) && decide (s.nowNs ≥ due.time + limit) && !s.regionRunning r then
      s.makeDue r else s) s0
  let s2 := s1.array.paths.foldl (fun (s : State) e =>
    let k := clusterOf e.1
    if e.2.suspect && decide (e.2.fails < 3) && decide (e.1 < 1024) && e.2.role == 0x0 && !s.clusterDeferred k &&
        s.calProceeds (regionOf e.1) && tabGet s.cal.todo k [] == [] then
      s.setCal { s.cal with todo := tabPut s.cal.todo k [e.1] } else s) s1
  let s3 := s2.cal.todo.foldl (fun (s : State) e =>
    match e.2 with
    | [] => s
    | p :: _ =>
      if decide (p < 1024) && (s.path p).role == 0x0 && s.scarabIdle e.1 && s.calProceeds (regionOf p) && !s.clusterDeferred e.1 &&
          !(s.cluster e.1).settling then
        if long then s.crossbar e.1 (.beginStandin p) t else s.bump Obj.deferredHandoverCount 1
      else s) s2
  s3.calBegin

/-- STANDIN_ABANDON_RETURN: outside SCAN, HOLD and STANDBY the crossbar returns the pixel and the run is abandoned (R272). -/
def State.standinReturn (s : State) (k : Nat) : State :=
  match (s.cluster k).served with
  | none => s
  | some ch =>
    if s.dev.state.hasColumns ∨ (s.path (1024 + k)).role ≠ 0x9 then s
    else
      let s1 := (s.setRole ch 0x0).setRole (1024 + k) 0x8
      let s2 := s1.setCluster k { s1.cluster k with served := none, settling := false,
                                                    causes := (s1.cluster k).causes.filter (fun c => c.channel != some ch) }
      (s2.dropRun ch).setCal { (s2.dropRun ch).cal with results := s2.cal.results.filter (fun r => r.path != ch) }

/-- Runs halted when MRAM or PFAIL_N forbids them: stand-ins end at the next slot, nothing is stored (R272, R279). -/
def State.calHalt (s : State) : State :=
  let s1 := s.cal.runs.foldl (fun (s : State) e =>
    if e.1 < 1024 ∧ (s.path e.1).role = 0x1 then s.addCause (e.1 / 16) (.endStandin e.1) else s) s
  s1.setCal { s1.cal with runs := [], results := [] }

/-! ### Inputs and full calibration (R275, R276) -/

/-- INPUT_CAL_INTERVAL: CalInputInterval has elapsed for the input longest calibrated; every input whose interval has elapsed is due. -/
def State.inputInterval (s : State) : State :=
  let step := s.u Obj.calInputInterval * 1000000000
  match s.cal.inputAt with
  | [] => s
  | t :: ts =>
    let s1 := s.runTo (s.tickOfNs (ts.foldl min t + step))
    let mask := s1.cal.inputAt.zipIdx.foldl (fun (m : Nat) e => if e.1 + step ≤ s1.nowNs then setBit m e.2 true else m)
      (s1.u Obj.inputCalDue)
    s1.setU Obj.inputCalDue mask

/-- A logic-die reading more than DeltaTCal from an input's calibration makes it due (R275). -/
def State.inputTempDue (s : State) : State :=
  let d := s.u Obj.deltaTCal
  let mask := s.aux.inputs.zipIdx.foldl (fun (m : Nat) e =>
    let at' : Int := match e.1.taps with
      | .run _ _ _ c => c
      | .factory => signedOf 16 (Config.tapTemp (1088 + e.2)).toNat
      | .ideal => 0
    if (s.logicTemp - at').natAbs > d then setBit m e.2 true else m) (s.u Obj.inputCalDue)
  s.setU Obj.inputCalDue mask

/-- Full calibration begun at the entry to CALIBRATE: every cluster's paths and all inputs (R276). -/
def State.fullCalStart (s : State) : State :=
  let todo := (List.range (4 * s.variant.regions)).map (fun k => (k, s.clusterPaths k))
  let runs := (List.range 9).map (fun n => (1088 + n, s.newRun (1088 + n) false))
  (s.setCal { s.cal with fullRun := true, todo := todo, runs := runs, results := [], failing := [],
                         started := (List.range 16).map (fun r => (r, (s.nowNs, s.reading r))) }).calBegin

/-- Full calibration dropped: every result of the unfinished run is discarded (R60 note 3, R276). -/
def State.fullCalDrop (s : State) : State :=
  s.setCal { s.cal with fullRun := false, todo := [], runs := [], results := [], failing := [] }

/-- Whether full calibration has no path left. -/
def State.fullCalReady (s : State) : Bool :=
  s.cal.fullRun && s.cal.todo.all (fun e => e.2 == []) && !s.cal.runs.any (fun e => decide (e.1 ≥ 1088))

/-- FULL_CAL_DONE: one bank generation with Cause 2, region records, inputs no longer due, retirements (R276); or, when the bank cannot
be written, the results discarded with an Error. The device goes to IDLE after it. -/
def State.fullCalDone (s : State) : State :=
  let code := s.mramRefusal
  if code ≠ Abort.ok then s.fullCalDrop.raise 0x0703 0xFFFF 3 code
  else
    let regs := (List.range 16).map (fun r =>
      let st := tabGet s.cal.started r (s.nowNs, s.reading r)
      if r < s.variant.regions then { time := st.1, temp := st.2, complete := true } else ({ time := 0, temp := 0, complete := false } : RegionCal))
    let s1 := s.setCal { s.cal with regions := regs }
    let b := s1.bankNow 2
    let s2 := s1.cal.results.foldl (fun (s : State) r => s.applyResult r) s1
    let s3 := (s2.setCal { s2.cal with inputAt := s2.cal.inputAt.map (fun _ => s2.nowNs) }).installBank b
    let s4 := (s3.put Obj.regionCalTime (regs.flatMap (fun r => time80 r.time))).put Obj.regionCalTemp
      (regs.flatMap (fun r => leBytes 2 (twosOf 16 r.temp)))
    let s5 := ((s4.setU Obj.inputCalDue 0).setU Obj.regionDue 0)
    let bad := s5.cal.failing
    let s6 := s5.fullCalDrop
    bad.foldl (fun (s : State) p =>
      let k := clusterOf p
      if p ≥ 1024 then (s.recordFault p 3 p).setRole p 0xB
      else if s.scarabIdle k then s.crossbar k (.beginPermanent p 3) s.nowStamp
      else (s.recordFault p 3 p).setRole p 0x4) { s6 with cal := { s6.cal with gap := [] } }

/-! ### Zero range (R282, R283) -/

/-- The stand-ins of a mode-2 position. -/
def State.zeroHand (s : State) (pos : Nat) : State :=
  (List.range (4 * s.variant.regions)).foldl (fun (s : State) k =>
    let s1 := match (s.cluster k).served with
      | some ch => if (s.path (1024 + k)).role = 0x9 then s.addCause k (.endStandin ch) else s
      | none => s
    if pos < 16 ∧ (s.path (16 * k + pos)).role = 0x0 ∧ [0x8, 0x9].contains (s.path (1024 + k)).role then
      s1.addCause k (.beginStandin (16 * k + pos)) else s1) s

/-- A zero run in progress ended as aborted (R282). -/
def State.zeroAbort (s : State) : State :=
  if s.cal.zeroMode = 0 then s
  else
    let s1 := if s.cal.zeroMode = 2 then s.zeroHand 16 else s
    (s1.setCal { s1.cal with zeroMode := 0, zeroAcc := [], zeroColumns := 0, zeroPos := 0 }).setU Obj.zeroStatus 3

/-- ZERO_RUN. -/
def State.zeroRun (s : State) (v : Nat) : Abort × State :=
  if v = 0 then (Abort.ok, s.zeroAbort)
  else if v > 2 then (Abort.range, s)
  else if s.dev.state ≠ .scan ∨ s.cal.zeroMode ≠ 0 then (Abort.notAllowedNow, s)
  else
    let s1 := (s.setCal { s.cal with zeroMode := v, zeroPos := 0, zeroColumns := 0, zeroAcc := [] }).setU Obj.zeroStatus 1
    let s2 := s1.put Obj.zeroResult (List.replicate 16384 0)
    (Abort.ok, if v = 2 then s2.zeroHand 0 else s2)

/-- The record of an accumulation (R282): offset, columns that gave a peak, spread in 10 µm. -/
def State.zeroRecord (s : State) (key : Nat) (x : Nat × Int × Int) : Bytes :=
  let ch := if key < 1024 then key else key - 1024
  let n : Rat := max 1 x.1
  let mean : Rat := (x.2.1 : Rat) / n
  let var : Rat := (x.2.2 : Rat) / n - mean * mean
  let sd := (Fl.sqrt fmt64 (roundFl fmt64 (if var < 0 then 0 else var))).rat
  let off := clamp32 (ratRound (mean - (s.word Obj.zeroRefRange 4 (4 * ch) : Rat)))
  leBytes 4 (twosOf 32 off) ++ leBytes 2 x.1 ++ leBytes 2 (satNat 65535 (ratRound (sd / 10)).toNat)

/-- ZERO_RUN_DONE: the columns of the run, or of a mode-2 position, are complete: the records are formed, and the last position ends the
run (R282). -/
def State.zeroRunDone (s : State) : State :=
  if s.cal.zeroMode = 0 ∨ s.cal.zeroColumns < s.u Obj.zeroColumns then s
  else
    let s1 := s.cal.zeroAcc.foldl (fun (s : State) e =>
      s.put Obj.zeroResult (patch (8 * e.1) (s.zeroRecord e.1 e.2) (s.get Obj.zeroResult))) s
    if s1.cal.zeroMode = 1 ∨ s1.cal.zeroPos ≥ 15 then
      let s2 := if s1.cal.zeroMode = 2 then s1.zeroHand 16 else s1
      (s2.setCal { s2.cal with zeroMode := 0, zeroAcc := [], zeroColumns := 0, zeroPos := 0 }).setU Obj.zeroStatus 2
    else
      (s1.setCal { s1.cal with zeroPos := s1.cal.zeroPos + 1, zeroAcc := [], zeroColumns := 0 }).zeroHand (s1.cal.zeroPos + 1)

/-- Whether a result is valid (R282). -/
def State.zeroValid (s : State) (key : Nat) : Bool :=
  let n := s.word Obj.zeroResult 2 (8 * key + 4)
  decide (2 * n ≥ s.u Obj.zeroColumns) && decide ((intAt (8 * key) 4 (s.get Obj.zeroResult)).natAbs ≤ 10000000)

/-- ZERO_APPLY: every valid result copied into its offset, as one bank generation with Cause 3 (R283). -/
def State.zeroApply (s : State) (v : Nat) : Abort × State :=
  if v ≠ 1 then (Abort.range, s)
  else if s.dev.state ≠ .idle ∨ s.u Obj.zeroStatus ≠ 2 then (Abort.notAllowedNow, s)
  else if s.mramRefusal ≠ Abort.ok then (s.mramRefusal, s)
  else
    let res := s.get Obj.zeroResult
    let s1 := ((List.range 2048).filter s.zeroValid).foldl (fun (s : State) key =>
      let off := intAt (8 * key) 4 res
      if key < 1024 then
        if (s.path key).role = 0x2 then
          s.setWord (Obj.chSubstOffset (1024 + key / 16)) 4 (4 * (key % 16)) (twosOf 32 off)
        else s.setI (Obj.chZeroOffset key) off
      else s.setWord (Obj.chSubstOffset (1024 + (key - 1024) / 16)) 4 (4 * (key % 16)) (twosOf 32 off)) s
    (Abort.ok, s1.wantBank 3)

end Sys2Proof.Machine
end

