-- ==== Sys2Proof/Machine/Therm.lean ====
section
/-!
DEFINITION. Temperature sensors, demands, bands, rates of rise and the throttle (R285 to R302).
-/

namespace Sys2Proof.Machine

/-! ### Sensors (Table THRM-1) -/

/-- The source of a sensor's conversion; the I2C sensor has none. -/
def sensorSource (k : Nat) : Nat :=
  if k < 16 then 24 + k else if k < 20 then 24 + k else if k < 22 then k - 14 else 63

/-- The converter that reaches a sensor: SC2 or SC3. -/
def sensorConv (k : Nat) : Nat := if k % 2 = 0 then 2 else 3

/-- Whether a sensor is fitted and, for the I2C sensor, enabled. -/
def State.sensorFitted (s : State) (k : Nat) : Bool :=
  if k < 16 then decide (k < s.variant.regions) else if k = 22 then bitOf (s.word Obj.i2cConfig 1 0) 0 else decide (k < 22)

/-- The schedule list: fitted sensors in bit order (R290). -/
def State.sensorList (s : State) : List Nat := (List.range 23).filter s.sensorFitted

def State.sensor (s : State) (k : Nat) : Sensor := getAt s.therm.sensors k Sensor.rest

def State.setSensor (s : State) (k : Nat) (x : Sensor) : State :=
  { s with therm := { s.therm with sensors := setAt s.therm.sensors k x } }

/-- Upper edges of the bands (R292), with the ceiling of B4. -/
def bandEdges : List Int := [-2000, 2500, 7000, 10500, 12500]

/-- The band that a reading gives without hysteresis. -/
def bandPlain (t : Int) : Nat := ((bandEdges.take 4).filter (fun e => decide (t > e))).length

/-- A band moved by a reading (R292): up over each edge it lies above, down past each lower edge less 2.00 °C. -/
def bandMove (b : Nat) (t : Int) : Nat :=
  let up := max b (bandPlain t)
  let dn := ((bandEdges.take 4).filter (fun e => decide (t ≥ e - 200))).length
  if bandPlain t > b then up else min b dn

/-- The reading that a failed sensor stands for (R300). -/
def State.failHot (s : State) (k : Nat) : Int :=
  if k < 16 then getAt bandEdges (s.bandOf k) 12500
  else if k < 18 then getAt bandEdges s.therm.logicBand 12500
  else if k < 20 then 12500
  else if k < 22 then
    getAt [s.i Obj.derateStart, s.i Obj.derateEnd, s.i Obj.boardThrottleTemp, 9500] (getAt s.therm.thRange (k - 20) 3) 9500
  else (s.sensor 22).value

/-- Where a sensor's reading is reported (Table THRM-5). -/
def State.report (s : State) (k : Nat) (t : Int) : State :=
  let w := twosOf 16 t
  if k < 16 then s.setWord Obj.regionTemp 2 (2 * k) w
  else if k < 18 then s.setWord Obj.logicTemp 2 (2 * (k - 16)) w
  else if k < 20 then s.setWord Obj.packageTemp 2 (2 * (k - 18)) w
  else if k < 22 then s.setWord Obj.thermTemp 2 (2 * (k - 20)) w
  else s.setU Obj.i2cTemp w

/-! ### Throttle steps (R296 to R299, R301) -/

/-- A region's step or, at 16, the board's. -/
def State.step' (s : State) (k : Nat) : Nat := s.word Obj.throttleStep 1 k

/-- The step in force that the region and board steps ask for (R298). -/
def State.stepWanted (s : State) (r : Nat) : Nat := max (s.step' r) (s.step' 16)

/-- ThrottleNow (R298). -/
def State.throttleSeen (s : State) : State :=
  let top := ((List.range s.variant.regions).map s.stepWanted).foldl max 0
  s.setU Obj.throttleNow (if s.therm.step4 then 4 else top)

/-- Steps in force made those wanted (R298): at a column boundary, or at once where there are none. -/
def State.throttleApply (s : State) : State :=
  { s with therm := { s.therm with inForce := (List.range 16).map s.stepWanted } }

/-- A region or board step set, with a Warning for every region whose step in force it changes. -/
def State.setStep (s : State) (k n : Nat) : State :=
  let old := (List.range s.variant.regions).map s.stepWanted
  let s1 := s.setWord Obj.throttleStep 1 k n
  let s2 := old.zipIdx.foldl (fun (s : State) e =>
    let w := s1.stepWanted e.2
    if w ≠ e.1 then s.raise 0x0603 e.2 2 (e.1 + 256 * w) else s) s1
  let s3 := s2.throttleSeen
  if s3.dev.state.hasColumns then s3 else s3.throttleApply

def State.throttle (s : State) (k : Nat) : Throttle :=
  getAt s.therm.throttles k Throttle.rest

def State.setThrottle (s : State) (k : Nat) (x : Throttle) : State :=
  { s with therm := { s.therm with throttles := setAt s.therm.throttles k x } }

/-- A step raised by one, up to 3. -/
def State.rise (s : State) (k : Nat) : State :=
  let n := s.step' k
  let s1 := s.setThrottle k { s.throttle k with lastRise := some s.time.ticks }
  if n < 3 then s1.setStep k (n + 1) else s1

/-- Step 4 taken (R299). -/
def State.takeStep4 (s : State) (k : Nat) (byFail : Bool) (t : Int) : State :=
  if s.therm.step4 then s
  else
    let s1 : State := { s with therm := { s.therm with step4 := true, step4Cool := none,
                                                       step4Sensor := if byFail then some k else none } }
    (s1.fatal 0x0604 k (twosOf 64 t)).throttleSeen

/-- Whether every region and logic-die reading lies at or below TjSafe − ThrottleHyst (R299). -/
def State.allCool (s : State) : Bool :=
  let lim := s.i Obj.tjSafe - s.u Obj.throttleHyst
  (List.range 18).all (fun k => !s.sensorFitted k || decide ((s.sensor k).value ≤ lim))

/-- The step-4 release time follows a reading (R299, R301). -/
def State.coolFollow (s : State) : State :=
  if !s.therm.step4 then s
  else
    let gated := match s.therm.step4Sensor with
      | some k => (s.sensor k).gated
      | none => false
    let c := if s.allCool && !gated then some (s.therm.step4Cool.getD s.time.ticks) else none
    { s with therm := { s.therm with step4Cool := c } }

/-- TJSAFE_RELEASE: all cool for ThrottleRelease: the Fatal cause ends (R299). -/
def State.tjsafeRelease (s : State) : State :=
  match s.therm.step4Cool with
  | none => s
  | some t =>
    let s1 := s.runTo (t + msTicks (s.u Obj.throttleRelease))
    let s2 : State := { s1 with therm := { s1.therm with step4 := false, step4Cool := none, step4Sensor := none },
                                ev := { s1.ev with fatal := s1.ev.fatal.filter (· != 0x0604) } }
    s2.throttleSeen

/-! ### Rates (R295) -/

/-- A rate against the newest kept reading at least RateSpan old, 0.01 °C/s. -/
def State.rateOf (s : State) (kept : List (Int × Nat)) (t : Int) : Option Int :=
  let span := msTicks (s.u Obj.rateSpan)
  match kept.find? (fun e => decide (e.2 + span ≤ s.time.ticks)) with
  | some e => some (roundDivInt ((t - e.1) * tickHz) (s.time.ticks - e.2))
  | none => none

/-- A reading kept when RateSpan / 8 has passed since the newest. -/
def State.keep (s : State) (kept : List (Int × Nat)) (t : Int) : List (Int × Nat) :=
  match kept with
  | [] => [(t, s.time.ticks)]
  | e :: _ => if e.2 * 8 + msTicks (s.u Obj.rateSpan) ≤ s.time.ticks * 8 then ((t, s.time.ticks) :: kept).take 16 else kept

/-- The region's rate with its excess (R265, R295). -/
def State.regionRateStep (s : State) (r : Nat) (t : Int) : State :=
  let x := s.sensor r
  let s1 := match s.rateOf x.kept t with
    | none => s
    | some q =>
      let s1 := s.setWord Obj.regionRate 2 (2 * r) (twosOf 16 (clampInt (-32768) 32767 q))
      let y := s1.throttle r
      let rested := match y.excessAt with | some a => decide (a + msTicks (s.u Obj.rateSpan) ≤ s.time.ticks) | none => true
      if q > (s.u Obj.regionRateLimit : Int) ∧ rested then
        ((s1.setThrottle r { y with excessAt := some s.time.ticks }).makeDue r).raise 0x0605 r 1 (twosOf 64 q)
      else s1
  s1.setSensor r { s1.sensor r with kept := s1.keep x.kept t }

/-! ### Board (R165, R166, R295, R297) -/

/-- T_eb: the higher of TH0 and TH1 (R165). -/
def State.tEb (s : State) : Int := max (s.sensor 20).value (s.sensor 21).value

/-- The board step's rise: two rises are at least ThrottleDwell apart (R297). -/
def State.boardRise (s : State) : State :=
  match (s.throttle 16).lastRise with
  | some t => if t + msTicks (s.u Obj.throttleDwell) ≤ s.time.ticks then s.rise 16 else s
  | none => s.rise 16

/-- Whether a thermistor's failure still holds back the board's release (R301). -/
def State.boardGated (s : State) : Bool := (s.sensor 20).gated || (s.sensor 21).gated

/-- T_eb reported and judged: range, rate, step (R165, R166, R297). `valid` says that a valid reading brought it. -/
def State.boardFollow (s : State) (valid : Bool) : State :=
  let t := s.tEb
  let s0 := s.setI Obj.boardTemp t
  let rate := if valid then s0.rateOf s0.therm.boardKept t else none
  let s1 : State := if valid then { s0 with therm := { s0.therm with boardKept := s0.keep s0.therm.boardKept t } } else s0
  let s2 := match rate with | some q => s1.setI Obj.boardRate (clampInt (-32768) 32767 q) | none => s1
  let excess := match rate with | some q => decide (q > (s2.u Obj.boardRateLimit : Int)) | none => false
  let hot := decide (t ≥ s2.i Obj.boardThrottleTemp)
  let s3 := if excess || hot then s2.boardRise else s2
  let cool := decide (t < s3.i Obj.boardThrottleTemp - s3.u Obj.throttleHyst) &&
    decide (2 * s3.i Obj.boardRate ≤ (s3.u Obj.boardRateLimit : Int)) && !s3.boardGated
  let y := s3.throttle 16
  let s4 := s3.setThrottle 16 { y with coolSince := if cool then some (y.coolSince.getD s3.time.ticks) else none }
  let out := decide (t < -4000) || decide (t > 9500)
  if out then
    if s4.dev.state.live then ((s4.inhibitOn inhBoardTemp).gdrvLow).fatal 0x0304 0xFFFF (twosOf 64 t) else s4
  else { s4.inhibitOff inhBoardTemp with ev := { s4.ev with fatal := s4.ev.fatal.filter (· != 0x0304) } }

/-! ### MRAM band (R292, R294) -/

/-- The logic band and MramWriteAllowed follow the logic-die readings. -/
def State.logicFollow (s : State) : State :=
  let hi := s.logicTemp
  let lo := min (s.reading 16) (s.reading 17)
  let failed := (s.sensor 16).failed && (s.sensor 17).failed
  let band := if failed then s.therm.logicBand else bandMove s.therm.logicBand hi
  let cold := if lo < -4000 then true else if lo > -3800 then false else s.therm.coldHold
  let ok := decide (band ≤ 3) && !cold
  let was := s.b Obj.mramWriteAllowed
  let s1 := ({ s with therm := { s.therm with logicBand := band, coldHold := cold } }).setB Obj.mramWriteAllowed ok
  let s2 := if was && !ok then s1.calHalt else s1
  s2.inputTempDue

/-! ### Judging a reading -/

/-- A region's step under a reading (R296): step 1 at the first hot one; the dwell and release times follow. -/
def State.regionFollow (s : State) (r : Nat) (t : Int) : State :=
  let x := s.throttle r
  let hot := decide (t ≥ s.i Obj.throttleTemp)
  let cool := decide (t < s.i Obj.throttleTemp - s.u Obj.throttleHyst) && !(s.sensor r).gated
  let s1 := s.setThrottle r { x with hotSince := if hot then some (x.hotSince.getD s.time.ticks) else none,
                                     coolSince := if cool then some (x.coolSince.getD s.time.ticks) else none }
  let s2 := if hot ∧ s1.step' r = 0 then s1.rise r else s1
  if t > s2.i Obj.tjSafe then s2.takeStep4 r false t else s2

/-- A region's band under a valid reading (R292). -/
def State.bandFollow (s : State) (r : Nat) (t : Int) (plain : Bool) : State :=
  let b := s.bandOf r
  let n := if plain then bandPlain t else bandMove b t
  if n = b then s else (s.setWord Obj.regionBand 1 r n).raise 0x0602 r 1 (b + 256 * n)

/-- What a sensor's reading, or the fail-hot reading of a failed one, does (R295 to R301). -/
def State.judge (s : State) (k : Nat) (valid plain : Bool) : State :=
  let t := (s.sensor k).value
  if k < 16 then
    let s1 := if valid then ((s.bandFollow k t plain).regionRateStep k t) else s
    let s2 := s1.regionFollow k t
    let ref := intAt (2 * k) 2 (s2.get Obj.regionCalTemp)
    let s3 := if valid ∧ (t - ref).natAbs > s2.u Obj.deltaTCal then s2.makeDue k else s2
    s3.coolFollow
  else if k < 18 then
    let s1 := s.logicFollow
    (if t > s1.i Obj.tjSafe then s1.takeStep4 k false t else s1).coolFollow
  else if k < 20 then s
  else if k < 22 then
    let edges : List Int := [s.i Obj.derateStart, s.i Obj.derateEnd, s.i Obj.boardThrottleTemp]
    let was := getAt s.therm.thRange (k - 20) 3
    let up := (edges.filter (fun e => decide (t > e))).length
    let dn := (edges.filter (fun e => decide (t ≥ e - 200))).length
    let n := if plain then up else if up > was then up else min was dn
    let s1 : State := if valid then { s with therm := { s.therm with thRange := setAt s.therm.thRange (k - 20) n } } else s
    s1.boardFollow valid
  else if valid ∧ t > s.i Obj.boardThrottleTemp then s.raise 0x0606 22 2 (twosOf 64 t) else s

/-- A sensor fails (R287, R300, R301). -/
def State.sensorFail (s : State) (k : Nat) : State :=
  let x := s.sensor k
  let s0 := s.setSensor k { x with validRun := 0, gated := true }
  if x.failed then s0
  else
    let hot := s0.failHot k
    let s1 := s0.setSensor k { s0.sensor k with failed := true, value := hot }
    let s2 := ((s1.setU Obj.sensorFailed (setBit (s1.u Obj.sensorFailed) k true)).bump Obj.sensorFailCount 1).raise 0x0601 k 3 k
    let s3 := s2.report k hot
    let s4 := if k < 16 then
        (if s3.step' k = 3 then s3.takeStep4 k true hot else if s3.step' k ≥ 1 then s3.rise k else s3)
      else if 20 ≤ k ∧ k < 22 ∧ s3.step' 16 ≥ 1 then s3.rise 16
      else s3
    s4.judge k false false

/-- A valid reading of a sensor (R287, R301). -/
def State.sensorValid (s : State) (k : Nat) (t : Int) (plain : Bool) : State :=
  let x := s.sensor k
  let run := x.validRun + 1
  let s1 := s.setSensor k { x with value := t, validAt := some s.time.ticks, failed := false, validRun := run,
                                   gated := x.gated && decide (run < 8) }
  let s2 := (s1.setU Obj.sensorFailed (setBit (s1.u Obj.sensorFailed) k false)).report k t
  s2.judge k true plain

/-! ### Readings (R285 to R288) -/

/-- A thermistor code through ThermTable: none outside it or without a table (R286, R287). -/
def State.thermRead (s : State) (code : Nat) : Option Int :=
  let bs := s.get Obj.thermTable
  if allZero bs then none
  else
    let rec' : List (Nat × Int) := (List.range 32).map (fun i => (numAt (4 * i) 2 bs, intAt (4 * i + 2) 2 bs))
    (List.zip rec' (rec'.drop 1)).findSome? (fun e =>
      if e.1.1 ≤ code ∧ code ≤ e.2.1 ∧ e.1.1 < e.2.1 then
        some (ratRound ((e.1.2 : Rat) + ((e.2.2 - e.1.2 : Int) : Rat) * ((code - e.1.1 : Nat) : Rat) / ((e.2.1 - e.1.1 : Nat) : Rat)))
      else none)

/-- The demand that a converter serves next: the first of the lowest rank (R289). -/
def Converter.serves (x : Converter) : Option (Nat × Nat) :=
  match x.queue.filter (fun e => e.1 == 0) with
  | e :: _ => some e
  | [] => match x.queue.filter (fun e => e.1 == 1) with
    | e :: _ => some e
    | [] => x.queue.head?

/-- A conversion on SC2 or SC3 ended: its demand is served, a discard that was due has gone before it, and its word is stored
(R178, R182). -/
def State.demandServed (s : State) (c src : Nat) (code : Int) (ovr : Bool) : State :=
  let x := s.conv c
  let s1 := match x.serves with
    | some e => s.setConv c { x with queue := x.queue.erase e }
    | none => s
  let s2 := if x.discard then s1.countDiscard c else s1
  (s2.storeResult src code ovr).wantDiscard c ovr

/-- TEMP_READING: a conversion or I2C transfer brings a reading of a demanded sensor. -/
def State.tempReading (s : State) (k : Nat) (x : Reading) : State :=
  let c := sensorConv k
  let asked := (s.conv c).serves.map (·.2) == some (sensorSource k)
  let plain := (s.sensor k).validAt.isNone
  match x with
  | .i2c w ack =>
    if k ≠ 22 ∨ !s.sensorFitted 22 then s
    else if ack then
      s.sensorValid 22 (roundDivInt (signedOf 16 w.toNat * numAt 4 4 (s.get Obj.i2cConfig)) 10000) plain
    else s.sensorFail 22
  | .diode v ovr =>
    if k ≥ 20 ∨ !asked then s
    else
      let (n, s1) := s.draw
      let s2 := s1.demandServed c (sensorSource k) (if ovr then 4095 else ((n % 4096 : Nat) : Int)) ovr
      let t := signedOf 16 v.toNat
      if ovr ∨ t < -5500 ∨ t > 15000 then s2.sensorFail k else s2.sensorValid k t plain
  | .therm code ovr =>
    if k < 20 ∨ k > 21 ∨ !asked then s
    else
      let s2 := s.demandServed c (sensorSource k) (s.sampleCode (sensorSource k) ⟨code, ovr⟩) ovr
      match (if ovr then none else s2.thermRead code.toNat) with
      | some t => s2.sensorValid k t plain
      | none => s2.sensorFail k

/-- SENSOR_STALE: the newest valid reading is older than StaleLimit (R287). -/
def State.sensorStale (s : State) (k : Nat) : State :=
  if !s.sensorFitted k ∨ !s.dev.booted then s
  else
    let from' := (s.sensor k).validAt.getD s.dev.bootTick
    (s.runTo (from' + msTicks (s.u Obj.staleLimit) + 1)).sensorFail k

/-! ### Demands (R289, R290) -/

/-- Sensors queued on their converters under a rank. -/
def State.demand (s : State) (rank : Nat) (ks : List Nat) : State :=
  ks.foldl (fun (s : State) k =>
    if k = 22 then s
    else
      let c := sensorConv k
      let x := s.conv c
      s.setConv c { x with queue := x.queue ++ [(rank, sensorSource k)] }) s

/-- Sensors of a mask. -/
def maskSensors (m : Nat) : List Nat := (List.range 23).filter (bitOf m)

/-- TEMP_DEMAND: a host demand; in SCAN and STANDBY it waits for the next Transom slot (R290). -/
def State.tempDemandWrite (s : State) (mask : Nat) : Abort × State :=
  if (maskSensors mask).any (fun k => decide (k < 16) && decide (k ≥ s.variant.regions)) then (Abort.notFitted, s)
  else if s.dev.state = .scan ∨ s.dev.state = .standby then
    (Abort.ok, { s with therm := { s.therm with hostDemand := s.therm.hostDemand ||| mask } })
  else (Abort.ok, s.demand 1 (maskSensors mask))

/-- HOUSEKEEP_DEMAND: outside SCAN and STANDBY the full list is released every HousekeepPeriod (R290). -/
def State.housekeepDemand (s : State) : State :=
  if !s.dev.booted ∨ s.dev.state = .scan ∨ s.dev.state = .standby then s
  else
    let s1 := s.runTo (s.therm.releasedAt + msTicks (s.u Obj.housekeepPeriod))
    let s2 := s1.demand 2 s1.sensorList
    { s2 with therm := { s2.therm with releasedAt := s2.time.ticks } }

/-- Schedule conversions that fit a Transom slot beside the demands queued on a converter: the slot less 0.5 µs in conversions of 1.0 µs
(R290). -/
def State.slotRoom (s : State) (c : Nat) : Nat :=
  ((s.scan.transomTo - s.scan.transomFrom) - 40000) / 80000 - (s.conv c).queue.length

/-- THERMAL_DEMAND: a released demand of SC2 or SC3 is queued to be converted back to back: waiting calibration and host demands first;
in SCAN and STANDBY, inside a Transom slot, then the next sensors of the schedule in rotation (R178, R289, R290). -/
def State.thermalDemand (s : State) (c : Nat) : State :=
  let mine (m : Nat) : List Nat := (maskSensors m).filter (fun k => sensorConv k == c && k != 22)
  let clear (m : Nat) : Nat := (mine m).foldl (fun m k => setBit m k false) m
  let s1 := (s.demand 0 (mine s.therm.calDemand)).demand 1 (mine s.therm.hostDemand)
  let s2 : State := { s1 with therm := { s1.therm with calDemand := clear s.therm.calDemand, hostDemand := clear s.therm.hostDemand } }
  if s2.dev.state = .scan ∨ s2.dev.state = .standby then
    let list := s2.sensorList.filter (fun k => sensorConv k == c && k != 22)
    let n := list.length
    let room := min (s2.slotRoom c) n
    let next := (List.range room).map (fun i => getAt list ((s2.therm.nextSched + i) % max 1 n) 16)
    let s3 := s2.demand 2 next
    if c = 3 then { s3 with therm := { s3.therm with nextSched := (s3.therm.nextSched + room) % max 1 n } } else s3
  else s2

/-! ### Dwell and release (R296, R297) -/

/-- THROTTLE_DWELL: a ThrottleDwell in which every reading stayed at or above the limit raises the step. -/
def State.throttleDwell (s : State) (k : Nat) : State :=
  if k = 16 then
    match (s.throttle 16).lastRise with
    | none => s
    | some t =>
      if s.tEb ≥ s.i Obj.boardThrottleTemp then (s.runTo (t + msTicks (s.u Obj.throttleDwell))).boardRise else s
  else match (s.throttle k).hotSince with
    | none => s
    | some t =>
      let due := t + msTicks (s.u Obj.throttleDwell)
      let s1 := s.runTo due
      (s1.setThrottle k { s1.throttle k with hotSince := some due }).rise k

/-- THROTTLE_RELEASE: a ThrottleRelease below the release level lowers the step by one; each further fall needs another. -/
def State.throttleRelease (s : State) (k : Nat) : State :=
  match (s.throttle k).coolSince with
  | none => s
  | some t =>
    let due := t + msTicks (s.u Obj.throttleRelease)
    let s1 := s.runTo due
    let s2 := s1.setThrottle k { s1.throttle k with coolSince := some due }
    if s2.step' k = 0 then s2 else s2.setStep k (s2.step' k - 1)

/-- RefreshWorst in µs from the shortest slot and the longest wait between slots of the raster in force (R291). -/
def State.refreshFrom (s : State) (slotUs gapUs : Rat) : Nat :=
  let n := (s.sensorList.filter (fun k => k != 22 && sensorConv k == 2)).length
  let per := (ratFloor (slotUs - 1 / 2 - 2)).toNat
  if per = 0 then 0xFFFFFFFF else (ratCeil (gapUs * (ceilDiv n per : Nat))).toNat

end Sys2Proof.Machine
end

