-- ==== Sys2Proof/Machine/Streams.lean ====
section
/-!
DEFINITION. The output merge, arbitration between classes, loss markers, link loss and the network services (R33 to R42, R323,
R327 to R350).
-/

namespace Sys2Proof.Machine

def State.stream (s : State) (k : Nat) : StreamState := getAt s.merge.streams k StreamState.off

def State.setStream (s : State) (k : Nat) (x : StreamState) : State :=
  { s with merge := { s.merge with streams := setAt s.merge.streams k x } }

def State.port (s : State) (p : Nat) : PortState := getAt s.merge.ports p PortState.down

def State.setPort (s : State) (p : Nat) (x : PortState) : State :=
  { s with merge := { s.merge with ports := setAt s.merge.ports p x } }

/-- DuplicateMode (R347). -/
def State.dup (s : State) : Bool := s.b Obj.duplicateMode

/-- Whether stream `k` has its unit and, when it names one, its port (R331). -/
def State.hasStream (s : State) (k : Nat) : Bool :=
  if k = 3 then s.variant != .fl6412 else if k = 4 then s.variant == .sv else decide (k < 7)

/-- PortNow: the carrying port, 2 both, 0xFF none (R348, R350). -/
def State.portNow (s : State) (k : Nat) : Nat :=
  if s.dup then (if s.portUp 0 ∨ s.portUp 1 then 2 else 0xFF)
  else if s.portUp (s.stream k).carrier then (s.stream k).carrier else 0xFF

/-! ### Addresses (R328, R329) -/

/-- The unicast address that a destination is reached through: itself on the subnet, else the gateway; none for a group or a
broadcast. -/
def State.nextHop (s : State) (dst : Nat) : Option Nat :=
  let d := s.merge.dhcp
  let mask := if s.u Obj.ipMode = 1 then d.netMask else s.u Obj.netMask
  let gw := if s.u Obj.ipMode = 1 then d.gateway else s.u Obj.gateway
  if isGroup dst ∨ dst = 0xFFFFFFFF ∨ dst = ((s.u Obj.ipNow &&& mask) ||| (0xFFFFFFFF - mask)) then none
  else if (dst &&& mask) = (s.u Obj.ipNow &&& mask) then some dst
  else some gw

/-- The hardware address of a destination: known for a group and a broadcast, from the cache otherwise (R329). -/
def State.macOf (s : State) (dst : Nat) : Option Nat :=
  match s.nextHop dst with
  | none => some (if isGroup dst then groupMac dst else broadcastMac)
  | some hop => (s.merge.arp.find? (fun e => e.ip == hop)).bind (fun e => e.mac)

/-- A destination put up for resolution: an entry of the cache of 16, the oldest leaving it, and a request on a port (R329). -/
def State.resolve (s : State) (port ip : Nat) : State :=
  let now := s.time.ticks
  let arp := if s.merge.arp.any (fun e => e.ip == ip) then
      s.merge.arp.map (fun e => if e.ip = ip then { e with asOf := now } else e)
    else (⟨ip, none, now⟩ :: s.merge.arp).take 16
  ({ s with merge := { s.merge with arp := arp } }).arpAsk port ip

/-- The destination of a stream put up for resolution on the ports that carry it. -/
def State.resolveStream (s : State) (k : Nat) : State :=
  match s.nextHop (s.u (Obj.strDestAddr k)) with
  | none => s
  | some hop =>
    if hop = 0 then s
    else if s.dup then (s.resolve 0 hop).arpAsk 1 hop
    else s.resolve (s.stream k).carrier hop

/-- The address in use set, with a gratuitous ARP on each port at a change (R328, R329). -/
def State.setIpNow (s : State) (ip : Nat) : State :=
  if s.u Obj.ipNow = ip then s
  else ((s.setU Obj.ipNow ip).arpGratuitous 0).arpGratuitous 1

/-! ### Refusals (R341 to R345) -/

/-- The counters of R350 at port `p`, class `c`: 0 Offered, 1 Sent, 2 to 6 the reasons WAIT, EVICT, FULL, STAMP, LINK; on both
ports in duplicate mode. -/
def State.countClass (s : State) (p c k : Nat) : State :=
  let one (s : State) (q : Nat) : State := s.bumpWord Obj.classCounters 4 (168 * q + 28 * c + 4 * k) 1
  if s.dup then one (one s 0) 1 else one s p

/-- The store of a holding source told that a record has been sent or refused: a segment's slot is freed (R247), a camera's store
space is released (R368). -/
def State.recordDone (s : State) (stream tag : Nat) : State :=
  if stream = 5 then s.streamDone tag
  else if stream = 3 ∨ stream = 4 then
    { s with cams := modAt s.cams (stream - 3) (fun c => { c with storeUsed := c.storeUsed - tag }) }
  else s

/-- A record refused for a reason of Table STRM-9 (R344, R345); a C2 record refused for WAIT or FULL bars the port (R343). -/
def State.refuse (s : State) (port : Nat) (q : Queued) (reason : Nat) : State :=
  let s1 := s.countClass port q.cls (reason + 1)
  let s2 := if q.cls = 2 then
      ({ s1 with ev := { s1.ev with c2LossAt := some s1.time.ticks } }).bump Obj.c2LossCount 1 else s1
  let s3 := if q.cls = 2 ∧ (reason = 1 ∨ reason = 3) then s2.setPort port { s2.port port with barred := true } else s2
  let where' := if reason = 4 then 0xFF else if s.dup then 2 else port
  (s3.episodeAdd q.stream q.cls reason where' q.seq).recordDone q.stream q.tag

/-- The bar of a port lifted when its C2 queue is empty (R343). -/
def State.liftBar (s : State) (p : Nat) : State :=
  let x := s.port p
  if x.barred ∧ !(x.queue.any (fun q => q.cls == 2)) then s.setPort p { x with barred := false } else s

/-- Bytes of the shared area in use on a port (R339). -/
def PortState.used (x : PortState) : Nat :=
  sumNat ((x.queue.filter (fun q => decide (q.cls ≥ 2))).map (fun q => q.bytes.length))

/-- Bytes of class `c` queued on a port. -/
def PortState.usedBy (x : PortState) (c : Nat) : Nat :=
  sumNat ((x.queue.filter (fun q => q.cls == c)).map (fun q => q.bytes.length))

/-- The shared area of an egress buffer (R339). -/
def sharedArea : Nat := 8257536

/-- The queue that holds a port's records: one set of queues, kept at port 0, in duplicate mode (R347). -/
def State.queuePort (s : State) (p : Nat) : Nat := if s.dup then 0 else p

/-- Queued records of a port that a test picks removed and refused for a reason, in queue order. -/
def State.refuseAll (s : State) (p reason : Nat) (pick : Queued → Bool) : State :=
  let x := s.port p
  let s1 := s.setPort p { x with queue := x.queue.filter (fun q => !pick q) }
  (x.queue.filter pick).foldl (fun (s : State) q => s.refuse p q reason) s1

/-- The newest queued record of a class. -/
def newestOf (qs : List Queued) (c : Nat) : Option Queued := (qs.filter (fun q => q.cls == c)).getLast?

/-- Queued records of C5, then C4, then C3 refused with EVICT, newest first, until `need` bytes are free (R342). At most `n`. -/
def State.makeRoom (s : State) (p need : Nat) : Nat → State
  | 0 => s
  | n + 1 =>
    let x := s.port p
    if x.used + need ≤ sharedArea then s
    else match (newestOf x.queue 5).orElse (fun _ => (newestOf x.queue 4).orElse (fun _ => newestOf x.queue 3)) with
      | none => s
      | some q => (s.refuseAll p 2 (fun r => r.ordinal == q.ordinal)).makeRoom p need n

/-! ### Entry into the merge (R33 to R40, R333, R334) -/

/-- Sequence `a` lies after `b` in serial-number arithmetic modulo 2^32. -/
def seqAfter (a b : Nat) : Bool :=
  let d := (a + 4294967296 - b) % 4294967296
  decide (0 < d ∧ d < 2147483648)

/-- The record's bytes (Tables STRM-2 and STRM-3). -/
def State.recordBytes (s : State) (d : Draft) (seq ordinal : Nat) : Bytes :=
  leBytes 4 seq ++ leBytes 4 d.stamp ++ leBytes 6 ordinal ++ leBytes 2 s.dev.identity ++
    [BitVec.ofNat 8 d.rtype, BitVec.ofNat 8 (16 * d.stream + 8 * b2n s.dup + d.cls)] ++ leBytes 2 d.body.length ++ d.body

/-- The level of R339 of a record of a class: C0 and markers 2, C1 4, C2 to C5 5 to 8. -/
def levelOf (cls : Nat) : Nat := if cls = 0 then 2 else cls + 3

/-- A record put into its port's queue, with the high-water mark of the shared area (R350). -/
def State.enqueue (s : State) (p : Nat) (q : Queued) : State :=
  let x := s.port p
  let s1 := s.setPort p { x with queue := x.queue ++ [q] }
  let used := (s1.port p).used
  let mark (s : State) (r : Nat) : State :=
    if used > s.word Obj.bufferHighWater 4 (4 * r) then s.setWord Obj.bufferHighWater 4 (4 * r) used else s
  if s.dup then mark (mark s1 0) 1 else mark s1 p

/-- Records of a stream refused with STAMP once 16 anchors of higher sequence have been offered before they started (R319). -/
def State.stampLate (s : State) (k : Nat) : State :=
  let st := s.stream k
  let late (q : Queued) : Bool :=
    q.stream == k && q.sentOn.isEmpty && decide ((st.anchors.filter (fun a => seqAfter a.1 q.seq)).length ≥ 16)
  (List.range 2).foldl (fun (s : State) p => s.refuseAll p 4 late) s

/-- Whether a record of the stream can be carried at all: a port that is up, an address, and a resolved destination (R328, R329,
R348). -/
def State.canCarry (s : State) (k : Nat) : Bool :=
  s.portNow k != 0xFF && decide (s.u Obj.ipNow ≠ 0) && (s.macOf (s.u (Obj.strDestAddr k))).isSome

/-- A record with its sequence and ordinal queued or refused (R35, R39, R342, R344). -/
def State.takeRecord (s : State) (d : Draft) (seq ordinal : Nat) : State :=
  let st := s.stream d.stream
  let p := s.queuePort st.carrier
  let delay := if d.cls < 2 then 0 else s.word Obj.launchDelay 4 (4 * (d.cls - 2))
  let launch := if delay = 0 then 0 else d.stamp + delay
  let late := decide (launch ≠ 0 ∧ launch < s.nowNs)
  let q : Queued :=
    { stream := d.stream, cls := d.cls, level := levelOf d.cls, seq := seq, ordinal := ordinal, stamp := d.stamp,
      launch := if late then 0 else launch, start := s.time.ticks, launchedAt := s.time.ticks, tag := d.tag,
      bytes := s.recordBytes d seq ordinal, sentOn := [] }
  let s0 := s.countClass p d.cls 0
  let s1 := if d.rtype = 2 then
      (s0.setStream d.stream { st with anchors := ((seq, d.stamp) :: st.anchors).take 16 }).stampLate d.stream else s0
  let broken := match st.anchors.head? with
    | some a => d.rtype != 2 && decide (natDist d.stamp a.2 > 2147483647)
    | none => false
  if broken then s1.refuse p q 4
  else if !s1.canCarry d.stream then s1.refuse p q 5
  else
    let s2 := if d.cls = 2 then s1.makeRoom p q.bytes.length (s1.port p).queue.length else s1
    if d.cls ≥ 2 ∧ (s2.port p).used + q.bytes.length > sharedArea then s2.refuse p q 3
    else
      let s3 := s2.enqueue p q
      if !late then s3 else if s3.dup then (s3.launchLate 0 d.cls).launchLate 1 d.cls else s3.launchLate p d.cls

/-- The next sequence of a stream taken (R34). -/
def State.takeSeq (s : State) (k : Nat) : Nat × State :=
  let st := s.stream k
  (st.nextSeq, (s.setStream k { st with nextSeq := (st.nextSeq + 1) % 4294967296 }).setU (Obj.strNextSequence k)
    ((st.nextSeq + 1) % 4294967296))

/-- The order of R36: class, column packets by column and first channel, then the others by source number. -/
def Draft.before (a b : Draft) : Bool :=
  let key (d : Draft) : Nat × Nat := if d.rtype = 1 then (0, d.order) else (1, d.source)
  decide (a.cls < b.cls) || (decide (a.cls = b.cls) &&
    (decide ((key a).1 < (key b).1) || (decide ((key a).1 = (key b).1) && decide ((key a).2 ≤ (key b).2))))

/-- A draft put into a list that stands in the order of R36, ahead of those that it does not follow. -/
def insDraft (d : Draft) : List Draft → List Draft
  | [] => [d]
  | e :: es => if d.before e then d :: e :: es else e :: insDraft d es

/-- Records in the order of R36; those with equal rank keep their order. -/
def sortDrafts (ds : List Draft) : List Draft := ds.foldr insDraft []

/-- Records of one fabric cycle entered: ordinals in the order of R36, sequences of a stream anchors first and then in ordinal
order (R334). -/
def State.enterBatch (s : State) (ds : List Draft) : State :=
  let o := s.merge.ordinal
  let numbered := (sortDrafts ds).zipIdx
  let order := numbered.filter (fun e => e.1.rtype == 2) ++ numbered.filter (fun e => e.1.rtype != 2)
  let s1 : State := { s with merge := { s.merge with ordinal := (o + ds.length) % 2 ^ 48 } }
  order.foldl (fun (s : State) (e : Draft × Nat) =>
    let (seq, s2) := s.takeSeq e.1.stream
    s2.takeRecord e.1 seq ((o + e.2) % 2 ^ 48)) s1

/-- MERGE_ENTRY: the records of the earliest fabric cycle that wait enter the merge (R35). -/
def State.mergeEntry (s : State) : State :=
  match s.merge.formed with
  | [] => s
  | d :: _ =>
    let now := s.merge.formed.filter (fun e => e.group == d.group)
    ({ s with merge := { s.merge with formed := s.merge.formed.filter (fun e => e.group != d.group) } }).enterBatch now

/-! ### Holding sources (R247, R340, R368, R394) -/

/-- Whether a record of `n` bytes of a class may be offered to a port now (R340). -/
def State.mayOffer (s : State) (p cls n : Nat) : Bool :=
  let x := s.port p
  let limit := s.word Obj.queueLimit 4 (4 * (cls - 3))
  !x.barred && decide (x.usedBy cls + n ≤ limit) && decide (x.used + n ≤ sharedArea)

/-- The record that a holding source offers next: CAMA, CAMB, the Mayfly drain, the event log. -/
def State.heldNext (s : State) (k : Nat) : Option Draft :=
  let mk (rtype cls stamp tag : Nat) (body : Bytes) : Draft :=
    { group := 0, stream := k, rtype := rtype, cls := cls, source := k, order := 0, stamp := stamp, tag := tag, body := body }
  if k = 5 then
    (s.may.ring.find? (fun g => g.streamWaits && !g.offered)).map (fun g => mk 0x03 4 g.stampNs g.number (g.header ++ g.payload))
  else if k = 6 then
    s.ev.logQueue.head?.map (fun e => mk 0x05 5 (e.sec * 1000000000 + e.ns) 0 e.bytes)
  else if k = 3 ∨ k = 4 then
    match s.cams[k - 3]? with
    | some c => match c.store, c.storeStampNs with
      | b :: _, t :: _ => some (mk 0x04 3 t b.length b)
      | _, _ => none
    | none => none
  else none

/-- The record that a holding source has offered taken out of its waiting records. -/
def State.heldTaken (s : State) (k tag : Nat) : State :=
  if k = 5 then
    { s with may := { s.may with ring := s.may.ring.map (fun g => if g.number = tag then { g with offered := true } else g) } }
  else if k = 6 then { s with ev := { s.ev with logQueue := s.ev.logQueue.drop 1 } }
  else { s with cams := modAt s.cams (k - 3) (fun c =>
    { c with store := c.store.drop 1, storeStampNs := c.storeStampNs.drop 1 }) }

/-- HOLDING_OFFER and SEGMENT_DRAIN_OFFER: the next record of a holding source enters the merge once it fits; until then it
waits without a sequence (R340). A disabled stream has finished with its records at once (R332). -/
def State.holdingOffer (s : State) (k : Nat) : State :=
  match s.heldNext k with
  | none => s
  | some d =>
    if !(s.stream k).enabled then (s.heldTaken k d.tag).recordDone k d.tag
    else
      let p := s.queuePort (s.stream k).carrier
      if s.canCarry k ∧ !s.mayOffer p d.cls (20 + d.body.length) then s
      else (s.heldTaken k d.tag).enterBatch [d]

/-! ### Start of transmission (R323, R339, R345) -/

/-- The marker of each refusal episode of a stream on a port formed (R345). -/
def State.markersAtStart (s : State) (k p : Nat) : State :=
  (s.merge.episodes.filter (fun e => e.stream == k && e.reason != 6 && (e.port == p || e.port == 2 || e.port == 0xFF))).foldl
    (fun (s : State) e => s.formMarker e) s

/-- The first record of a class that a port has not yet sent. -/
def State.headOf (s : State) (p cls : Nat) : Option Queued :=
  (s.port (s.queuePort p)).queue.find? (fun q => q.cls == cls && !q.sentOn.contains p)

/-- Whether a record may start: its launch time has come (R323). -/
def State.launched (s : State) (q : Queued) : Bool := decide (q.launch ≤ s.nowNs)

/-- The UDP datagram of a record as a frame of a port (R332). -/
def State.recordFrame (s : State) (p : Nat) (q : Queued) : Bytes :=
  let dst := s.u (Obj.strDestAddr q.stream)
  let dport := s.u (Obj.strDestPort q.stream)
  s.ethFrame p ((s.macOf dst).getD 0) (some (s.pcp q.cls)) 0x0800 (udpPacket (s.u Obj.ipNow) dst dport dport q.bytes)

/-- A record's transmission started on a port: markers of its stream, the Sent counter, and its place in the buffer given up once
every port that is up has it (R345, R347). -/
def State.startRecord (s : State) (p : Nat) (q : Queued) : State :=
  let s1 := s.markersAtStart q.stream p
  let s2 := s1.bumpWord Obj.classCounters 4 (168 * p + 28 * q.cls + 4) 1
  let s3 := s2.setPort p { s2.port p with lastFrame := s.recordFrame p q }
  let qp := s3.queuePort p
  let q' := { q with sentOn := p :: q.sentOn }
  let gone := !s3.dup || q'.sentOn.contains (1 - p) || !s3.portUp (1 - p)
  let x := s3.port qp
  if gone then
    ((s3.setPort qp { x with queue := x.queue.filter (fun r => r.ordinal != q.ordinal) }).recordDone q.stream q.tag).liftBar qp
  else s3.setPort qp { x with queue := x.queue.map (fun r => if r.ordinal = q.ordinal then q' else r) }

/-- The first service frame of a level started. -/
def State.startService (s : State) (p : Nat) (f : ServiceFrame) : State :=
  let x := s.port p
  s.setPort p { x with services := x.services.erase f, lastFrame := f.bytes }

/-- FRAME_TX_START: at a frame boundary the first eligible frame of the highest level starts (R339). -/
def State.frameTxStart (s : State) (p : Nat) : State :=
  if !s.portUp p then s
  else
    let x := s.port p
    let svc (level : Nat) : Option ServiceFrame := x.services.find? (fun f => f.level == level)
    let rcd (cls : Nat) : Option Queued := (s.headOf p cls).filter s.launched
    match svc 1, rcd 0, svc 3 with
    | some f, _, _ => s.startService p f
    | none, some q, _ => s.startRecord p q
    | none, none, some f => s.startService p f
    | none, none, none => match [1, 2, 3, 4, 5].findSome? rcd with
      | some q => s.startRecord p q
      | none => s

/-- LAUNCH_TIME: the launch time of the first waiting record of a class comes, and the record becomes eligible (R323). -/
def State.launchTime (s : State) (p cls : Nat) : State :=
  let qp := s.queuePort p
  match s.headOf p cls with
  | none => s
  | some q =>
    if q.launch = 0 then s
    else
      let s1 := s.runTo (s.tickOfNs q.launch)
      let x := s1.port qp
      s1.setPort qp { x with queue := x.queue.map (fun r =>
        if r.ordinal = q.ordinal then { r with launch := 0, launchedAt := s1.time.ticks } else r) }

/-- The tick at which a queued record's wait began: the later of its entry and its launch time (R341). -/
def State.waitStart (s : State) (q : Queued) : Nat :=
  max q.start (if q.launch = 0 then q.launchedAt else s.tickOfNs q.launch)

/-- CLASS_MAX_WAIT: the oldest queued record of a class in C2 to C5 reaches ClassMaxWait: the lower classes are refused with EVICT and
then the record with WAIT (R341). -/
def State.classMaxWaitDue (s : State) (p cls : Nat) : State :=
  if cls < 2 then s
  else
    let qp := s.queuePort p
    match (s.port qp).queue.find? (fun q => q.cls == cls) with
    | none => s
    | some q =>
      let s1 := s.runTo (s.waitStart q + usTicks (s.word Obj.classMaxWait 4 (4 * (cls - 2))))
      let s2 := [5, 4, 3].foldl (fun (s : State) c => if c > cls then s.refuseAll qp 2 (fun r => r.cls == c) else s) s1
      (s2.refuseAll qp 1 (fun r => r.ordinal == q.ordinal)).liftBar qp

/-- The tick at which the marker of an episode is due on account of MarkerInterval (R345). -/
def State.markerDue (s : State) (e : Episode) : Nat :=
  let step := usTicks (s.u Obj.markerInterval)
  let prev := match s.merge.markerAt.find? (fun m => m.1 == e.key) with
    | some m => m.2 + step
    | none => 0
  max (e.firstAt + step) prev

/-- LOSS_MARKER_FORM: the earliest marker that a stream's episodes owe is formed, once the stream has a port (R345). -/
def State.lossMarkerForm (s : State) (k : Nat) : State :=
  let es := s.merge.episodes.filter (fun e => e.stream == k)
  match es with
  | [] => s
  | e :: rest =>
    if !(s.stream k).enabled ∨ s.portNow k = 0xFF then s
    else
      let due := rest.foldl (fun (d : Nat) f => min d (s.markerDue f)) (s.markerDue e)
      let s1 := s.runTo due
      (es.filter (fun f => decide (s1.markerDue f ≤ s1.time.ticks))).foldl (fun (s : State) f => s.formMarker f) s1

/-! ### Links (R327, R347, R348) -/

/-- The streams, with their queued records in queue order, moved from one port to another (R348). -/
def State.moveStreams (s : State) (src dst : Nat) (pick : Nat → Bool) : State :=
  let a := s.port src
  let moving := a.queue.filter (fun q => pick q.stream)
  let s1 := s.setPort src { a with queue := a.queue.filter (fun q => !pick q.stream) }
  let s2 := moving.foldl (fun (s : State) q => s.enqueue dst q) s1
  let s3 : State := { s2 with merge := { s2.merge with streams := s2.merge.streams.zipIdx.map (fun e =>
    if e.1.carrier = src ∧ pick e.2 then { e.1 with carrier := dst } else e.1) } }
  s3.liftBar src

/-- The number of enabled streams that a port carries. -/
def State.carried (s : State) (p : Nat) : Nat := (s.merge.streams.filter (fun x => x.enabled && x.carrier == p)).length

/-- Records that both ports of duplicate mode can no longer owe: those sent on one port while the other is down (R347). -/
def State.dropSentOnce (s : State) : State :=
  let x := s.port 0
  let done := x.queue.filter (fun q => !q.sentOn.isEmpty)
  let s1 := s.setPort 0 { x with queue := x.queue.filter (fun q => q.sentOn.isEmpty) }
  (done.foldl (fun (s : State) q => s.recordDone q.stream q.tag) s1).liftBar 0

/-- The records of a port that has gone down: its streams move to the other port, or their records are refused with LINK (R347,
R348). -/
def State.failover (s : State) (p : Nat) : State :=
  if s.dup then
    let s1 := s.dropSentOnce
    if s1.portUp (1 - p) then s1 else s1.refuseAll 0 5 (fun _ => true)
  else if s.b Obj.failover ∧ s.portUp (1 - p) then
    let n := s.carried p
    ((s.moveStreams p (1 - p) (fun _ => true)).bump Obj.failoverCount 1).raise 0x0902 p 2 n
  else (s.refuseAll p 5 (fun _ => true)).liftBar p

/-- A port down: it is counted and told, its records go as R347 and R348 have it, and a PTP source on it is lost (R312, R327). -/
def State.linkDown (s : State) (p : Nat) : State :=
  let x := s.port p
  if !x.linkUp then s
  else
    let s1 := s.setPort p { x with linkUp := false, services := [] }
    let s2 := (((s1.bump (Obj.portLinkDownCount p) 1).setB (Obj.portLinkUp p) false).raise 0x0901 p 2 0).failover p
    if s2.timeSourceNow = 1 ∧ s2.time.ptpPort = p then s2.ptpLost else s2

/-- DISCOVER sent under a fresh transaction number (R328). -/
def State.dhcpDiscover (s : State) (phase : Nat) : State :=
  let (x, s1) := s.draw
  let s2 : State := { s1 with merge := { s1.merge with dhcp := { s1.merge.dhcp with phase := phase, xid := x % 4294967296 } } }
  (s2.setU Obj.dhcpState phase).dhcpSend 1 none none false

/-- PTP on either port goes on on the port that is up when its own is down (R312). -/
def State.ptpFollow (s : State) (p : Nat) : State :=
  if s.u Obj.ptpPortMode = 2 ∧ !s.portUp s.time.ptpPort then { s with time := { s.time with ptpPort := p } } else s

/-- Whether a port that is down can come up: it is fitted and in a mode other than 0 (R327). -/
def State.linkMay (s : State) (p : Nat) : Bool :=
  !(s.port p).linkUp && decide (p < s.variant.ports) && decide (s.u (Obj.portMode p) ≠ 0)

/-- PORT_LINK_UP: a port in a mode other than 0 comes up: gratuitous ARP and membership reports are sent, discovery goes on, a stream
without a port moves to it, and so does PTP on either port (R312, R327 to R329, R348). -/
def State.linkUp (s : State) (p : Nat) : State :=
  if !s.linkMay p then s
  else
    let s1 := (s.setPort p { s.port p with linkUp := true, upSince := s.time.ticks }).setB (Obj.portLinkUp p) true
    let s2 := ((s1.ptpFollow p).arpGratuitous p).igmpReports p
    let s3 := if s2.u Obj.ipMode = 1 ∧ (s2.merge.dhcp.phase = 1 ∨ s2.merge.dhcp.phase = 3) ∧ s2.dhcpPort = some p then
        s2.dhcpDiscover s2.merge.dhcp.phase else s2
    if !s3.dup ∧ s3.b Obj.failover ∧ !s3.portUp (1 - p) ∧ s3.carried (1 - p) > 0 then
      let n := s3.carried (1 - p)
      ((s3.moveStreams (1 - p) p (fun _ => true)).bump Obj.failoverCount 1).raise 0x0902 (1 - p) 2 n
    else s3

/-- FAILBACK: a port that has been up for FailbackHold takes back the streams that are mapped to it (R348). -/
def State.failbackDue (s : State) (p : Nat) : State :=
  let x := s.port p
  let away (k : Nat) : Bool := decide (s.u (Obj.strPortMap k) = p)
  if s.dup ∨ !x.linkUp ∨ !(s.merge.streams.zipIdx.any (fun e => e.1.carrier == 1 - p && away e.2)) then s
  else (s.runTo (x.upSince + msTicks (s.u Obj.failbackHold))).moveStreams (1 - p) p away

/-! ### DHCP, ARP, ICMP, IGMP (R328, R329) -/

/-- Discovery started or ended as IpMode says, and IpNow brought up to date (R328). -/
def State.refreshAddress (s : State) : State :=
  let d := s.merge.dhcp
  if s.u Obj.ipMode = 0 then
    let s1 : State := if d.phase = 0 then s else
      ({ s with merge := { s.merge with dhcp := { d with phase := 0 } } }).setU Obj.dhcpState 0
    s1.setIpNow (s1.u Obj.ipAddress)
  else
    let s1 := if d.phase = 0 then s.dhcpDiscover 1 else s
    s1.setIpNow (if s1.merge.dhcp.phase = 2 then s1.merge.dhcp.ip else 0)

/-- Whether the client awaits this server's message: its port, its transaction, and a client that runs. -/
def State.dhcpAwaits (s : State) (m : DhcpMsg) : Bool :=
  decide (s.u Obj.ipMode = 1) && s.portUp m.port && decide (s.dhcpPort = some m.port.val) &&
    decide (m.xid.toNat = s.merge.dhcp.xid)

/-- DHCP_OFFER: answered with a REQUEST while discovering (R328). -/
def State.dhcpOffered (s : State) (m : DhcpMsg) : State :=
  if s.dhcpAwaits m ∧ (s.merge.dhcp.phase = 1 ∨ s.merge.dhcp.phase = 3) then
    s.dhcpSend 3 (some m.yourAddr.toNat) (some m.serverId.toNat) false
  else s

/-- DHCP_ACK: the lease is bound, or extended (R328). -/
def State.dhcpAcked (s : State) (m : DhcpMsg) : State :=
  if s.dhcpAwaits m ∧ s.merge.dhcp.phase ≠ 0 then
    let d := s.merge.dhcp
    let s1 : State := { s with merge := { s.merge with dhcp := { d with
      phase := 2, ip := m.yourAddr.toNat, netMask := m.netMask.toNat, gateway := m.router.toNat,
      server := m.serverId.toNat, leaseSeconds := m.leaseSeconds.toNat, boundAt := s.time.ticks } } }
    (s1.setU Obj.dhcpState 2).refreshAddress
  else s

/-- Queued output records refused with LINK on every port: the device has no address (R328). -/
def State.refuseNoAddress (s : State) : State :=
  (List.range 2).foldl (fun (s : State) p => (s.refuseAll p 5 (fun _ => true)).liftBar p) s

/-- DHCP_NAK: discovery restarts (R328). -/
def State.dhcpNaked (s : State) (m : DhcpMsg) : State :=
  if s.dhcpAwaits m ∧ s.merge.dhcp.phase ≠ 0 then
    ((s.dhcpDiscover 1).refreshAddress).refuseNoAddress
  else s

/-- Time run to a part of the lease, counted from its binding: `num`/8 of it. -/
def State.runToLease (s : State) (num : Nat) : State :=
  let d := s.merge.dhcp
  s.runTo (d.boundAt + d.leaseSeconds * tickHz * num / 8)

/-- DHCP_RENEW: at half the lease, a REQUEST by unicast (R328). -/
def State.dhcpRenewDue (s : State) : State :=
  if s.merge.dhcp.phase ≠ 2 then s
  else
    let s1 := s.runToLease 4
    s1.dhcpSend 3 (some s1.merge.dhcp.ip) none true

/-- DHCP_REBIND: at seven-eighths of the lease, a REQUEST by broadcast (R328). -/
def State.dhcpRebindDue (s : State) : State :=
  if s.merge.dhcp.phase ≠ 2 then s
  else
    let s1 := s.runToLease 7
    s1.dhcpSend 3 (some s1.merge.dhcp.ip) none false

/-- DHCP_LEASE_EXPIRY: IpNow becomes 0, an Error is raised, and every stream refuses its records with LINK (R328). -/
def State.dhcpExpire (s : State) : State :=
  if s.merge.dhcp.phase ≠ 2 then s
  else
    let s1 := s.runToLease 8
    let s2 := (s1.dhcpDiscover 3).refreshAddress
    (s2.raise 0x0903 (s2.dhcpPort.getD 0) 3 0).refuseNoAddress

/-- ARP_REQUEST: a request for IpNow is answered with the port's address (R329). -/
def State.arpAsked (s : State) (p mac ip target : Nat) : State :=
  if target = 0 ∨ target ≠ s.u Obj.ipNow then s else s.arpSend p mac 2 mac ip

/-- ARP_REPLY: a reply resolves a destination that is in the cache (R329). -/
def State.arpAnswered (s : State) (p mac ip : Nat) : State :=
  if !s.portUp p then s
  else { s with merge := { s.merge with arp := s.merge.arp.map (fun e => if e.ip = ip then { e with mac := some mac } else e) } }

/-- The tick at which an address is due for its next resolution. -/
def State.arpDue (s : State) (hop : Nat) : Nat :=
  match s.merge.arp.find? (fun e => e.ip == hop) with
  | some e => e.asOf + 60 * tickHz
  | none => 0

/-- The enabled streams with a unicast destination, each with the address it is reached through. -/
def State.arpHops (s : State) : List (Nat × Nat) :=
  (List.range 7).filterMap (fun k =>
    if (s.stream k).enabled then (s.nextHop (s.u (Obj.strDestAddr k))).map (fun h => (k, h)) else none)

/-- ARP_REFRESH: 60 s after its last resolution, the destination that has waited longest is resolved again (R329). -/
def State.arpRefreshDue (s : State) : State :=
  match s.arpHops with
  | [] => s
  | h :: rest =>
    let s1 := s.runTo (rest.foldl (fun (t : Nat) e => min t (s.arpDue e.2)) (s.arpDue h.2))
    ((h :: rest).filter (fun e => decide (s.arpDue e.2 ≤ s1.time.ticks))).foldl (fun (s : State) e => s.resolveStream e.1) s1

/-- ICMP_ECHO: a request whose datagram fits Mtu is answered, at most 100 in a second on a port (R329). `payload` are the bytes after
the ICMP checksum. -/
def State.icmpEchoed (s : State) (p mac ip : Nat) (payload : Bytes) : State :=
  let x := s.port p
  let fresh := decide (s.time.ticks ≥ x.echoAt + tickHz)
  let used := if fresh then 0 else x.echoTokens
  if !x.linkUp ∨ s.u Obj.ipNow = 0 ∨ 24 + payload.length > s.u Obj.mtu ∨ used ≥ 100 then s
  else
    let s1 := s.setPort p { x with echoTokens := used + 1, echoAt := if fresh then s.time.ticks else x.echoAt }
    let msg (sum : Nat) : Bytes := [0, 0] ++ beBytes 2 sum ++ payload
    s1.service p 3 (s1.ethFrame p mac (some (s1.pcp 6)) 0x0800 (ipPacket 1 (s1.u Obj.ipNow) ip (msg (inetSum (msg 0)))))

/-- IGMP_QUERY: answered with membership reports, for the group asked about or for all (R329). -/
def State.igmpQueried (s : State) (p group : Nat) : State :=
  if group = 0 then s.igmpReports p else if s.groups.contains group then s.igmpReport p group else s

/-! ### Enabling (R332, R318) -/

/-- A stream enabled: its sequence starts at 0 with an anchor of the present instant, and its destination is resolved. -/
def State.enableStream (s : State) (k : Nat) : State :=
  let mapped := s.u (Obj.strPortMap k)
  let carrier := if !s.portUp mapped ∧ s.b Obj.failover ∧ s.portUp (1 - mapped) then 1 - mapped else mapped
  ((s.setStream k { enabled := true, nextSeq := 0, anchors := [], carrier := carrier }).setU (Obj.strNextSequence k) 0).resolveStream k

/-- A stream disabled: nothing of it that has not entered the merge enters it (R332). -/
def State.disableStream (s : State) (k : Nat) : State :=
  let s1 := s.setStream k { s.stream k with enabled := false }
  { s1 with merge := { s1.merge with formed := s1.merge.formed.filter (fun d => d.stream != k),
                                     episodes := s1.merge.episodes.filter (fun e => e.stream != k) } }

/-- Streams enabled and disabled as their objects say, each newly enabled one with its anchor (R332, R318). -/
def State.refreshStreams (s : State) : State :=
  if !s.dev.booted then s
  else (List.range 7).foldl (fun (s : State) k =>
    let want := s.hasStream k && s.b (Obj.strEnable k)
    if want && !(s.stream k).enabled then
      let s1 := s.enableStream k
      let s2 := s1.form k 0x02 1 2 0 s1.nowNs (s1.anchorBody s1.time.native s1.merge.anchorCount none)
      { s2 with merge := { s2.merge with anchorCount := (s2.merge.anchorCount + 1) % 4294967296 } }
    else if !want && (s.stream k).enabled then s.disableStream k
    else s) s

/-- Streams carried by their mapped port again after a change of PortMap (R348). -/
def State.refreshCarriers (s : State) (k : Nat) : State :=
  let st := s.stream k
  let mapped := s.u (Obj.strPortMap k)
  if st.carrier = mapped ∨ !s.portUp mapped then s.setStream k { st with carrier := if s.portUp st.carrier then st.carrier else mapped }
  else s.moveStreams st.carrier mapped (fun j => j == k)

/-! ### The first records after a reset (R41, R453) -/

/-- The body of the BOOT record (Table STRM-7). -/
def State.bootRecord (s : State) : Bytes :=
  leBytes 4 (s.u Obj.bootCount) ++ s.get Obj.partNumber ++ s.get Obj.variantCode ++ s.get Obj.stepping ++
    [BitVec.ofNat 8 (b2n s.dev.compat), BitVec.ofNat 8 s.dev.bootSlot, 0, 0]

/-- Drafts given to the merge as one fabric cycle. -/
def State.closeGroup (s : State) : State :=
  if s.merge.formed.any (fun d => d.group == s.merge.group) then { s with merge := { s.merge with group := s.merge.group + 1 } } else s

end Sys2Proof.Machine
end

