-- ==== Sys2Proof/Machine/Cam.lean ====
section
/-!
DEFINITION. Camera ports and the image pipeline (R351 to R374).
-/

namespace Sys2Proof.Machine

/-! ### Images (R359 to R365) -/

/-- An image by rows; a padded pixel is invalid and has no value. -/
abbrev Img := List (List (Option Nat))

/-- The pixel at a place that may lie outside the image. -/
def Img.at? (m : Img) (r c : Int) : Option Nat :=
  if r < 0 ∨ c < 0 then none else ((m[r.toNat]?).bind (fun row => row[c.toNat]?)).bind id

/-- An image with each pixel changed, its place given. -/
def Img.mapAt (m : Img) (f : Nat → Nat → Option Nat → Option Nat) : Img :=
  m.zipIdx.map (fun e => e.1.zipIdx.map (fun p => f e.2 p.2 p.1))

/-- The settings of a port's pipeline: geometry and format from the objects, stage values from the frame's snapshot. -/
structure CamSet where
  width : Nat
  height : Nat
  depth : Nat
  cfa : Nat
  tap : Nat
  format : Nat
  pad : Nat
  black : List Nat
  snrStrength : Nat
  snrThreshold : Nat
  tnr : Bool
  tnrStrength : Nat
  tnrThreshold : Nat
  wb : List Nat
  matrix : List Int
  gamma : List Nat
deriving DecidableEq, Repr

/-- Bytes per pixel of a format (R364). -/
def formatBytes (f : Nat) : Nat := if f = 0 then 2 else if f = 1 then 1 else if f = 2 then 2 else 3

/-- The objects 0x17 to 0x1F of a port. -/
def State.camSnap (s : State) (p : Nat) : List Bytes := (rangeFrom 0x17 9).map (fun k => s.get (Obj.camEnable p - 1 + k))

/-- The settings with which a frame is processed. -/
def State.camSet (s : State) (p : Nat) (snap : List Bytes) : CamSet :=
  let v (k : Nat) : Bytes := getAt snap (k - 0x17) []
  { width := s.u (Obj.camActiveWidth p), height := s.u (Obj.camActiveHeight p), depth := s.u (Obj.camInputDepth p),
    cfa := s.u (Obj.camCfaPattern p), tap := s.u (Obj.camTap p), format := s.u (Obj.camOutFormat p), pad := s.u (Obj.camPadValue p),
    black := words 2 4 (v 0x17), snrStrength := leVal (v 0x18), snrThreshold := leVal (v 0x19), tnr := leVal (v 0x1A) != 0,
    tnrStrength := leVal (v 0x1B), tnrThreshold := leVal (v 0x1C), wb := words 2 4 (v 0x1D),
    matrix := (words 2 9 (v 0x1E)).map (signedOf 16), gamma := words 2 33 (v 0x1F) }

/-- The Bayer phase of a place, numbered in the order (0,0), (0,1), (1,0), (1,1); a mono port has one (R361). -/
def CamSet.phase (c : CamSet) (r k : Nat) : Nat := if c.cfa = 4 then 0 else 2 * (r % 2) + k % 2

/-- The colour of a phase: 0 red, 1 green, 2 blue (R361). -/
def CamSet.colour (c : CamSet) (ph : Nat) : Nat :=
  let pattern : List Nat := if c.cfa = 0 then [0, 1, 1, 2] else if c.cfa = 1 then [1, 0, 2, 1] else if c.cfa = 2 then [1, 2, 0, 1]
    else [2, 1, 1, 0]
  getAt pattern ph 1

/-- Held at 16 bits. -/
def sat16 (i : Int) : Nat := (clampInt 0 65535 i).toNat

/-- Stage 1: every line cut or padded to the width, the frame to the height, each pixel in the internal scale (R353, R359). -/
def CamSet.check (c : CamSet) (lines : List (List Nat)) : Img :=
  (List.range c.height).map (fun r =>
    let row := getAt lines r []
    (List.range c.width).map (fun k => (row[k]?).map (fun x => x % 2 ^ c.depth * 2 ^ (16 - c.depth))))

/-- Stage 2: black level (Table CAM-3). -/
def CamSet.blackLevel (c : CamSet) (m : Img) : Img :=
  m.mapAt (fun r k x => x.map (fun v => v - getAt c.black (c.phase r k) 0))

/-- The same-colour neighbours of a place: 8 at distance 2, or at distance 1 of a mono port (R362). -/
def CamSet.sameColour (c : CamSet) (m : Img) (r k : Nat) : List Nat :=
  let d : Int := if c.cfa = 4 then 1 else 2
  [(-d, -d), (-d, 0), (-d, d), (0, -d), (0, d), (d, -d), (d, 0), (d, d)].filterMap (fun o => m.at? ((r : Int) + o.1) ((k : Int) + o.2))

/-- Stage 3: spatial noise reduction (R362). -/
def CamSet.spatial (c : CamSet) (m : Img) : Img :=
  m.mapAt (fun r k x => x.map (fun v =>
    let near := v :: (c.sameColour m r k).filter (fun n => decide (natDist n v ≤ c.snrThreshold))
    let mean : Rat := (sumNat near : Nat) / (near.length : Nat)
    sat16 ((v : Int) + ratRound ((mean - (v : Nat)) * (c.snrStrength : Nat) / 16))))

/-- Stage 4: temporal noise reduction of one pixel against its reference (R363). -/
def CamSet.temporal1 (c : CamSet) (ref x : Option Nat) : Option Nat :=
  x.map (fun v => match ref with
    | none => v
    | some r => if natDist v r ≤ c.tnrThreshold then
        sat16 ((v : Int) + roundDivInt (((r : Int) - v) * c.tnrStrength) 16) else v)

/-- Stage 4 over the image, with the new reference; an invalid pixel leaves its entry unchanged. -/
def CamSet.temporal (c : CamSet) (ref : List (Option Nat)) (m : Img) : Img × List (Option Nat) :=
  if !c.tnr then (m, [])
  else
    let out := m.mapAt (fun r k x => c.temporal1 (getAt ref (r * c.width + k) none) x)
    let flat := out.flatten
    (out, flat.zipIdx.map (fun e => match e.1 with
      | some v => some v
      | none => getAt ref e.2 none))

/-- Stage 5: white balance. -/
def CamSet.whiteBalance (c : CamSet) (m : Img) : Img :=
  m.mapAt (fun r k x => x.map (fun v => satNat 65535 (roundDiv (v * getAt c.wb (c.phase r k) 1024) 1024)))

/-- The mean of values, rounded; 0 of none (R360). -/
def meanOf (xs : List Nat) : Nat := roundDiv (sumNat xs) xs.length

/-- Stage 6: the colour of a place from the valid pixels of that colour in the 3 × 3 window. -/
def CamSet.colourAt (c : CamSet) (m : Img) (r k col : Nat) (own : Nat) : Nat :=
  if c.colour (c.phase r k) = col then own
  else meanOf ([(-1, -1), (-1, 0), (-1, 1), (0, -1), (0, 1), (1, -1), (1, 0), (1, 1)].filterMap (fun (o : Int × Int) =>
    let r' := (r : Int) + o.1
    let k' := (k : Int) + o.2
    match m.at? r' k' with
    | some v => if c.colour (c.phase r'.toNat k'.toNat) = col then some v else none
    | none => none))

/-- Stage 7: a row of the colour matrix. -/
def CamSet.mix (c : CamSet) (row : Nat) (rgb : Nat × Nat × Nat) : Nat :=
  let m (k : Nat) : Int := getAt c.matrix (3 * row + k) 0
  sat16 (roundDivInt (m 0 * rgb.1 + m 1 * rgb.2.1 + m 2 * rgb.2.2) 1024)

/-- Stage 8: the gamma table at inputs 2048k, with entry 32 at 65,535. -/
def CamSet.gammaOf (c : CamSet) (x : Nat) : Nat :=
  let k := x / 2048
  let span : Nat := if k = 31 then 2047 else 2048
  let a : Int := (getAt c.gamma k 0 : Nat)
  let b : Int := (getAt c.gamma (k + 1) 0 : Nat)
  sat16 (a + roundDivInt ((b - a) * (x % 2048 : Nat)) span)

/-- The 8-bit colours of a place after the whole pipeline; none for an invalid pixel. -/
def CamSet.rgb8 (c : CamSet) (m : Img) (r k : Nat) : Option (Nat × Nat × Nat) :=
  (m.at? r k).map (fun v =>
    let rgb := (c.colourAt m r k 0 v, c.colourAt m r k 1 v, c.colourAt m r k 2 v)
    (c.gammaOf (c.mix 0 rgb) / 256, c.gammaOf (c.mix 1 rgb) / 256, c.gammaOf (c.mix 2 rgb) / 256))

/-- BT.709 full range: Y, and U and V about 0, before rounding (Table CAM-3). -/
def bt709 (rgb : Nat × Nat × Nat) : Rat × Rat × Rat :=
  let y : Rat := (2126 * rgb.1 + 7152 * rgb.2.1 + 722 * rgb.2.2 : Nat) / 10000
  (y, ((rgb.2.2 : Nat) - y) / (18556 / 10000), ((rgb.1 : Nat) - y) / (15748 / 10000))

/-- A byte from a rational. -/
def byteOf (q : Rat) : Byte := BitVec.ofNat 8 (clampInt 0 255 (ratRound q)).toNat

/-- Stage 9: a row in YUV422, U Y V Y, the chroma of each pair averaged; an invalid pixel has U = V = 128 (R360). -/
def CamSet.yuvRow (c : CamSet) (px : List (Option (Nat × Nat × Nat))) : List (Option (Nat × Nat × Nat)) → Bytes
  | a :: b :: rest =>
    let y (x : Option (Nat × Nat × Nat)) : Rat × Rat × Rat := match x with
      | some v => bt709 v
      | none => ((c.pad / 256 : Nat), 0, 0)
    let ya := y a
    let yb := y b
    [byteOf ((ya.2.1 + yb.2.1) / 2 + 128), byteOf ya.1, byteOf ((ya.2.2 + yb.2.2) / 2 + 128), byteOf yb.1] ++ c.yuvRow px rest
  | _ => []

/-- The bytes of the output lines (R360, R364). -/
def CamSet.output (c : CamSet) (checked filtered : Img) : List Bytes :=
  let padByte := BitVec.ofNat 8 (c.pad / 256)
  if c.tap < 2 then
    (if c.tap = 0 then checked else filtered).map (fun row => row.flatMap (fun x => leBytes 2 (x.getD c.pad)))
  else
    let wb := c.whiteBalance filtered
    if c.cfa = 4 then
      wb.map (fun row => row.map (fun x => match x with
        | some v => BitVec.ofNat 8 (c.gammaOf v / 256)
        | none => padByte))
    else
      (List.range c.height).map (fun r =>
        let px := (List.range c.width).map (c.rgb8 wb r)
        if c.format = 2 then c.yuvRow px px
        else px.flatMap (fun x => match x with
          | some v => [BitVec.ofNat 8 v.1, BitVec.ofNat 8 v.2.1, BitVec.ofNat 8 v.2.2]
          | none => [padByte, padByte, padByte]))

/-- The zone of a place (R365). -/
def zoneOf (n size : Nat) : Nat :=
  (((List.range 8).filter (fun i => decide (size * i / 8 ≤ n))).getLast?).getD 0

/-- The statistics body (Table CAM-5). -/
def CamSet.stats (c : CamSet) (checked black : Img) : Bytes :=
  let valid := black.flatten.filterMap id
  let full := (2 ^ c.depth - 1) * 2 ^ (16 - c.depth)
  let sat := (checked.flatten.filter (fun x => x == some full)).length
  let hist := (List.range 32).map (fun b => (valid.filter (fun v => v / 2048 == b)).length)
  let placed : List (Nat × Nat × Nat) := black.zipIdx.flatMap (fun e => e.1.zipIdx.filterMap (fun p =>
    p.1.map (fun v => (8 * zoneOf e.2 c.height + zoneOf p.2 c.width, c.phase e.2 p.2, v))))
  let zone (z : Nat) : Bytes :=
    let mine := placed.filter (fun t => t.1 == z)
    leBytes 4 mine.length ++ (List.range 4).flatMap (fun ph =>
      leBytes 4 (sumNat ((mine.filter (fun t => t.2.1 == ph)).map (fun t => t.2.2 / 16))))
  leBytes 4 valid.length ++ leBytes 4 (c.width * c.height - valid.length) ++ leBytes 4 sat ++ leBytes 4 0 ++ hist.flatMap (leBytes 4) ++
    (List.range 64).flatMap zone

/-! ### Ports (R351 to R358) -/

def State.cam (s : State) (p : Nat) : CamPort := getAt s.cams p CamPort.rest

def State.setCam (s : State) (p : Nat) (x : CamPort) : State := { s with cams := setAt s.cams p x }

/-- Whether the port is fitted and active in the present state (R351). -/
def State.camActive (s : State) (p : Nat) : Bool :=
  decide (p < s.variant.cams) && s.b (Obj.camEnable p) && s.dev.booted && s.dev.state != .update

/-- The output stream of a port (Table STRM-1). -/
def camStream (p : Nat) : Nat := 3 + p

/-- The store space that a frame of a port reserves (R368). -/
def State.camReserve (s : State) (p : Nat) : Nat :=
  s.u (Obj.camActiveWidth p) * s.u (Obj.camActiveHeight p) * formatBytes (s.u (Obj.camOutFormat p)) + 4096

/-- A port's output store, bytes (R368). -/
def camStoreSize : Nat := 8388608

/-- Temporal reference memory, bytes (R371). -/
def tnrMemory : Nat := 4194304

/-- Reference memory that a port needs (R371). -/
def State.tnrNeed (s : State) (p : Nat) : Nat :=
  if p < s.variant.cams ∧ s.b (Obj.camTnrEnable p) then s.u (Obj.camActiveWidth p) * s.u (Obj.camActiveHeight p) * 2 else 0

/-- Whether a port has the reference memory that it needs: the priority port first (R371). -/
def State.tnrFits (s : State) (p : Nat) : Bool :=
  let first := s.u Obj.camPriority
  p == first || decide (s.tnrNeed p + s.tnrNeed first ≤ tnrMemory)

/-- TnrMemUsed and TnrConflict (R371). -/
def State.tnrMemUsed (s : State) : Bytes :=
  (List.range 2).flatMap (fun p => leBytes 4 (if s.tnrFits p then s.tnrNeed p else 0))

def State.tnrConflict (s : State) : Bool := (List.range 2).any (fun p => !s.tnrFits p)

/-- A frame dropped for a reason of Table CAM-8 (R373). -/
def State.camDrop (s : State) (p reason number : Nat) : State :=
  let x := s.cam p
  let s1 := s.setCam p { x with droppedBefore := satNat 65535 (x.droppedBefore + 1), tnrEmpty := true }
  (s1.bumpWord (Obj.camDropCount p) 4 (4 * reason) 1).raise (0x0B01 + reason) p 1 number

/-- CAM_TRIG_TIME_WRITE: judged under Table TIME-4; 0 cancels the schedule (R356). -/
def State.camTrigTime (s : State) (p ns : Nat) : Abort × State :=
  if ns ≠ 0 ∧ ns * 4294967296 < s.time.native then (Abort.timeElapsed, s)
  else if ns ≠ 0 ∧ ns * 4294967296 < s.time.native + 10000 * 4294967296 then (Abort.timeLead, s)
  else (Abort.ok, (s.put (Obj.camTrigTime p) (time80 ns)).setCam p { s.cam p with nextNs := ns })

/-- Triggers of the ports in angle mode scheduled for a column boundary: its position index, direction and frame, and the native
ns of its instant (R355). -/
def State.camColumn (s : State) (j : Nat) (reverse : Bool) (frame ns : Nat) : State :=
  (List.range 2).foldl (fun (s : State) p =>
    let cols := words 2 ((s.get (Obj.camTrigColumns p)).length / 2) (s.get (Obj.camTrigColumns p))
    let every := max 1 (s.u (Obj.camTrigEveryFrames p))
    if s.camActive p ∧ s.u (Obj.camTrigMode p) = 2 ∧ cols.contains j ∧ bitOf (s.u (Obj.camTrigDirection p)) (b2n reverse) ∧
        frame % every = 0 then
      let x := s.cam p
      s.setCam p { x with angleNs := x.angleNs ++ [(ns + s.u (Obj.camTrigDelay p), j)] }
    else s) s

/-- The trigger of a port that is scheduled next: its ns, its column, and whether it is the time schedule's. -/
def State.camNext (s : State) (p : Nat) : Option (Nat × Nat × Bool) :=
  let x := s.cam p
  if s.u (Obj.camTrigMode p) = 1 then (if x.nextNs = 0 then none else some (x.nextNs, 0xFFFF, true))
  else if s.u (Obj.camTrigMode p) = 2 then x.angleNs.head?.map (fun a => (a.1, a.2, false))
  else none

/-- CAM_TRIGGER_LAUNCH: at its scheduled time a trigger is issued and takes a frame number, or is skipped (R356, R357). -/
def State.camLaunch (s : State) (p : Nat) : State :=
  if !s.camActive p then s
  else match s.camNext p with
    | none => s
    | some (ns, column, timed) =>
      let s1 := s.runTo (s.tickOfNs ns)
      let x := s1.cam p
      let period := s1.u (Obj.camTrigPeriod p)
      let next := if period = 0 then 0 else ns + ((s1.nowNs - ns) / period + 1) * period
      let x1 : CamPort := if timed then { x with nextNs := next } else { x with angleNs := x.angleNs.drop 1 }
      if x1.trigHigh ∨ x1.waiting.isSome then (s1.setCam p x1).bump (Obj.camSkippedTrigCount p) 1
      else
        let n := s1.u (Obj.camNextFrameNumber p)
        let x2 : CamPort := { x1 with
          trigHigh := true, trigEnd := s1.time.ticks + usTicks (s1.u (Obj.camTrigWidth p)),
          waiting := some { number := n, atNs := s1.nowNs, tick := s1.time.ticks, column := column } }
        (s1.setCam p x2).bump (Obj.camNextFrameNumber p) 1

/-- CAM_TRIGGER_END: CAMx_TRIG returns inactive after TrigWidth (R357). -/
def State.camTrigEnd (s : State) (p : Nat) : State :=
  let x := s.cam p
  if !x.trigHigh then s else (s.runTo x.trigEnd).setCam p { x with trigHigh := false }

/-- The trigger that waits dropped with NOFRAME (R358). -/
def State.camNoFrame (s : State) (p : Nat) (w : CamTrigger) : State :=
  (s.setCam p { s.cam p with waiting := none }).camDrop p 0 w.number

/-- CAM_NOFRAME: no VSYNC edge by VsyncDelayMax (R358). -/
def State.camNoFrameDue (s : State) (p : Nat) : State :=
  match (s.cam p).waiting with
  | none => s
  | some w => (s.runTo (w.tick + usTicks (s.u (Obj.camVsyncDelayMax p)))).camNoFrame p w

/-! ### Trailer and packets (R365 to R368) -/

/-- The camera header (R337). -/
def camHeader (p kind packet number first lines : Nat) : Bytes :=
  [BitVec.ofNat 8 p, BitVec.ofNat 8 kind] ++ leBytes 2 packet ++ leBytes 4 number ++ leBytes 2 first ++ leBytes 2 lines

/-- Output lines in packets of `l` lines each: first line, count, bytes. At most `n` packets. -/
def camPackets (l first : Nat) : Nat → List Bytes → List (Nat × Nat × Bytes)
  | 0, _ => []
  | n + 1, ls => match ls with
    | [] => []
    | _ => (first, (ls.take l).length, (ls.take l).flatten) :: camPackets l (first + l) n (ls.drop l)

/-- What the frame checker found of the lines: short ones, long ones, their first indices, pad lines (Table CAM-2). -/
def CamFrame.found (f : CamFrame) (c : CamSet) : List Nat × List Nat × Nat :=
  let ix (bad : Nat → Bool) : List Nat := (f.lines.zipIdx.filter (fun e => bad e.1.length)).map (fun e => e.2)
  (ix (fun n => decide (n < c.width)), ix (fun n => decide (n > c.width)), c.height - f.lines.length)

/-- The trailer body (Tables CAM-6 and CAM-7). -/
def State.camTrailer (s : State) (x : CamPort) (f : CamFrame) (c : CamSet) (tnrReset : Bool) (padded : Nat) : Bytes :=
  let (short, long, pad) := f.found c
  let flags := b2n (decide (short ≠ [])) + 2 * b2n (decide (long ≠ [])) + 4 * b2n (decide (pad ≠ 0)) +
    8 * b2n (decide (f.surplus ≠ 0)) + 16 * b2n f.timeout + 32 * b2n f.syncErr + 64 * b2n tnrReset + 128 * b2n (decide (x.droppedBefore ≠ 0))
  leBytes 2 flags ++ leBytes 2 x.droppedBefore ++ leBytes 4 f.received ++ leBytes 2 short.length ++ leBytes 2 long.length ++
    leBytes 2 pad ++ leBytes 2 f.surplus ++ leBytes 2 (short.head?.getD 0xFFFF) ++ leBytes 2 (long.head?.getD 0xFFFF) ++ leBytes 4 padded ++
    leBytes 4 (s.nsAt f.vsync) ++ leBytes 4 (s.nsAt (f.ended.getD f.vsync)) ++ leBytes 2 f.trigger.column ++ leBytes 2 0

/-- The frame that has ended gets its trailer and statistics, and its packets are put up for offering (R363 to R368). -/
def State.camFinish (s : State) (p : Nat) (f : CamFrame) : State :=
  let x := s.cam p
  let c := s.camSet p f.snap
  let checked := c.check f.lines
  let black := c.blackLevel checked
  let tnrReset := c.tnr && (x.tnrEmpty || x.ref.isEmpty)
  let ref := if tnrReset then [] else x.ref
  let (filtered, ref') := c.temporal ref (c.spatial black)
  let stats := c.stats checked black
  let padded := numAt 4 4 stats
  let trailer := s.camTrailer x f c tnrReset padded
  let x1 : CamPort := { x with frame := none, ref := ref', tnrEmpty := false, droppedBefore := 0, storeUsed := x.storeUsed - f.reserve }
  let s1 := ((s.put (Obj.camLastStats p) stats).put (Obj.camLastTrailer p) trailer).setCam p x1
  if !(s1.stream (camStream p)).enabled then s1
  else
    let l := (s1.u Obj.mtu - 60) / (c.width * formatBytes c.format)
    let px := camPackets l 0 c.height (c.output checked filtered)
    let n := px.length
    let bodies := px.zipIdx.map (fun e => camHeader p 0 e.2 f.trigger.number e.1.1 e.1.2.1 ++ e.1.2.2) ++
      [camHeader p 1 n f.trigger.number 0 0 ++ stats, camHeader p 2 (n + 1) f.trigger.number 0 0 ++ trailer]
    let x2 : CamPort := { x1 with
      store := x1.store ++ bodies, storeStampNs := x1.storeStampNs ++ bodies.map (fun _ => f.trigger.atNs),
      storeUsed := x1.storeUsed + sumNat (bodies.map (fun b => b.length)) }
    (s1.setCam p x2).bump (Obj.camFrameCount p) 1

/-- CAM_TRAILER_FORM: once the pipeline has processed every line of an ended frame (R368). -/
def State.camTrailerForm (s : State) (p : Nat) : State :=
  match (s.cam p).frame with
  | none => s
  | some f => if f.ended.isNone ∨ f.waiting > 0 then s else s.camFinish p f

/-! ### Reception (R359, R369 to R372) -/

/-- MalformedCount: 0 short lines, 1 long lines, 2 pad lines, 3 surplus lines, 4 timeouts, 5 sync errors. -/
def State.camMalformed (s : State) (p k n : Nat) : State := s.bumpWord (Obj.camMalformedCount p) 4 (4 * k) n

/-- A frame that a VSYNC edge starts for the trigger that waits: the three checks of R372, and its admission. -/
def State.camStartFrame (s : State) (p : Nat) (w : CamTrigger) (t : Stamp) : State :=
  let x : CamPort := { s.cam p with waiting := none }
  let need := s.camReserve p
  let s0 := s.setCam p x
  if s0.b (Obj.camTnrEnable p) ∧ !s0.tnrFits p then
    (s0.setCam p { x with ignoring := true, memHeld := false }).camDrop p 3 w.number
  else if x.storeUsed + need > camStoreSize then
    (s0.setCam p { x with ignoring := true }).camDrop p 1 w.number
  else
    let tnr := s0.b (Obj.camTnrEnable p)
    let f : CamFrame :=
      { trigger := w, vsync := t, lines := [], received := 0, surplus := 0, syncErr := false, timeout := false, ended := none,
        dropped := false, waiting := 0, reserve := need, snap := s0.camSnap p }
    let x1 : CamPort := { x with frame := some f, storeUsed := x.storeUsed + need, memHeld := tnr,
                                 tnrEmpty := x.tnrEmpty || (tnr && !x.memHeld) }
    let s1 := s0.setCam p x1
    if x1.storeUsed > s1.u (Obj.camStoreHighWater p) then s1.setU (Obj.camStoreHighWater p) x1.storeUsed else s1

/-- CAM_VSYNC_START: the edge belongs to the waiting trigger, or the frame is untriggered (R358, R372). An ended frame whose trailer is
still to come is finished first. -/
def State.camVsync (s : State) (p : Nat) (t : Stamp) : State :=
  if !s.camActive p then s
  else
    let s0 := s.runToStamp t
    let s1 := match (s0.cam p).frame with
      | some f => if f.ended.isSome then s0.camFinish p f else s0
      | none => s0
    if (s1.cam p).frame.isSome then s1
    else
      let stray (s : State) : State := (s.setCam p { s.cam p with ignoring := true }).camDrop p 4 0
      match (s1.cam p).waiting with
      | none => stray s1
      | some w =>
        let lo := (w.tick + usTicks (s1.u (Obj.camVsyncDelayMin p))) * 320
        let hi := (w.tick + usTicks (s1.u (Obj.camVsyncDelayMax p))) * 320
        if t < lo then stray s1
        else if t > hi then stray (s1.camNoFrame p w)
        else s1.camStartFrame p w t

/-- CAM_LINE_COMPLETE: a line of the frame in reception is buffered, discarded as surplus, or overruns the buffer (R353, R359, R370). -/
def State.camLine (s : State) (p : Nat) (pixels : List Nat) (syncErrors : Nat) : State :=
  let x := s.cam p
  match x.frame with
  | none => s
  | some f =>
    if f.ended.isSome ∨ f.dropped then s
    else
      let width := s.u (Obj.camActiveWidth p)
      let s1 := s.camMalformed p 5 syncErrors
      let f1 : CamFrame := { f with received := f.received + 1, syncErr := f.syncErr || decide (syncErrors > 0) }
      if f.lines.length ≥ s.u (Obj.camActiveHeight p) then
        (s1.camMalformed p 3 1).setCam p { x with frame := some { f1 with surplus := f1.surplus + 1 } }
      else if f.waiting ≥ 32 then
        (s1.setCam p { x with frame := some { f1 with dropped := true, lines := [], waiting := 0 },
                              storeUsed := x.storeUsed - f.reserve }).camDrop p 2 f.trigger.number
      else
        let s2 := if pixels.length < width then s1.camMalformed p 0 1 else if pixels.length > width then s1.camMalformed p 1 1 else s1
        s2.setCam p { x with frame := some { f1 with lines := f.lines ++ [pixels], waiting := f.waiting + 1 } }

/-- CAM_PIPELINE_LINE: the pipeline takes the oldest waiting line of the priority port, or else of the other (R369). -/
def State.camPipelineLine (s : State) : State :=
  let first := s.u Obj.camPriority
  let has (p : Nat) : Bool := match (s.cam p).frame with
    | some f => decide (f.waiting > 0)
    | none => false
  let take (p : Nat) : State := match (s.cam p).frame with
    | some f => s.setCam p { s.cam p with frame := some { f with waiting := f.waiting - 1 } }
    | none => s
  if has first then take first else if has (1 - first) then take (1 - first) else s

/-- The frame in reception ended at a stamp; missing lines will be padded (R359). A dropped frame is gone. -/
def State.camEnd (s : State) (p : Nat) (t : Stamp) (byTimeout : Bool) : State :=
  let x := s.cam p
  match x.frame with
  | none => s
  | some f =>
    if f.ended.isSome then s
    else if f.dropped then s.setCam p { x with frame := none, ignoring := byTimeout }
    else
      let pad := s.u (Obj.camActiveHeight p) - f.lines.length
      let s1 := s.setCam p { x with frame := some { f with ended := some t, timeout := byTimeout }, ignoring := byTimeout }
      let s2 := s1.camMalformed p 2 pad
      if byTimeout then s2.camMalformed p 4 1 else s2

/-- CAM_FRAME_END: the VSYNC inactive edge (R359). -/
def State.camFrameEnd (s : State) (p : Nat) (t : Stamp) : State :=
  let s1 := s.runToStamp t
  if (s1.cam p).ignoring then s1.setCam p { s1.cam p with ignoring := false } else s1.camEnd p t false

/-- CAM_FRAME_TIMEOUT: VSYNC active for FrameMaxTime (R359). -/
def State.camFrameTimeout (s : State) (p : Nat) : State :=
  match (s.cam p).frame with
  | none => s
  | some f =>
    if f.ended.isSome then s
    else
      let due := f.vsync + usTicks (s.u (Obj.camFrameMaxTime p)) * 320
      (s.runToStamp due).camEnd p due true

/-! ### Changes of the objects (R351, R358, R363) -/

/-- A port brought up to date after objects have changed from those of `old`: CamEnable starts the numbering, or ends everything; the
reference is emptied by TnrEnable, geometry and InputDepth. -/
def State.camRefresh (s old : State) (p : Nat) : State :=
  let changed (f : Nat → Nat) : Bool := s.get (f p) != old.get (f p)
  let was := old.b (Obj.camEnable p)
  let now := s.b (Obj.camEnable p)
  let x := s.cam p
  if now && !was then
    (s.setCam p { CamPort.rest with store := x.store, storeStampNs := x.storeStampNs, storeUsed := x.storeUsed, nextNs := x.nextNs }).setU
      (Obj.camNextFrameNumber p) 0
  else if was && !now then
    let held := match x.frame with
      | some f => if f.dropped then 0 else f.reserve
      | none => 0
    s.setCam p { x with trigHigh := false, waiting := none, frame := none, ignoring := false, angleNs := [],
                        storeUsed := x.storeUsed - held }
  else if (s.b (Obj.camTnrEnable p) && !old.b (Obj.camTnrEnable p)) || changed Obj.camActiveWidth || changed Obj.camActiveHeight ||
      changed Obj.camInputDepth || changed Obj.camCfaPattern then
    s.setCam p { x with tnrEmpty := true, ref := [] }
  else s

end Sys2Proof.Machine
end

