-- ==== Sys2Proof/Machine/Rec.lean ====
section
/-!
DEFINITION. The full-waveform recorder (R375 to R391).
-/

namespace Sys2Proof.Machine

/-! ### States (Table REC-5) -/

def recNoDrive : Nat := 0
def recInit : Nat := 1
def recReady : Nat := 2
def recRecording : Nat := 3
def recFull : Nat := 4
def recFault : Nat := 5

/-- Whether the recorder is fitted (R375). -/
def State.hasRecorder (s : State) : Bool := s.variant == .sv

def State.recState (s : State) : Nat := s.u Obj.recState

def State.setRecState (s : State) (k : Nat) : State := s.setU Obj.recState k

/-- Bytes of an extent's data blocks (On-drive layout). -/
def extentData : Nat := 511 * 4096

/-- The first LBA of an extent. -/
def extentLba (k : Nat) : Nat := 256 + 512 * k

/-! ### Layouts (Tables REC-2 to REC-4) -/

/-- An entry: type, segment number, body (R379). -/
def State.recEntry (s : State) (type segNo : Nat) (body : Bytes) : Bytes :=
  let head := [BitVec.ofNat 8 type, 0] ++ leBytes 2 (32 + body.length) ++ leBytes 2 s.dev.identity ++ [0, 0] ++
    leBytes 8 s.recd.nextRecord ++ leBytes 4 segNo ++ leBytes 4 (s.u Obj.bootCount) ++ leBytes 4 0
  head ++ leBytes 4 (crc32 head) ++ body

/-- The body of an epoch entry (R380). -/
def State.epochBody (s : State) : Bytes :=
  s.get Obj.recordingId ++ time80 s.nowNs ++ [0, 0] ++ s.get Obj.scaleErrorPpb ++ s.get Obj.scaleSource ++ s.get Obj.kind ++
    s.get Obj.payloadSize ++ [BitVec.ofNat 8 (b2n s.dev.compat)] ++ leBytes 4 0

/-- What an epoch entry was written for (R380). -/
def State.epochKey (s : State) : Nat × Nat × Nat := (s.u Obj.kind, s.u Obj.payloadSize, s.u Obj.scaleSource)

/-- The index block of an extent (Table REC-3). -/
def State.indexBlock (s : State) (x : OpenExtent) : Bytes :=
  let full := decide (x.data.length = extentData)
  let map := (List.range 511).flatMap (fun b =>
    let here := x.starts.filter (fun o => o / 4096 == b)
    leBytes 2 (match here with
      | o :: _ => o % 4096
      | [] => 0xFFFF) ++ leBytes 2 here.length)
  let bs := leBytes 4 0x58454449 ++ leBytes 2 1 ++ leBytes 2 (b2n (x.partialFlag && !full)) ++ leBytes 8 x.sequence ++ s.get Obj.recordingId ++
    s.get Obj.calDeviceUid ++ leBytes 8 x.firstRecord ++ leBytes 4 x.starts.length ++ leBytes 4 x.data.length ++
    leBytes 8 x.firstTime ++ leBytes 8 x.lastTime ++ map ++ leBytes 4 (crc32 x.data) ++ List.replicate 1980 0
  bs ++ leBytes 4 (crc32 bs)

/-- A superblock (Table REC-4); `snap` is head, oldest, head sequence, next record, wraps. -/
def State.superblock (s : State) (generation : Nat) (snap : List Nat) : Bytes :=
  let v (k : Nat) : Nat := getAt snap k 0
  let bs := leBytes 4 0x50555352 ++ leBytes 2 1 ++ leBytes 2 512 ++ leBytes 8 generation ++ s.get Obj.calDeviceUid ++
    s.get Obj.recordingId ++ leBytes 8 256 ++ leBytes 4 s.recd.extentCount ++ s.get Obj.recPolicy ++ [0, 0, 0] ++ leBytes 4 (v 0) ++
    leBytes 4 (v 1) ++ leBytes 8 (v 2) ++ leBytes 8 (v 3) ++ leBytes 4 (v 4) ++ time80 s.nowNs ++ List.replicate 38 0
  bs ++ leBytes 4 (crc32 bs) ++ List.replicate (4096 - 128) 0

/-- Whether a superblock read from the drive may be selected (R385). -/
def State.superGood (s : State) (bs : Bytes) : Bool :=
  decide (bs.length ≥ 128) && decide (numAt 0 4 bs = 0x50555352) && decide (numAt 4 2 bs = 1) &&
    decide (numAt 124 4 bs = crc32 (bs.take 124)) && slice 16 8 bs == s.get Obj.calDeviceUid

/-- Whether an extent read from the drive, its index block followed by its data, is valid (R382). -/
def State.extentGood (s : State) (bs : Bytes) : Bool :=
  let ix := bs.take 4096
  let data := (bs.drop 4096).take (numAt 44 4 ix)
  decide (ix.length = 4096) && decide (numAt 0 4 ix = 0x58454449) && decide (numAt 4 2 ix = 1) &&
    decide (numAt 4092 4 ix = crc32 (ix.take 4092)) && decide (numAt 2108 4 ix = crc32 data) &&
    slice 24 8 ix == s.get Obj.calDeviceUid && slice 16 8 ix == s.get Obj.recordingId

/-! ### Head and oldest (R385, R386) -/

/-- The head moved past an extent: it wraps under policy RING; OldestExtent stays at the extent after the head once the drive has
wrapped. -/
def State.headAdvance (s : State) : State :=
  let n := s.recd.extentCount
  let h := s.u Obj.headExtent + 1
  let wraps := decide (h ≥ n) && decide (s.u Obj.recPolicy = 0)
  let h' := if wraps then 0 else h
  let wc := s.recd.wrapCount + b2n wraps
  let s1 : State := { s with recd := { s.recd with wrapCount := wc, headSequence := s.recd.headSequence + 1 } }
  let s2 := s1.setU Obj.headExtent h'
  if wc = 0 ∨ n = 0 then s2 else s2.setU Obj.oldestExtent ((h' + 1) % n)

/-- Recovery reads forward from the head while extents are valid and carry the next sequence (R385). At most `n`. -/
def State.recoverForward (s : State) (extents : List (Nat × Bytes)) : Nat → State
  | 0 => s
  | n + 1 => match extents.find? (fun e => e.1 == s.u Obj.headExtent) with
    | none => s
    | some e =>
      if s.extentGood e.2 ∧ numAt 8 8 e.2 = s.recd.headSequence then
        let s1 : State := { s with recd := { s.recd with nextRecord := numAt 32 8 e.2 + numAt 40 4 e.2 } }
        s1.headAdvance.recoverForward extents n
      else s

/-- Recovery (R385). -/
def State.recRecover (s : State) (a b : Bytes) (extents : List (Nat × Bytes)) : State :=
  let pick : Option Bytes := match s.superGood a, s.superGood b with
    | true, true => some (if numAt 8 8 a ≥ numAt 8 8 b then a else b)
    | true, false => some a
    | false, true => some b
    | false, false => none
  match pick with
  | none => ((s.setU Obj.recordingId 0).setU Obj.headExtent 0).setU Obj.oldestExtent 0
  | some sb =>
    let s1 : State := { s with recd := { s.recd with
      superGen := numAt 8 8 sb, extentCount := numAt 40 4 sb, headSequence := numAt 56 8 sb, nextRecord := numAt 64 8 sb,
      wrapCount := numAt 72 4 sb } }
    (((s1.setU Obj.recordingId (numAt 24 8 sb)).setU Obj.headExtent (numAt 48 4 sb)).setU Obj.oldestExtent
      (numAt 52 4 sb)).recoverForward extents extents.length

/-! ### Commands to the drive (R383, R384) -/

/-- A command issued to the drive. -/
def State.recIssue (s : State) (kind lba : Nat) (data : Bytes) (segments : Nat) : State :=
  { s with recd := { s.recd with flight := s.recd.flight ++
      [{ kind := kind, lba := lba, data := data, segments := segments, issuedAt := s.time.ticks, retried := false }] } }

/-- Bytes of the Writes that have not completed. -/
def State.recInFlight (s : State) : Nat := sumNat (s.recd.flight.map (fun c => c.data.length))

/-- Data Writes issued while whole blocks wait and InFlightLimit permits, each up to 128 KiB; a closing extent's last block is filled
with zeros, and its tail too unless it closes early (R383). At most `n` Writes. -/
def State.recDrain (s : State) : Nat → State
  | 0 => s
  | n + 1 => match s.recd.extent with
    | none => s
    | some x =>
      let used := x.data.length
      let goal := if !x.closing then used / 4096 * 4096 else if x.partialFlag then ceilDiv used 4096 * 4096 else extentData
      let room := (s.u Obj.inFlightLimit - s.recInFlight) / 4096 * 4096
      let size := min 131072 (min room (goal - x.issued))
      if size = 0 then s
      else
        let hi := x.issued + size
        let bs := (x.data.drop x.issued).take size
        let s1 := s.recIssue 0 (extentLba x.extent + x.issued / 4096) (bs ++ List.replicate (size - bs.length) 0)
          (x.segEnds.filter (fun e => decide (e ≤ hi))).length
        ({ s1 with recd := { s1.recd with extent := some { x with
            issued := hi, segEnds := x.segEnds.filter (fun e => decide (e > hi)) } } }).recDrain n

/-- The figures that a superblock update records. -/
def State.superFigures (s : State) : List Nat :=
  [s.u Obj.headExtent, s.u Obj.oldestExtent, s.recd.headSequence, s.recd.nextRecord, s.recd.wrapCount]

/-- A superblock update begun, or remembered while one is in progress (R384). -/
def State.superUpdate (s : State) : State :=
  if s.recd.superStage ≠ 0 then { s with recd := { s.recd with superDue := true } }
  else
    let s1 : State := { s with recd := { s.recd with superStage := 1, superSnap := s.superFigures, superDue := false } }
    s1.recIssue 2 0 [] 0

/-- The closing extent's index block issued once all its data Writes have completed (R383). -/
def State.recIndex (s : State) : State :=
  match s.recd.extent with
  | none => s
  | some x =>
    let goal := if x.partialFlag then ceilDiv x.data.length 4096 * 4096 else extentData
    if x.closing ∧ x.issued ≥ goal ∧ !s.recd.flight.any (fun c => c.kind == 0 || c.kind == 1) then
      s.recIssue 1 (extentLba x.extent + 511) (s.indexBlock x) 0
    else s

/-- What can be issued issued. -/
def State.recPump (s : State) : State := (s.recDrain 64).recIndex

/-- The open extent closed; `early` closes it before its data area is full (R383). -/
def State.recClose (s : State) (early : Bool) : State :=
  match s.recd.extent with
  | none => s
  | some x =>
    if x.closing then s
    else ({ s with recd := { s.recd with extent := some { x with closing := true, partialFlag := early } } }).recPump

/-- An entry appended to the open extent. -/
def State.recAppend (s : State) (type segNo : Nat) (body : Bytes) : State :=
  match s.recd.extent with
  | none => s
  | some x =>
    let bs := s.recEntry type segNo body
    let time := numAt 0 8 body
    let x1 : OpenExtent := { x with data := x.data ++ bs, starts := x.starts ++ [x.data.length] }
    let x2 : OpenExtent := if type = 1 then
        { x1 with segEnds := x1.segEnds ++ [x1.data.length], lastTime := time,
                  firstTime := if x.firstTime = 0 then time else x.firstTime }
      else x1
    ({ s with recd := { s.recd with extent := some x2, nextRecord := s.recd.nextRecord + 1 } }).bump Obj.recordsWritten 1

/-- An epoch entry appended. -/
def State.recEpoch (s : State) : State :=
  let s1 := s.recAppend 2 0 s.epochBody
  { s1 with recd := { s1.recd with epochKey := some s.epochKey } }

/-- An open extent with nothing in it. -/
def OpenExtent.fresh (extent sequence firstRecord : Nat) : OpenExtent :=
  { extent := extent, sequence := sequence, data := [], issued := 0, starts := [], firstRecord := firstRecord, firstTime := 0,
    lastTime := 0, segEnds := [], closing := false, partialFlag := false }

/-- An extent opened with its epoch entry (R380). -/
def State.recOpenAt (s : State) (extent : Nat) : State :=
  let x := OpenExtent.fresh extent s.recd.headSequence s.recd.nextRecord
  ({ s with recd := { s.recd with extent := some x } }).recEpoch

/-- A new extent opened at the head (R387); under policy STOP the extent that would wrap is not opened and the recorder enters
FULL (R386). -/
def State.recOpen (s : State) : State :=
  if s.recd.extent.isSome then s
  else if s.u Obj.headExtent < s.recd.extentCount then s.recOpenAt (s.u Obj.headExtent)
  else if s.u Obj.recPolicy = 0 then
    let s1 : State := { s with recd := { s.recd with wrapCount := s.recd.wrapCount + 1 } }
    ((s1.setU Obj.headExtent 0).setU Obj.oldestExtent (1 % max 1 s.recd.extentCount)).recOpenAt 0
  else (s.setRecState recFull).raise (0x0C00 + Config.recFullDetail.toNat) 0 2 0

/-! ### Segments (R379 to R381, R387) -/

/-- Segments that the recorder has taken and that are not yet written. -/
def State.recTaken (s : State) : Nat :=
  sumNat (s.recd.flight.map (fun c => c.segments)) + (match s.recd.extent with
    | some x => x.segEnds.length
    | none => 0)

/-- Segments of the ring that the recorder sink still has to finish with, in ring order. -/
def State.recWaiting (s : State) : List Segment := s.may.ring.filter (fun g => g.recWaits)

/-- The first `n` segments of the recorder sink finished with. -/
def State.recFinish (s : State) (n : Nat) : State :=
  (s.recWaiting.take n).foldl (fun (s : State) g => s.recDone g.number) s

/-- The first `n` segments of the recorder sink finished without a write (R387). -/
def State.recUnrecorded (s : State) (n : Nat) : State :=
  let s1 : State := { s with recd := { s.recd with unrecorded := s.recd.unrecorded + n } }
  (s1.recFinish n).bump Obj.unrecordedCount n

/-- The entries that go ahead of the next segment, and the segment's entry: types and bodies (R380, R381). -/
def State.recOwed (s : State) (g : Segment) : List (Nat × Nat × Bytes) :=
  (if s.recd.epochKey = some s.epochKey then [] else [(2, 0, s.epochBody)]) ++
    (if s.may.lossForRec = 0 ∧ s.recd.unrecorded = 0 then []
     else [(3, 0, leBytes 4 s.may.lossForRec ++ leBytes 4 s.recd.unrecorded ++ leBytes 8 0)]) ++
    [(1, g.number, g.header ++ g.payload)]

/-- Entries appended one after another until one does not fit, which closes the extent (On-drive layout, R383). -/
def State.recAppendAll (s : State) : List (Nat × Nat × Bytes) → State
  | [] => s
  | (type, segNo, body) :: rest => match s.recd.extent with
    | none => s
    | some x =>
      if x.data.length + 32 + body.length > extentData then s.recClose false
      else
        let s1 := s.recAppend type segNo body
        let s2 : State := if type = 3 then
            { s1 with may := { s1.may with lossForRec := 0 }, recd := { s1.recd with unrecorded := 0 } }
          else if type = 2 then { s1 with recd := { s1.recd with epochKey := some s1.epochKey } } else s1
        s2.recAppendAll rest

/-- REC_SEGMENT_TAKE: the next segment of the ring is written, or finished unrecorded (R387); after PFAIL_N none is taken (R389). -/
def State.recTake (s : State) : State :=
  match s.recWaiting.drop s.recTaken with
  | [] => s
  | g :: _ =>
    if s.recd.powerFail then s
    else if s.recState ≠ recRecording ∨ s.dev.state = .update then s.recUnrecorded 1
    else
      let s1 := s.recOpen
      match s1.recd.extent with
      | none => s1
      | some x => if x.closing then s1 else (s1.recAppendAll (s1.recOwed g)).recPump

/-! ### Ends of commands (R383, R384, R388) -/

/-- The recorder's service ended (R388): the controller is disabled; segments taken and not written end unrecorded. -/
def State.recFaultNow (s : State) (status : Nat) : State :=
  let n := s.recTaken
  let s1 : State := { s with recd := { s.recd with extent := none, flight := [], superStage := 0, superDue := false } }
  (((s1.recUnrecorded n).bump Obj.writeErrorCount 1).setRecState recFault).raise 0x0C03 0 3 status

/-- The command that has waited longest completes with an error: it is retried once; a second error ends the service (R388). -/
def State.recError (s : State) (c : NvmeCmd) : State :=
  if c.retried then
    let (x, s1) := s.draw
    s1.recFaultNow (x % 65536)
  else
    let again : NvmeCmd := { c with retried := true, issuedAt := s.time.ticks }
    { s with recd := { s.recd with flight := s.recd.flight.map (fun d => if d = c then again else d) } }

/-- What follows once nothing is in the way: a due superblock update. -/
def State.recSuperDue (s : State) : State :=
  if s.recd.superDue ∧ s.recd.superStage = 0 ∧ (s.recd.extent.isNone ∨ s.recState = recRecording) then s.superUpdate else s

/-- The Flush of a power failure, once the extent is closed (R389). -/
def State.recPowerFlush (s : State) : State :=
  if s.recd.powerFail ∧ s.recd.extent.isNone ∧ s.recd.superStage ≠ 4 then
    ({ s with recd := { s.recd with superStage := 4 } }).recIssue 2 0 [] 0
  else s

/-- A Write completed without error. -/
def State.recWritten (s : State) (c : NvmeCmd) : State :=
  let now := s.time.ticks
  let s0 : State := { s with recd := { s.recd with
    flight := s.recd.flight.erase c,
    rate := (now, c.data.length) :: s.recd.rate.filter (fun e => decide (now < e.1 + tickHz)) } }
  let s1 := (s0.bump Obj.bytesWritten c.data.length).recFinish c.segments
  if c.kind = 0 then s1.recPump
  else if c.kind = 1 then
    let s2 := ({ s1 with recd := { s1.recd with extent := none } }).headAdvance
    s2.recSuperDue.recPowerFlush
  else if s1.recd.superStage = 2 then
    let s2 : State := { s1 with recd := { s1.recd with superStage := 3 } }
    s2.recIssue 2 0 [] 0
  else s1

/-- REC_WRITE_COMPLETE: the oldest Write in flight completes (R383, R388). -/
def State.recWriteComplete (s : State) (ok : Bool) : State :=
  match s.recd.flight.find? (fun c => c.kind != 2) with
  | none => s
  | some c => if ok then s.recWritten c else s.recError c

/-- REC_FLUSH_COMPLETE: the oldest Flush completes: the superblock's Write follows the first, and the update ends with the
second (R384). -/
def State.recFlushComplete (s : State) (ok : Bool) : State :=
  match s.recd.flight.find? (fun c => c.kind == 2) with
  | none => s
  | some c =>
    if !ok then s.recError c
    else
      let s1 : State := { s with recd := { s.recd with flight := s.recd.flight.erase c } }
      if s1.recd.superStage = 1 then
        let g := s1.recd.superGen + 1
        let s2 : State := { s1 with recd := { s1.recd with superGen := g, superStage := 2 } }
        s2.recIssue 3 (if g % 2 = 1 then 0 else 1) (s2.superblock g s2.recd.superSnap) 0
      else if s1.recd.superStage = 3 then
        ({ s1 with recd := { s1.recd with superStage := 0, superAt := s1.time.ticks } }).recSuperDue
      else s1

/-- REC_SUPERBLOCK_PERIOD: while recording, every SuperblockPeriod (R384). -/
def State.recSuperPeriod (s : State) : State :=
  if s.recState ≠ recRecording ∨ s.recd.powerFail then s
  else
    let due := s.recd.superAt + msTicks (s.u Obj.superblockPeriod)
    let s1 := s.runTo due
    ({ s1 with recd := { s1.recd with superAt := s1.time.ticks } }).superUpdate

/-- REC_CMD_TIMEOUT: the oldest command has not completed within 100 ms (R388). -/
def State.recCmdTimeout (s : State) : State :=
  match s.recd.flight with
  | [] => s
  | c :: _ => (s.runTo (c.issuedAt + msTicks 100)).recFaultNow 0

/-- REC_LINK_LOSS (R388). -/
def State.recLinkLoss (s : State) : State :=
  if s.recState = recNoDrive ∨ s.recState = recFault then s else s.recFaultNow 0

/-- REC_SMART_POLL: every 10 s the health page fills DriveHealth (Table REC-1). The page is the SMART / Health Information log page. -/
def State.recSmart (s : State) (page : Bytes) : State :=
  if s.recState < recReady ∨ s.recState = recFault then s
  else
    let s1 := s.runTo (s.recd.smartAt + 10 * tickHz)
    let at' (k : Nat) : Byte := getAt page k 0
    ({ s1 with recd := { s1.recd with smartAt := s1.time.ticks } }).put Obj.driveHealth
      [at' 1, at' 2, at' 5, at' 0, at' 3, 0, 0, 0]

/-! ### Initialisation and commands (R376 to R378, R387) -/

/-- Initialisation begun. -/
def State.recBegin (s : State) : State := s.setRecState recInit

/-- REC_PERST_RELEASE: the later of the end of BOOT and 100 ms after the release of RESET_N (R376). -/
def State.recPerst (s : State) : State :=
  if !s.hasRecorder ∨ !s.dev.booted ∨ s.recd.perstHigh then s
  else
    let s1 := s.runTo (max s.dev.bootTick (s.recd.resetAt + msTicks 100))
    ({ s1 with recd := { s1.recd with perstHigh := true } }).recBegin

/-- REC_INIT_DONE: link, drive checks and recovery (R376 to R378, R385). -/
def State.recInitDone (s : State) (r : RecInit) : State :=
  if s.recState ≠ recInit ∨ !s.recd.perstHigh then s
  else if !r.linkUp then (s.setU Obj.linkStatus 0).setRecState recNoDrive
  else
    let link := r.generation.val + 16 * r.lanes.val
    let s1 := s.setU Obj.linkStatus link
    let s2 := if r.generation.val < 4 ∨ r.lanes.val < 4 then s1.raise 0x0C01 0 2 link else s1
    if !r.driveOk ∨ r.blockSize ≠ 4096 ∨ r.nvmeVersion.toNat < 0x00010300 then
      let (x, s3) := s2.draw
      (s3.setRecState recNoDrive).raise 0x0C02 0 3 (x % 256)
    else
      let pad (n : Nat) (bs : Bytes) : Bytes := (bs ++ List.replicate n 0).take n
      let managed := (min r.blocks (2 ^ 33) - 256) / 512
      let s3 := (s2.put Obj.driveInfo (pad 20 r.serial ++ pad 40 r.model ++ leBytes 4 r.nvmeVersion.toNat)).setU Obj.managedExtents managed
      let s4 : State := { s3 with recd := { s3.recd with
        extent := none, flight := [], superStage := 0, superDue := false, smartAt := s3.time.ticks } }
      (s4.recRecover r.superA r.superB r.extents).setRecState recReady

/-- START (Table REC-5, note 1). -/
def State.recStartCmd (s : State) : Abort × State :=
  if s.recState ≠ recReady ∨ s.u Obj.recordingId = 0 then (Abort.notAllowedNow, s)
  else (Abort.ok, ({ s with recd := { s.recd with superAt := s.time.ticks } }).setRecState recRecording |>.recOpen)

/-- STOP: from RECORDING the extent closes and a superblock update follows; from FULL only the state changes (Table REC-5). -/
def State.recStopCmd (s : State) : Abort × State :=
  if s.recState = recRecording then
    let s1 := (s.setRecState recReady).recClose true
    (Abort.ok, ({ s1 with recd := { s1.recd with superDue := true } }).recSuperDue)
  else if s.recState = recFull then (Abort.ok, s.setRecState recReady)
  else (Abort.notAllowedNow, s)

/-- SYNC: a superblock update while recording. -/
def State.recSyncCmd (s : State) : Abort × State :=
  if s.recState = recRecording then (Abort.ok, s.superUpdate) else (Abort.notAllowedNow, s)

/-- REINIT. -/
def State.recReinitCmd (s : State) : Abort × State :=
  if s.recState = recInit ∨ s.recState = recRecording then (Abort.notAllowedNow, s)
  else
    let n := s.recTaken
    let s1 : State := { s with recd := { s.recd with extent := none, flight := [], superStage := 0, superDue := false } }
    (Abort.ok, (s1.recUnrecorded n).recBegin)

/-- RecCommand (Table REC-5). -/
def State.recCommand (s : State) (v : Nat) : Abort × State :=
  if v = 1 then s.recStartCmd
  else if v = 2 then s.recStopCmd
  else if v = 3 then s.recSyncCmd
  else if v = 4 then s.recReinitCmd
  else (Abort.range, s)

/-- RecFormat (Table REC-5, note 2): both superblocks are written with a new RecordingId. -/
def State.recFormatCmd (s : State) (v : Nat) : Abort × State :=
  if v ≠ 1 then (Abort.range, s)
  else if s.recState ≠ recReady ∨ s.dev.state ≠ .idle then (Abort.notAllowedNow, s)
  else
    let id := (Config.recordingId (s.nowNs / 1000000000) (s.u Obj.bootCount)).toNat
    let s1 : State := { s with recd := { s.recd with
      superGen := 2, headSequence := 1, nextRecord := 0, wrapCount := 0, extentCount := s.u Obj.managedExtents,
      unrecorded := 0, epochKey := none } }
    let s2 := ((s1.setU Obj.recordingId id).setU Obj.headExtent 0).setU Obj.oldestExtent 0
    let f := s2.superFigures
    (Abort.ok, (s2.recIssue 3 0 (s2.superblock 1 f) 0).recIssue 3 1 (s2.superblock 2 f) 0)

/-- AutoStart at entry to SCAN (R388). -/
def State.recAutoStart (s : State) : State :=
  if s.hasRecorder ∧ s.b Obj.autoStart ∧ s.recState = recReady then s.recStartCmd.2 else s

/-- PFAIL_N falls: no further segment is taken, and the open extent closes (R389). -/
def State.recPfail (s : State) : State :=
  if s.recState < recReady ∨ s.recState = recFault then s
  else
    let s1 : State := { s with recd := { s.recd with powerFail := true, superDue := false } }
    (s1.recClose true).recPowerFlush

/-- PFAIL_N rises again: the recorder enters READY (R389). -/
def State.recPfailEnd (s : State) : State :=
  if !s.recd.powerFail then s
  else ({ s with recd := { s.recd with powerFail := false, superStage := 0 } }).setRecState recReady

/-- RateNow: MB/s over the last second. -/
def State.recRateNow (s : State) : Nat :=
  sumNat ((s.recd.rate.filter (fun e => decide (s.time.ticks < e.1 + tickHz))).map (fun e => e.2)) / 1000000

/-! ### Readback (R390) -/

/-- The refusal of a block read of ReadData, if any. -/
def State.recReadRefusal (s : State) : Abort :=
  let st := s.recState
  if s.u Obj.readLba + s.u Obj.readBlocks > 256 + 512 * s.u Obj.managedExtents then Abort.range
  else if !s.fire.pfailN then Abort.powerFail
  else if st = recNoDrive ∨ st = recInit ∨ st = recFault then Abort.outOfService
  else Abort.ok

end Sys2Proof.Machine
end

