-- ==== Sys2Proof/Machine/Flags.lean ====
section
/-!
DEFINITION. Status and alarm flags: StatusWord, ActiveAlarms, the highest active severity and ALERT_N (R399, R400, Table
DICT-15), and the commands of the event log: closing of entries, the LOG queue and the fault journal (R394 to R398).
-/

namespace Sys2Proof.Machine

/-! ### Alarms (Table FAULT-5) -/

/-- PairState codes (Table FAULT-10). -/
def pairUnpaired : Nat := 0
def pairLinking : Nat := 1
def pairPaired : Nat := 2
def pairLost : Nat := 3
def pairRefused : Nat := 4

/-- The direct-gate bits of FireInhibitCause: all but STATE (Table EMIT-6). -/
def directGate : Nat := 0xFE

/-- The alarm conditions of Table FAULT-5, by bit. -/
def State.alarmSet (s : State) : List Bool :=
  let pathRole (lo n : Nat) (rs : List Nat) : Bool :=
    s.array.paths.any (fun e => decide (lo ≤ e.1 ∧ e.1 < lo + n) && rs.contains e.2.role)
  let throttle := s.u Obj.throttleNow
  [ s.dev.state == .safe && s.ev.safeByFatal,
    s.dev.state.live && decide (s.fire.inhibit &&& directGate ≠ 0),
    pathRole 0 1024 [0x2, 0x3, 0x4],
    pathRole 1024 64 [0xA, 0xB],
    throttle == 1 || throttle == 2,
    throttle == 3,
    s.u Obj.sensorFailed != 0,
    s.time.servo == 3 || s.time.servo == 4,
    s.time.servo == 0 && s.u Obj.timeSource != 0,
    s.u Obj.scaleSource != 1,
    (List.range s.variant.ports).any (fun p => s.u (Obj.portMode p) != 0 && !s.portUp p),
    s.ev.c2LossAt.isSome,
    s.pair.role != 0 && s.pair.phase != pairPaired,
    s.hasRecorder && s.recState == recFault,
    s.u Obj.activeBank == 0,
    s.u Obj.journalDropped != s.ev.droppedSeen ]

/-- Severities of the alarms of Table FAULT-5. -/
def alarmSeverity : List Nat := [4, 3, 2, 2, 2, 3, 3, 2, 1, 1, 2, 2, 3, 3, 2, 2]

/-- ActiveAlarms: no alarm before the end of BOOT. -/
def State.alarmsNow (s : State) : Nat :=
  if !s.dev.booted then 0
  else s.alarmSet.zipIdx.foldl (fun (n : Nat) e => if e.1 then n + 2 ^ e.2 else n) 0

/-- The highest severity among alarm bits, 0 for none (R399). -/
def highestOf (alarms : Nat) : Nat :=
  (alarmSeverity.zipIdx.map (fun e => if bitOf alarms e.2 then e.1 else 0)).foldl max 0

/-- The data of an ALARM record (Table STRM-7). -/
def State.alarmRecord (s : State) : Bytes :=
  s.get Obj.activeAlarms ++ s.get Obj.lastFaultCode ++ s.get Obj.highestSeverity ++ [0, 0, 0]

/-- The event that ends an alarm: the code that started it, with CLEARED (R399). -/
def State.alarmEnd (s : State) (bit : Nat) : State :=
  match s.ev.alarmBy.find? (fun e => e.1 == bit) with
  | none => s
  | some (_, code, source, sev, data) =>
    ({ s with ev := { s.ev with alarmBy := tabDel s.ev.alarmBy bit } }).eventEnter code source sev data true

/-- The alarm's start: its newest event is the one that its end will answer. -/
def State.alarmStart (s : State) (bit : Nat) : State :=
  match s.ev.alarmLast.find? (fun e => e.1 == bit) with
  | none => s
  | some (_, e) => { s with ev := { s.ev with alarmBy := tabPut s.ev.alarmBy bit e } }

/-! ### ALERT_N (R400) -/

/-- Whether ALERT_N is low `t` ticks after the end of BOOT, under a severity's pattern. -/
def alertPattern (sev t : Nat) : Bool :=
  if sev = 4 then true
  else if sev = 3 then decide (t % msTicks 100 < msTicks 50)
  else if sev = 2 then decide (t % tickHz < msTicks 500)
  else false

/-- The period of a severity's pattern, 0 for a steady one. -/
def alertStep (sev : Nat) : Nat := if sev = 3 then msTicks 100 else if sev = 2 then tickHz else 0

/-- Ticks since the end of BOOT. -/
def State.sinceBoot (s : State) : Nat := s.time.ticks - s.dev.bootTick

/-- A new highest severity: a steady pattern acts at once, another at the next boundary of its own period. -/
def State.alertChange (s : State) (sev : Nat) : State :=
  let step := alertStep sev
  if step = 0 then { s with ev := { s.ev with lastSeverity := sev, alertLow := alertPattern sev 0, alertSwitch := none } }
  else
    let at' := s.dev.bootTick + ceilDiv s.sinceBoot step * step
    if at' = s.time.ticks then { s with ev := { s.ev with lastSeverity := sev, alertLow := true, alertSwitch := none } }
    else { s with ev := { s.ev with alertSwitch := some (sev, at') } }

/-- A change of pattern that has come due. -/
def State.alertSwitchDue (s : State) : State :=
  match s.ev.alertSwitch with
  | some (sev, at') => if at' ≤ s.time.ticks then { s with ev := { s.ev with lastSeverity := sev, alertSwitch := none } } else s
  | none => s

/-- ALERT_PERIOD: the next edge of ALERT_N, or the next period boundary at which a waiting pattern takes over. -/
def State.alertPeriod (s : State) : State :=
  if !s.dev.booted then s
  else
    let s1 := s.alertSwitchDue
    let level (s : State) : Bool := alertPattern s.ev.lastSeverity s.sinceBoot
    if s1.ev.alertLow ≠ level s1 then { s1 with ev := { s1.ev with alertLow := level s1 } }
    else
      let half := alertStep s1.ev.lastSeverity / 2
      let edge : Option Nat := if half = 0 then none else some (s1.dev.bootTick + (s1.sinceBoot / half + 1) * half)
      let due : Option Nat := match edge, s1.ev.alertSwitch with
        | some e, some w => some (min e w.2)
        | some e, none => some e
        | none, some w => some w.2
        | none, none => none
      match due with
      | none => s1
      | some t =>
        let s2 := (s1.runTo t).alertSwitchDue
        { s2 with ev := { s2.ev with alertLow := level s2 } }

/-! ### Alarms brought up to date -/

/-- One alarm brought from the old word to the new: its end, or its start. -/
def State.alarmTurn (old now : Nat) (s : State) (k : Nat) : State :=
  if bitOf old k && !bitOf now k then s.alarmEnd k
  else if bitOf now k && !bitOf old k then s.alarmStart k else s

/-- Alarms compared with their conditions: events of those that end, an ALARM record at a change of the word or of the highest
severity, and ALERT_N (R337, R399, R400). -/
def State.refreshAlarms (s : State) : State :=
  if !s.dev.booted then s
  else
    let old := s.u Obj.activeAlarms
    let now := s.alarmsNow
    if old = now then s
    else
      let s1 := (List.range 16).foldl (State.alarmTurn old now) s
      let was := s.u Obj.highestSeverity
      let sev := highestOf now
      let s2 := (s1.setU Obj.activeAlarms now).setU Obj.highestSeverity sev
      let s3 := s2.formState 4 s2.alarmRecord
      if sev = was then s3 else s3.alertChange sev

/-! ### StatusWord (Table DICT-15) -/

/-- Whether this side asserts PAIR_OWN. -/
def State.owner (s : State) : Bool := s.pair.asserts

/-- StatusWord. -/
def State.statusWord (s : State) : Nat :=
  let st := if s.dev.state = .reset then 0x02 else s.dev.state.code
  let bit (k : Nat) (b : Bool) : Nat := 2 ^ k * b2n b
  st * 2 ^ 24 + s.u Obj.highestSeverity * 2 ^ 21 + bit 20 s.owner + bit 19 (s.pair.phase == pairPaired) + bit 18 (s.b Obj.calrefPresent) +
    bit 17 (s.time.servo == 2) + bit 16 (s.time.servo == 3 || s.time.servo == 4) + bit 15 s.dev.compat +
    bit 14 (s.fire.inhibit != 0) + bit 13 (!s.fire.safeOffN) + bit 12 s.grp.pendingKnock.isSome +
    s.dev.nodeId * 2 ^ 8 + s.spi.alive

/-! ### Closing of entries and the LOG queue (R394) -/

/-- A closed entry offered to the LOG queue of 256: the oldest leaves a full queue. -/
def State.logOffer (s : State) (e : EventEntry) : State :=
  if e.severity < s.u Obj.logMinSeverity ∨ !s.b (Obj.strEnable 6) then s
  else
    let q := s.ev.logQueue ++ [e]
    { s with ev := { s.ev with logQueue := if q.length > 256 then q.drop 1 else q } }

/-- A closed entry's RepeatCount and Suppressed rewritten in the journal (R397). -/
def EventState.journalRewrite (ev : EventState) (bootCount : Nat) (e : EventEntry) : EventState :=
  let up (j : JournalEntry) : JournalEntry :=
    if j.entry.number = e.number ∧ j.bootCount = bootCount then { j with entry := e } else j
  { ev with journal := ev.journal.map up, waiting := ev.waiting.map up }

/-- EVENT_ENTRY_CLOSE: the entry that has been open longest closes 10 ms after its time (R394). -/
def State.entryClose (s : State) : State :=
  match s.ev.openEntries with
  | [] => s
  | e :: rest =>
    let s1 := s.runTo (e.openedAt + entryOpen)
    let s2 : State := { s1 with ev := { s1.ev with openEntries := rest } }
    let s3 : State := if e.journaled && s2.mramRefusal == Abort.ok then
        { s2 with ev := s2.ev.journalRewrite (s2.u Obj.bootCount) e } else s2
    s3.logOffer e

/-! ### The journal (R397, R398) -/

/-- JOURNAL_RESUME: MRAM takes writes again: waiting entries are written in order, and entries lost meanwhile are told. -/
def State.journalResume (s : State) : State :=
  if s.mramRefusal ≠ Abort.ok then s
  else
    let js := s.ev.waiting
    let lost := s.ev.lost
    let s1 : State := { s with ev := { s.ev with waiting := [], lost := 0 } }
    let s2 := js.foldl (fun (s : State) j =>
      let (xs, n) := journalPut s.ev.journal j
      ({ s with ev := { s.ev with journal := xs } }).dropJournal n) s1
    let s3 := s2.persist Obj.journalDropped
    if lost = 0 then s3 else s3.raise 0x0E03 0 2 lost

/-- PFAIL_N falls: entries that are still waiting are lost (R398). -/
def State.journalPfail (s : State) : State :=
  let n := s.ev.waiting.length
  ({ s with ev := { s.ev with waiting := [], lost := s.ev.lost + n } }).dropJournal n

/-- JOURNAL_CLEAR: legal in IDLE; the journal is emptied (R398). Its MRAM write obeys the write band. -/
def State.journalClearCmd (s : State) : Abort × State :=
  if s.dev.state ≠ .idle then (Abort.notAllowedNow, s)
  else if s.mramRefusal ≠ Abort.ok then (s.mramRefusal, s)
  else (Abort.ok, { s with ev := { s.ev with journal := [] } })

/-- JOURNALDROPPED_READ: the alarm JOURNAL compares with the value of the last read (R399). -/
def State.journalSeen (s : State) : State := { s with ev := { s.ev with droppedSeen := s.u Obj.journalDropped } }

/-- C2LOSS_ALARM_END: 1 s after the last refusal of a C2 record (R399). -/
def State.c2LossEnd (s : State) : State :=
  match s.ev.c2LossAt with
  | none => s
  | some t =>
    let s1 := s.runTo (t + tickHz)
    { s1 with ev := { s1.ev with c2LossAt := none } }

/-- EventRing: 8192 entries in slot order (Table FAULT-9). -/
def State.eventRingBytes (s : State) : Bytes :=
  (s.ev.ring.foldl (fun (acc : Nat × Bytes) e =>
    (e.1 + 1, acc.2 ++ List.replicate (32 * (e.1 - acc.1)) 0 ++ e.2.bytes)) (0, [])).2 ++
    List.replicate (32 * (ringSize - s.ev.ringFill)) 0

/-- EventCounters (Table FAULT-9). -/
def State.eventCounterBytes (s : State) : Bytes :=
  (List.range 5).flatMap (fun k => leBytes 4 (getAt s.ev.overwritten k 0) ++ leBytes 4 (getAt s.ev.discarded k 0) ++
    leBytes 4 (getAt s.ev.suppressedCount k 0))

/-- Journal (R397): its entries, then zeros. -/
def State.journalBytes (s : State) : Bytes :=
  s.ev.journal.flatMap JournalEntry.bytes ++ List.replicate (40 * (journalSize - s.ev.journal.length)) 0

end Sys2Proof.Machine
end

