-- ==== Sys2Proof/Machine/Transition.lean ====
section
/-!
DEFINITION. Device states (R59 to R63): what leaving one state and entering another does to every unit, with the cancelling of a
pending Knock or commit (R64, R67) and the sending of answers and KNOCK_REPORTs (R50, R51, R68).
-/

namespace Sys2Proof.Machine

/-! ### Answers -/

/-- An answer handed to its transport; over UDP it becomes a frame of the port, with level 3 of R339. -/
def State.sendAnswer (s : State) (a : Answer) : State :=
  let s1 : State := { s with dtp := { s.dtp with answers := s.dtp.answers ++ [a] } }
  match a.transport with
  | .can => s1
  | .udp => s1.service a.port 3 (s1.ethFrame a.port (Config.peerMac a.dstAddr).toNat (some (s1.pcp 6)) 0x0800
      (udpPacket (s1.u Obj.ipNow) a.dstAddr.toNat (s1.u Obj.dtpUdpPort) a.dstPort.toNat a.bytes))

/-- A byte string filled with zeros to `n` bytes. -/
def padTo (n : Nat) (bs : Bytes) : Bytes := bs ++ List.replicate (n - bs.length) 0

/-- The body of a KNOCK_REPORT (Table DICT-12). -/
def State.knockBody (s : State) (k : PendingKnock) (code objects appliedNs : Nat) : Bytes :=
  leBytes 2 code ++ leBytes 2 k.group ++ leBytes 4 k.sequence ++ leBytes 2 s.dev.identity ++ leBytes 2 objects ++ time80 appliedNs

/-- A KNOCK_REPORT sent, kept in LastKnockReport, and emitted as a C0 state record (R68). -/
def State.knockReport (s : State) (k : PendingKnock) (code objects appliedNs : Nat) : State :=
  let body := s.knockBody k code objects appliedNs
  let key := s.get Obj.knockKey
  let msg : Bytes := match k.transport with
    | .udp =>
      let m := [0x01, 0x21] ++ leBytes 2 k.sequence ++ leBytes 2 0 ++ leBytes 2 20 ++ leBytes 4 0 ++ body
      m ++ (hmacSha256 key m).take 16
    | .can =>
      let m := [0x21, BitVec.ofNat 8 k.sequence, 0, BitVec.ofNat 8 body.length] ++ leBytes 4 0 ++ body
      padTo 48 (m ++ (hmacSha256 key m).take 8)
  ((s.put Obj.lastKnockReport body).formState 3 (body ++ [0, 0])).sendAnswer
    { transport := k.transport, port := k.port, dstAddr := k.srcAddr, dstPort := k.srcPort, bytes := msg }

/-- A refused Knock: its report, and the Warning (R66, R68, Table FAULT-3). -/
def State.knockRefused (s : State) (k : PendingKnock) (code : Nat) : State :=
  (s.knockReport k code 0 0).raise 0x0103 0 2 code

/-- A pending Knock cancelled by a state change (R67). -/
def State.knockCancel (s : State) : State :=
  match s.grp.pendingKnock with
  | none => s
  | some k => ({ s with grp := { s.grp with pendingKnock := none } }).knockRefused k Abort.knockCancelled

/-! ### Ownership of a pair (R407, R408) -/

/-- PAIR_OWN and GPIO0 asserted. -/
def State.pairAssert (s : State) : State :=
  ({ s with pair := { s.pair with asserts := true, gpio0 := true, netReleased := false, claimSent := false, claimAcked := false } }).setB Obj.owner true

/-- PAIR_OWN and GPIO0 released. -/
def State.pairDrop (s : State) : State :=
  ({ s with pair := { s.pair with asserts := false, gpio0 := false, netReleased := true, releasedAt := s.time.ticks } }).setB Obj.owner false

/-- The owner of a pair sends RELEASE and releases PAIR_OWN (R408). -/
def State.pairRelease (s : State) : State :=
  if s.pair.role = 0 ∨ !s.pair.asserts then s else (s.pairSend 9 []).pairDrop

/-! ### Leaving and entering -/

/-- HOLD to SCAN and SCAN to HOLD (R64, R67). -/
def pausing (old new : DevState) : Bool := (old == .scan && new == .hold) || (old == .hold && new == .scan)

/-- What leaving the old state ends: a pending Knock, a waiting commit, a zero run, captures, the columns, a full calibration, the direct
gates of the comparators, GDRV, and the ownership of a pair. -/
def State.leaveState (s : State) (new : DevState) : State :=
  let old := s.dev.state
  let s1 := if pausing old new then s
    else
      let s0 := s.knockCancel
      { s0 with grp := { s0.grp with commitWaiting := none } }
  let s2 := if old = .scan then s1.zeroAbort else s1
  let s3 : State := if old.hasColumns && !new.hasColumns then
      let t := s2.closeCaptures (fun _ _ => true)
      { t with scan := { t.scan with running := false, pendingCmd := none } }
    else { s2 with scan := { s2.scan with pendingCmd := none } }
  let s4 := if old = .scan then s3.stopEngines else s3
  let s5 := if old = .calibrate ∧ s4.cal.fullRun then s4.fullCalDrop else s4
  let s6 : State := if old.live && !new.live then
      let t := s5.gdrvLow
      { t with charge := { t.charge with gdrvGate := false, ao3Gate := false, csRun := 0 } }
    else s5
  let s7 := if new = .safe ∨ new = .reset ∨ new = .idle then s6.pairRelease else s6
  if (old = .scan ∨ old = .hold) ∧ new ≠ .scan ∧ new ≠ .hold then s7.inhibitOff inhScanValid else s7

/-- What entering the new state starts: GDRV, the generators and the frame count, the STATE inhibit and the SCANVALID bit, full
calibration, the recorder's AutoStart, and the modes of the loops. -/
def State.arriveState (s : State) (old : DevState) : State :=
  let new := s.dev.state
  let s1 := if new.live && !old.live then s.gdrvStart else s
  let first := decide (new = .scan ∧ old ≠ .hold)
  let s2 : State := if first then
      let t := s1.loadGenerators
      { t with scan := { t.scan with frame := 0, frameStarted := false, columnsDone := 0 } }
    else s1
  let s3 := if new = .scan then s2.inhibitOff inhState else s2.inhibitOn inhState
  let kept := decide (new = .armed ∧ (old = .scan ∨ old = .hold))
  let s4 := s3.loopsFollow kept
  let s5 := if new = .scan ∧ !s4.fire.scanValid then s4.inhibitOn inhScanValid else s4
  let s6 := if new = .calibrate then s5.fullCalStart else s5
  if new = .scan then s6.recAutoStart else s6

/-- A transition: everything that leaving and entering does, State, the C0 state record with the command and the cause event, and the
Debug event (R63, Table STRM-7, Table FAULT-3). -/
def State.enterState (s : State) (new : DevState) (command cause : Nat) : State :=
  let old := s.dev.state
  if old = new then s
  else
    let s1 := s.leaveState new
    let s2 : State := { s1 with dev := { s1.dev with state := new },
                                ev := { s1.ev with safeByFatal := decide (new = .safe ∧ command = 0 ∧ s1.ev.fatal ≠ []) } }
    let s3 := (s2.arriveState old).setU Obj.state new.code
    let s4 := if new = .reset ∨ new = .boot then s3
      else s3.formState 2 ([BitVec.ofNat 8 old.code, BitVec.ofNat 8 new.code] ++ leBytes 2 command ++ leBytes 2 cause ++ [0, 0])
    s4.raise 0x0102 command 0 (old.code + 256 * new.code)

/-- The states that a Fatal event takes to SAFE at once (R63). BOOT ends in SAFE by the rules of its own end. -/
def DevState.safeNow : DevState → Bool
  | .reset | .boot | .safe => false
  | _ => true

/-- The entry to SAFE that a Fatal event has asked for (R63, R393). In SAFE already, the event's cause stands with the others. -/
def State.safeIfWanted (s : State) : State :=
  match s.ev.safeWanted with
  | none => s
  | some code =>
    let s1 : State := { s with ev := { s.ev with safeWanted := none } }
    if s1.dev.state.safeNow then s1.enterState .safe 0 code
    else if s1.dev.state = .safe then { s1 with ev := { s1.ev with safeByFatal := true } }
    else s1

/-- FULL_CAL_DONE in CALIBRATE, once no path is left: the results and the entry to IDLE, with cause 0, or 0x0703 when they could not be
stored (R63, R276). -/
def State.fullCalEnd (s : State) : State :=
  if s.dev.state ≠ .calibrate ∨ !s.fullCalReady then s
  else s.fullCalDone.enterState .idle 0 (if s.mramRefusal = Abort.ok then 0 else 0x0703)

/-- The end of a command: a Fatal event's entry to SAFE, a change of stored roles put up for the bank (R105), alarms, and the records
of the command closed as one fabric cycle. -/
def State.settle (s : State) : State :=
  let s1 := s.safeIfWanted
  let s2 : State := if s1.array.rolesDirty then
      ({ s1 with array := { s1.array with rolesDirty := false } }).wantBank 7 else s1
  s2.refreshAlarms.closeGroup

end Sys2Proof.Machine
end

