-- ==== Sys2Proof/Machine/Pair.lean ====
section
/-!
DEFINITION. The redundant pair (R402 to R412): HELLO and heartbeats, claims and releases, takeover, time from the partner, and
the frames that mirror columns and loops. The spec names what each Rilman frame carries and not where: the places are the model's
(log entry 31).
-/

namespace Sys2Proof.Machine

/-- PAIR_OWN has to stay released for 60 µs (R407, R409). -/
def ownWait : Nat := usTicks 60

/-- PairState set (Table FAULT-10). -/
def State.setPhase (s : State) (k : Nat) : State := ({ s with pair := { s.pair with phase := k } }).setU Obj.pairState k

/-- An instant on the link: TIME80, then a 16-bit fraction. -/
def State.linkTime (s : State) (t : Stamp) : Bytes :=
  let n := s.nativeAt t
  time80 (n / 4294967296) ++ leBytes 2 (n % 4294967296 / 65536)

/-- The stamp at which native time has the value of an instant on the link, at the increment in force (R304). -/
def State.stampOfLink (s : State) (bs : Bytes) : Stamp :=
  let n : Int := ((ofTime80 bs * 4294967296 + numAt 10 2 bs * 65536 : Nat) : Int)
  let inc : Nat := max 1 s.time.increment
  ((s.nowStamp : Int) + roundDivInt ((n - s.time.native) * 320) inc).toNat

/-- Whether a frame is taken: the link up and a role set; a failed CRC drops it and counts (R404). -/
def State.pairTake (s : State) (f : PairFrame) (k : State → State) : State :=
  if s.pair.role = 0 ∨ !s.pair.linkUp then s
  else if f.fcsGood then k s
  else s.bump Obj.linkErrorCount 1

/-! ### HELLO (R402, R404) -/

/-- The body of a HELLO: role, identity, part, variant, stepping. -/
def State.helloBody (s : State) : Bytes :=
  [BitVec.ofNat 8 s.pair.role] ++ leBytes 2 s.dev.identity ++ s.get Obj.partNumber ++ s.get Obj.variantCode ++ s.get Obj.stepping

/-- The first mismatch of a HELLO (R402), by the number that Config.pairReason takes. -/
def State.helloMismatch (s : State) (bs : Bytes) : Option Nat :=
  let id := numAt 1 2 bs
  let want := s.u Obj.partnerIdentity
  if numAt 0 1 bs + s.pair.role ≠ 3 then some 0
  else if id = s.dev.identity then some 1
  else if slice 3 2 bs ≠ s.get Obj.partNumber then some 2
  else if slice 5 1 bs ≠ s.get Obj.variantCode then some 3
  else if slice 6 1 bs ≠ s.get Obj.stepping then some 4
  else if want ≠ 0 ∧ want ≠ id then some 5
  else none

/-- The pair formed: side B takes its time from side A, through REQUALIFY when it had gone over to its own source (R307, R412). -/
def State.pairFormed (s : State) (id : Nat) : State :=
  let again := s.pair.lostOnce
  let s1 := ({ s with pair := { s.pair with partnerIdentity := id, lostOnce := false } }).setPhase pairPaired
  if s1.pair.role = 2 then
    let s2 : State := { s1 with time := { s1.time with pairSource := true } }
    if again ∧ s2.time.servo ≠ 0 then s2.enterRequalify (twosOf 64 s2.time.meanDelay) else s2
  else s1

/-- HELLO: checked; the pair is formed, or refused with 0x0D03 (R402). -/
def State.hello (s : State) (f : PairFrame) : State :=
  s.pairTake f (fun s =>
    match s.helloMismatch f.payload with
    | some k => (s.setPhase pairRefused).raise 0x0D03 0 3 (Config.pairReason k).toNat
    | none =>
      let s1 : State := { s with pair := { s.pair with lastHello := s.time.ticks } }
      if s1.pair.phase = pairPaired then s1
      else
        let s2 : State := { s1 with pair := { s1.pair with lastHeartbeat := s1.time.ticks, missRun := 0 } }
        s2.pairFormed (numAt 1 2 f.payload))

/-- HELLO_SEND: 1 ms after the last, until PAIRED (Table FAULT-7). -/
def State.helloSend (s : State) : State :=
  if s.pair.role = 0 ∨ !s.pair.linkUp ∨ s.pair.phase = pairPaired then s
  else
    let s1 := s.runTo (s.pair.helloSentAt + msTicks 1)
    ({ s1 with pair := { s1.pair with helloSentAt := s1.time.ticks } }).pairSend 1 s1.helloBody

/-! ### Takeover (R409, R410) -/

/-- The newest mirrored set-point of L0 to L2. -/
def State.mirrorNewest (s : State) : Nat := ((List.range 3).map (fun n => (s.mirror n).asOf)).foldl max 0

/-- The raster of the owner taken on in the phase of its last mirrored column; elsewhere the trajectory begins now. -/
def State.rasterTaken (s : State) : Stamp :=
  if s.u Obj.mirrorType ≠ 0 ∨ !s.scan.running then s.nowStamp
  else
    let j := s.galvoTraj 0
    match (List.range j.cols).find? (fun i => decide (j.index i = s.scan.index) && decide (j.reverse i = s.scan.reverse)) with
    | none => s.nowStamp
    | some i => (ratRound ((s.scan.boundary : Rat) - j.origin - j.start i)).toNat

/-- The last mirrored owner code and set-points loaded into L0 to L2, so that each makes its Hinge from them (R223, R409). -/
def State.loadMirror (s : State) : State :=
  (List.range 3).foldl (fun (s : State) n =>
    let m := s.mirror n
    s.setLoop n { s.loop n with r := m.r, v := m.v, a := m.a, code := m.code }) s

/-- Takeover with its cause (R409): a fresh mirror leads to SCAN, one older than 100 µs to ARMED with START to follow (R410). -/
def State.takeover (s : State) (cause : Nat) : State :=
  if s.dev.state ≠ .standby then s
  else
    let stale := decide (s.time.ticks > s.mirrorNewest + usTicks 100)
    let s1 := ((s.pairAssert.bump Obj.takeoverCount 1).put Obj.lastTakeoverTime (time80 s.nowNs)).setU Obj.lastTakeoverCause cause
    let s2 := s1.raise 0x0D01 0 2 cause
    let s3 : State := { s2 with pair := { s2.pair with releaseSeen := false, startWhenReady := stale, columns := [], configs := [],
                                                       synced := false } }
    if stale then s3.enterState .armed 0 0x0D01
    else
      let t0 := s3.rasterTaken
      let s4 := s3.loadMirror.enterState .scan 0 0x0D01
      { s4 with scan := { s4.scan with trackAt := some t0, transomFrom := s4.nowStamp, transomTo := s4.nowStamp,
                                       columnEnd := s4.nowStamp } }

/-- START that the new owner issues itself when ArmReady becomes 1 (R410). -/
def State.startIfReady (s : State) : State :=
  if !s.pair.startWhenReady then s
  else if s.dev.state ≠ .armed then { s with pair := { s.pair with startWhenReady := false } }
  else if s.armReady then
    ({ s with pair := { s.pair with startWhenReady := false } }).enterState .scan 0x0002 0
  else s

/-! ### The link (R404, R412) -/

/-- The Rilman link goes down (R404, R325, R409): side B holds its time, and a pair that was formed reports 0x0D02 unless the loss itself
hands over the ownership. -/
def State.rilmanDown (s : State) (report : Bool) : State :=
  if s.pair.role = 0 ∨ !s.pair.linkUp then s
  else
    let paired := decide (s.pair.phase = pairPaired)
    let s1 : State := { s with pair := { s.pair with linkUp := false, synced := false, columns := [], configs := [], claimSent := false,
                                                     claimAcked := false } }
    let s2 := s1.setPhase (if paired ∨ s.pair.phase = 3 then pairLost else pairUnpaired)
    let s3 := if s2.pair.role = 2 ∧ s2.time.pairSource ∧ s2.time.servo ≠ 0 ∧ s2.time.servo ≠ 3 then s2.enterHoldover else s2
    if paired ∧ report then s3.raise 0x0D02 0 3 pairLost else s3

/-- PARTNER_LOST: 1 ms without HELLO and HEARTBEAT while PAIR_OWN is released (R412); side B goes over to its configured source (R325). -/
def State.partnerLost (s : State) : State :=
  if s.pair.role = 0 ∨ !s.pair.netReleased ∨ (s.pair.phase ≠ pairPaired ∧ s.pair.phase ≠ pairLost) then s
  else
    let due := max (max s.pair.lastHello s.pair.lastHeartbeat) s.pair.releasedAt + msTicks 1
    let s1 := s.runTo due
    let s2 := ({ s1 with pair := { s1.pair with lostOnce := true } }).setPhase pairUnpaired
    let s3 := s2.raise 0x0D04 0 2 0
    if s3.time.pairSource then
      let s4 : State := { s3 with time := { s3.time with pairSource := false } }
      if s4.u Obj.timeSource = 0 then s4.setServo 0
      else if s4.time.servo ≠ 0 then s4.enterRequalify (twosOf 64 s4.time.meanDelay) else s4
    else s3

/-! ### Heartbeats (R404, R408, R409) -/

/-- The body of a HEARTBEAT: state, owner flag, column count, mirror sequence. -/
def State.heartbeatBody (s : State) : Bytes :=
  [BitVec.ofNat 8 s.dev.state.code, BitVec.ofNat 8 (b2n s.owner)] ++ leBytes 4 s.scan.columnNo ++ leBytes 4 s.pair.mirrorSeq

/-- HEARTBEAT_SEND: every 10 µs while a check-in lies within the last 10 µs (R408). -/
def State.heartbeatSend (s : State) : State :=
  if s.pair.role = 0 ∨ !s.pair.linkUp then s
  else
    let s1 := s.runTo (s.pair.heartbeatSentAt + usTicks 10)
    let s2 : State := { s1 with pair := { s1.pair with heartbeatSentAt := s1.time.ticks } }
    let alive := match s2.pair.checkInAt with
      | none => true
      | some t => decide (s2.time.ticks ≤ t + usTicks 10)
    if alive then s2.pairSend 2 s2.heartbeatBody else s2

/-- HEARTBEAT_MISS: a heartbeat missed at 2 µs past its due time; the third in a row puts the link down, and in STANDBY with PAIR_OWN
released it is a takeover (R404, R409). A link that is down already brings no heartbeat, so misses count on it too. -/
def State.heartbeatMiss (s : State) : State :=
  if s.pair.role = 0 ∨ (s.pair.phase ≠ pairPaired ∧ s.pair.phase ≠ pairLost) then s
  else
    let s1 := s.runTo (s.pair.lastHeartbeat + (s.pair.missRun + 1) * usTicks 10 + usTicks 2)
    let run := s1.pair.missRun + 1
    let s2 := ({ s1 with pair := { s1.pair with missRun := run } }).bump Obj.heartbeatMissCount 1
    if run < 3 then s2
    else
      let takes := s2.dev.state == .standby && s2.pair.netReleased
      let s3 := s2.rilmanDown (!takes)
      if takes then s3.takeover 2 else s3

/-! ### Ownership (R407 to R409) -/

/-- PAIR_OWN_RELEASE: the net goes released; a follower that has received RELEASE, or missed three heartbeats, takes over (R409). -/
def State.pairOwnRelease (s : State) : State :=
  if s.pair.role = 0 ∨ s.pair.asserts ∨ s.pair.netReleased then s
  else
    let s1 : State := { s with pair := { s.pair with netReleased := true, releasedAt := s.time.ticks } }
    if s1.pair.releaseSeen then s1.takeover 1
    else if s1.pair.missRun ≥ 3 then s1.takeover 2
    else s1

/-- PAIR_OWN_TIMEOUT: the net has been released for 60 µs without a break (R409). -/
def State.pairOwnTimeout (s : State) : State :=
  if s.pair.role = 0 ∨ !s.pair.netReleased ∨ s.dev.state ≠ .standby then s
  else (s.runTo (s.pair.releasedAt + ownWait)).takeover 3

/-- RELEASE from the owner (R408, R409). -/
def State.releaseFrame (s : State) (f : PairFrame) : State :=
  s.pairTake f (fun s =>
    let s1 : State := { s with pair := { s.pair with releaseSeen := true } }
    if s1.pair.netReleased then s1.takeover 1 else s1)

/-- CLAIM: refused while this side owns or has a CLAIM of its own outstanding, save that side A wins when both claim at once; else
answered with CLAIM_ACK (R407). -/
def State.claim (s : State) (f : PairFrame) : State :=
  s.pairTake f (fun s =>
    if s.pair.asserts ∨ (s.pair.claimSent ∧ s.pair.role = 1) then s
    else ({ s with pair := { s.pair with claimSent := false, claimAcked := false } }).pairSend 8 [1])

/-- CLAIM_ACK: the outstanding CLAIM is answered (R407). -/
def State.claimAck (s : State) (f : PairFrame) : State :=
  s.pairTake f (fun s => { s with pair := { s.pair with claimAcked := s.pair.claimAcked || s.pair.claimSent } })

/-- Whether PAIR_OWN lets ARM own (R407): a device without a role always may. -/
def State.armMayOwn (s : State) : Bool :=
  decide (s.pair.role = 0) ||
    (s.pair.netReleased && decide (s.pair.releasedAt + ownWait ≤ s.time.ticks) && (!s.pair.linkUp || s.pair.claimAcked))

/-- A CLAIM sent by an ARM that may not own yet for want of its answer (R407). -/
def State.claimSend (s : State) : State :=
  if s.pair.role = 0 ∨ !s.pair.linkUp ∨ s.pair.claimSent then s
  else ({ s with pair := { s.pair with claimSent := true } }).pairSend 8 [0]

/-- LIVENESS_RELEASE: 15 µs without a check-in: PAIR_OWN and GPIO0 are released, every FIRE output is forced idle, and 0x0D05 is
Fatal (R408). -/
def State.livenessRelease (s : State) : State :=
  if s.pair.role = 0 ∨ !s.pair.asserts then s
  else
    let s1 : State := { s with pair := { s.pair with checkInAt := some (s.time.ticks - usTicks 15) } }
    s1.pairDrop.cutPulses.fatal 0x0D05 0 0

/-! ### Time from side A (R324) -/

/-- TIME_EXCHANGE: the four instants of an exchange in ns, A's sending, B's receipt, B's sending, A's receipt, then B's last offset.
Side B takes the offset and the link delay and reports; side A keeps the report. -/
def State.timeExchange (s : State) (f : PairFrame) : State :=
  s.pairTake f (fun s =>
    let t (k : Nat) : Int := intAt (8 * k) 8 f.payload
    if s.pair.role = 1 then s.setI Obj.pairTimeOffset (intAt 32 4 f.payload)
    else if !s.time.pairSource then s
    else
      let o := floorDivInt ((t 1 - t 0) - (t 3 - t 2)) 2
      let m := floorDivInt ((t 1 - t 0) + (t 3 - t 2)) 2
      let s1 := (s.delayMeasured m).servoOffset o
      let o32 := clamp32 o
      (s1.setI Obj.pairTimeOffset o32).pairSend 3 (slice 0 32 (f.payload ++ List.replicate 32 0) ++ leBytes 4 (twosOf 32 o32)))

/-! ### LOOP frames (R223, R406) -/

/-- The body of a LOOP frame: loop, mode, code, then r, v and a. -/
def State.loopBody (s : State) (n : Nat) : Bytes :=
  let l := s.loop n
  [BitVec.ofNat 8 n, BitVec.ofNat 8 l.mode.code] ++ leBytes 2 l.code ++ leBytes 4 l.r ++ leBytes 4 l.v ++ leBytes 4 l.a

/-- The set-points that a LOOP frame carries. -/
def loopOfBody (bs : Bytes) (now : Nat) : MirrorLoop :=
  { r := numAt 4 4 bs, v := numAt 8 4 bs, a := numAt 12 4 bs, code := numAt 2 2 bs, mode := numAt 1 1 bs, asOf := now }

/-- The owner's LOOP frame after a sample of L0 to L2 (Table FAULT-7). -/
def State.loopFrameSend (s : State) (n : Nat) : State :=
  if n < 3 ∧ s.pair.role ≠ 0 ∧ s.pair.asserts ∧ s.dev.state.live then s.pairSend 5 (s.loopBody n) else s

/-- LOOP_FRAME: the follower's shadow loop takes its set-points. -/
def State.loopFrame (s : State) (f : PairFrame) : State :=
  s.pairTake f (fun s =>
    let n := numAt 0 1 f.payload
    if n < 3 then { s with pair := { s.pair with mirror := setAt s.pair.mirror n (loopOfBody f.payload s.time.ticks) } } else s)

/-! ### COLUMN frames (R405, R406) -/

/-- The slots of a column run ahead, for what the governor and the collisions will do with them. -/
def State.ahead (s : State) : Nat → State
  | 0 => s
  | n + 1 =>
    let cand := (List.range 16).filterMap (fun b =>
      let x := s.bank b
      if x.nextSlot < x.shots ∧ !x.dropped then
        some (b, if x.nextSlot = 0 then x.nextEdge else x.nextEdge + genSpacing (genNext x.x) x.base x.dither)
      else none)
    match cand with
    | [] => s
    | c :: cs =>
      let best := cs.foldl (fun (a : Nat × Nat) e => if e.2 < a.2 then e else a) c
      (s.slotEnqueue best.1).ahead n

/-- The slots of a bank that moved or were suppressed, from where they were planned and where they went: x, the edge before, the slot. -/
def exceptionsOf (x : Bank) (went : List (Nat × Nat)) (period : Nat) : Nat → Nat → Nat → Nat → List (Nat × Option Nat)
  | 0, _, _, _ => []
  | n + 1, g, last, i =>
    let g1 := if i = 0 then g else genNext g
    let edge := if i = 0 then x.nextEdge else last + genSpacing g1 x.base x.dither
    if period ≠ 0 ∧ i % period = period - 1 then exceptionsOf x went period n g1 edge (i + 1)
    else match went.find? (fun e => e.1 == i) with
      | none => (i, none) :: exceptionsOf x went period n g1 edge (i + 1)
      | some (_, f) =>
        let rest := exceptionsOf x went period n g1 f (i + 1)
        if f = edge then rest else (i, some f) :: rest

/-- The body of a COLUMN frame: instant, j, direction, p, then for each bank the generator at slot 0, the slot-0 edge after the boundary,
shots, width code, passed slots, the number of exceptions and the exceptions, each a slot and its edge after the boundary or
FFFFFFFF for a suppressed one. -/
def State.columnFrameBody (s : State) : Bytes :=
  let x := s.scan
  let total := sumNat ((List.range 16).map (fun b => (s.bank b).shots))
  let fin' := s.ahead total
  let period := s.u Obj.mantisMutePeriod
  let base := x.boundary / 4
  s.linkTime x.boundary ++ leBytes 2 x.index ++ [BitVec.ofNat 8 (b2n x.reverse), 0] ++ leBytes 4 (twosOf 32 x.position) ++
    (List.range 16).flatMap (fun b =>
      let k := s.bank b
      let went := (((fin'.bank b).queue.drop k.queue.length).filter (fun q => !q.muted)).map (fun q => (q.slot, q.edge))
      let exs := exceptionsOf k went period k.shots k.x k.nextEdge 0
      leBytes 4 k.x ++ leBytes 4 (k.nextEdge - base) ++ leBytes 2 k.shots ++ [BitVec.ofNat 8 k.width, 0] ++
        leBytes 2 went.length ++ leBytes 2 exs.length ++
        exs.flatMap (fun e => leBytes 2 e.1 ++ leBytes 4 (match e.2 with | some f => f - base | none => 0xFFFFFFFF)))

/-- The owner's COLUMN frame at a boundary of SCAN or HOLD (Table FAULT-7). -/
def State.columnFrameSend (s : State) : State :=
  if s.pair.role ≠ 0 ∧ s.pair.asserts ∧ s.pair.linkUp ∧ s.dev.state.hasColumns then s.pairSend 4 s.columnFrameBody else s

/-- COLUMN_FRAME: kept for its boundary; one that comes after its boundary is late, and MirrorLag holds the largest lateness (R406). -/
def State.columnFrame (s : State) (f : PairFrame) : State :=
  s.pairTake f (fun s =>
    if s.dev.state ≠ .standby ∨ !s.pair.synced then s
    else
      let s0 : State := { s with pair := { s.pair with mirrorSeq := f.sequence.toNat } }
      let t := s0.stampOfLink f.payload
      if t < s0.nowStamp then
        let lag := s0.nowNs - s0.nsAt t
        if lag > s0.u Obj.mirrorLag then s0.setU Obj.mirrorLag lag else s0
      else { s0 with pair := { s0.pair with columns := s0.pair.columns ++ [(t, f.payload)] } })

/-- One bank of a COLUMN frame at an offset: the bank as the frame places it, its passed slots, and where the next bank stands. -/
def State.bankOfFrame (s : State) (b : Nat) (bs : Bytes) (off base : Nat) : Bank × Nat × Nat :=
  let n := numAt (off + 14) 2 bs
  let progs := (List.range 4).map (fun e => s.get (progObj e))
  let e := match progs.find? (fun p => progEnabled p && bitOf (progMask p) b) with
    | some p => progEntry p b
    | none => []
  let exs := (List.range n).map (fun k =>
    let o := off + 16 + 6 * k
    let v := numAt (o + 2) 4 bs
    (numAt o 2 bs, if v = 0xFFFFFFFF then none else some (base + v)))
  let shots := numAt (off + 8) 2 bs
  let np := (shots - mutedBelow (s.u Obj.mantisMutePeriod) shots) * s.u Obj.integrationColumns
  let x := s.bank b
  ({ x with x := numAt off 4 bs, nextEdge := base + numAt (off + 4) 4 bs, shots := shots, width := numAt (off + 10) 1 bs,
            base := numAt 2 2 e, dither := numAt 4 2 e, nextSlot := 0, dropped := false, exceptions := exs, sampled := false,
            planned := if shots = 0 then x.planned else tabPut x.planned s.scan.interval np },
   numAt (off + 12) 2 bs, off + 16 + 6 * n)

/-- The banks of a COLUMN frame taken at their boundary, and the governor charged with the passed slots (R406). -/
def State.banksOfFrame (s : State) (bs : Bytes) : State :=
  let base := s.scan.boundary / 4
  let s0 : State := { s with fire := { s.fire with
    cell := s.cellOf s.scan.position, doseV := max (s.u Obj.chargeSetpoint) (s.u Obj.chargeMeasured) } }
  ((List.range 16).foldl (fun (a : State × Nat) b =>
    let (x, passed, off) := a.1.bankOfFrame b bs a.2 base
    let s1 := a.1.setBank b x
    (if passed = 0 then s1 else s1.govCharge b (passed * s1.doseOf b x.width), off)) (s0, 20)).1

/-- The boundary that the first waiting COLUMN frame places, with its frame. -/
def State.mirroredBdy (s : State) : Option (Bdy × Bytes) :=
  match s.pair.columns with
  | [] => none
  | (t, bs) :: _ =>
    some ({ t := t, stop := t, index := numAt 12 2 bs, reverse := numAt 14 1 bs != 0,
            place := (intAt 16 4 bs : Rat), first := false }, bs)

end Sys2Proof.Machine
end

