-- ==== Sys2Proof/Machine/Power.lean ====
section
/-!
DEFINITION. Reset, clocks, boot, image slots and the level pins (R6, R22 to R24, R40, R41, R157, R279, R389, R398, R414 to R427,
R453).
-/

namespace Sys2Proof.Machine

/-! ### Entry to reset (R416, R417) -/

/-- The state that RESET leaves: all that is volatile as after power-on; MRAM with its slots, banks and journal stays. -/
def State.cleared (s : State) : State :=
  { State.reset with
    pending := s.pending, fresh := s.fresh, variant := s.variant, mram := s.mram,
    dev := { Device.reset with resetNLow := s.dev.resetNLow, porActive := s.dev.porActive, railsLow := s.dev.railsLow,
                               slotA := s.dev.slotA, slotB := s.dev.slotB },
    ev := { EventState.reset with journal := s.ev.journal },
    cal := { CalState.reset with slotA := s.cal.slotA, slotB := s.cal.slotB },
    pair := { PairState.reset with out := s.pair.out } }

/-- RESET entered with its cause: the owner of a pair releases, writes in progress are abandoned as when PFAIL_N falls, and the cause is
stored (R408, R417, R430). -/
def State.enterReset (s : State) (cause : Nat) : State :=
  let s1 := s.journalPfail.pairRelease
  let s2 : State := { s1 with mram := Store.put s1.variant s1.mram Obj.resetCause [BitVec.ofNat 8 cause] }
  s2.cleared

/-- RESET_N_ASSERT: a low level of `ns`: shorter than 1 µs never resets, 2 µs or longer always does, and between the two a free value
decides (R416). -/
def State.resetNAssert (s : State) (ns : Nat) : State :=
  let low (s : State) : State := { s with dev := { s.dev with resetNLow := true } }
  let go (s : State) : State := if s.dev.state = .reset then low s else low (s.enterReset 1)
  if ns < 1000 then s
  else if ns ≥ 2000 then go s
  else
    let (x, s1) := s.draw
    if x % 2 = 1 then go s1 else s1

/-- The rails that the power-on reset watches (R416). -/
def railWatched : Rail → Bool
  | .vddCore | .vddTdc | .vddSram | .vdda18 | .vddSerdes => true
  | .vddio | .vddQuench | .vspad => false

/-- RAIL_UNDERVOLTAGE: a watched rail below 90 % starts the power-on reset in any state (R416). -/
def State.railUndervoltage (s : State) (r : Rail) : State :=
  if !railWatched r then s
  else
    let s1 := s.enterReset 0
    { s1 with dev := { s1.dev with porActive := true, railsLow := if s1.dev.railsLow.contains r then s1.dev.railsLow
                                                                  else s1.dev.railsLow ++ [r] } }

/-- POWER_ON_RESET_END: 2 ms after the last watched rail has risen (R416). -/
def State.powerOnResetEnd (s : State) : State := { s with dev := { s.dev with porActive := false, railsLow := [] } }

/-! ### Images and slots (R422 to R426) -/

/-- Header fields of an image (Table PWR-5). -/
def imageSecurity (bs : Bytes) : Nat := numAt 12 2 bs
def imageVersion (bs : Bytes) : Nat := numAt 8 4 bs
def imagePayload (bs : Bytes) : Nat := numAt 16 4 bs

/-- The SecurityVersion of what a slot holds. -/
def Image.security : Image → Nat
  | .empty => 0
  | .factory => Config.factorySecurity.toNat
  | .written bs => imageSecurity bs

/-- The FirmwareVersion of what a slot holds. -/
def Image.version : Image → Nat
  | .empty => 0
  | .factory => Config.factoryFirmware.toNat
  | .written bs => imageVersion bs

/-- The PayloadLength of what a slot holds. -/
def Image.payload : Image → Nat
  | .empty => 0
  | .factory => Config.factoryPayload.toNat
  | .written bs => imagePayload bs

/-- The checks of R422 on an image's bytes. -/
def State.imageGood (s : State) (bs : Bytes) : Bool :=
  let len := imagePayload bs
  let part := if s.u Obj.partNumber = 0x6420 then 0 else 1
  numAt 0 4 bs == 0x4D494C46 && numAt 4 2 bs == 1 && numAt 6 2 bs == 128 && decide (imageSecurity bs ≥ s.u Obj.minSecurityVersion) &&
    bitOf (numAt 14 2 bs) part && decide (numAt 14 2 bs < 4) && decide (1 ≤ len ∧ len ≤ 3145600) && decide (bs.length = 128 + len) &&
    numAt 20 12 bs == 0 && decide (sha256 (bs.drop 128) = slice 32 32 bs) && Config.signatureOk (bs.take 64) (slice 64 64 bs)

/-- Whether a slot is a candidate for boot (R423). The factory image passes the checks that do not depend on MinSecurityVersion. -/
def State.candidate (s : State) (x : Slot) : Bool :=
  (x.state == 1 || x.state == 2) &&
    match x.image with
    | .empty => false
    | .factory => decide (s.u Obj.minSecurityVersion ≤ Config.factorySecurity.toNat)
    | .written bs => s.imageGood bs

/-- The slot of a number: 1 A, 2 B. -/
def State.slot (s : State) (k : Nat) : Slot := if k = 2 then s.dev.slotB else s.dev.slotA

def State.setSlot (s : State) (k : Nat) (x : Slot) : State :=
  if k = 2 then { s with dev := { s.dev with slotB := x } } else { s with dev := { s.dev with slotA := x } }

/-- The slot chosen at boot, 0 for recovery, with trial counts and failed trials set down (R421, R423, R424). -/
def State.chooseSlot (s : State) (safe : Bool) : Nat × State :=
  let ready (k : Nat) : Bool := s.candidate (s.slot k)
  let trial := if safe ∨ !s.fire.pfailN then none
    else [1, 2].find? (fun k => ready k && (s.slot k).state == 1 && (s.slot k).trials == 0)
  let spent (s : State) : State := [1, 2].foldl (fun (s : State) k =>
    let x := s.slot k
    if x.state = 1 ∧ x.trials ≥ 1 then s.setSlot k { x with state := 3 } else s) s
  match trial with
  | some k => (k, (spent s).setSlot k { s.slot k with trials := 1 })
  | none =>
    let sure := [1, 2].filter (fun k => ready k && (s.slot k).state == 2)
    match sure with
    | [] => (0, spent s)
    | k :: ks => (ks.foldl (fun (b : Nat) j => if (s.slot j).generation > (s.slot b).generation then j else b) k, spent s)

/-- SlotStatus (Table PWR-8). -/
def State.slotStatus (s : State) : Bytes :=
  [1, 2].flatMap (fun k =>
    let x := s.slot k
    leBytes 4 x.generation ++ [BitVec.ofNat 8 x.state, BitVec.ofNat 8 x.trials] ++ leBytes 2 x.image.security ++
      leBytes 4 x.image.version ++ leBytes 4 x.image.payload)

/-- The slot that an update writes (R426). -/
def State.updateSlot (s : State) : Nat :=
  if s.dev.recovery then (if s.dev.slotB.generation < s.dev.slotA.generation then 2 else 1)
  else 3 - s.dev.bootSlot

/-- The target's record set to EMPTY before its first block is stored, and by CANCEL_UPDATE (R426). -/
def State.emptyTarget (s : State) : State :=
  let k := s.updateSlot
  s.setSlot k { s.slot k with state := 0, trials := 0, image := .empty }

/-- The last block of an image stored. -/
def State.storeImage (s : State) (bs : Bytes) : State :=
  let k := s.updateSlot
  s.setSlot k { s.slot k with image := .written bs }

/-- COMMIT_IMAGE: the checks of R422; the target becomes TRIAL (R426). -/
def State.commitImage (s : State) : Abort × State :=
  let k := s.updateSlot
  let x := s.slot k
  let good := match x.image with
    | .written bs => s.imageGood bs
    | _ => false
  if !good then (Abort.badSignature, s)
  else if s.mramRefusal ≠ Abort.ok then (s.mramRefusal, s)
  else
    let g := max s.dev.slotA.generation s.dev.slotB.generation + 1
    (Abort.ok, s.setSlot k { x with state := 1, trials := 0, generation := g })

/-! ### Level pins (R157, R279, R389, R398) -/

/-- SAFE_OFF_N_ASSERT: the direct gate, the SAFEOFF bit and the Fatal event (Table EMIT-6). -/
def State.safeOffAssert (s : State) : State :=
  if !s.fire.safeOffN then s
  else (({ s with fire := { s.fire with safeOffN := false } }).inhibitOn inhSafeOff).fatal 0x0303 0 0

/-- SAFE_OFF_N_RELEASE: the bit clears, and its Fatal cause ends (Table FAULT-3). -/
def State.safeOffRelease (s : State) : State :=
  let s1 := ({ s with fire := { s.fire with safeOffN := true } }).inhibitOff inhSafeOff
  { s1 with ev := { s1.ev with fatal := s1.ev.fatal.filter (· != 0x0303) } }

/-- A bank write in progress abandoned when PFAIL_N falls, to start again from its first burst (R279). -/
def State.bankHalt (s : State) : State :=
  match s.cal.writing with
  | none => s
  | some b => (s.setCal { s.cal with writing := none, retried := false }).wantBank b.cause

/-- PFAIL_N_FALL: the PFAIL inhibit with its Error, the Warning 0x0F02, the calibration, the journal and the recorder (R157, R272, R279,
R389, R398). -/
def State.pfailFall (s : State) : State :=
  if !s.fire.pfailN then s
  else
    let s1 := ({ s with fire := { s.fire with pfailN := false } }).inhibitOn inhPfail
    ((((s1.raise 0x0306 0 3 0).raise 0x0F02 0 2 0).bankHalt.calHalt).journalPfail).recPfail

/-- PFAIL_N_RISE (R158, R389). -/
def State.pfailRise (s : State) : State :=
  if s.fire.pfailN then s
  else ({ s with fire := { s.fire with pfailN := true, pfailHighAt := s.time.ticks } }).recPfailEnd

/-! ### Release of reset (R420, R421, R423, R427) -/

/-- Stored objects that are loaded although the configuration is not: those with access RO, and in a safe boot the keys (R61, R421). -/
def keptStored (keys : Bool) (id : Nat) : Bool :=
  (match objDef? id with | some o => decide (o.acc = .ro) | none => false) ||
    (keys && (id / 256 == 0x1120 || id == Obj.knockKey))

/-- Journal entries whose CRC fails are dropped and counted at BOOT (R397). -/
def State.journalCheck (s : State) : State :=
  let good := s.ev.journal.filter (fun j => j.crcGood)
  let n := s.ev.journal.length - good.length
  let s1 : State := { s with ev := { s.ev with journal := good, droppedSeen := s.u Obj.journalDropped } }
  if n = 0 then s1 else (s1.bump Obj.journalDropped n).persist Obj.journalDropped

/-- RESET_RELEASE: the pins are sampled, a slot is chosen, the configuration is loaded, BootCount rises, and every sensor is to be
converted once (R40, R41, R420, R421, R423, R427). -/
def State.resetRelease (s : State) (p : BootPins) : State :=
  if s.dev.state ≠ .reset ∨ s.dev.porActive then s
  else
    let s0 : State := { s with live := s.mram, fire := { s.fire with pfailN := p.pfailN } }
    let (slot, s1) := s0.chooseSlot p.bootSafe
    let rescue := decide (slot = 0)
    let plain := p.bootSafe || rescue
    let s2 : State := { s1 with
      live := if plain then s1.mram.filter (fun e => keptStored (!rescue) e.1) else s1.mram,
      time := { s1.time with running := true } }
    let compat := p.compat || s2.b Obj.compatMode
    let ident := (s2.u Obj.identityPrefix % 4096) * 16 + p.nodeId.toNat
    let s3 : State := { s2 with dev := { s2.dev with
      state := .boot, resetNLow := false, nodeId := p.nodeId.toNat, compat := compat, safeBoot := p.bootSafe, recovery := rescue,
      bootSlot := slot, pllLock := 0x3F, identity := ident } }
    let s4 := ((s3.setB Obj.compatActive compat).setU Obj.deviceIdentity ident).setU Obj.bootSlot slot
    let s5 := ((s4.setB Obj.bootSafeActive p.bootSafe).setU Obj.firmwareVersion (if rescue then 0 else (s4.slot slot).image.version)).setU
      Obj.state 0x02
    let s6 := ((s5.bump Obj.bootCount 1).persist Obj.bootCount).journalCheck
    let s7 := s6.demand 2 s6.sensorList
    let s8 := if p.safeOffN then s7 else s7.safeOffAssert
    if p.pfailN then s8 else s8.inhibitOn inhPfail

/-! ### End of BOOT (R174, R280, R402, R424, R427, R453) -/

/-- The valid bank of higher generation, with its slot. -/
def State.bankAtBoot (s : State) : Option (Nat × CalBank) :=
  match s.cal.slotA, s.cal.slotB with
  | none, none => none
  | some a, none => some (1, a)
  | none, some b => some (2, b)
  | some a, some b => if b.generation > a.generation then some (2, b) else some (1, a)

/-- The calibration bank loaded, or the ideal tables with 0x0702 (R280). -/
def State.bankBoot (s : State) : State :=
  match s.bankAtBoot with
  | some (k, b) => ((s.loadBank b).setU Obj.activeBank k).setU Obj.activeGeneration b.generation
  | none =>
    let ideal (p : Nat) : Nat × PathRec := (p, { PathRec.rest p with taps := .ideal })
    let s1 : State := { s with
      array := { s.array with paths := ((List.range 1088).filter s.variant.hasPath).map ideal },
      aux := { s.aux with inputs := s.aux.inputs.map (fun x => { x with taps := .ideal }) } }
    (s1.setU Obj.activeBank 0).fatal 0x0702 0xFFFF 0

/-- A trial image that has reached the end of BOOT is CONFIRMED, and MinSecurityVersion follows (R424). -/
def State.confirmTrial (s : State) : State :=
  let x := s.slot s.dev.bootSlot
  if s.dev.bootSlot = 0 ∨ x.state ≠ 1 then s
  else
    let s1 := s.setSlot s.dev.bootSlot { x with state := 2 }
    if x.image.security > s1.u Obj.minSecurityVersion then s1.setStored Obj.minSecurityVersion x.image.security else s1

/-- The enabling anchors of the other streams at the end of BOOT (step 4 of R453): each carries that time and AnchorSequence 0. -/
def State.bootStreams (s : State) : State :=
  (rangeFrom 1 6).foldl (fun (s : State) k =>
    if s.hasStream k && s.b (Obj.strEnable k) then
      let s1 := s.enableStream k
      (s1.form k 0x02 1 2 0 s1.nowNs (s1.anchorBody s1.time.native 0 none)).closeGroup
    else s) s

/-- The end of BOOT: its state, and the event that is the cause (R63, R71, R280, R425). -/
def State.bootTarget (s : State) : DevState × Nat :=
  if s.dev.recovery then (.update, 0x0F03)
  else match s.ev.fatal with
    | c :: _ => (.safe, c)
    | [] => if s.spi.safeLatched then (.safe, 0x0E02) else (.idle, 0x0F01)

/-- BOOT_COMPLETE. -/
def State.bootComplete (s : State) : State :=
  if s.dev.state ≠ .boot then s
  else
    let now := s.time.ticks
    let s1 : State := { s with
      dev := { s.dev with booted := true, bootTick := now, sensorPowered := !s.dev.recovery },
      sense := { s.sense with convs := s.sense.convs.zipIdx.map (fun e =>
        if e.2 < 2 then { e.1 with startAt := now, resetCause := some now } else e.1) },
      fire := { s.fire with gov := s.fire.gov.map (fun w => { w with boundaryAt := now }) },
      therm := { s.therm with releasedAt := now },
      merge := { s.merge with anchorAt := s.nowNs, anchorCount := 1 },
      time := { s.time with ppsNextSec := s.nowNs / 1000000000 + 1, ptpPort := if s.u Obj.ptpPortMode = 1 then 1 else 0 },
      pair := { s.pair with role := s.u Obj.pairRole, checkInAt := none } }
    let s2 := (s1.setU Obj.bootTime (now / 250)).confirmTrial
    let s3 := if s2.dev.recovery then s2 else s2.bankBoot
    let (goal, cause) := s3.bootTarget
    let s4 := if s3.dev.recovery then s3.raise 0x0F03 0 3 (s3.dev.slotA.state + 256 * s3.dev.slotB.state)
      else s3.raise 0x0F01 0 1 (s3.u Obj.bootCount)
    let s5 := if s4.pair.role = 0 then s4.pairAssert else s4
    let s6 := s5.refreshAddress
    let s7 := s6.enableStream 0
    let s8 := s7.formState 1 s7.bootRecord
    let s9 := (s8.form 0 0x02 1 2 0 s8.nowNs (s8.anchorBody s8.time.native 0 none)).closeGroup
    let s10 := ({ s9 with ev := { s9.ev with safeWanted := none }, spi := { s9.spi with safeLatched := false } }).enterState goal 0 cause
    s10.closeGroup.refreshAlarms.closeGroup.bootStreams

/-- BOOT_WATCHDOG: BOOT has not ended 1.0 s after the release of reset (R424). -/
def State.bootWatchdog (s : State) : State :=
  if s.dev.state ≠ .boot then s else (s.runTo tickHz).enterReset 6

/-! ### Reference clocks (R419) -/

/-- REFCLK_LOST: an internal reset; cause 5, or 4 where a PLL lost its lock with the reference present. -/
def State.refclkLost (s : State) (lockOnly : Bool) : State :=
  if s.dev.state = .reset then s else s.enterReset (if lockOnly then 4 else 5)

/-- The lock bit of a PLL. -/
def State.setLock (s : State) (bit : Nat) (on : Bool) : State :=
  { s with dev := { s.dev with pllLock := setBit s.dev.pllLock bit on } }

/-- ETH_REFCLK_LOST: both ports and the Rilman link go down. -/
def State.ethRefclkLost (s : State) : State :=
  (((s.setLock 4 false).linkDown 0).linkDown 1).rilmanDown true

/-- PCIE_REFCLK_LOST: the recorder link is lost (R388). -/
def State.pcieRefclkLost (s : State) : State := (s.setLock 5 false).recLinkLoss

end Sys2Proof.Machine
end

