-- ==== Sys2Proof/Machine/Checks.lean ====
section
/-!
DEFINITION. The checks of a value and of a configuration: the range of an object (R44), what its chapter asks of its content, and the
checks that are made at activation against the combined configuration (R64). Every check names the objects whose change it judges and
the code that it refuses with. A write outside the shadow set is activated at once and is judged by the same checks.
-/

namespace Sys2Proof.Machine

/-- One check: the objects whose change it judges, its code, and whether the configuration `new`, reached from `old`, fails it. -/
structure Check where
  on : Nat → Bool
  code : Abort
  bad : State → State → Nat → Bool

/-! ### Range (R44) -/

/-- Whether bytes 0x80 to 0xBF follow, `n` of them; the rest of the string. -/
def utf8Tail : Nat → List Nat → Option (List Nat)
  | 0, bs => some bs
  | _ + 1, [] => none
  | n + 1, b :: bs => if 0x80 ≤ b ∧ b ≤ 0xBF then utf8Tail n bs else none

/-- Whether a byte string is UTF-8 (Table DICT-2); the first number is fuel. -/
def utf8Ok : Nat → List Nat → Bool
  | 0, bs => bs.isEmpty
  | _ + 1, [] => true
  | n + 1, b :: bs =>
    let next := bs.headD 0
    let go (k : Nat) (ok : Bool) : Bool := ok && (match utf8Tail k bs with | some r => utf8Ok n r | none => false)
    if b < 0x80 then utf8Ok n bs
    else if 0xC2 ≤ b ∧ b ≤ 0xDF then go 1 true
    else if 0xE0 ≤ b ∧ b ≤ 0xEF then go 2 (!(b == 0xE0 && decide (next < 0xA0)) && !(b == 0xED && decide (next > 0x9F)))
    else if 0xF0 ≤ b ∧ b ≤ 0xF4 then go 3 (!(b == 0xF0 && decide (next < 0x90)) && !(b == 0xF4 && decide (next > 0x8F)))
    else false

/-- Whether the content of a value of allowed length lies in its encoding (Table DICT-2). -/
def encodingOk (ty : OTy) (bs : Bytes) : Bool :=
  match ty with
  | .bool => decide (leVal bs ≤ 1)
  | .f32 => match Fl.ofBits32 (leVal bs) with
    | .fin _ => true
    | _ => false
  | .time80 => decide (numAt 6 4 bs < 1000000000)
  | .string _ _ => utf8Ok bs.length (bs.map (·.toNat))
  | _ => true

/-- Whether a value lies in its object's range. -/
def rangeOk (o : ObjDef) (bs : Bytes) : Bool :=
  let n := leVal bs
  let v : Int := if o.ty.signed then signedOf (8 * bs.length) n else n
  match o.rng with
  | .any => true
  | .span lo hi => decide (lo ≤ v) && decide (v ≤ hi)
  | .codes cs => cs.contains n
  | .zeroOr lo hi => n == 0 || (decide (lo ≤ n) && decide (n ≤ hi))
  | .milli lo hi => decide ((lo : Rat) / 1000 ≤ f32q n) && decide (f32q n ≤ (hi : Rat) / 1000)
  | .positive => decide (f32q n > 0)
  | .each k sg lo hi => (List.range (bs.length / k)).all (fun i =>
      let x : Int := if sg then intAt (k * i) k bs else numAt (k * i) k bs
      decide (lo ≤ x) && decide (x ≤ hi))

/-! ### Content (R144, R146, R170, R176, R184, R232) -/

/-- Whether a channel object's index belongs to a channel or Scarab. -/
def isChanIdx (id : Nat) : Bool := decide (0x3000 ≤ id / 256) && decide (id / 256 < 0x3440)

/-- The U16 entries of a DOMAIN. -/
def u16s (bs : Bytes) : List Nat := words 2 (bs.length / 2) bs

/-- Whether a bank entry is as Table EMIT-3 has it. -/
def entryOk (e : Bytes) : Bool :=
  decide (440 ≤ numAt 2 2 e) && decide (1 ≤ numAt 6 2 e) && decide (numAt 6 2 e ≤ 256) && decide (numAt 8 1 e ≤ 1) &&
  decide (numAt 9 1 e ≤ 47) && numAt 10 2 e == 0

/-- Whether a region-of-interest entry is as Table EMIT-4 has it. -/
def roiOk (e : Bytes) : Bool :=
  decide (numAt 0 1 e ≤ numAt 1 1 e) && decide (1 ≤ numAt 4 2 e) && decide (numAt 4 2 e ≤ 256) &&
  (decide (numAt 6 1 e ≤ 47) || numAt 6 1 e == 0xFF) && numAt 7 1 e == 0

/-- Whether a program has the form of R144. -/
def programOk (bs : Bytes) : Bool :=
  bs.isEmpty ||
  (decide (8 ≤ bs.length) && numAt 0 1 bs == 1 && decide (numAt 1 1 bs < 8) && decide (progRois bs ≤ 8) && numAt 5 3 bs == 0 &&
   bs.length == 8 + 12 * bitsBelow (progMask bs) 16 + 8 * progRois bs &&
   (List.range 16).all (fun b => !bitOf (progMask bs) b || entryOk (progEntry bs b)) &&
   (List.range (progRois bs)).all (fun k => roiOk (progRoi bs k)))

/-- Whether a power table holds width codes up to 47 and its reserved bit 6 is 0 in every entry (R146, R148). -/
def powerTableOk (bs : Bytes) : Bool := bs.all (fun b => decide (b.toNat % 128 ≤ 47))

/-- Whether a sequence is one of R176: the code of its first failing line, in the order of the table. -/
def sequenceCode (converter : Nat) (differential : Bool) (xs : List Nat) : Abort :=
  let n := xs.length
  let reach (x : Nat) : Bool := x == 0xFF ||
    (if converter = 0 then x == 0 || x == 2 || (x == 1 && !differential) else x == 0xFE || x == 3 || x == 4 || x == 5)
  let even (x : Nat) : Bool :=
    let at' := (List.range n).filter (fun i => xs.getD i 0 == x)
    let k := at'.length
    [1, 2, 4, 8, 16].contains k && at'.all (fun i => xs.getD ((i + n / k) % n) 0 == x)
  if !(([1, 2, 4, 8, 16] : List Nat).contains n) then Abort.wrongLength
  else if !xs.all reach then Abort.range
  else if !(xs.filter (fun x => decide (x < 0xFE))).all even then Abort.inconsistent
  else if converter = 1 ∧ (List.range n).any (fun i => xs.getD i 0 != 0xFE && xs.getD ((i + 1) % n) 0 != 0xFE) then Abort.inconsistent
  else Abort.ok

/-- Whether a comparator record is as Table SENSE-6 has it. -/
def wcRecordOk (n : Nat) (e : Bytes) : Bool :=
  (decide (numAt 0 1 e < 24) || numAt 0 1 e == 0xFF) && decide (numAt 2 1 e ≤ 63) &&
  (decide (n < 3) || (decide (1 ≤ numAt 3 1 e) && decide (numAt 3 1 e ≤ 3))) &&
  decide (numAt 4 2 e ≤ 0x0FFF) && (n == 0 || (decide (numAt 6 2 e ≤ 0x0FFF) && decide (numAt 4 2 e ≤ numAt 6 2 e)))

/-- Whether a subnet mask is contiguous (Table STRM-13). -/
def maskOk (m : Nat) : Bool := (List.range 33).any (fun k => m == 4294967296 - 2 ^ k) || m == 0

/-- The sizes that a DOMAIN's chapter leaves within its bounds: watch lists, camera columns, L1 patterns and sequences (R44). -/
def lengthOk (id : Nat) (n : Nat) : Bool :=
  if id = Obj.watchList ∨ id = Obj.camTrigColumns 0 ∨ id = Obj.camTrigColumns 1 then n % 2 == 0
  else if id = Obj.l1Pattern then n % 4 == 0
  else if id = Obj.sc0Sequence ∨ id = Obj.sc1Sequence then [1, 2, 4, 8, 16].contains n
  else true

/-- Whether an object is a Firefly program. -/
def isProgram (id : Nat) : Bool := decide (Obj.fireflyProgram0 ≤ id) && decide (id ≤ Obj.fireflyProgram3)

/-- A content names an absent unit (R3, R5, R148, R173, R232, R247, R312, R332, R347, R369). -/
def namesAbsent (v : Variant) (id : Nat) (bs : Bytes) : Bool :=
  let n := leVal bs
  if isProgram id then (List.range 16).any (fun b => decide (v.regions ≤ b) && bitOf (progMask bs) b)
  else if id = Obj.watchList then (u16s bs).any (fun c => decide (c < 1024) && !v.hasPath c)
  else if id = Obj.sc0Sequence ∨ id = Obj.sc1Sequence then
    bs.any (fun x => decide (24 + v.regions ≤ x.toNat) && decide (x.toNat < 40))
  else if id = Obj.drainMask then bitOf n 1 && v != .sv
  else if id = Obj.ptpPortMode then decide (n = 1 ∨ n = 2) && v.ports == 1
  else if id / 256 ≥ 0x1150 ∧ id / 256 ≤ 0x1156 ∧ id % 256 = 4 then n == 1 && v.ports == 1
  else if id = Obj.duplicateMode then n == 1 && v.ports == 1
  else if id = Obj.camPriority then n == 1 && v == .au
  else false

/-- A content of allowed length outside what its chapter allows: code 0x0301, or 0x0302 where the chapter says so; 0 when it is
allowed. -/
def contentCode (s : State) (id : Nat) (bs : Bytes) : Abort :=
  if isProgram id then (if programOk bs then Abort.ok else Abort.range)
  else if id = Obj.powerTableA ∨ id = Obj.powerTableB then (if powerTableOk bs then Abort.ok else Abort.range)
  else if id = Obj.watchList then
    let xs := u16s bs
    if xs.any (fun c => decide (c ≥ 1024)) then Abort.range else if xs.eraseDups.length = xs.length then Abort.ok else Abort.inconsistent
  else if id = Obj.sc0Sequence then sequenceCode 0 (bitOf (s.u Obj.pairMode) 0) (bs.map (·.toNat))
  else if id = Obj.sc1Sequence then sequenceCode 1 true (bs.map (·.toNat))
  else if id = Obj.wcConfig then
    let rec' (n : Nat) : Bytes := slice (8 * n) 8 bs
    if !(List.range 8).all (fun n => wcRecordOk n (rec' n)) then Abort.range
    else if (List.range 3).any (fun n => numAt 0 1 (rec' n) != getAt [4, 3, 5] n 0 || numAt 3 1 (rec' n) != numAt (8 * n + 3) 1 wcDefault)
        || numAt 4 2 (rec' 0) != 0 then Abort.inconsistent
    else Abort.ok
  else if id = Obj.queueLimit then (if sumNat (words 4 3 bs) > 8257536 then Abort.inconsistent else Abort.ok)
  else if id = Obj.govWindow0 ∨ id = Obj.govWindow1 ∨ id = Obj.govWindow2 then (if leVal bs % 16 = 0 then Abort.ok else Abort.range)
  else if id = Obj.camActiveWidth 0 ∨ id = Obj.camActiveHeight 0 ∨ id = Obj.camActiveWidth 1 ∨ id = Obj.camActiveHeight 1 then
    (if leVal bs % 2 = 0 then Abort.ok else Abort.range)
  else if id = Obj.inFlightLimit then (if leVal bs % 4096 = 0 then Abort.ok else Abort.range)
  else if id = Obj.netMask then (if maskOk (leVal bs) then Abort.ok else Abort.range)
  else if id / 256 = 0x2A10 ∨ id / 256 = 0x2A11 ∨ id / 256 = 0x2A12 ∨ id / 256 = 0x2A13 then
    if id % 256 = 9 ∨ id % 256 = 10 then
      (if (List.range 5).all (fun k => encodingOk .f32 (slice (4 * k) 4 bs)) then Abort.ok else Abort.range)
    else Abort.ok
  else Abort.ok

/-- Reserved bits inside a DOMAIN or a value that the row's mask does not show (R10): comparator enables and I2cConfig. -/
def reservedInside (id : Nat) (bs : Bytes) : Bool :=
  if id = Obj.wcConfig then (List.range 8).any (fun n => decide (numAt (8 * n + 1) 1 bs > 1))
  else if id = Obj.i2cConfig then decide (numAt 0 1 bs > 1) || numAt 3 1 bs != 0
  else false

/-! ### What the checks of an activation look at -/

/-- The bins' Shutter rule of R85 on one pair of values. -/
def shutterBad (window o c : Nat) : Bool :=
  let c' := if c = 0 then window else c
  decide (o ≥ c') || decide (c' > window)

/-- The longest Shutter close of a region's channels, in ticks (R148). -/
def State.longestClose (s : State) (b : Nat) : Nat :=
  let whole := (s.shutterOf (64 * b)).2
  let own := (s.live.filter (fun e => isChanIdx e.1 && e.1 % 256 == 6 && (e.1 / 256 - 0x3000) / 64 == b)).map
    (fun e => (s.shutterOf (e.1 / 256 - 0x3000)).2)
  own.foldl max whole

/-- The programs of R144. -/
def State.programs (s : State) : List Bytes := (List.range 4).map (fun e => s.get (progObj e))

/-- The largest Shots of a bank over its entry and the entries of interest that name it (R148). -/
def shotsMax (bs : Bytes) (b : Nat) : Nat :=
  ((List.range (progRois bs)).filter (fun k => bitOf (numAt 2 2 (progRoi bs k)) b)).foldl
    (fun m k => max m (numAt 4 2 (progRoi bs k))) (numAt 6 2 (progEntry bs b))

/-- Every (program, bank) of the programs in force. -/
def State.programBanks (s : State) : List (Bytes × Nat) :=
  s.programs.flatMap (fun bs => if bs.isEmpty then [] else ((List.range 16).filter (bitOf (progMask bs))).map (fun b => (bs, b)))

/-- A slot train that does not fit P_min (R148); 50 ps is 1/20 ns. -/
def State.slotsTooLong (s : State) : Bool :=
  s.programBanks.any (fun (e : Bytes × Nat) =>
    let x := progEntry e.1 e.2
    let units := numAt 0 2 x + (shotsMax e.1 e.2 - 1) * (numAt 2 2 x + numAt 4 2 x)
    decide ((units : Rat) / 20000000000 ≥ s.pMin))

/-- More than 8 slots in flight (R148): a tick is 0.8 ns, which is 16 units of 50 ps. -/
def State.flightTooLong (s : State) : Bool :=
  s.programBanks.any (fun (e : Bytes × Nat) =>
    decide (s.longestClose e.2 * 16 / max 1 (numAt 2 2 (progEntry e.1 e.2)) + 1 > 8))

/-- Chains (R197) and schedule (R200). -/
def State.loopIdle (s : State) (n : Nat) : Bool :=
  !(n == 0 && s.u Obj.mirrorType == 1) && s.chainIdle (loopChain n)

/-- Cost of an evaluation in ns (Table LOOP-3). -/
def loopCost : Nat := 280

/-- R_n in ns (R200). -/
def State.response (s : State) (n : Nat) : Nat :=
  let higher := sumNat ((List.range n).map (fun j => loopCost * ceilDiv (s.deadlineNs n) (max 1 (s.loopPeriodNs j))))
  800 + (if n < 3 then loopCost else 0) + higher + loopCost + 75

/-- The schedule check of R200. -/
def State.scheduleBad (s : State) : Bool :=
  let load := sumRat ((List.range 4).map (fun n => (loopCost : Rat) / max 1 (s.loopPeriodNs n)))
  decide (load > 7 / 10) || (List.range 4).any (fun n => decide (s.response n > s.deadlineNs n))

/-- Whether a biquad has a pole at or outside the unit circle: the triangle of its two denominator coefficients. -/
def polesBad (c : List Fl) : Bool :=
  let a1 := (c.getD 3 (.fin 0)).rat
  let a2 := (c.getD 4 (.fin 0)).rat
  !(decide (ratAbs a2 < 1) && decide (ratAbs a1 < 1 + a2))

/-- The check of R201 on one loop. -/
def State.loopBad (s : State) (n : Nat) : Bool :=
  let b1 := biquadOf (s.get (Obj.loopBiquad1 n))
  let b2 := biquadOf (s.get (Obj.loopBiquad2 n))
  let g := fMul (biquadGain b1) (biquadGain b2)
  polesBad b1 || polesBad b2 || Fl.lt g.abs (fOf (1 / 1000)) || decide (s.u (Obj.loopOutMin n) ≥ s.u (Obj.loopOutMax n))

/-- The Transom slots of a frame in seconds: the shortest, the longest, the longest wait from one to the next; 0 where the settings give
none (R210, R291). -/
def State.slotTimes (s : State) : Rat × Rat × Rat :=
  match s.u Obj.mirrorType with
  | 0 =>
    if s.q Obj.rasterVelocity ≤ 0 ∨ s.q Obj.rasterAccel ≤ 0 ∨ s.q Obj.flybackVelocity ≤ 0 then (0, 0, 0)
    else
      let j := s.galvoTraj 0
      match j.slots with
      | [(a, b, _)] => ((b - a) / lsbHz, (b - a) / lsbHz, j.frame / lsbHz)
      | _ =>
        let h := 2 * s.q Obj.rasterVelocity / s.q Obj.rasterAccel
        (h, h, j.frame / lsbHz / 2)
  | 1 =>
    let v := s.q Obj.polySpeed * (s.u Obj.facets : Rat)
    let free : Rat := 65536 - (s.u Obj.columnsPerFacet : Rat) * s.q Obj.columnStep
    if v ≤ 0 ∨ free ≤ 0 then (0, 0, 0)
    else
      let tol := s.q Obj.speedTol
      (free / 65536 / (v * (1 + tol)), free / 65536 / v, if tol < 1 then 1 / (v * (1 - tol)) else 0)
  | _ =>
    let half := (s.u Obj.columnsPerHalf : Rat) * s.q Obj.columnStep / 2
    let amp := s.q Obj.resAmplitude
    if amp ≤ 0 ∨ half ≥ amp ∨ s.q Obj.resFreqMax ≤ 0 ∨ s.q Obj.resFreqMin ≤ 0 then (0, 0, 0)
    else
      let turns := 1 / 2 - 2 * asinTurns (half / amp)
      (turns / s.q Obj.resFreqMax, turns / s.q Obj.resFreqMin, 1 / (2 * s.q Obj.resFreqMin))

/-- RefreshWorst in µs under the settings (R291). -/
def State.refreshWorst (s : State) : Nat :=
  let x := s.slotTimes
  s.refreshFrom (x.1 * 1000000) (x.2.2 * 1000000)

/-- Whether a step of the L1 pattern takes longer than the slot in which it has to end (R214). -/
def State.patternBad (s : State) : Bool :=
  let xs := s.l1Pattern
  let n := xs.length
  let v := s.q (Obj.loopVelLimit 1)
  let a := s.q (Obj.loopAccLimit 1)
  let slot := s.slotTimes.1
  (List.range n).any (fun i =>
    let d : Rat := ratAbs (((xs.getD ((i + 1) % n) 0 - xs.getD i 0 : Int) : Rat))
    if d = 0 then false
    else if v ≤ 0 ∨ a ≤ 0 then true
    else if d * a ≤ v * v then decide (4 * d / a > slot * slot)
    else decide (d / v + v / a > slot))

/-- The raster checks of R212. -/
def State.rasterBad (s : State) : Bool :=
  let span := s.q Obj.rasterMax - s.q Obj.rasterMin
  let d := ratAbs (span - (s.u Obj.columnsPerSweep : Rat) * s.q Obj.columnStep)
  let vmax := s.q (Obj.loopVelLimit 0)
  decide (span ≤ 0) || decide (d * 1000000 > span) || decide (s.q Obj.rasterVelocity > vmax) ||
  (s.u Obj.rasterShape == 1 && decide (s.q Obj.flybackVelocity > vmax)) || decide (s.q Obj.rasterAccel > s.q (Obj.loopAccLimit 0))

/-! ### Timing inputs (R227, R252, R259) -/

/-- The roles that objects give an input, START, ENCODER, INDEX and that of AuxRole (Table AUX-2). -/
def State.rolesOf (s : State) (n : Nat) : List Nat :=
  let src := s.u Obj.startSource
  let mt := s.u Obj.mirrorType
  let own := s.u (Obj.auxRole n)
  (if (src = 1 ∧ n = 0) ∨ (src = 2 ∧ n < s.variant.regions / 4) then [1] else []) ++
  (if mt = 1 ∧ s.u Obj.encoderAux = n then [3] else []) ++
  (if (mt = 1 ∨ mt = 2) ∧ s.u Obj.indexAux = n then [4] else []) ++
  (if own = 0 then [] else [own])

/-- An input with two roles, or a FREQUENCY or INTERVAL role with Slope 0, or FREQUENCY with Slope 3; the input's slope for a start
or stop must pass the input's own (R252 to R254). -/
def State.rolesBad (s : State) : Bool :=
  (List.range 8).any (fun n =>
    let r := s.rolesOf n
    let sl := s.u (Obj.auxSlope n)
    decide (r.length > 1) || (r == [6] && (sl == 0 || sl == 3)) || (r == [5] && sl == 0))

/-- CauseEnable with the bit of an input that is not in TRIGGER role (R227, R252). -/
def State.causeBad (s : State) : Bool :=
  (List.range 8).any (fun n => bitOf (s.u Obj.causeEnable) n && s.rolesOf n != [2])

/-- Too many inputs in a role (Table AUX-2). -/
def State.rolesFull (s : State) : Bool :=
  let count (r : Nat) : Nat := ((List.range 8).filter (fun n => s.u (Obj.auxRole n) == r)).length
  decide (count 5 > 2) || decide (count 6 > 2) || decide (count 7 > 1)

/-! ### Streams (R332, R336, R347, R349, R364, R367) -/

/-- Line rate of a port in bit/s (R327). -/
def State.lineRate (s : State) (p : Nat) : Nat :=
  match s.u (Obj.portMode p) with
  | 1 | 3 => 10000000000
  | 2 => 25000000000
  | _ => 0

/-- A port mode that does not fit the lane rate (R327). -/
def State.laneBad (s : State) (p : Nat) : Bool :=
  match s.u (Obj.portMode p) with
  | 0 => false
  | 2 => s.u Obj.ethLaneRate != 1
  | _ => s.u Obj.ethLaneRate != 0

/-- The streams that are enabled by their objects. -/
def State.streamsOn (s : State) : List Nat := (List.range 7).filter (fun k => s.hasStream k && s.b (Obj.strEnable k))

/-- The checks of R332 on the enabled streams. -/
def State.streamsBad (s : State) : Bool :=
  s.streamsOn.any (fun k => s.u (Obj.portMode (s.u (Obj.strPortMap k))) == 0 || s.u (Obj.strDestAddr k) == 0 ||
    (k == 2 && !s.b Obj.columnSplit))

/-- Whether a column stream is enabled. -/
def State.columnsOn (s : State) : Bool := s.streamsOn.contains 1 || s.streamsOn.contains 2

/-- Bytes of a column packet's records for `n` channels (R335, R336). -/
def State.columnBytes (s : State) (n : Nat) : Nat := n * (8 * s.slotsPer + (if s.b Obj.columnSummary then 4 else 0))

/-- Bytes on the wire of the column packets that a stream sends in a column (R349). -/
def State.columnWire (s : State) (k : Nat) (tagged : Bool) : Nat :=
  let run := max 1 (s.u Obj.columnRun)
  let (lo, hi) := if s.b Obj.columnSplit then (if k = 1 then (0, 512) else (512, 1024)) else (if k = 1 then (0, 1024) else (0, 0))
  sumNat ((List.range ((hi - lo) / run)).map (fun j =>
    let n := ((rangeFrom (lo + j * run) run).filter s.variant.hasPath).length
    if n = 0 then 0 else s.columnBytes n + 32 + 28 + 42 + (if tagged then 4 else 0)))

/-- The load check of R349 on a port. -/
def State.loadBad (s : State) (p : Nat) : Bool :=
  let vid := s.u (Obj.portVlanId p)
  let here := s.streamsOn.filter (fun k => (k == 1 || k == 2) && (s.dup || s.u (Obj.strPortMap k) == p))
  let bits := 8 * sumNat (here.map (fun k => s.columnWire k (decide (1 ≤ vid ∧ vid ≤ 4094))))
  let span := (s.u Obj.integrationColumns : Rat) * s.pMin
  decide (s.lineRate p > 0) && decide (span > 0) && decide ((bits : Rat) > 94 / 100 * (s.lineRate p : Rat) * span)

/-- Tap and format of a camera port (Table CAM-4). -/
def State.tapBad (s : State) (p : Nat) : Bool :=
  let f := s.u (Obj.camOutFormat p)
  if s.u (Obj.camTap p) < 2 then f != 0
  else if s.u (Obj.camCfaPattern p) = 4 then f != 1
  else f != 2 && f != 3

/-- No whole line fits a pixel packet (R367). -/
def State.lineTooLong (s : State) (p : Nat) : Bool :=
  s.b (Obj.camEnable p) && s.streamsOn.contains (camStream p) &&
  decide ((s.u Obj.mtu - 60) / (s.u (Obj.camActiveWidth p) * formatBytes (s.u (Obj.camOutFormat p))) = 0)

/-! ### The pair (R411) -/

/-- TakeoverBudget in ns (R411). -/
def State.takeoverNs (s : State) : Nat :=
  let part (n : Nat) : Nat := (s.u (Obj.loopHingeRamp n) + 2) * s.loopPeriodNs n
  86000 + max (part 0) (part 1) + 10000 + s.pMinNs

/-! ### The list of the checks -/

/-- Whether an object stands at one of the indices. -/
def atIdx (ks : List Nat) (id : Nat) : Bool := ks.contains (id / 256)

/-- The objects of the scan configuration: 0x2A00 to 0x2A50, the chains and the sequences. -/
def isScanObj (id : Nat) : Bool := decide (0x2A00 ≤ id / 256) && decide (id / 256 ≤ 0x2A50)
def isTimingObj (id : Nat) : Bool := isScanObj id || atIdx [0x2910, 0x2911, 0x2912, 0x2913, 0x2914, 0x2915] id || id == Obj.sc0Sequence || id == Obj.sc1Sequence

/-- A camera port's objects. -/
def isCamObj (p id : Nat) : Bool := id / 256 == 0x2D10 + p

/-- Checks with 0x0301 and 0x0302, in the order of the chapters. -/
def rangeChecks : List Check :=
  [⟨fun id => id == Obj.kernelCoarse || id == Obj.kernelZoom, Abort.range, fun _ n id => allZero (n.get id)⟩,
   ⟨fun id => [0x2A10, 0x2A11, 0x2A12, 0x2A13].contains (id / 256) && id % 256 == 2, Abort.range,
    fun _ n id => decide (n.u id > n.loopPeriodNs (id / 256 - 0x2A10))⟩,
   ⟨fun id => id == Obj.louvreDepthMin || id == Obj.louvreDepthMax, Abort.inconsistent,
    fun _ n _ => decide (n.u Obj.louvreDepthMin > n.u Obj.louvreDepthMax)⟩,
   ⟨fun id => id == Obj.adaptRateLow || id == Obj.adaptRateHigh, Abort.inconsistent,
    fun _ n _ => decide (n.u Obj.adaptRateLow ≥ n.u Obj.adaptRateHigh)⟩,
   ⟨fun id => id == Obj.shutterOpen || id == Obj.shutterClose || id == Obj.coarseBinWidth, Abort.inconsistent,
    fun _ n _ => shutterBad n.windowTicks (n.u Obj.shutterOpen) (n.u Obj.shutterClose)⟩,
   ⟨fun id => isChanIdx id && [6, 7, 8].contains (id % 256), Abort.inconsistent,
    fun _ n id =>
      let ch := id / 256 - 0x3000
      n.b (Obj.chShutterOverride ch) && shutterBad n.windowTicks (n.u (Obj.chShutterOpen ch)) (n.u (Obj.chShutterClose ch))⟩,
   ⟨fun id => id == Obj.coarseBinWidth, Abort.inconsistent,
    fun _ n _ => n.live.any (fun e => isChanIdx e.1 && e.1 % 256 == 6 &&
      (let ch := e.1 / 256 - 0x3000
       n.b (Obj.chShutterOverride ch) && shutterBad n.windowTicks (n.u (Obj.chShutterOpen ch)) (n.u (Obj.chShutterClose ch))))⟩,
   ⟨fun id => id == Obj.startWindowMin || id == Obj.startWindowMax, Abort.inconsistent,
    fun _ n _ => decide (n.u Obj.startWindowMin ≥ n.u Obj.startWindowMax)⟩,
   ⟨fun id => id == Obj.mantisPeriodMin || id == Obj.mantisPeriodMax, Abort.inconsistent,
    fun _ n _ => decide (n.u Obj.mantisPeriodMin ≥ n.u Obj.mantisPeriodMax)⟩,
   ⟨isProgram, Abort.inconsistent, fun _ n _ =>
      (List.range 4).any (fun i => (List.range i).any (fun j =>
        progMask (n.get (progObj i)) &&& progMask (n.get (progObj j)) != 0)) ||
      n.programs.any (fun bs => !bs.isEmpty && (List.range (progRois bs)).any (fun k =>
        let m := numAt 2 2 (progRoi bs k)
        m &&& progMask bs != m))⟩,
   ⟨fun id => isProgram id || id == Obj.govLimits, Abort.inconsistent, fun _ n _ =>
      n.programBanks.any (fun e => progEnabled e.1 && (List.range 3).any (fun w => n.govLimit w e.2 == 0))⟩,
   ⟨fun id => [Obj.chargeMin, Obj.chargeMax, Obj.chargeStart, Obj.chargeFixed, Obj.chargeOvp].contains id, Abort.inconsistent,
    fun _ n _ =>
      let lo := n.u Obj.chargeMin
      let hi := n.u Obj.chargeMax
      decide (n.u Obj.chargeStart < lo) || decide (n.u Obj.chargeStart > hi) || decide (n.u Obj.chargeFixed < lo) ||
      decide (n.u Obj.chargeFixed > hi) || decide (n.u Obj.chargeOvp < hi + 100)⟩,
   ⟨fun id => id == Obj.derateStart || id == Obj.derateEnd, Abort.inconsistent,
    fun _ n _ => decide (n.i Obj.derateStart ≥ n.i Obj.derateEnd)⟩,
   ⟨fun id => [Obj.govWindow0, Obj.govWindow1, Obj.govWindow2].contains id, Abort.inconsistent,
    fun _ n _ => decide (n.u Obj.govWindow0 ≥ n.u Obj.govWindow1) || decide (n.u Obj.govWindow1 ≥ n.u Obj.govWindow2)⟩,
   ⟨isTimingObj, Abort.inconsistent, fun _ n _ => (List.range 4).any n.loopIdle⟩,
   ⟨fun id => [0x2A10, 0x2A11, 0x2A12, 0x2A13].contains (id / 256), Abort.inconsistent,
    fun _ n id => n.loopBad (id / 256 - 0x2A10)⟩,
   ⟨isScanObj, Abort.inconsistent, fun _ n _ => decide (n.slotTimes.2.1 * 200000 < 1)⟩,
   ⟨isScanObj, Abort.inconsistent, fun _ n _ => decide (n.pMin * 100000 < 1)⟩,
   ⟨isScanObj, Abort.inconsistent, fun _ n _ => n.u Obj.mirrorType == 0 && n.rasterBad⟩,
   ⟨isScanObj, Abort.inconsistent, fun _ n _ => n.patternBad⟩,
   ⟨isScanObj, Abort.inconsistent, fun _ n _ => n.u Obj.mirrorType == 1 &&
      decide ((n.u Obj.facetGuard : Rat) + (n.u Obj.columnsPerFacet : Rat) * n.q Obj.columnStep > 65536)⟩,
   ⟨isTimingObj, Abort.inconsistent, fun _ n _ => decide (n.u Obj.stallTime + n.loopPeriodNs 0 + n.deadlineNs 0 > 20000)⟩,
   ⟨fun id => id == Obj.startSource || id == Obj.encoderAux || id == Obj.indexAux || id == Obj.mirrorType ||
      (decide (0x2510 ≤ id / 256) && decide (id / 256 < 0x2519)), Abort.inconsistent, fun _ n _ => n.rolesBad⟩,
   ⟨fun id => id == Obj.causeEnable || id == Obj.startSource || id == Obj.encoderAux || id == Obj.indexAux || id == Obj.mirrorType ||
      (decide (0x2510 ≤ id / 256) && decide (id / 256 < 0x2518)), Abort.inconsistent, fun _ n _ => n.causeBad⟩,
   ⟨fun id => id == Obj.intervalStartInput || id == Obj.intervalStartSlope || id == Obj.intervalStopInput || id == Obj.intervalStopSlope ||
      (decide (0x2510 ≤ id / 256) && decide (id / 256 < 0x2518) && id % 256 == 5), Abort.inconsistent, fun _ n _ =>
      let bad (input slope : Nat) : Bool := n.u input != 0xFF && n.u (Obj.auxSlope (n.u input)) &&& n.u slope != n.u slope
      bad Obj.intervalStartInput Obj.intervalStartSlope || bad Obj.intervalStopInput Obj.intervalStopSlope⟩,
   ⟨fun id => id == Obj.kind || id == Obj.causeEnable, Abort.inconsistent,
    fun _ n _ => n.u Obj.kind == 0 && n.u Obj.causeEnable / 256 % 8 != 0⟩,
   ⟨fun id => id == Obj.drainMask || id == Obj.mayflyEnable, Abort.inconsistent,
    fun _ n _ => n.u Obj.drainMask == 0 && n.b Obj.mayflyEnable⟩,
   ⟨fun id => id == Obj.calrefMode || id == Obj.auxFreqGate 8, Abort.inconsistent,
    fun _ n _ => n.u Obj.calrefMode == 2 && decide (n.u (Obj.auxFreqGate 8) < 3000000)⟩,
   ⟨fun id => id == Obj.thermTable, Abort.inconsistent, fun _ n _ =>
      let bs := n.get Obj.thermTable
      let code (k : Nat) : Nat := numAt (4 * k) 2 bs
      let temp (k : Nat) : Int := intAt (4 * k + 2) 2 bs
      !allZero bs && ((List.range 32).any (fun k => decide (code k > 0x0FFF)) ||
        (List.range 31).any (fun k => decide (code k ≥ code (k + 1))) ||
        ((List.range 31).any (fun k => decide (temp k ≥ temp (k + 1))) && (List.range 31).any (fun k => decide (temp k ≤ temp (k + 1)))))⟩,
   ⟨fun id => isScanObj id || id == Obj.staleLimit || id == Obj.i2cConfig, Abort.inconsistent,
    fun _ n _ => decide (n.refreshWorst * 2 > n.u Obj.staleLimit * 1000)⟩,
   ⟨fun id => id == Obj.housekeepPeriod || id == Obj.staleLimit, Abort.inconsistent,
    fun _ n _ => decide (2 * n.u Obj.housekeepPeriod > n.u Obj.staleLimit)⟩,
   ⟨fun id => id == Obj.throttleTemp || id == Obj.tjSafe, Abort.inconsistent, fun _ n _ => decide (n.i Obj.throttleTemp ≥ n.i Obj.tjSafe)⟩,
   ⟨fun id => id == Obj.boardThrottleTemp || id == Obj.derateEnd, Abort.inconsistent,
    fun _ n _ => decide (n.i Obj.boardThrottleTemp ≤ n.i Obj.derateEnd)⟩,
   ⟨fun id => id == Obj.throttleDwell || id == Obj.throttleRelease, Abort.inconsistent,
    fun _ n _ => decide (n.u Obj.throttleDwell > n.u Obj.throttleRelease)⟩,
   ⟨fun id => id == Obj.timeSource, Abort.inconsistent, fun _ n _ => n.u Obj.timeSource == 3 && !n.time.pairSource⟩,
   ⟨fun id => id == Obj.ethLaneRate || id == Obj.portMode 0 || id == Obj.portMode 1, Abort.inconsistent,
    fun _ n _ => (List.range n.variant.ports).any n.laneBad⟩,
   ⟨fun id => (decide (0x1150 ≤ id / 256) && decide (id / 256 ≤ 0x1156) && [1, 2, 4].contains (id % 256)) || id == Obj.portMode 0 ||
      id == Obj.portMode 1 || id == Obj.columnSplit, Abort.inconsistent, fun _ n _ => n.streamsBad⟩,
   ⟨fun id => id == Obj.duplicateMode || id == Obj.portMode 0 || id == Obj.portMode 1, Abort.inconsistent,
    fun _ n _ => n.dup && n.u (Obj.portMode 0) != n.u (Obj.portMode 1)⟩,
   ⟨fun id => isCamObj 0 id || isCamObj 1 id, Abort.inconsistent, fun _ n id =>
      let p := id / 256 - 0x2D10
      (n.u (Obj.camPixelsPerClock p) == 2 && n.u (Obj.camInputDepth p) != 8) ||
      decide (n.u (Obj.camVsyncDelayMin p) ≥ n.u (Obj.camVsyncDelayMax p)) || n.tapBad p⟩,
   ⟨fun id => isTimingObj id || id == Obj.pairRole, Abort.inconsistent, fun _ n _ => decide (n.takeoverNs > 250000)⟩]

/-- Checks with 0x0503. -/
def capacityChecks : List Check :=
  [⟨fun id => isProgram id || isScanObj id, Abort.capacity, fun _ n _ => n.slotsTooLong⟩,
   ⟨fun id => isProgram id || id == Obj.shutterClose || id == Obj.coarseBinWidth || (isChanIdx id && [6, 8].contains (id % 256)),
    Abort.capacity, fun _ n _ => n.flightTooLong⟩,
   ⟨fun id => isProgram id || id == Obj.integrationColumns, Abort.capacity, fun _ n _ =>
      n.programBanks.any (fun (e : Bytes × Nat) => decide (shotsMax e.1 e.2 * n.u Obj.integrationColumns > 4095))⟩,
   ⟨isTimingObj, Abort.capacity, fun _ n _ => n.scheduleBad⟩,
   ⟨fun id => decide (0x2510 ≤ id / 256) && decide (id / 256 < 0x2518) && id % 256 == 1, Abort.capacity, fun _ n _ => n.rolesFull⟩,
   ⟨fun id => id == Obj.preCount || id == Obj.postCount, Abort.capacity,
    fun _ n _ => decide (n.u Obj.preCount + n.u Obj.postCount > n.itemCap)⟩,
   ⟨fun id => [Obj.mtu, Obj.columnRun, Obj.returnMode, Obj.returnSlots, Obj.columnSummary, Obj.strEnable 1, Obj.strEnable 2].contains id,
    Abort.capacity, fun _ n _ => n.columnsOn && decide (28 + 32 + n.columnBytes (n.u Obj.columnRun) > n.u Obj.mtu)⟩,
   ⟨fun id => (decide (0x1141 ≤ id / 256) && decide (id / 256 ≤ 0x1160)) || atIdx [0x2200] id || isScanObj id, Abort.capacity,
    fun _ n _ => (List.range n.variant.ports).any n.loadBad⟩,
   ⟨fun id => isCamObj 0 id || isCamObj 1 id || id == Obj.mtu || id == Obj.strEnable 3 || id == Obj.strEnable 4, Abort.capacity,
    fun _ n _ => (List.range n.variant.cams).any n.lineTooLong⟩,
   ⟨fun id => isCamObj 0 id || isCamObj 1 id, Abort.capacity, fun _ n id => decide (n.camReserve (id / 256 - 0x2D10) > camStoreSize)⟩,
   ⟨fun id => isCamObj 0 id || isCamObj 1 id || id == Obj.camPriority, Abort.capacity,
    fun _ n _ => decide (n.tnrNeed (n.u Obj.camPriority) > tnrMemory)⟩]

/-- The first code that a list of checks gives an object's change; 0 when all pass. -/
def firstCode (cs : List Check) (old new : State) (id : Nat) : Abort :=
  match cs.find? (fun c => c.on id && c.bad old new id) with
  | some c => c.code
  | none => Abort.ok

end Sys2Proof.Machine
end

