-- ==== Sys2Proof/Machine/Activate.lean ====
section
/-!
DEFINITION. Activation: values that become live, what every unit does about a change, the shadow set and its activation by
COMMIT_SHADOW or a Knock (R64 to R68), RESTORE_DEFAULTS (R61), and the frames that mirror objects to the partner (R404, R405).
-/

namespace Sys2Proof.Machine

/-! ### What an object is -/

/-- Whether an object's value is kept in the calibration bank and not in the stored configuration (R262). -/
def heldInBank (id : Nat) : Bool := isChanIdx id && (id % 256 == 0x15 || id % 256 == 0x16)

/-- Whether a write to an object is a stored write (R46). -/
def isStored (id : Nat) : Bool := match objDef? id with | some o => o.stored | none => false

/-- The mirrored objects of R405: every RWS object of 0x2100 to 0x2C00 but ShotSeed and the areas 0x2600 and 0x2700. -/
def isMirrored (id : Nat) : Bool :=
  let i := id / 256
  decide (0x2100 ≤ i) && decide (i ≤ 0x2C00) && !(decide (0x2600 ≤ i) && decide (i < 0x2800)) && id != Obj.shotSeed &&
    (match objDef? id with | some o => (match o.acc with | .rws _ => true | _ => false) | none => false)

/-- The code that a stored write draws when MRAM cannot take it (R46, R421): 0x0402 in a safe boot, 0x0504, 0x0901. -/
def State.storeRefusal (s : State) (id : Nat) : Abort :=
  if !isStored id then Abort.ok
  else if s.dev.safeBoot ∧ !heldInBank id then Abort.notAllowedNow
  else s.mramRefusal

/-! ### Sessions of a key (R58) -/

/-- The open sessions of a level closed, with their transfers. -/
def State.closeLevel (s : State) (level : Nat) : State :=
  let gone := s.dtp.sessions.filter (fun x => x.level == level)
  let owned (o : XferOwner) : Bool := match o with
    | .session tr sid => gone.any (fun x => x.transport == tr && x.id == sid.toNat)
    | .source _ _ _ => false
  { s with dtp := { s.dtp with sessions := s.dtp.sessions.filter (fun x => x.level != level),
                               transfers := s.dtp.transfers.filter (fun t => !owned t.owner) } }

/-! ### What units do about a change -/

/-- Whether any of the changed objects satisfies a predicate. -/
def touched (ids : List Nat) (p : Nat → Bool) : Bool := ids.any p

/-- The frequency gate of an input discarded; collection restarts at the next gate boundary (R256). -/
def State.gateDrop (s : State) (n : Nat) : State := s.setAux n { s.auxIn n with gate := none }

/-- The converters whose sequence, pair mode or chains a change touches (R191). -/
def syncMask (ids : List Nat) : Nat :=
  let hit (c : Nat) : Bool := touched ids (fun id =>
    id == (if c = 0 then Obj.sc0Sequence else Obj.sc1Sequence) || (c == 0 && id == Obj.pairMode) ||
    (decide (0x2910 ≤ id / 256) && decide (id / 256 < 0x2916) && chainConv (id / 256 - 0x2910) == c))
  b2n (hit 0) + 2 * b2n (hit 1)

/-- A newly selected time source has given no measurement: the servo runs free until its first (Table TIME-1). -/
def State.sourceChanged (s : State) : State :=
  ({ s with time := { s.time with bestMaster := none, syncAt := none, delays := [], meanDelay := 0, dev := 0,
                                  requalQ := [], ppsAcceptedAt := none, slewing := false } }).setServo servoFree

/-- The pair's role taken from its object (R402): without a role PAIR_OWN is driven asserted; with one it is released and the pair
has to form anew. -/
def State.roleChanged (s : State) : State :=
  let role := s.u Obj.pairRole
  let s1 : State := { s with pair := { s.pair with role := role, claimSent := false, claimAcked := false, synced := false, columns := [],
                                                   configs := [], lostOnce := false } }
  let s2 := s1.setPhase (if role ≠ 0 ∧ s1.pair.linkUp then pairLinking else pairUnpaired)
  let s3 := if s2.time.pairSource then ({ s2 with time := { s2.time with pairSource := false } }).sourceChanged else s2
  if role = 0 then s3.pairAssert else s3.pairDrop

/-- The watch list changed: captures of channels that are no longer listed close with SHORT, and an engine whose entry names another channel
starts a history of its own (R232, R238). -/
def State.watchChanged (s old : State) : State :=
  let s1 := s.closeCaptures (fun _ c => !s.watchList.contains c.subject)
  { s1 with may := { s1.may with engines := s1.may.engines.zipIdx.map (fun x =>
      if old.watchList[x.2]? = s1.watchList[x.2]? then x.1 else { x.1 with history := [] }) } }

/-- MayflyEnable written: at 0 every capture closes with SHORT; where it becomes 1, the next segment of each engine carries DeadTime 0
(R237, R238). -/
def State.enableChanged (s old : State) : State :=
  if !s.b Obj.mayflyEnable then s.closeCaptures (fun _ _ => true)
  else if old.b Obj.mayflyEnable then s
  else { s with may := { s.may with engines := s.may.engines.map (fun x => { x with closedAt := none, deadTime := 0 }) } }

/-- What the units do about objects that have changed from the configuration `old`. -/
def State.applyChanges (s : State) (old : State) (ids : List Nat) : State :=
  let s1 := if touched ids heldInBank then s.wantBank 4 else s
  let s2 := if touched ids (fun id => [Obj.ipMode, Obj.ipAddress, Obj.netMask, Obj.gateway].contains id) then s1.refreshAddress else s1
  let s3 := (List.range 2).foldl (fun (s : State) p =>
    if ids.contains (Obj.portMode p) && s.u (Obj.portMode p) == 0 then s.linkDown p else s) s2
  let s4 := (List.range 7).foldl (fun (s : State) k => if ids.contains (Obj.strPortMap k) then s.refreshCarriers k else s) s3.refreshStreams
  let s5 := (s4.camRefresh old 0).camRefresh old 1
  let s6 := if touched ids (fun id => id / 256 == 0x2500 && decide (id % 256 ≤ 5)) then s5.intervalClear else s5
  let s7 := (List.range 9).foldl (fun (s : State) n =>
    if touched ids (fun id => id / 256 == 0x2510 + n || (n == 8 && id == Obj.calrefMode)) then s.gateDrop n else s) s6
  let m := syncMask ids
  let s8 := if m = 0 then s7 else s7.syncCause m
  let s9 : State := if ids.contains Obj.l1Pattern then { s8 with scan := { s8.scan with patternEntry := 0 } } else s8
  let s10' := if ids.contains Obj.watchList then s9.watchChanged old else s9
  let s10 := if ids.contains Obj.mayflyEnable then s10'.enableChanged old else s10'
  let s11 := if ids.contains Obj.timeSource then s10.sourceChanged else s10
  let s12 : State := if ids.contains Obj.ptpPortMode then
      { s11 with time := { s11.time with ptpPort := if s11.u Obj.ptpPortMode = 1 then 1 else 0 } }
    else s11
  let s13 := if ids.contains Obj.pairRole then s12.roleChanged else s12
  let s14 := if ids.contains Obj.operatorKey then s13.closeLevel 1 else s13
  if ids.contains Obj.integratorKey then s14.closeLevel 2 else s14

/-! ### CONFIG frames (R405) -/

/-- The body of a CONFIG frame: the boundary, the object, its value. -/
def State.configBody (s : State) (t : Stamp) (id : Nat) : Bytes :=
  s.linkTime t ++ leBytes 2 (id / 256) ++ [BitVec.ofNat 8 (id % 256), 0] ++ s.get id

/-- The owner's CONFIG frames for mirrored objects that have become live at a boundary. -/
def State.configSend (s : State) (t : Stamp) (ids : List Nat) : State :=
  if s.pair.role ≠ 0 ∧ s.pair.asserts then
    (ids.filter isMirrored).foldl (fun (s : State) id => s.pairSend 6 (s.configBody t id)) s
  else s

/-! ### Values that become live -/

/-- Values put live, with their MRAM copies where the object is stored and MRAM takes them. -/
def State.putAll (s : State) (vs : List (Nat × Bytes)) : State :=
  vs.foldl (fun (s : State) e =>
    let s1 := s.put e.1 e.2
    if isStored e.1 && !heldInBank e.1 && s1.storeRefusal e.1 == Abort.ok then s1.persist e.1 else s1) s

/-- Values activated at one instant: put live, acted upon by the units, and sent to a follower. -/
def State.activate (s : State) (vs : List (Nat × Bytes)) (t : Stamp) : State :=
  let ids := vs.map (fun e => e.1)
  ((s.putAll vs).applyChanges s ids).configSend t ids

/-- The staged values that an activation takes: all, or in STANDBY those that are not mirrored (R405). -/
def State.stagedSet (s : State) : List (Nat × Bytes) :=
  let ids := if s.dev.state = .standby then s.grp.changed.filter (fun id => !isMirrored id) else s.grp.changed
  ids.map (fun id => (id, Store.get s.variant s.grp.shadow id))

/-- The first code that one changed object draws, in the order of R49: an absent unit, range, state, resource, thermal. -/
def State.objectCode (old new : State) (id : Nat) : Abort :=
  let range := firstCode rangeChecks old new id
  let cap := firstCode capacityChecks old new id
  let store := old.storeRefusal id
  if namesAbsent old.variant id (new.get id) then Abort.notFitted
  else if range ≠ Abort.ok then range
  else if store = Abort.notAllowedNow then store
  else if cap ≠ Abort.ok then cap
  else store

/-- The combined check of R64: the code of the lowest-numbered failing object. -/
def State.combinedCode (s : State) (vs : List (Nat × Bytes)) : Abort :=
  let new : State := { s with live := vs.foldl (fun st e => Store.put s.variant st e.1 e.2) s.live }
  let lowest := (vs.map (fun e => (e.1, s.objectCode new e.1))).filter (fun e => e.2 != Abort.ok)
  match lowest with
  | [] => Abort.ok
  | e :: es => (es.foldl (fun (a : Nat × Abort) b => if b.1 < a.1 then b else a) e).2

/-- The shadow set with the values that an activation has taken removed. -/
def GroupState.without (g : GroupState) (ids : List Nat) : GroupState :=
  { g with shadow := g.shadow.filter (fun e => !ids.contains e.1), changed := g.changed.filter (fun id => !ids.contains id) }

/-- A value staged (R64). -/
def State.stageValue (s : State) (id : Nat) (bs : Bytes) : State :=
  let ids := if s.grp.changed.contains id then s.grp.changed else s.grp.changed ++ [id]
  { s with grp := { s.grp with shadow := tabPut s.grp.shadow id bs, changed := ids } }

/-- The shadow value of an object: the staged one, or the live one (R64). -/
def State.shadowGet (s : State) (id : Nat) : Bytes :=
  if s.grp.changed.contains id then Store.get s.variant s.grp.shadow id else s.get id

/-- The shadow set is frozen (R64, R66). -/
def State.frozen (s : State) : Bool := s.grp.pendingKnock.isSome || s.grp.commitWaiting.isSome

/-- The shadow set activated now: checked, and applied whole or not at all; how many objects were applied (R64). -/
def State.activateShadow (s : State) (t : Stamp) : Abort × Nat × State :=
  let vs := s.stagedSet
  let code := s.combinedCode vs
  if code ≠ Abort.ok then (code, 0, s)
  else
    let s1 : State := { s with grp := s.grp.without (vs.map (fun e => e.1)) }
    (Abort.ok, vs.length, s1.activate vs t)

/-! ### COMMIT_SHADOW, DISCARD_SHADOW, RESTORE_DEFAULTS -/

/-- COMMIT_SHADOW in a state where it is legal (R64): checked now; applied now, or at the next boundary. -/
def State.commitShadow (s : State) : Abort × State :=
  if s.frozen then (Abort.shadowFrozen, s)
  else if s.dev.state.hasColumns then
    let code := s.combinedCode s.stagedSet
    if code ≠ Abort.ok then (code, s) else (Abort.ok, { s with grp := { s.grp with commitWaiting := some s.dev.state } })
  else
    let r := s.activateShadow s.nowStamp
    (r.1, r.2.2)

/-- DISCARD_SHADOW (R64). -/
def State.discardShadow (s : State) : Abort × State :=
  if s.frozen then (Abort.shadowFrozen, s)
  else (Abort.ok, { s with grp := { s.grp with shadow := [], changed := [] } })

/-- Whether RESTORE_DEFAULTS sets an object (R61). -/
def isRestored (id : Nat) : Bool :=
  !heldInBank id && id / 256 != 0x1120 && id != Obj.knockKey &&
  (match objDef? id with
   | some o => o.stored && (match o.acc with | .rw | .wo | .rws _ | .wos _ => true | _ => false)
   | none => false)

/-- RESTORE_DEFAULTS in IDLE (R61): one stored write, refused whole. -/
def State.restoreDefaults (s : State) : Abort × State :=
  if s.dev.safeBoot then (Abort.notAllowedNow, s)
  else if s.mramRefusal ≠ Abort.ok then (s.mramRefusal, s)
  else
    let ids := (s.live.map (fun e => e.1)).filter isRestored
    let s1 : State := { s with live := s.live.filter (fun e => !isRestored e.1), mram := s.mram.filter (fun e => !isRestored e.1) }
    (Abort.ok, (s1.applyChanges s ids).configSend s.nowStamp ids)

/-! ### Activation at a boundary (R64, R66) -/

/-- The waiting COMMIT_SHADOW takes effect: checked once more against what is live. -/
def State.commitAtBoundary (s : State) (t : Stamp) : State :=
  match s.grp.commitWaiting with
  | none => s
  | some _ => (({ s with grp := { s.grp with commitWaiting := none } }).activateShadow t).2.2

/-- The pending Knock applies at an instant: its report carries the time of the applying boundary (R66, R68). -/
def State.knockApplyAt (s : State) (k : PendingKnock) (t : Stamp) : State :=
  let s1 : State := { s with grp := { s.grp with pendingKnock := none } }
  let r := s1.activateShadow t
  if r.1 ≠ Abort.ok then s1.knockRefused k r.1
  else r.2.2.knockReport k Abort.ok r.2.1 (s.nsAt t)

/-- A pending Knock whose ActivationTime the boundary has reached (R66). -/
def State.knockAtBoundary (s : State) (t : Stamp) : State :=
  match s.grp.pendingKnock with
  | none => s
  | some k => if k.activation ≤ s.nsAt t then s.knockApplyAt k t else s

/-! ### Frames that mirror objects (R404 to R406) -/

/-- One object of a BULK frame. -/
def bulkObject (e : Nat × Bytes) : Bytes :=
  leBytes 2 (e.1 / 256) ++ [BitVec.ofNat 8 (e.1 % 256), 0] ++ leBytes 4 e.2.length ++ e.2

/-- One window of the governor in a BULK frame: ticks to its next boundary, saturated sub-sums, then each sub-sum's entries. -/
def State.bulkWindow (s : State) (w : Nat) (g : GovWindow) : Bytes :=
  let l := max 1 (s.govStep w)
  leBytes 4 (l - (s.time.ticks - g.boundaryAt) % l) ++ leBytes 1 g.saturated ++
    g.subs.flatMap (fun sub => leBytes 2 sub.length ++ sub.flatMap (fun e => leBytes 2 e.1 ++ leBytes 6 e.2))

/-- The body of a BULK frame: the mirrored objects that differ from their defaults, the loop states, the governor (Table FAULT-7). -/
def State.bulkBody (s : State) : Bytes :=
  let objs := s.live.filter (fun e => isMirrored e.1)
  leBytes 2 objs.length ++ objs.flatMap bulkObject ++ (List.range 4).flatMap s.loopBody ++
    (s.fire.gov.zipIdx.flatMap (fun e => s.bulkWindow e.2 e.1))

/-- The owner's BULK frame. -/
def State.bulkSend (s : State) : State := if s.pair.asserts then s.pairSend 7 s.bulkBody else s

/-- Objects read from a BULK frame: the objects and the offset behind them. -/
def bulkObjects (bs : Bytes) : Nat → Nat → List (Nat × Bytes) × Nat
  | 0, off => ([], off)
  | n + 1, off =>
    let len := numAt (off + 4) 4 bs
    let r := bulkObjects bs n (off + 8 + len)
    ((numAt off 2 bs * 256 + numAt (off + 2) 1 bs, slice (off + 8) len bs) :: r.1, r.2)

/-- Sub-sums read from a BULK frame. -/
def bulkSubs (bs : Bytes) : Nat → Nat → List (List (Nat × Nat)) × Nat
  | 0, off => ([], off)
  | n + 1, off =>
    let k := numAt off 2 bs
    let sub := (List.range k).map (fun i => (numAt (off + 2 + 8 * i) 2 bs, numAt (off + 4 + 8 * i) 6 bs))
    let r := bulkSubs bs n (off + 2 + 8 * k)
    (sub :: r.1, r.2)

/-- The governor read from a BULK frame: a window's boundary lies one step before its next one. -/
def State.bulkGov (s : State) (bs : Bytes) : Nat → Nat → Nat → List GovWindow
  | 0, _, _ => []
  | n + 1, w, off =>
    let r := bulkSubs bs 17 (off + 5)
    { subs := r.1, saturated := numAt (off + 4) 1 bs,
      boundaryAt := s.time.ticks + numAt off 4 bs - max 1 (s.govStep w) } :: s.bulkGov bs n (w + 1) r.2

/-- BULK_FRAME: the follower takes the owner's mirrored objects, loop states and governor, and is in step from then on. -/
def State.bulkFrame (s : State) (f : PairFrame) : State :=
  s.pairTake f (fun s =>
    if s.pair.asserts then s
    else
      let bs := f.payload
      let r := bulkObjects bs (numAt 0 2 bs) 2
      let listed := r.1.filter (fun e => isMirrored e.1)
      let others := ((s.live.map (fun e => e.1)).filter (fun id => isMirrored id && !listed.any (fun e => e.1 == id))).map
        (fun id => (id, defaultOf s.variant id))
      let vs := listed ++ others
      let s1 := (s.putAll vs).applyChanges s (vs.map (fun e => e.1))
      let loops := (List.range 3).map (fun n => loopOfBody (slice (r.2 + 16 * n) 16 bs) s1.time.ticks)
      { s1 with pair := { s1.pair with mirror := loops, synced := true },
                fire := { s1.fire with gov := s1.bulkGov bs 3 0 (r.2 + 64) } })

/-- A mirrored value applied by the follower. -/
def State.configApply (s : State) (id : Nat) (bs : Bytes) : State := (s.putAll [(id, bs)]).applyChanges s [id]

/-- CONFIG_FRAME: the follower applies it at the boundary that the frame names, or at once when that instant is not ahead (R405). -/
def State.configFrame (s : State) (f : PairFrame) : State :=
  s.pairTake f (fun s =>
    let bs := f.payload
    let id := numAt 12 2 bs * 256 + numAt 14 1 bs
    if s.pair.asserts ∨ !isMirrored id then s
    else
      let t := s.stampOfLink bs
      if s.dev.state ≠ .standby ∨ t ≤ s.nowStamp then s.configApply id (bs.drop 16)
      else { s with pair := { s.pair with configs := s.pair.configs ++ [(t, id, bs.drop 16)] } })

/-- The waiting CONFIG values that a mirrored boundary makes live (R405). -/
def State.configsDue (s : State) (t : Stamp) : State :=
  let due := s.pair.configs.filter (fun e => decide (e.1 ≤ t))
  let s1 : State := { s with pair := { s.pair with configs := s.pair.configs.filter (fun e => decide (t < e.1)) } }
  due.foldl (fun (s : State) e => s.configApply e.2.1 e.2.2) s1

/-- RILMAN_LINK_UP: the link to the partner locks; HELLOs begin, and an owner sends its mirrored state (R404). -/
def State.rilmanUp (s : State) : State :=
  if s.pair.role = 0 ∨ s.pair.linkUp then s
  else
    let s1 : State := { s with pair := { s.pair with linkUp := true, lastHeartbeat := s.time.ticks, missRun := 0, helloSentAt := s.time.ticks } }
    let s2 := if s1.pair.phase = pairLost then s1 else s1.setPhase pairLinking
    s2.bulkSend

/-- HEARTBEAT from the partner: its state and owner flag are kept, and an owner whose partner has gone to STANDBY sends BULK
(R404, R409, Table FAULT-7). -/
def State.heartbeat (s : State) (f : PairFrame) : State :=
  s.pairTake f (fun s =>
    let st := numAt 0 1 f.payload
    let own := numAt 1 1 f.payload != 0
    let was := s.u Obj.partnerState
    let s1 : State := { s with pair := { s.pair with
      lastHeartbeat := s.time.ticks, missRun := 0,
      netReleased := if own then false else s.pair.netReleased } }
    let s2 := s1.setU Obj.partnerState st
    if st = DevState.standby.code ∧ was ≠ st then s2.bulkSend else s2)

/-- TakeoverBudget as the objects give it (R411). -/
def State.takeoverBudget (s : State) : Nat := s.takeoverNs

end Sys2Proof.Machine
end

