-- ==== Sys2Proof/Machine/Column.lean ====
section
/-!
DEFINITION. What happens at a column boundary beside the measuring units: a waiting commit and a Knock (R64, R66), a pending transition
(R62), throttle steps (R298), angle triggers (R355), the COLUMN frames of a pair (R405, R406); and the Transom slot with its deferred
work (R210).
-/

namespace Sys2Proof.Machine

/-- The next boundary: in SCAN and HOLD the trajectory's, in STANDBY that of the first waiting COLUMN frame; with the frame (R209,
R406). -/
def State.boundaryNext (s : State) : Option (Bdy × Bytes) :=
  match s.dev.state with
  | .scan | .hold => s.nextBdy.map (fun b => (b, []))
  | .standby => s.mirroredBdy
  | _ => none

/-- SHADOW_ACTIVATION: the waiting COMMIT_SHADOW takes effect at its boundary (R64). -/
def State.shadowActivation (s : State) : State :=
  match s.grp.commitWaiting, s.boundaryNext with
  | some _, some (b, _) => (s.runToStamp b.t).commitAtBoundary b.t
  | _, _ => s

/-- KNOCK_APPLY: at the first boundary at or after ActivationTime, or at that time itself in IDLE and ARMED (R66). -/
def State.knockApply (s : State) : State :=
  match s.grp.pendingKnock with
  | none => s
  | some k =>
    if s.dev.state.hasColumns then
      match s.boundaryNext with
      | some (b, _) => if k.activation ≤ s.nsAt b.t then (s.runToStamp b.t).knockApplyAt k b.t else s
      | none => s
    else
      let s1 := s.runTo (s.tickOfNs k.activation)
      s1.knockApplyAt k s1.nowStamp

/-- The triggers of a camera port whose time native time has reached, launched (Table TIME-4). -/
def State.camPassed (s : State) (p : Nat) : State :=
  (List.range (1 + (s.cam p).angleNs.length)).foldl (fun (s : State) _ =>
    match s.camNext p with
    | some (ns, _, _) => if ns ≤ s.nowNs then s.camLaunch p else s
    | none => s) s

/-- What a step of native time does to the actions scheduled in it, `before` being the state ahead of it: a camera trigger that it
passes fires at the step instant, and a Knock that it passes applies at once where there are no column boundaries (R322, R356, Table
TIME-4). -/
def State.afterStep (s before : State) : State :=
  if s.u Obj.stepCount = before.u Obj.stepCount then s
  else
    let s1 := (List.range 2).foldl (fun (s : State) p => s.camPassed p) s
    match s1.grp.pendingKnock with
    | some k => if !s1.dev.state.hasColumns ∧ k.activation ≤ s1.nowNs then s1.knockApplyAt k s1.nowStamp else s1
    | none => s1

/-- The pending transition acts (R62), in the states in which its command is legal (Table DICT-9). -/
def State.transitionDue (s : State) : State :=
  match s.scan.pendingCmd with
  | none => s
  | some c =>
    let s1 : State := { s with scan := { s.scan with pendingCmd := none } }
    if !c.legalIn s1.dev.state then s1
    else match c with
    | .pause => s1.enterState .hold c.code 0
    | .resume => s1.enterState .scan c.code 0
    | .stop => s1.enterState .armed c.code 0
    | _ => s1

/-- The frame of the column that a boundary begins (R210). -/
def State.frameAt (s : State) (b : Bdy) : Nat :=
  if s.dev.state = .scan then (if s.scan.frameStarted then s.scan.frame + b2n b.first else 0) else s.scan.frame

/-- COLUMN_BOUNDARY in SCAN and HOLD. -/
def State.ownBoundary (s : State) (b : Bdy) : State :=
  let s1 := s.runToStamp b.t
  let s2 := if s1.scan.pendingCmd = some .stop then s1 else s1.camColumn b.index b.reverse (s1.frameAt b) (s1.nsAt b.t)
  let s3 := ((s2.commitAtBoundary b.t).knockAtBoundary b.t).transitionDue
  if !s3.dev.state.hasColumns then { s3 with scan := { s3.scan with completed := s3.scan.completed + b2n s2.scan.running } }
  else
    let s4 := s3.throttleApply
    let s5 := if s4.cal.zeroMode = 0 then s4 else s4.setCal { s4.cal with zeroColumns := s4.cal.zeroColumns + 1 }
    (s5.unitsAtBoundary b).columnFrameSend

/-- COLUMN_BOUNDARY in STANDBY, from the owner's COLUMN frame (R406). -/
def State.mirrorBoundary (s : State) (b : Bdy) (frame : Bytes) : State :=
  let s1 := s.runToStamp b.t
  let s2 : State := { s1 with pair := { s1.pair with columns := s1.pair.columns.tail } }
  let s3 := s2.camColumn b.index b.reverse (s2.frameAt b) (s2.nsAt b.t)
  let s4 := ((s3.commitAtBoundary b.t).knockAtBoundary b.t).configsDue b.t
  (s4.throttleApply.unitsAtBoundary b).banksOfFrame frame

/-- COLUMN_BOUNDARY (R209). -/
def State.columnBoundary (s : State) : State :=
  match s.boundaryNext with
  | none => s
  | some (b, frame) => if s.dev.state = .standby then s.mirrorBoundary b frame else s.ownBoundary b

/-- TRANSOM_SLOT: the slot begins, with deferred calibration (R210, R268). -/
def State.transomBegin (s : State) : State :=
  match s.nextTransom with
  | none => s
  | some (t, e, _) =>
    let s1 := s.transomSlot
    s1.calAtSlot t (decide (e - s.lastShot t ≥ 64 * s.windowTicks + 8000))

end Sys2Proof.Machine
end

