-- ==== Sys2Proof/Machine/Operands.lean ====
section
/-!
DEFINITION. The operands of a request: what an index and subindex name (R3, R8, R43, R47, R107), the value that a read returns and what a
read clears, and the checks of a write, a stage and a command in the order of R49.
-/

namespace Sys2Proof.Machine

/-! ### What an index and subindex name -/

/-- An object that has no row in the dictionary, an object number, or nothing. -/
inductive Named where
  | missing
  | fixed (ty : OTy) (bs : Bytes)
  | object (id : Nat)
deriving DecidableEq, Repr

/-- Subindex 0 of an index and the objects after it (R43). -/
def namedIn (rows : List Named) (sub : Nat) : Named :=
  if rows.isEmpty then .missing
  else if sub = 0 then .fixed .u8 [BitVec.ofNat 8 rows.length]
  else rows.getD (sub - 1) .missing

/-- The alias area (Table SCOPE-5). -/
def aliasNamed (index sub : Nat) : Named :=
  if index = 0x5000 then
    namedIn [.fixed .u16 (leBytes 2 0x3140), .fixed .u16 (leBytes 2 128), .object Obj.partNumber, .object Obj.deviceIdentity] sub
  else if index = 0x5001 then namedIn [.object Obj.command, .object Obj.state, .object Obj.activeAlarms] sub
  else if index = 0x5010 then
    namedIn [.object Obj.compatTime, .object Obj.compatOffset, .object Obj.compatRate, .object Obj.compatTicks] sub
  else if index = 0x5020 then namedIn [.object Obj.coarseBinWidth, .object Obj.integrationColumns, .object Obj.returnMode] sub
  else if 0x5100 ≤ index ∧ index < 0x5180 then
    let n := index - 0x5100
    namedIn [.object (Obj.chChannelStatus n), .object (Obj.chShutterOverride n), .object (Obj.chShutterOpen n),
      .object (Obj.chShutterClose n), .object (Obj.chHoldOff n), .object (Obj.chZeroOffset n)] sub
  else .missing

/-- The subindices of Table CHAN-9 that only a primary channel has. -/
def primaryOnly : List Nat := [0x03, 0x04, 0x05, 0x06, 0x07, 0x08, 0x09, 0x0E, 0x15, 0x17, 0x1B]

/-- The native objects (R43, R107). -/
def nativeNamed (index sub : Nat) : Named :=
  let rows := Dict.at index
  let top := (rows.map (fun o => o.id % 256)).foldl max 0
  let scarab := decide (0x3400 ≤ index) && decide (index < 0x3440)
  let primary := decide (0x3000 ≤ index) && decide (index < 0x3400)
  if rows.isEmpty then .missing
  else if sub = 0 then .fixed .u8 [BitVec.ofNat 8 top]
  else if (scarab && primaryOnly.contains sub) || (primary && sub == 0x16) then .missing
  else if rows.any (fun o => o.id == index * 256 + sub) then .object (index * 256 + sub)
  else .missing

/-- What an index and subindex name; the alias area exists in compatibility mode only (R7). -/
def State.named (s : State) (index sub : Nat) : Named :=
  if 0x5000 ≤ index ∧ index < 0x6000 then (if s.dev.compat then aliasNamed index sub else .missing)
  else nativeNamed index sub

/-- Whether an index belongs to an absent unit (R3). -/
def unitAbsent (v : Variant) (index : Nat) : Bool :=
  if 0x3000 ≤ index ∧ index < 0x3440 then !v.hasPath (index - 0x3000)
  else if index = 0x1142 then v.ports == 1
  else if index = 0x1153 ∨ index = 0x2D00 ∨ index = 0x2D10 then v == .fl6412
  else if index = 0x1154 ∨ index = 0x2D11 ∨ index = 0x2E00 then v != .sv
  else false

/-! ### Values that are read -/

/-- The value of an object that is formed when it is read; none where the store holds it. -/
def State.computed (s : State) (id : Nat) : Option Bytes :=
  let u (n v : Nat) : Option Bytes := some (leBytes n v)
  let index := id / 256
  let sub := id % 256
  if isChanIdx id then s.chanRead (index - 0x3000) sub
  else if 0x2910 ≤ index ∧ index < 0x2916 then
    let n := index - 0x2910
    if sub = 6 then (if s.chainIdle n then u 4 0 else none)
    else if sub = 7 then u 4 (s.outputRate n)
    else if sub = 8 then u 4 (s.groupDelay n)
    else if sub = 9 then u 4 (s.settlingTime n)
    else none
  else if 0x2A10 ≤ index ∧ index < 0x2A14 then (if sub = 0x17 then u 4 (s.loopStatus (index - 0x2A10)) else none)
  else if 0x2510 ≤ index ∧ index < 0x2519 then
    if sub = 2 then u 1 (s.auxRoleNow (index - 0x2510))
    else if sub = 0x0B ∧ index = 0x2518 then u 8 (s.freqNominal 8)
    else none
  else if 0x1150 ≤ index ∧ index < 0x1157 then (if sub = 6 then u 1 (s.portNow (index - 0x1150)) else none)
  else match index with
    | 0x1200 => if id = Obj.armReady then u 1 (b2n s.armReady) else if id = Obj.state then u 1 s.dev.state.code else none
    | 0x1210 => if id = Obj.slotStatus then some s.slotStatus else if id = Obj.clockStatus then u 1 s.dev.pllLock else none
    | 0x1300 =>
      if id = Obj.nativeTime then some (time80 s.nowNs)
      else if id = Obj.increment then u 8 s.time.increment
      else if id = Obj.compatTicks then u 8 s.time.ticks
      else if id = Obj.compatTime then u 8 s.compatTime
      else if id = Obj.timeStatus then u 2 s.timeStatus
      else none
    | 0x1400 =>
      if id = Obj.eventRing then some s.eventRingBytes
      else if id = Obj.eventCounters then some s.eventCounterBytes
      else if id = Obj.journal then some s.journalBytes
      else if id = Obj.journalCount then u 2 s.ev.journal.length
      else none
    | 0x2300 => if id = Obj.mantisTrains then some s.mantisBytes else none
    | 0x2400 =>
      if id = Obj.ringUsed then u 4 s.may.ring.length
      else if id = Obj.ringCapacity then u 4 s.ringCap
      else if id = Obj.truncActive then u 1 (b2n s.truncActive)
      else if id = Obj.effectivePre then u 1 s.effPre
      else if id = Obj.effectivePost then u 1 s.effPost
      else none
    | 0x2500 => if id = Obj.intervalLog then some (padTo 1024 s.aux.log.flatten) else none
    | 0x2600 => if id = Obj.calBankExport then (match s.activeBank with | some b => some (b.bytes s.variant) | none => some []) else none
    | 0x2700 => if id = Obj.refreshWorst then u 4 s.refreshWorst else none
    | 0x2800 => if id = Obj.wcConfig then some s.wcConfig else none
    | 0x2A00 => if id = Obj.columnPeriodMin then u 4 s.pMinNs else none
    | 0x2C00 => if id = Obj.fireInhibitCause then u 2 s.fire.inhibit else none
    | 0x2D00 => if id = Obj.tnrMemUsed then some s.tnrMemUsed else if id = Obj.tnrConflict then u 1 (b2n s.tnrConflict) else none
    | 0x2E00 =>
      if id = Obj.recRateNow then u 4 s.recRateNow
      else if id = Obj.readData then some s.recd.lastRead
      else none
    | 0x2F00 => if id = Obj.takeoverBudget then u 4 s.takeoverBudget else none
    | _ => none

/-- The live value that a read returns. -/
def State.readValue (s : State) (id : Nat) : Bytes :=
  match s.computed id with
  | some bs => bs
  | none => s.get id

/-- The value that a read of the live or of the shadow value returns (R64). -/
def State.valueOf (s : State) (shadow : Bool) (id : Nat) : Bytes :=
  if shadow && s.grp.changed.contains id then s.shadowGet id else s.readValue id

/-- What reading an object does to it: the maxima and latches that a read clears (R156, R185, R198, R224, R248, R350, R374, R399, R413). -/
def State.readClears (s : State) (id : Nat) : State :=
  let index := id / 256
  if id = Obj.journalDropped then s.journalSeen
  else if [Obj.ringHighWater, Obj.govFill, Obj.wcStatus, Obj.bufferHighWater, Obj.mirrorLag, Obj.camStoreHighWater 0,
      Obj.camStoreHighWater 1].contains id then
    s.put id (List.replicate (objSize id) 0)
  else if 0x2A10 ≤ index ∧ index < 0x2A14 ∧ id % 256 = 0x19 then s.setU id 0
  else if 0x2A10 ≤ index ∧ index < 0x2A14 ∧ id % 256 = 0x17 then
    let n := index - 0x2A10
    s.setLoop n { s.loop n with miss := false, limit := false }
  else s

/-! ### The checks before a value is looked at (R49) -/

/-- In recovery only authentication, the objects of 0x1000 and 0x1210, FirmwareImage and the commands of an update are legal (R425). -/
def State.recoveryBars (s : State) (id : Nat) : Bool :=
  s.dev.recovery && !(id / 256 == 0x1000 || id / 256 == 0x1210 || id == Obj.firmwareImage || id == Obj.command)

/-- The checks of a read: level, access, DOMAIN by READ, transport limit, state. -/
def State.readCode (s : State) (o : ObjDef) (level : Nat) (blockWise : Bool) (size limit : Nat) : Abort :=
  if level < o.level then Abort.level
  else if o.acc.noRead then Abort.writeOnly
  else if !blockWise && (o.ty.isDomain || decide (size > limit)) then Abort.wrongLength
  else if s.recoveryBars o.id then Abort.notAllowedNow
  else Abort.ok

/-- Whether a length is one that the object's type or chapter allows (R44). -/
def sizeOk (o : ObjDef) (n : Nat) : Bool := decide (o.ty.sizes.1 ≤ n) && decide (n ≤ o.ty.sizes.2) && lengthOk o.id n

/-- The state checks that a write draws whatever its value (R45, R64, R425, R421). -/
def State.stateCode (s : State) (o : ObjDef) (stage : Bool) : Abort :=
  if s.recoveryBars o.id then Abort.notAllowedNow
  else if stage then
    if !o.staged then Abort.notWritableNow
    else if !s.dev.state.stages then Abort.notAllowedNow
    else if s.dev.state = .standby ∧ isMirrored o.id then Abort.notWritableNow
    else if s.frozen then Abort.shadowFrozen
    else Abort.ok
  else if !o.acc.writableIn s.dev.state then Abort.notWritableNow
  else if s.storeRefusal o.id = Abort.notAllowedNow then Abort.notAllowedNow
  else if (o.id = Obj.kind ∨ o.id = Obj.payloadSize) ∧ s.may.ring ≠ [] then Abort.notAllowedNow
  else Abort.ok

/-- Reserved bits set in a value (R10). -/
def reservedSet (o : ObjDef) (bs : Bytes) : Bool := (leVal bs &&& o.reserved != 0) || reservedInside o.id bs

/-- A value in the range of its object by itself (R44). -/
def State.valueCode (s : State) (o : ObjDef) (bs : Bytes) : Abort :=
  if !encodingOk o.ty bs || !rangeOk o bs then Abort.range else contentCode s o.id bs

/-- Whether the channel of a setting is out of service, so that its settings cannot be written (R107). -/
def State.channelOut (s : State) (id : Nat) : Bool :=
  isChanIdx id && decide (3 ≤ id % 256) && decide (id % 256 ≤ 9) && [0x3, 0x4, 0x5].contains (s.roleNow (id / 256 - 0x3000))

/-- The checks of a value of good length, for a write or a stage, in the order of R49. -/
def State.judge2 (s : State) (o : ObjDef) (bs : Bytes) (stage : Bool) : Abort :=
  let new := s.put o.id bs
  let value := s.valueCode o bs
  let range := if stage then Abort.ok else firstCode rangeChecks s new o.id
  let state := s.stateCode o stage
  let cap := if stage then Abort.ok else firstCode capacityChecks s new o.id
  let store := if stage then Abort.ok else s.storeRefusal o.id
  if namesAbsent s.variant o.id bs then Abort.notFitted
  else if reservedSet o bs then Abort.reservedBit
  else if value ≠ Abort.ok then value
  else if range ≠ Abort.ok then range
  else if state ≠ Abort.ok then state
  else if cap ≠ Abort.ok then cap
  else if store = Abort.powerFail then store
  else if s.channelOut o.id then Abort.outOfService
  else store

/-- The checks of a WRITE or STAGE: level, access, type, DOMAIN, length, then those of the value. `limit` is what the transport
carries in one message. -/
def State.writeCode (s : State) (o : ObjDef) (level ty : Nat) (bs : Bytes) (stage : Bool) (limit : Nat) : Abort :=
  if level < o.level then Abort.level
  else if o.acc.noWrite then Abort.readOnly
  else if ty ≠ o.ty.code then Abort.wrongType
  else if o.ty.isDomain ∨ bs.length > limit ∨ !sizeOk o bs.length then Abort.wrongLength
  else s.judge2 o bs stage

/-- The checks of a BLOCK_WRITE_INIT: level, access, length, reserved flags, state. -/
def State.blockWriteCode (s : State) (o : ObjDef) (level total flags : Nat) : Abort :=
  if level < o.level then Abort.level
  else if o.acc.noWrite then Abort.readOnly
  else if !sizeOk o total then Abort.wrongLength
  else if flags > 1 then Abort.reservedBit
  else s.stateCode o (flags == 1)

/-! ### Commands (R60 to R64) -/

/-- CLEAR_SAFE: SAFE to IDLE when SAFE_OFF_N is high and no Fatal cause is active; latched causes end (R60, R219, Table EMIT-6). -/
def State.clearSafe (s : State) : Abort × State :=
  let active (c : Nat) : Bool := [0x0303, 0x0304, 0x0604].contains c
  if !s.fire.safeOffN ∨ s.ev.fatal.any active then (Abort.notAllowedNow, s)
  else
    let s1 : State := { s with ev := { s.ev with fatal := [] }, scan := { s.scan with stall := false } }
    (Abort.ok, ((s1.inhibitOff inhStall).inhibitOff inhSupply).enterState .idle 0x000D 0)

/-- The emitter-board temperature lies outside -40 to +95 degrees, or there is no thermistor table (R61, R286). -/
def State.boardForbids (s : State) : Bool :=
  decide (s.i Obj.boardTemp < -4000) || decide (s.i Obj.boardTemp > 9500) || allZero (s.get Obj.thermTable)

/-- ARM (R60, R61, R286, R407). -/
def State.armCommand (s : State) : Abort × State :=
  if s.u Obj.activeBank = 0 then (Abort.notAllowedNow, s)
  else if !s.armMayOwn then (Abort.notAllowedNow, s.claimSend)
  else if s.boardForbids then (Abort.boardTemp, s)
  else
    let s1 := if s.pair.role = 0 then s else s.pairAssert
    (Abort.ok, s1.enterState .armed 0x0001 0)

/-- A transition that waits for the next column boundary (R62). -/
def State.transitionAsk (s : State) (c : Cmd) : State := { s with scan := { s.scan with pendingCmd := some c } }

/-- What a command that is legal in the state does. -/
def State.commandAct (s : State) (c : Cmd) : Abort × State :=
  match c with
  | .arm => s.armCommand
  | .start => if s.armReady then (Abort.ok, s.enterState .scan c.code 0) else (Abort.notAllowedNow, s)
  | .pause | .resume | .stop => (Abort.ok, s.transitionAsk c)
  | .disarm => (Abort.ok, s.enterState .idle c.code 0)
  | .calibrate => (Abort.ok, s.enterState .calibrate c.code 0)
  | .endCalibrate => (Abort.ok, s.enterState .idle c.code 0)
  | .follow => if s.u Obj.pairRole = 0 then (Abort.notAllowedNow, s) else (Abort.ok, s.enterState .standby c.code 0)
  | .enterUpdate => (Abort.ok, s.enterState .update c.code 0)
  | .commitImage =>
    let r := s.commitImage
    if r.1 = Abort.ok then (Abort.ok, r.2.enterReset 3) else r
  | .cancelUpdate =>
    if s.dev.recovery then (Abort.ok, s.emptyTarget.enterReset 2) else (Abort.ok, s.emptyTarget.enterState .idle c.code 0)
  | .clearSafe => s.clearSafe
  | .forceSafe => (Abort.ok, s.enterState .safe c.code 0)
  | .reset => (Abort.ok, s.enterReset 2)
  | .commitShadow => s.commitShadow
  | .discardShadow => s.discardShadow
  | .restoreDefaults => s.restoreDefaults

/-- A command: refused while a transition is pending, or in a state for which Table DICT-9 has a dash, which is logged (R60, R62). -/
def State.command (s : State) (c : Cmd) : Abort × State :=
  if s.dev.recovery ∧ c ≠ .commitImage ∧ c ≠ .cancelUpdate then (Abort.notAllowedNow, s)
  else if s.scan.pendingCmd.isSome ∧ c ≠ .forceSafe ∧ c ≠ .reset then (Abort.transitionPending, s)
  else if !c.legalIn s.dev.state then (Abort.notAllowedNow, s.raise 0x0101 c.code 1 c.code)
  else
    let t : State := if c = .forceSafe ∨ c = .reset then { s with scan := { s.scan with pendingCmd := none } } else s
    t.commandAct c

/-- A write to Command: the code's own level, and the codes that the alias accepts (R8, R60). -/
def State.commandWrite (s : State) (viaAlias : Bool) (level code : Nat) : Abort × State :=
  let aliased := decide (1 ≤ code ∧ code ≤ 6) || decide (0xD ≤ code ∧ code ≤ 0xF)
  match Cmd.ofCode code with
  | none => (Abort.range, s)
  | some c =>
    if level < c.level then (Abort.level, s)
    else if viaAlias && !aliased then (Abort.range, s)
    else s.command c

/-! ### Values written -/

/-- A write to TimeTrigger (R229). -/
def State.timeTriggerWrite (s : State) (bs : Bytes) : Abort × State :=
  let t := ofTime80 bs * 4294967296
  if t = 0 then (Abort.ok, s.put Obj.timeTrigger bs)
  else if t < s.time.native then (Abort.timeElapsed, s)
  else if t < s.time.native + 10000 * 4294967296 then (Abort.timeLead, s)
  else (Abort.ok, s.put Obj.timeTrigger bs)

/-- A write to HostTrigger (R230). -/
def State.hostTriggerWrite (s : State) : Abort × State :=
  if !s.mayArmed then (Abort.notAllowedNow, s) else (Abort.ok, s.mayTrigger 12 0xFFFF s.nowStamp)

/-- A write to TimeSet, with the actions that the step passes (R309, R322). -/
def State.timeSetWrite (s : State) (bs : Bytes) : Abort × State :=
  let r := s.timeSet (numAt 0 6 bs) (numAt 6 4 bs)
  (r.1, r.2.afterStep s)

/-- A write to TimeAdjust, with the actions that the step passes (R309, R322). -/
def State.timeAdjustWrite (s : State) (bs : Bytes) : Abort × State :=
  let r := s.timeAdjust (intAt 0 8 bs)
  (r.1, r.2.afterStep s)

/-- An object whose write is an operation of its own: its outcome. -/
def State.writeOp (s : State) (id : Nat) (bs : Bytes) : Option (Abort × State) :=
  let n := leVal bs
  let sub := id % 256
  if isChanIdx id then
    let p := id / 256 - 0x3000
    if sub = 0x17 then some (s.replaceRequest p n) else if sub = 0x18 then some (s.restoreRequest p n) else none
  else if id = Obj.timeSet then some (s.timeSetWrite bs)
  else if id = Obj.timeAdjust then some (s.timeAdjustWrite bs)
  else if id = Obj.incrementSet then some (s.incrementSet n)
  else if id = Obj.journalClear then some s.journalClearCmd
  else if id = Obj.timeTrigger then some (s.timeTriggerWrite bs)
  else if id = Obj.hostTrigger then some s.hostTriggerWrite
  else if id = Obj.calRequest then some (s.calRequest n)
  else if id = Obj.calBankImport then some (s.calBankImport bs)
  else if id = Obj.zeroRun then some (s.zeroRun n)
  else if id = Obj.zeroApply then some (s.zeroApply n)
  else if id = Obj.tempDemand then some (s.tempDemandWrite n)
  else if id = Obj.chainSync then some (s.chainSync n)
  else if id = Obj.camTrigTime 0 then some (s.camTrigTime 0 (ofTime80 bs))
  else if id = Obj.camTrigTime 1 then some (s.camTrigTime 1 (ofTime80 bs))
  else if id = Obj.recCommand then some (s.recCommand n)
  else if id = Obj.recFormat then some (s.recFormatCmd n)
  else if id = Obj.firmwareImage then some (Abort.ok, s.storeImage bs)
  else none

/-- A value that has passed the checks takes effect: staged, done, or live at once (R46, R64). -/
def State.writeAct (s : State) (id : Nat) (bs : Bytes) (stage : Bool) : Abort × State :=
  if stage then (Abort.ok, s.stageValue id bs)
  else match s.writeOp id bs with
    | some r => r
    | none => (Abort.ok, s.activate [(id, bs)] s.nowStamp)

end Sys2Proof.Machine
end

