-- ==== Sys2Proof/Machine/Dtp.lean ====
section
/-!
DEFINITION. DTP (R49 to R58, R454): the form of a request, sessions with their tags and counters, the object operations, block transfers,
authentication, and the answer that every request draws.
-/

namespace Sys2Proof.Machine

/-! ### Messages on the wire (Tables DICT-5 to DICT-7) -/

/-- The opcodes of Table DICT-6. -/
def opRead : Nat := 0x01
def opWrite : Nat := 0x02
def opStage : Nat := 0x03
def opBlockRead : Nat := 0x04
def opBlockWrite : Nat := 0x05
def opBlockNext : Nat := 0x06
def opChallenge : Nat := 0x10
def opResponse : Nat := 0x11
def opClose : Nat := 0x12

/-- The opcodes that the device processes. -/
def opcodes : List Nat := [opRead, opWrite, opStage, opBlockRead, opBlockWrite, opBlockNext, opChallenge, opResponse, opClose]

/-- Bytes of a response body after AbortCode, without the value of a READ or the data of a block (Table DICT-6); a refusal fills them
with zeros. -/
def tailSize (op : Nat) : Nat :=
  if op = opRead ∨ op = opBlockRead then 6
  else if op = opBlockNext then 4
  else if op = opChallenge then 18
  else if opcodes.contains op then 2
  else 0

/-- A header of Table DICT-5 or DICT-7. -/
def headBytes (tr : Transport) (op transaction sid len counter : Nat) : Bytes :=
  match tr with
  | .udp => [1, BitVec.ofNat 8 op] ++ leBytes 2 transaction ++ leBytes 2 sid ++ leBytes 2 len ++ leBytes 4 counter
  | .can => [BitVec.ofNat 8 op, BitVec.ofNat 8 transaction, BitVec.ofNat 8 sid, BitVec.ofNat 8 len] ++ leBytes 4 counter

/-- A frame's content filled to a data length of CAN FD (R51). -/
def canPad (bs : Bytes) : Bytes :=
  match [12, 16, 20, 24, 32, 48, 64].find? (fun n => decide (bs.length ≤ n)) with
  | some n => if bs.length ≤ 8 then bs else padTo n bs
  | none => bs

/-- The tag's length (R56). -/
def tagSize : Transport → Nat
  | .udp => 16
  | .can => 8

/-- A message, tagged under a key where there is one. -/
def message (tr : Transport) (op transaction sid counter : Nat) (body : Bytes) (key : Option Bytes) : Bytes :=
  let m := headBytes tr op transaction sid body.length counter ++ body
  let out := match key with
    | some k => m ++ (hmacSha256 k m).take (tagSize tr)
    | none => m
  match tr with
  | .udp => out
  | .can => canPad out

/-- The answer to a request, for its transport. -/
def answerOf (h : ReqHdr) (op sid counter : Nat) (body : Bytes) (key : Option Bytes) : Answer :=
  { transport := h.transport, port := h.port, dstAddr := h.srcAddr, dstPort := h.srcPort,
    bytes := message h.transport op h.transaction.toNat sid counter body key }

/-- The response body of a code: the code, then the rest when it is a success, else zeros. -/
def replyBody (op : Nat) (code : Abort) (tail : Bytes) : Bytes :=
  leBytes 2 code ++ (if code = Abort.ok then tail else List.replicate (tailSize op) 0)

/-- Whether the body of an opcode has the length that Table DICT-6 gives it. -/
def bodyOk (op : Nat) (bs : Bytes) : Bool :=
  let n := bs.length
  if op = opRead ∨ op = opBlockRead then n == 4
  else if op = opWrite ∨ op = opStage then decide (8 ≤ n) && numAt 4 2 bs == n - 8
  else if op = opBlockWrite then n == 8
  else if op = opBlockNext then decide (4 ≤ n)
  else if op = opChallenge then n == 20
  else if op = opResponse then n == 32
  else n == 0

/-- The form check (R49, R50, R51): version, lengths, the tag's presence, Counter 0 under SessionId 0, the body's length. -/
def formOk (h : ReqHdr) (op : Nat) (body : Bytes) : Bool :=
  let tagged := h.sessionId != 0#16
  let len := h.bodyLength.toNat
  bodyOk op body && (tagged || h.counter == 0#32) && body.length == len &&
  (match h.transport with
   | .udp => h.version == 1#8 && decide (len ≤ 1032) && h.tag.length == (if tagged then 16 else 0)
   | .can => decide (len ≤ (if tagged then 48 else 56)) && (!tagged || decide (8 ≤ h.tag.length)) &&
       decide (8 + len + h.tag.length ≤ 64))

/-- Whether the tag of a request is the first bytes of the HMAC of its header and body (R56). -/
def tagOk (h : ReqHdr) (op : Nat) (body key : Bytes) : Bool :=
  let m := headBytes h.transport op h.transaction.toNat h.sessionId.toNat h.bodyLength.toNat h.counter.toNat ++ body
  h.tag.take (tagSize h.transport) == (hmacSha256 key m).take (tagSize h.transport)

/-! ### Who asks -/

/-- The level and the transfer owner of a request. -/
structure Caller where
  level : Nat
  owner : XferOwner
  tagged : Bool
  tr : Transport
deriving DecidableEq, Repr

/-- What an operation answers: its code, the rest of the response body, and the state. -/
structure Reply where
  code : Abort
  tail : Bytes
  st : State
deriving DecidableEq, Repr

/-- A refusal, which changes nothing. -/
def refusal (s : State) (code : Abort) : Reply := { code := code, tail := [], st := s }

/-- A code with the state that goes with it, and the rest of the body where it is a success. -/
def replyWith (r : Abort × State) (tail : Bytes) : Reply := { code := r.1, tail := tail, st := r.2 }

/-- The longest value of one READ, WRITE or STAGE (R52). -/
def Caller.limit (c : Caller) : Nat :=
  match c.tr with
  | .udp => 1024
  | .can => if c.tagged then 40 else 48

/-- The longest data block (R53). -/
def Caller.block (c : Caller) : Nat :=
  match c.tr with
  | .udp => 1024
  | .can => if c.tagged then 44 else 52

/-- A caller without a session. Over CAN all such callers are one (R53). -/
def anonymous (h : ReqHdr) : Caller :=
  { level := 0, tagged := false, tr := h.transport,
    owner := match h.transport with
      | .udp => .source .udp h.srcAddr h.srcPort
      | .can => .source .can 0 0 }

/-- The caller of a session. -/
def Session.caller (x : Session) : Caller :=
  { level := x.level, tagged := true, tr := x.transport, owner := .session x.transport (BitVec.ofNat 16 x.id) }

/-! ### Sessions and transfers that have ended by time (R53, R55, R56) -/

/-- Ticks of a session's idle time (R55). -/
def State.idleTicks (s : State) : Nat := s.u Obj.sessionIdle * tickHz

/-- Whether a session is still valid. -/
def State.sessionLive (s : State) (x : Session) : Bool := decide (s.time.ticks < x.seenAt + s.idleTicks)

/-- A session ended, with its transfer. -/
def State.endSession (s : State) (tr : Transport) (id : Nat) : State :=
  { s with dtp := { s.dtp with
      sessions := s.dtp.sessions.filter (fun x => !(x.transport == tr && x.id == id)),
      transfers := s.dtp.transfers.filter (fun t => t.owner != .session tr (BitVec.ofNat 16 id)) } }

/-- A pending session discarded. -/
def State.endPending (s : State) (tr : Transport) (id : Nat) : State :=
  { s with dtp := { s.dtp with pending := s.dtp.pending.filter (fun x => !(x.transport == tr && x.id == id)) } }

/-- What the present instant has ended: idle sessions, pending sessions, transfers, lockouts. -/
def State.purge (s : State) : State :=
  let now := s.time.ticks
  let s1 := (s.dtp.sessions.filter (fun x => !s.sessionLive x)).foldl (fun (s : State) x => s.endSession x.transport x.id) s
  { s1 with dtp := { s1.dtp with
      pending := s1.dtp.pending.filter (fun x => decide (now ≤ x.openedAt + tickHz)),
      transfers := s1.dtp.transfers.filter (fun t => decide (now < t.seenAt + 2 * tickHz)),
      lockedUntil := s1.dtp.lockedUntil.map (fun o => match o with
        | some t => if t ≤ now then none else some t
        | none => none) } }

/-- The session of a request: over UDP it is bound to its source (R55). -/
def State.sessionOf (s : State) (h : ReqHdr) : Option Session :=
  s.dtp.sessions.find? (fun x => x.transport == h.transport && x.id == h.sessionId.toNat &&
    (h.transport == .can || (x.srcAddr == h.srcAddr && x.srcPort == h.srcPort)))

/-- The pending session of a request. -/
def State.pendingOf (s : State) (h : ReqHdr) : Option PendingSession :=
  s.dtp.pending.find? (fun x => x.transport == h.transport && x.id == h.sessionId.toNat &&
    (h.transport == .can || (x.srcAddr == h.srcAddr && x.srcPort == h.srcPort)))

/-- The open transfer of a caller. -/
def State.transferOf (s : State) (c : Caller) : Option Transfer := s.dtp.transfers.find? (fun t => t.owner == c.owner)

/-- The transfer of a caller put in place of the one it had, or none. -/
def State.setTransfer (s : State) (c : Caller) (t : Option Transfer) : State :=
  let rest := s.dtp.transfers.filter (fun x => x.owner != c.owner)
  { s with dtp := { s.dtp with transfers := match t with | some x => rest ++ [x] | none => rest } }

/-- Whether a transfer owner is a source of the transport without a session. -/
def isSource : XferOwner → Bool
  | .source .udp _ _ => true
  | _ => false

/-- The code that an INIT draws for want of a free transfer (R53). -/
def State.openCode (s : State) (c : Caller) : Abort :=
  if (s.transferOf c).isSome then Abort.transferOpen
  else if !c.tagged && decide ((s.dtp.transfers.filter (fun t => isSource t.owner)).length ≥ 8) then Abort.noFree
  else Abort.ok

/-! ### READ, WRITE, STAGE (R52, R64) -/

/-- Whether recovery bars an index that has no dictionary row of its own (R425). -/
def State.recoveryBarsIndex (s : State) (index : Nat) : Bool := s.dev.recovery && index != 0x1000 && index != 0x1210

/-- The response of a READ after AbortCode. -/
def readTail (ty : OTy) (bs : Bytes) : Bytes := [BitVec.ofNat 8 ty.code, 0] ++ leBytes 2 bs.length ++ [0, 0] ++ bs

/-- READ. -/
def State.opReadDo (s : State) (c : Caller) (body : Bytes) : Reply :=
  let index := numAt 0 2 body
  match s.named index (numAt 2 1 body) with
  | .missing => refusal s Abort.noObject
  | .fixed ty bs =>
    if unitAbsent s.variant index then refusal s Abort.notFitted
    else if s.recoveryBarsIndex index then refusal s Abort.notAllowedNow
    else { code := Abort.ok, tail := readTail ty bs, st := s }
  | .object id =>
    match objDef? id with
    | none => refusal s Abort.noObject
    | some o =>
      if unitAbsent s.variant (id / 256) then refusal s Abort.notFitted
      else
        let bs := s.valueOf (bitOf (numAt 3 1 body) 0) id
        let code := s.readCode o c.level false bs.length c.limit
        if code ≠ Abort.ok then refusal s code
        else { code := Abort.ok, tail := readTail o.ty bs, st := s.readClears id }

/-- WRITE and STAGE. -/
def State.opWriteDo (s : State) (c : Caller) (body : Bytes) (stage : Bool) : Reply :=
  let index := numAt 0 2 body
  let bs := body.drop 8
  match s.named index (numAt 2 1 body) with
  | .missing => refusal s Abort.noObject
  | .fixed _ _ => refusal s (if unitAbsent s.variant index then Abort.notFitted else Abort.readOnly)
  | .object id =>
    match objDef? id with
    | none => refusal s Abort.noObject
    | some o =>
      if unitAbsent s.variant (id / 256) then refusal s Abort.notFitted
      else if id = Obj.command ∧ !stage ∧ c.level ≥ o.level ∧ numAt 3 1 body = o.ty.code ∧ bs.length = 2 then
        replyWith (s.commandWrite (index == 0x5001) c.level (leVal bs)) [0, 0]
      else
        let code := s.writeCode o c.level (numAt 3 1 body) bs stage c.limit
        if code ≠ Abort.ok then refusal s code else replyWith (s.writeAct id bs stage) [0, 0]

/-! ### Block transfers (R53) -/

/-- A completed or empty block write: the checks of the whole value, then its effect. The name is the one of its INIT. -/
def State.blockApply (s : State) (level name : Nat) (bs : Bytes) (stage : Bool) : Abort × State :=
  match s.named (name / 256) (name % 256) with
  | .object id =>
    match objDef? id with
    | none => (Abort.noObject, s)
    | some o =>
      if id = Obj.command ∧ !stage then s.commandWrite (name / 256 == 0x5001) level (leVal bs)
      else
        let code := s.judge2 o bs stage
        if code ≠ Abort.ok then (code, s) else s.writeAct id bs stage
  | _ => (Abort.noObject, s)

/-- The value of a block read: what the drive brings for ReadData, else the object's. The bytes that a drive returns are the drive's: a
free value where the request does not bring them. -/
def State.blockValue (s : State) (id : Nat) (shadow : Bool) (drive : Option Bytes) : Bytes × State :=
  if id = Obj.readData then
    let n := 4096 * s.u Obj.readBlocks
    match drive with
    | some bs => (padTo n (bs.take n), s)
    | none =>
      let (x, s1) := s.draw
      (leBytes n x, s1)
  else (s.valueOf shadow id, s)

/-- BLOCK_READ_INIT. -/
def State.opBlockReadDo (s : State) (c : Caller) (body : Bytes) (drive : Option Bytes) : Reply :=
  let index := numAt 0 2 body
  let sub := numAt 2 1 body
  let flags := numAt 3 1 body
  let start (s1 : State) (bs : Bytes) : Reply :=
    let t : Transfer := { owner := c.owner, isWrite := false, shadow := flags == 1, obj := index * 256 + sub, total := bs.length,
                          nextBlock := 0, done := 0, data := bs, level := c.level, seenAt := s1.time.ticks }
    { code := Abort.ok, tail := [0, 0] ++ leBytes 4 bs.length, st := if bs.isEmpty then s1 else s1.setTransfer c (some t) }
  match s.named index sub with
  | .missing => refusal s Abort.noObject
  | .fixed _ bs =>
    if unitAbsent s.variant index then refusal s Abort.notFitted
    else if flags > 1 then refusal s Abort.reservedBit
    else if s.recoveryBarsIndex index then refusal s Abort.notAllowedNow
    else if s.openCode c ≠ Abort.ok then refusal s (s.openCode c)
    else start s bs
  | .object id =>
    match objDef? id with
    | none => refusal s Abort.noObject
    | some o =>
      let first := s.readCode o c.level true 0 0
      let rec' := if id = Obj.readData then s.recReadRefusal else Abort.ok
      if unitAbsent s.variant (id / 256) then refusal s Abort.notFitted
      else if first ≠ Abort.ok ∧ first ≠ Abort.notAllowedNow then refusal s first
      else if flags > 1 then refusal s Abort.reservedBit
      else if rec' = Abort.range then refusal s rec'
      else if first ≠ Abort.ok then refusal s first
      else if s.openCode c ≠ Abort.ok then refusal s (s.openCode c)
      else if rec' ≠ Abort.ok then refusal s rec'
      else
        let (bs, s1) := s.blockValue id (flags == 1) drive
        let s2 : State := if id = Obj.readData then { s1 with recd := { s1.recd with lastRead := bs } } else s1
        start (s2.readClears id) bs

/-- BLOCK_WRITE_INIT. -/
def State.opBlockWriteDo (s : State) (c : Caller) (body : Bytes) : Reply :=
  let index := numAt 0 2 body
  let sub := numAt 2 1 body
  let flags := numAt 3 1 body
  let total := numAt 4 4 body
  match s.named index sub with
  | .missing => refusal s Abort.noObject
  | .fixed _ _ => refusal s (if unitAbsent s.variant index then Abort.notFitted else Abort.readOnly)
  | .object id =>
    match objDef? id with
    | none => refusal s Abort.noObject
    | some o =>
      let code := s.blockWriteCode o c.level total flags
      if unitAbsent s.variant (id / 256) then refusal s Abort.notFitted
      else if code ≠ Abort.ok then refusal s code
      else if s.openCode c ≠ Abort.ok then refusal s (s.openCode c)
      else if total = 0 then replyWith (s.blockApply c.level (index * 256 + sub) [] (flags == 1)) [0, 0]
      else
        let t : Transfer := { owner := c.owner, isWrite := true, shadow := flags == 1, obj := index * 256 + sub, total := total,
                              nextBlock := 0, done := 0, data := [], level := c.level, seenAt := s.time.ticks }
        { code := Abort.ok, tail := [0, 0], st := s.setTransfer c (some t) }

/-- The next block of a read. -/
def State.blockNextRead (s : State) (c : Caller) (t : Transfer) (len : Nat) : Reply :=
  let chunk := slice t.done len t.data
  let done := t.done + chunk.length
  let t1 : Transfer := { t with done := done, nextBlock := (t.nextBlock + 1) % 65536, seenAt := s.time.ticks }
  { code := Abort.ok, tail := leBytes 2 t.nextBlock ++ leBytes 2 chunk.length ++ chunk,
    st := s.setTransfer c (if done < t.total then some t1 else none) }

/-- The next block of a write; a block of an image needs MRAM, and the first empties the slot that it goes to (R426). -/
def State.blockNextWrite (s : State) (c : Caller) (t : Transfer) (data : Bytes) : Reply :=
  let tail := leBytes 2 t.nextBlock ++ leBytes 2 data.length
  let image := t.obj == Obj.firmwareImage && !t.shadow
  if image && s.mramRefusal != Abort.ok then refusal s s.mramRefusal
  else
    let s1 := if image && t.done == 0 then s.emptyTarget else s
    let all := t.data ++ data
    if all.length < t.total then
      let t1 : Transfer := { t with data := all, done := all.length, nextBlock := (t.nextBlock + 1) % 65536, seenAt := s.time.ticks }
      { code := Abort.ok, tail := tail, st := s1.setTransfer c (some t1) }
    else replyWith ((s1.setTransfer c none).blockApply t.level t.obj all t.shadow) tail

/-- BLOCK_NEXT. -/
def State.opBlockNextDo (s : State) (c : Caller) (body : Bytes) : Reply :=
  let number := numAt 0 2 body
  let len := numAt 2 2 body
  let data := body.drop 4
  match s.transferOf c with
  | none => refusal s Abort.malformed
  | some t =>
    if number ≠ t.nextBlock ∨ len = 0 ∨ len > c.block then refusal s Abort.malformed
    else if t.isWrite then
      if data.length ≠ len ∨ t.done + len > t.total then refusal s Abort.malformed else s.blockNextWrite c t data
    else if data ≠ [] then refusal s Abort.malformed
    else s.blockNextRead c t len

/-! ### Authentication (R56, R57) -/

/-- The key of a level (R58). -/
def State.keyOf (s : State) (level : Nat) : Bytes := s.get (0x112000 + level)

/-- The SessionIds in use on a transport. -/
def State.idsOn (s : State) (tr : Transport) : List Nat :=
  (s.dtp.sessions.filter (fun x => x.transport == tr)).map (fun x => x.id) ++
    (s.dtp.pending.filter (fun x => x.transport == tr)).map (fun x => x.id)

/-- The first of `n`, `n + 1`, … in 1 to `top` that is not in use; the last number is fuel. -/
def freeId (used : List Nat) (top n : Nat) : Nat → Nat
  | 0 => n
  | k + 1 => if used.contains n then freeId used top (n % top + 1) k else n

/-- The proof of an AUTH_RESPONSE. -/
def authProof (key deviceNonce hostNonce : Bytes) (id identity level : Nat) : Bytes :=
  hmacSha256 key (textBytes "DTP1" ++ deviceNonce ++ hostNonce ++ leBytes 2 id ++ leBytes 2 identity ++ [BitVec.ofNat 8 level])

/-- The key of a session. -/
def sessionKey (key hostNonce deviceNonce : Bytes) (id : Nat) : Bytes :=
  hmacSha256 key (textBytes "SKEY" ++ hostNonce ++ deviceNonce ++ leBytes 2 id)

/-- AUTH_CHALLENGE. The SessionId and the DeviceNonce are free values. -/
def State.opChallengeDo (s : State) (h : ReqHdr) (body : Bytes) : Reply :=
  let level := numAt 0 1 body
  if level = 0 ∨ level > 3 then refusal s Abort.range
  else if (getAt s.dtp.lockedUntil level none).isSome then refusal s Abort.lockedOut
  else if allZero (s.keyOf level) then refusal s Abort.authFailed
  else
    let used := s.idsOn h.transport
    if used.length ≥ 8 then refusal s Abort.noFree
    else
      let top := match h.transport with | .udp => 65535 | .can => 255
      let (x, s1) := s.draw
      let (y, s2) := s1.draw
      let id := freeId used top (x % top + 1) 16
      let nonce := leBytes 16 y
      let p : PendingSession := { transport := h.transport, id := id, srcAddr := h.srcAddr, srcPort := h.srcPort, level := level,
                                  hostNonce := slice 4 16 body, deviceNonce := nonce, openedAt := s.time.ticks }
      { code := Abort.ok, tail := leBytes 2 id ++ nonce, st := { s2 with dtp := { s2.dtp with pending := s2.dtp.pending ++ [p] } } }

/-- A wrong proof: the pending session goes, and the third in a row locks its level for 10 s (R57). -/
def State.proofFailed (s : State) (p : PendingSession) : State :=
  let s1 := s.endPending p.transport p.id
  let n := getAt s1.dtp.fails p.level 0 + 1
  if n < 3 then { s1 with dtp := { s1.dtp with fails := setAt s1.dtp.fails p.level n } }
  else
    ({ s1 with dtp := { s1.dtp with fails := setAt s1.dtp.fails p.level 0,
                                    lockedUntil := setAt s1.dtp.lockedUntil p.level (some (s1.time.ticks + 10 * tickHz)) } }).raise
      0x0E01 0 2 p.level

/-- An AUTH_RESPONSE under a pending session whose tag holds. -/
def State.authenticate (s : State) (h : ReqHdr) (p : PendingSession) (key body : Bytes) : State :=
  let proof := authProof (s.keyOf p.level) p.deviceNonce p.hostNonce p.id s.dev.identity p.level
  if body ≠ proof then
    (s.proofFailed p).sendAnswer (answerOf h (0x80 + opResponse) 0 0 (replyBody opResponse Abort.authFailed []) none)
  else
    let s1 := s.endPending p.transport p.id
    let a := answerOf h (0x80 + opResponse) p.id 1 (replyBody opResponse Abort.ok [BitVec.ofNat 8 p.level, 0]) (some key)
    let x : Session := { transport := p.transport, id := p.id, srcAddr := p.srcAddr, srcPort := p.srcPort, level := p.level, key := key,
                         lastIn := h.counter.toNat, lastTransaction := h.transaction.toNat, lastOut := 1, seenAt := s.time.ticks,
                         response := a }
    ({ s1 with dtp := { s1.dtp with sessions := s1.dtp.sessions ++ [x], fails := setAt s1.dtp.fails p.level 0 } }).sendAnswer a

/-! ### Requests (R49, R54, R454) -/

/-- Whether a code is answered without a tag: the form check and the security checks (R454). -/
def untagged (code : Abort) : Bool := code == Abort.malformed || code / 256 == 0x08

/-- An answer under SessionId 0. -/
def State.answerPlain (s : State) (h : ReqHdr) (op : Nat) (body : Bytes) : State := s.sendAnswer (answerOf h op 0 0 body none)

/-- A refusal under SessionId 0. -/
def State.refusePlain (s : State) (h : ReqHdr) (op : Nat) (code : Abort) : State := s.answerPlain h (0x80 + op) (replyBody op code [])

/-- A request accepted under its session and answered: the session's counters and its stored response follow (R54). The response to
AUTH_CHALLENGE is untagged and takes no Counter (R454). -/
def State.answerSession (s : State) (h : ReqHdr) (op : Nat) (x : Session) (r : Reply) : State :=
  let plain := decide (op = opChallenge)
  let out := if plain then x.lastOut else x.lastOut + 1
  let body := replyBody op r.code r.tail
  let a := if plain then answerOf h (0x80 + op) 0 0 body none else answerOf h (0x80 + op) x.id out body (some x.key)
  let s1 : State := { r.st with dtp := { r.st.dtp with sessions := r.st.dtp.sessions.map (fun y =>
    if y.transport == x.transport && y.id == x.id then
      { y with lastIn := h.counter.toNat, lastTransaction := h.transaction.toNat, lastOut := out, seenAt := s.time.ticks, response := a }
    else y) } }
  s1.sendAnswer a

/-- A request under an authenticated session whose tag holds. -/
def State.inSession (s : State) (h : ReqHdr) (op : Nat) (x : Session) (act : Caller → State → Reply) : State :=
  if h.counter.toNat = x.lastIn ∧ h.transaction.toNat = x.lastTransaction ∧ s.time.ticks ≤ x.seenAt + tickHz then s.sendAnswer x.response
  else if h.counter.toNat ≤ x.lastIn then s.refusePlain h op Abort.badCounter
  else if op = opResponse then s.refusePlain h op Abort.malformed
  else
    let r := act x.caller s
    if untagged r.code then r.st.refusePlain h op r.code else s.answerSession h op x r

/-- A request that is received, with the operation that it asks for: form, session, tag, counter, then the operation (R49, R54, R454).
The device answers from IDLE to UPDATE (R59). -/
def State.dtpRequest (s0 : State) (h : ReqHdr) (op : Nat) (body : Bytes) (act : Caller → State → Reply) : State :=
  if !s0.dev.state.answersDtp then s0
  else if !formOk h op body then s0.refusePlain h op Abort.malformed
  else
    let s := s0.purge
    if h.sessionId = 0#16 then
      let r := act (anonymous h) s
      r.st.answerPlain h (0x80 + op) (replyBody op r.code r.tail)
    else match s.sessionOf h with
      | some x => if tagOk h op body x.key then s.inSession h op x act else s.refusePlain h op Abort.badTag
      | none => match s.pendingOf h with
        | none => s.refusePlain h op Abort.sessionUnknown
        | some p =>
          let key := sessionKey (s.keyOf p.level) p.hostNonce p.deviceNonce p.id
          if !tagOk h op body key then s.refusePlain h op Abort.badTag
          else if h.counter = 0#32 then s.refusePlain h op Abort.badCounter
          else if op = opResponse then s.authenticate h p key body
          else s.refusePlain h op Abort.sessionUnknown

/-- READ (R52). -/
def State.dtpRead (s : State) (h : ReqHdr) (body : Bytes) : State :=
  s.dtpRequest h opRead body (fun c t => t.opReadDo c body)

/-- WRITE (R46). -/
def State.dtpWrite (s : State) (h : ReqHdr) (body : Bytes) : State :=
  s.dtpRequest h opWrite body (fun c t => t.opWriteDo c body false)

/-- STAGE (R64). -/
def State.dtpStage (s : State) (h : ReqHdr) (body : Bytes) : State :=
  s.dtpRequest h opStage body (fun c t => t.opWriteDo c body true)

/-- BLOCK_READ_INIT (R53). -/
def State.dtpBlockRead (s : State) (h : ReqHdr) (body : Bytes) (drive : Option Bytes) : State :=
  s.dtpRequest h opBlockRead body (fun c t => t.opBlockReadDo c body drive)

/-- BLOCK_WRITE_INIT (R53). -/
def State.dtpBlockWrite (s : State) (h : ReqHdr) (body : Bytes) : State :=
  s.dtpRequest h opBlockWrite body (fun c t => t.opBlockWriteDo c body)

/-- BLOCK_NEXT (R53). -/
def State.dtpBlockNext (s : State) (h : ReqHdr) (body : Bytes) : State :=
  s.dtpRequest h opBlockNext body (fun c t => t.opBlockNextDo c body)

/-- AUTH_CHALLENGE (R56). -/
def State.dtpChallenge (s : State) (h : ReqHdr) (body : Bytes) : State :=
  s.dtpRequest h opChallenge body (fun _ t => t.opChallengeDo h body)

/-- AUTH_RESPONSE (R56). -/
def State.dtpResponse (s : State) (h : ReqHdr) (body : Bytes) : State :=
  s.dtpRequest h opResponse body (fun _ t => refusal t Abort.sessionUnknown)

/-- CLOSE (R55). -/
def State.dtpClose (s : State) (h : ReqHdr) (body : Bytes) : State :=
  s.dtpRequest h opClose body (fun c t =>
    if c.tagged then { code := Abort.ok, tail := [0, 0], st := t.endSession h.transport h.sessionId.toNat }
    else refusal t Abort.sessionUnknown)

/-- An opcode that the device does not process on the DTP port, KNOCK and KNOCK_REPORT among them: answered under opcode 0xFF (R52). -/
def State.dtpUnknown (s : State) (h : ReqHdr) (op : Nat) : State :=
  if !s.dev.state.answersDtp then s
  else if opcodes.contains op then s.refusePlain h op Abort.malformed
  else s.answerPlain h 0xFF (leBytes 2 Abort.malformed)

/-! ### What time ends -/

/-- BLOCK_TRANSFER_TIMEOUT: 2 s without a block (R53). -/
def State.transferTimeout (s : State) (o : XferOwner) : State :=
  match s.dtp.transfers.find? (fun t => t.owner == o) with
  | none => s
  | some t =>
    let s1 := s.runTo (t.seenAt + 2 * tickHz)
    { s1 with dtp := { s1.dtp with transfers := s1.dtp.transfers.filter (fun t => t.owner != o) } }

/-- AUTH_RESPONSE_TIMEOUT: 1 s after the challenge (R56). -/
def State.pendingTimeout (s : State) (tr : Transport) (id : Nat) : State :=
  match s.dtp.pending.find? (fun x => x.transport == tr && x.id == id) with
  | none => s
  | some p => (s.runTo (p.openedAt + tickHz)).endPending tr id

/-- LOCKOUT_EXPIRY: 10 s after the third failure (R57). -/
def State.lockoutEnd (s : State) (level : Nat) : State :=
  match getAt s.dtp.lockedUntil level none with
  | none => s
  | some t =>
    let s1 := s.runTo t
    { s1 with dtp := { s1.dtp with lockedUntil := setAt s1.dtp.lockedUntil level none } }

/-- SESSION_IDLE_TIMEOUT (R55). -/
def State.idleTimeout (s : State) (tr : Transport) (id : Nat) : State :=
  match s.dtp.sessions.find? (fun x => x.transport == tr && x.id == id) with
  | none => s
  | some x => (s.runTo (x.seenAt + s.idleTicks)).endSession tr id

end Sys2Proof.Machine
end

