-- ==== Sys2Proof/Machine/HostPorts.lean ====
section
/-!
DEFINITION. The other ports of the host: the receipt of a Knock (R65, R66), and the SPI status port (R69 to R71, Tables DICT-14 and
DICT-15).
-/

namespace Sys2Proof.Machine

/-! ### Knock (R65, R66) -/

/-- Whether a message has the form of a Knock (R66). -/
def knockForm (m : KnockMsg) : Bool :=
  match m.transport with
  | .udp => m.bytes.length == 36 && numAt 0 1 m.bytes == 1 && numAt 1 1 m.bytes == 0x20
  | .can => m.bytes.length == 32 && numAt 0 1 m.bytes == 0x20

/-- Where GroupId stands; over CAN the Version byte is absent (R65). -/
def knockBase : Transport → Nat
  | .udp => 2
  | .can => 1

/-- The pending Knock that a message would make. -/
def State.knockOf (s : State) (m : KnockMsg) : PendingKnock :=
  let b := knockBase m.transport
  { transport := m.transport, port := m.port, srcAddr := m.srcAddr, srcPort := m.srcPort, group := numAt b 2 m.bytes,
    sequence := numAt (b + 2) 4 m.bytes, activation := ofTime80 (slice (b + 6) 10 m.bytes), state := s.dev.state }

/-- The sequence last accepted for a group. -/
def State.knockSeen (s : State) (group : Nat) : Option Nat :=
  (s.grp.lastSequence.find? (fun e => e.1 == group)).map (fun e => e.2)

/-- The checks of R66 in their order, at the present native time. -/
def State.knockCode (s : State) (m : KnockMsg) : Abort :=
  let b := knockBase m.transport
  let k := s.knockOf m
  let key := s.get Obj.knockKey
  let stale := match s.knockSeen k.group with | some n => decide (k.sequence ≤ n) | none => false
  let at' := k.activation * 4294967296
  if allZero key then Abort.authFailed
  else if slice (b + 18) (tagSize m.transport) m.bytes ≠ (hmacSha256 key (m.bytes.take (b + 18))).take (tagSize m.transport) then
    Abort.badTag
  else if numAt (b + 16) 2 m.bytes ≠ 0 then Abort.reservedBit
  else if numAt (b + 12) 4 m.bytes > 999999999 then Abort.range
  else if stale then Abort.badCounter
  else if !s.dev.state.stages then Abort.notAllowedNow
  else if s.frozen then Abort.shadowFrozen
  else if at' < s.time.native then Abort.timeElapsed
  else if at' < s.time.native + 20000 * 4294967296 then Abort.timeLead
  else s.combinedCode s.stagedSet

/-- KNOCK: dropped and counted when it is none, ignored for another group, refused with its report, or made pending (R65, R66, R68). -/
def State.knock (s : State) (m : KnockMsg) : State :=
  if !s.dev.state.answersDtp then s
  else if !knockForm m then s.bump Obj.knockMalformedCount 1
  else
    let k := s.knockOf m
    let mine := s.u Obj.knockGroup
    if mine = 0 ∨ k.group ≠ mine then s
    else
      let code := s.knockCode m
      if code ≠ Abort.ok then s.knockRefused k code
      else { s with grp := { s.grp with pendingKnock := some k, lastSequence := tabPut s.grp.lastSequence k.group k.sequence } }

/-! ### The SPI status port (R69 to R71) -/

/-- The 64-bit values of the pairs at 0x0004, 0x0006 and 0x0008 (Table DICT-14). -/
def State.spiPair (s : State) (k : Nat) : Nat :=
  if k = 0 then s.nowNs / 1000000000 % 4294967296 * 4294967296 + s.nowNs % 1000000000
  else if k = 1 then s.scan.completed % 2 ^ 64
  else if s.merge.ordinal = 0 then 0
  else s.merge.ordinal - 1

/-- Band codes of eight regions; absent regions read 0xF (Table DICT-14). -/
def State.spiBands (s : State) (r0 : Nat) : Nat :=
  sumNat ((List.range 8).map (fun i => (if r0 + i < s.variant.regions then s.bandOf (r0 + i) else 0xF) * 16 ^ i))

/-- The word at an address, none where it is not readable (Table DICT-14). -/
def State.spiWord (s : State) (a : Nat) : Option Nat :=
  match a with
  | 0x0 => some (s.u Obj.partNumber * 65536 + s.u Obj.stepping)
  | 0x1 => some s.statusWord
  | 0x2 => some (s.u Obj.activeAlarms)
  | 0x3 => some (s.u Obj.lastFaultCode)
  | 0x4 | 0x6 | 0x8 => some (s.spiPair ((a - 4) / 2) % 4294967296)
  | 0x5 | 0x7 | 0x9 => some (s.spiPair ((a - 5) / 2) / 4294967296)
  | 0xA => some (s.u Obj.c2LossCount)
  | 0xB => some (s.spiBands 0)
  | 0xC => some (if s.variant = .fl6412 then 0xFFFFFFFF else s.spiBands 8)
  | 0xD => some (s.u Obj.throttleNow)
  | _ => none

/-- The pair whose low or high word stands at an address. -/
def pairLow (a : Nat) : Option Nat := if a = 4 ∨ a = 6 ∨ a = 8 then some ((a - 4) / 2) else none
def pairHigh (a : Nat) : Option Nat := if a = 5 ∨ a = 7 ∨ a = 9 then some ((a - 5) / 2) else none

/-- The status byte: TORN of this transaction, ADDR_ERR and WRITE_REFUSED of the one before (R69). -/
def State.spiStatus (s : State) (torn : Bool) : Nat := b2n torn + 2 * b2n s.spi.addrErr + 4 * b2n s.spi.writeRefused

/-- The addresses of a burst. -/
def burst (addr n : Nat) : List Nat := (rangeFrom addr n).map (· % 65536)

/-- SPI_READ: all words of one instant; the high word of a pair at the start of the transaction comes from the snapshot when the
preceding transaction was a read that ended with its low word, and else is live with TORN (R70). -/
def State.spiRead (s : State) (addr n : Nat) : State :=
  if s.dev.state = .reset then s
  else
    let as := burst addr n
    let begun := match as with | a :: _ => pairHigh a | [] => none
    let held := begun.isSome && s.spi.lastLow == begun
    let first (k : Nat) : Nat := if held then getAt s.spi.snapshots k 0 / 4294967296 else s.spiPair k / 4294967296
    let live := as.map (fun a => (s.spiWord a).getD 0)
    let words := match begun, live with
      | some k, _ :: ws => first k :: ws
      | _, ws => ws
    let snaps := as.foldl (fun (t : List Nat) a => match pairLow a with
      | some k => setAt t k (s.spiPair k)
      | none => t) s.spi.snapshots
    let last := match as.getLast? with | some a => pairLow a | none => none
    { s with spi := { s.spi with
        answer := (s.spiStatus (begun.isSome && !held), words), snapshots := snaps, lastLow := last,
        addrErr := as.any (fun a => (s.spiWord a).isNone), writeRefused := false } }

/-- An accepted SafeRequest: logged; FORCE_SAFE at once, or latched during BOOT (R71). -/
def State.safeAsk (s : State) : State :=
  let s1 := s.raise 0x0E02 1 3 0
  if s1.dev.state = .boot then { s1 with spi := { s1.spi with safeLatched := true } } else (s1.command .forceSafe).2

/-- SPI_WRITE: every word but 0x0000_5AFE to SafeRequest is refused (R71). -/
def State.spiWrite (s : State) (addr : Nat) (words : List Nat) : State :=
  if s.dev.state = .reset then s
  else
    let ws := (burst addr words.length).zip words
    let good (e : Nat × Nat) : Bool := e.1 == 0x10 && e.2 == 0x5AFE
    let s1 : State := { s with spi := { s.spi with
      answer := (s.spiStatus false, []), lastLow := none,
      addrErr := ws.any (fun e => !(decide (e.1 ≤ 0xD) || e.1 == 0x10)), writeRefused := ws.any (fun e => !good e) } }
    if ws.any good then s1.safeAsk else s1

/-- SPI_BAD_OPCODE: the status byte, then zeros (R69). -/
def State.spiBad (s : State) (n : Nat) : State :=
  if s.dev.state = .reset then s
  else { s with spi := { s.spi with answer := (s.spiStatus false, List.replicate n 0), lastLow := none, addrErr := true,
                                    writeRefused := false } }

/-- ALIVE_TICK: Alive counts every 1 ms (Table DICT-15). -/
def State.aliveTick (s : State) : State :=
  if s.dev.state = .reset then s
  else
    let s1 := s.runTo (s.spi.aliveAt + msTicks 1)
    { s1 with spi := { s1.spi with alive := (s1.spi.alive + 1) % 256, aliveAt := s1.time.ticks } }

end Sys2Proof.Machine
end

