-- ==== Sys2Proof/Machine/Run.lean ====
section
/-!
DEFINITION. What every command has around its own effect: what the command before it sent is gone, its effect, the end of the
command, and the queue untouched; and the bodies of the requests that one row stands for.
-/

namespace Sys2Proof.Machine

/-- The answers and the partner's frames of the command before are gone from the view of the state. -/
def State.begin (s : State) : State :=
  { s with dtp := { s.dtp with answers := [] }, pair := { s.pair with out := [] } }

/-- A command: its effect `f`, then its end. -/
def State.does (s : State) (f : State → State) : Host.Outcome State Fault Refusal :=
  .next { (f s.begin).settle with pending := s.pending }

/-- A command that has no effect while the device is held in RESET (R59, R416). -/
def State.awake (s : State) (f : State → State) : Host.Outcome State Fault Refusal :=
  s.does (fun (t : State) => if t.dev.state = .reset then t else f t)

/-! ### Bodies of requests (Table DICT-6) -/

/-- The body of a READ, or of a BLOCK_READ_INIT, of a live value. -/
def readBody (index sub : Nat) : Bytes := leBytes 2 index ++ [BitVec.ofNat 8 sub, 0]

/-- The body of a WRITE of a value with its type code. -/
def writeBody (index sub type : Nat) (bs : Bytes) : Bytes :=
  leBytes 2 index ++ [BitVec.ofNat 8 sub, BitVec.ofNat 8 type] ++ leBytes 2 bs.length ++ [0, 0] ++ bs

/-- The body of the WRITE of a command code to Command (Table DICT-9). -/
def commandBody (c : Cmd) : Bytes := writeBody 0x1200 0x01 0x03 (leBytes 2 c.code)

/-- A TIME80 from its two fields (Table DICT-2). -/
def timeBytes (sec : BitVec 48) (ns : BitVec 32) : Bytes := leBytes 6 sec.toNat ++ leBytes 4 ns.toNat

/-- A number of `n` bytes. -/
def bitBytes {w : Nat} (n : Nat) (v : BitVec w) : Bytes := leBytes n v.toNat

/-! ### Operations of one row over several units -/

/-- Number of a calibration path: the path's own, or 1088 and the number of the timing input (R269, R275). -/
def calKey : CalPath → Nat
  | .path p => p.val
  | .input n => 1088 + n.val

/-- A loop's sample with the check-in of the loop engine, the owner's LOOP frame, and the START that a new owner owes (R404, R409,
R410). -/
def State.loopRun (s : State) (n latency : Nat) (ecc : Bool) : State :=
  let s1 := s.loopSample n latency ecc
  (({ s1 with pair := { s1.pair with checkInAt := none } }).loopFrameSend n).startIfReady

end Sys2Proof.Machine
end

