-- ==== Sys2Proof/Machine/ExecArray.lean ====
section
/-!
DEFINITION. The meanings of the commands of the columns, the SPAD array, the crossbar and the histograms, one for each row, over the shared operations.
-/

namespace Sys2Proof.Machine

/-- COLUMN_BOUNDARY. The next column boundary: commit, Knock, pending transition, and the column of every unit (R36, R62, R64, R209). -/
def execColumnBoundary (s : State) : Host.Outcome State Fault Refusal :=
  s.awake (fun (t : State) => t.columnBoundary)

/-- TRANSOM_SLOT. The next Transom slot begins (R210). -/
def execTransomSlot (s : State) : Host.Outcome State Fault Refusal :=
  s.awake (fun (t : State) => t.transomBegin)

/-- HANDOVER_SETTLE_END. A crossbar handover has settled (R99). -/
def execHandoverSettleEnd (k : ClusterNo) (s : State) : Host.Outcome State Fault Refusal :=
  s.awake (fun (t : State) => t.settleEnd k.val)

/-- SPAD_FIRE. A SPAD of a channel fires: depth gate, hold-off, TDC, and the engines that watch the channel (R74, R82, R86). -/
def execSpadFire (ch : ChanNo) (spad : Fin 9) (instant : Stamp) (code : Fin 65) (s : State) : Host.Outcome State Fault Refusal :=
  s.awake (fun (t : State) =>
    let r := (t.runToStamp instant).spadFire ch.val instant code.val
    let _ := spad
    match r.2 with
    | some td => r.1.mayConv ch.val td
    | none => r.1)

/-- DETECTION_ASSIGN. The waiting conversions of a path are assigned to shots and counted (R116). -/
def execDetectionAssign (p : PathNo) (s : State) : Host.Outcome State Fault Refusal :=
  s.awake (fun (t : State) => t.detectionAssign p.val)

/-- SHUTTER_OPEN. The shutter of a shot opens (R82). -/
def execShutterOpen (p : PathNo) (slot : Fin 256) (s : State) : Host.Outcome State Fault Refusal :=
  s.awake (fun (t : State) => t.shutterOpen p.val slot.val)

/-- SHUTTER_CLOSE. The shutter of a shot closes (R82). -/
def execShutterClose (p : PathNo) (slot : Fin 256) (s : State) : Host.Outcome State Fault Refusal :=
  s.awake (fun (t : State) => t.shutterClose p.val slot.val)

/-- ZOOM_PLACEMENT. The zoom histograms of a path are placed (R125). -/
def execZoomPlacement (p : PathNo) (s : State) : Host.Outcome State Fault Refusal :=
  s.awake (fun (t : State) => t.zoomPlacement p.val)

/-- BUFFER_RELEASE. A histogram buffer is complete and released to extraction (R120). -/
def execBufferRelease (p : PathNo) (s : State) : Host.Outcome State Fault Refusal :=
  s.awake (fun (t : State) => t.bufferRelease p.val)

/-- PEAK_EXTRACTION_DONE. Peak extraction of a path delivers its results (R128). -/
def execPeakExtractionDone (p : PathNo) (s : State) : Host.Outcome State Fault Refusal :=
  s.awake (fun (t : State) => t.extractDone p.val)

/-- COLUMN_PACKET_FORM. The column packets of an ended interval are formed (R139). -/
def execColumnPacketForm (s : State) : Host.Outcome State Fault Refusal :=
  s.awake (fun (t : State) => t.columnPacketForm)

/-- HIST_ECC_ERROR. An ECC error of a histogram memory (R95). -/
def execHistEccError (p : PathNo) (uncorrectable : Bool) (s : State) : Host.Outcome State Fault Refusal :=
  s.awake (fun (t : State) => t.eccError p.val uncorrectable)

/-- LINE_OVERRUN_FAULT. A delay-line overrun fault of a path (R87). -/
def execLineOverrunFault (p : PathNo) (s : State) : Host.Outcome State Fault Refusal :=
  s.awake (fun (t : State) => t.overrunFault p.val)

/-- LOUVRE_STUCK_FAULT. A stuck Louvre gate (R96). -/
def execLouvreStuckFault (ch : ChanNo) (s : State) : Host.Outcome State Fault Refusal :=
  s.awake (fun (t : State) => t.stuckFault ch.val)

/-- REPLACE_REQUEST. A WRITE to ReplaceRequest (R106). -/
def execReplaceRequest (h : ReqHdr) (ch : ChanNo) (v : Byte) (s : State) : Host.Outcome State Fault Refusal :=
  s.awake (fun (t : State) => t.dtpWrite h (writeBody (0x3000 + ch.val) 0x17 0x01 ([v])))

/-- RESTORE_REQUEST. A WRITE to RestoreRequest (R106). -/
def execRestoreRequest (h : ReqHdr) (p : PathNo) (v : Byte) (s : State) : Host.Outcome State Fault Refusal :=
  s.awake (fun (t : State) => t.dtpWrite h (writeBody (0x3000 + p.val) 0x18 0x01 ([v])))

end Sys2Proof.Machine
end

