-- ==== Sys2Proof/Machine/ExecAux.lean ====
section
/-!
DEFINITION. The meanings of the commands of the timing inputs, one for each row, over the shared operations.
-/

namespace Sys2Proof.Machine

/-- AUX_EDGE. An edge of a timing input (R250). -/
def execAuxEdge (n : Fin 9) (rising : Bool) (instant : Stamp) (code : Fin 65) (s : State) : Host.Outcome State Fault Refusal :=
  s.awake (fun (t : State) => ((t.runToStamp instant).auxEdge n.val rising instant code.val).afterStep t)

/-- INTERVAL_DECIDE. A start and a stop of the interval unit are paired (R253). -/
def execIntervalDecide (s : State) : Host.Outcome State Fault Refusal :=
  s.awake (fun (t : State) => t.intervalDecide)

/-- UNPAIRED_STOP_EXPIRY. A stop without its start ends (R253). -/
def execUnpairedStopExpiry (s : State) : Host.Outcome State Fault Refusal :=
  s.awake (fun (t : State) => t.unpairedStop)

/-- INTERVAL_NO_STOP. A start without its stop ends (R254). -/
def execIntervalNoStop (s : State) : Host.Outcome State Fault Refusal :=
  s.awake (fun (t : State) => t.intervalNoStop)

/-- FREQ_GATE_END. A frequency gate ends (R256). -/
def execFreqGateEnd (n : Fin 9) (s : State) : Host.Outcome State Fault Refusal :=
  s.awake (fun (t : State) => t.freqGateEnd n.val)

/-- FREQ_FIT_DONE. The fit of a frequency gate is done (R258). -/
def execFreqFitDone (n : Fin 9) (s : State) : Host.Outcome State Fault Refusal :=
  s.awake (fun (t : State) => t.freqFitDone n.val t.storedScale)

end Sys2Proof.Machine
end

