-- ==== Sys2Proof/Machine/ExecCal.lean ====
section
/-!
DEFINITION. The meanings of the commands of calibration, one for each row, over the shared operations.
-/

namespace Sys2Proof.Machine

/-- CAL_REQUEST. A WRITE to CalRequest (R266). -/
def execCalRequest (h : ReqHdr) (mask : BitVec 16) (s : State) : Host.Outcome State Fault Refusal :=
  s.awake (fun (t : State) => t.dtpWrite h (writeBody 0x2600 0x09 0x03 (bitBytes 2 mask)))

/-- REGION_RUN_START. The calibration run of a region starts (R267). -/
def execRegionRunStart (r : RegionNo) (s : State) : Host.Outcome State Fault Refusal :=
  s.awake (fun (t : State) => t.regionRunStart r.val)

/-- CAL_PASS_COMPLETE. A calibration pass completes with its counts (R269). -/
def execCalPassComplete (p : CalPath) (counts : List Nat) (s : State) : Host.Outcome State Fault Refusal :=
  s.awake (fun (t : State) => t.passComplete (calKey p) counts)

/-- CAL_DEFER_TIMEOUT. A deferred pass has waited CalDeferMax (R273). -/
def execCalDeferTimeout (p : CalPath) (s : State) : Host.Outcome State Fault Refusal :=
  s.awake (fun (t : State) => t.deferTimeout (calKey p))

/-- STANDIN_ABANDON_RETURN. The Scarab of a cluster returns from its stand-in (R272). -/
def execStandinAbandonReturn (k : ClusterNo) (s : State) : Host.Outcome State Fault Refusal :=
  s.awake (fun (t : State) => t.standinReturn k.val)

/-- INPUT_CAL_INTERVAL. The calibration interval of the timing inputs ends (R275). -/
def execInputCalInterval (s : State) : Host.Outcome State Fault Refusal :=
  s.awake (fun (t : State) => t.inputInterval)

/-- FULL_CAL_DONE. Full calibration is complete (R276). -/
def execFullCalDone (s : State) : Host.Outcome State Fault Refusal :=
  s.awake (fun (t : State) => t.fullCalEnd)

/-- BANK_WRITE. A calibration bank begins to be written (R278). -/
def execBankWrite (s : State) : Host.Outcome State Fault Refusal :=
  s.awake (fun (t : State) => t.bankWrite)

/-- BANK_WRITE_DONE. A calibration bank has been written and checked (R278). -/
def execBankWriteDone (ok : Bool) (s : State) : Host.Outcome State Fault Refusal :=
  s.awake (fun (t : State) => t.bankWriteDone ok)

/-- CAL_BANK_IMPORT. The BLOCK_NEXT that completes a block write to CalBankImport (R53, R281). -/
def execCalBankImport (h : ReqHdr) (body : Bytes) (s : State) : Host.Outcome State Fault Refusal :=
  s.awake (fun (t : State) => t.dtpBlockNext h body)

/-- ZERO_RUN. A WRITE to ZeroRun (R282). -/
def execZeroRun (h : ReqHdr) (v : Byte) (s : State) : Host.Outcome State Fault Refusal :=
  s.awake (fun (t : State) => t.dtpWrite h (writeBody 0x2600 0x22 0x02 ([v])))

/-- ZERO_RUN_DONE. A zero run completes its columns (R282). -/
def execZeroRunDone (s : State) : Host.Outcome State Fault Refusal :=
  s.awake (fun (t : State) => t.zeroRunDone)

/-- ZERO_APPLY. A WRITE to ZeroApply (R283). -/
def execZeroApply (h : ReqHdr) (v : Byte) (s : State) : Host.Outcome State Fault Refusal :=
  s.awake (fun (t : State) => t.dtpWrite h (writeBody 0x2600 0x25 0x02 ([v])))

end Sys2Proof.Machine
end

