-- ==== Sys2Proof/Machine/ExecCam.lean ====
section
/-!
DEFINITION. The meanings of the commands of the cameras, one for each row, over the shared operations.
-/

namespace Sys2Proof.Machine

/-- CAM_TRIG_TIME_WRITE. A WRITE to TrigTime (R356). -/
def execCamTrigTimeWrite (h : ReqHdr) (p : Fin 2) (sec : BitVec 48) (ns : BitVec 32)
    (s : State) : Host.Outcome State Fault Refusal :=
  s.awake (fun (t : State) => t.dtpWrite h (writeBody (0x2D10 + p.val) 0x0F 0x0B (timeBytes sec ns)))

/-- CAM_TRIGGER_LAUNCH. A camera trigger is launched (R357). -/
def execCamTriggerLaunch (p : Fin 2) (s : State) : Host.Outcome State Fault Refusal :=
  s.awake (fun (t : State) => t.camLaunch p.val)

/-- CAM_TRIGGER_END. A trigger pulse ends (R357). -/
def execCamTriggerEnd (p : Fin 2) (s : State) : Host.Outcome State Fault Refusal :=
  s.awake (fun (t : State) => t.camTrigEnd p.val)

/-- CAM_VSYNC_START. A frame start arrives (R372). -/
def execCamVsyncStart (p : Fin 2) (instant : Stamp) (s : State) : Host.Outcome State Fault Refusal :=
  s.awake (fun (t : State) => t.camVsync p.val instant)

/-- CAM_NOFRAME. No frame has followed a trigger (R358). -/
def execCamNoframe (p : Fin 2) (s : State) : Host.Outcome State Fault Refusal :=
  s.awake (fun (t : State) => t.camNoFrameDue p.val)

/-- CAM_LINE_COMPLETE. A line is complete (R370). -/
def execCamLineComplete (p : Fin 2) (pixels : List (BitVec 16)) (syncErrors : Nat) (s : State) : Host.Outcome State Fault Refusal :=
  s.awake (fun (t : State) => t.camLine p.val (pixels.map (fun (x : BitVec 16) => x.toNat)) syncErrors)

/-- CAM_PIPELINE_LINE. The pipeline finishes a line (R369). -/
def execCamPipelineLine (s : State) : Host.Outcome State Fault Refusal :=
  s.awake (fun (t : State) => t.camPipelineLine)

/-- CAM_FRAME_END. A frame end arrives (R359). -/
def execCamFrameEnd (p : Fin 2) (instant : Stamp) (s : State) : Host.Outcome State Fault Refusal :=
  s.awake (fun (t : State) => t.camFrameEnd p.val instant)

/-- CAM_FRAME_TIMEOUT. A frame has not ended in time (R359). -/
def execCamFrameTimeout (p : Fin 2) (s : State) : Host.Outcome State Fault Refusal :=
  s.awake (fun (t : State) => t.camFrameTimeout p.val)

/-- CAM_TRAILER_FORM. The records of a finished frame are formed (R368). -/
def execCamTrailerForm (p : Fin 2) (s : State) : Host.Outcome State Fault Refusal :=
  s.awake (fun (t : State) => t.camTrailerForm p.val)

/-- STOREHIGHWATER_READ. A READ of StoreHighWater, which clears it (R374). -/
def execStoreHighWaterRead (h : ReqHdr) (p : Fin 2) (s : State) : Host.Outcome State Fault Refusal :=
  s.awake (fun (t : State) => t.dtpRead h (readBody (0x2D10 + p.val) 0x25))

end Sys2Proof.Machine
end

