-- ==== Sys2Proof/Machine/ExecCommand.lean ====
section
/-!
DEFINITION. The meanings of the commands of the codes of Command and the activation of the shadow set, one for each row, over the shared operations.
-/

namespace Sys2Proof.Machine

/-- ARM. The code of the row written to Command (R60, R61, R407). -/
def execArm (h : ReqHdr) (s : State) : Host.Outcome State Fault Refusal :=
  s.awake (fun (t : State) => t.dtpWrite h (commandBody .arm))

/-- START. The code of the row written to Command (R60, R61). -/
def execStart (h : ReqHdr) (s : State) : Host.Outcome State Fault Refusal :=
  s.awake (fun (t : State) => t.dtpWrite h (commandBody .start))

/-- PAUSE. The code of the row written to Command (R60, R62). -/
def execPause (h : ReqHdr) (s : State) : Host.Outcome State Fault Refusal :=
  s.awake (fun (t : State) => t.dtpWrite h (commandBody .pause))

/-- RESUME. The code of the row written to Command (R60, R62). -/
def execResume (h : ReqHdr) (s : State) : Host.Outcome State Fault Refusal :=
  s.awake (fun (t : State) => t.dtpWrite h (commandBody .resume))

/-- STOP. The code of the row written to Command (R60, R62). -/
def execStop (h : ReqHdr) (s : State) : Host.Outcome State Fault Refusal :=
  s.awake (fun (t : State) => t.dtpWrite h (commandBody .stop))

/-- DISARM. The code of the row written to Command (R60, R408). -/
def execDisarm (h : ReqHdr) (s : State) : Host.Outcome State Fault Refusal :=
  s.awake (fun (t : State) => t.dtpWrite h (commandBody .disarm))

/-- CALIBRATE. The code of the row written to Command (R60, R276). -/
def execCalibrate (h : ReqHdr) (s : State) : Host.Outcome State Fault Refusal :=
  s.awake (fun (t : State) => t.dtpWrite h (commandBody .calibrate))

/-- END_CALIBRATE. The code of the row written to Command (R60). -/
def execEndCalibrate (h : ReqHdr) (s : State) : Host.Outcome State Fault Refusal :=
  s.awake (fun (t : State) => t.dtpWrite h (commandBody .endCalibrate))

/-- FOLLOW. The code of the row written to Command (R60). -/
def execFollow (h : ReqHdr) (s : State) : Host.Outcome State Fault Refusal :=
  s.awake (fun (t : State) => t.dtpWrite h (commandBody .follow))

/-- ENTER_UPDATE. The code of the row written to Command (R60). -/
def execEnterUpdate (h : ReqHdr) (s : State) : Host.Outcome State Fault Refusal :=
  s.awake (fun (t : State) => t.dtpWrite h (commandBody .enterUpdate))

/-- COMMIT_IMAGE. The code of the row written to Command (R60, R426). -/
def execCommitImage (h : ReqHdr) (s : State) : Host.Outcome State Fault Refusal :=
  s.awake (fun (t : State) => t.dtpWrite h (commandBody .commitImage))

/-- CANCEL_UPDATE. The code of the row written to Command (R60, R426). -/
def execCancelUpdate (h : ReqHdr) (s : State) : Host.Outcome State Fault Refusal :=
  s.awake (fun (t : State) => t.dtpWrite h (commandBody .cancelUpdate))

/-- CLEAR_SAFE. The code of the row written to Command (R60). -/
def execClearSafe (h : ReqHdr) (s : State) : Host.Outcome State Fault Refusal :=
  s.awake (fun (t : State) => t.dtpWrite h (commandBody .clearSafe))

/-- FORCE_SAFE. The code of the row written to Command (R60, R63). -/
def execForceSafe (h : ReqHdr) (s : State) : Host.Outcome State Fault Refusal :=
  s.awake (fun (t : State) => t.dtpWrite h (commandBody .forceSafe))

/-- RESET. The code of the row written to Command (R60). -/
def execResetCmd (h : ReqHdr) (s : State) : Host.Outcome State Fault Refusal :=
  s.awake (fun (t : State) => t.dtpWrite h (commandBody .reset))

/-- COMMIT_SHADOW. The code of the row written to Command (R60, R64). -/
def execCommitShadow (h : ReqHdr) (s : State) : Host.Outcome State Fault Refusal :=
  s.awake (fun (t : State) => t.dtpWrite h (commandBody .commitShadow))

/-- DISCARD_SHADOW. The code of the row written to Command (R60, R64). -/
def execDiscardShadow (h : ReqHdr) (s : State) : Host.Outcome State Fault Refusal :=
  s.awake (fun (t : State) => t.dtpWrite h (commandBody .discardShadow))

/-- RESTORE_DEFAULTS. The code of the row written to Command (R60, R61). -/
def execRestoreDefaults (h : ReqHdr) (s : State) : Host.Outcome State Fault Refusal :=
  s.awake (fun (t : State) => t.dtpWrite h (commandBody .restoreDefaults))

/-- SHADOW_ACTIVATION. A waiting commit takes effect at its column boundary (R62, R64). -/
def execShadowActivation (s : State) : Host.Outcome State Fault Refusal :=
  s.awake (fun (t : State) => t.shadowActivation)

end Sys2Proof.Machine
end

