-- ==== Sys2Proof/Machine/ExecEvent.lean ====
section
/-!
DEFINITION. The meanings of the commands of events, the journal and ALERT_N, one for each row, over the shared operations.
-/

namespace Sys2Proof.Machine

/-- EVENT_ENTRY_CLOSE. An event entry closes 10 ms after it opened (R394). -/
def execEventEntryClose (s : State) : Host.Outcome State Fault Refusal :=
  s.awake (fun (t : State) => t.entryClose)

/-- JOURNAL_CLEAR. A WRITE to JournalClear (R398). -/
def execJournalClear (h : ReqHdr) (v : Byte) (s : State) : Host.Outcome State Fault Refusal :=
  s.awake (fun (t : State) => t.dtpWrite h (writeBody 0x1400 0x0F 0x02 ([v])))

/-- JOURNAL_RESUME. MRAM can be written again and the waiting entries go to the journal (R398). -/
def execJournalResume (s : State) : Host.Outcome State Fault Refusal :=
  s.awake (fun (t : State) => t.journalResume)

/-- JOURNALDROPPED_READ. A READ of JournalDropped (R399). -/
def execJournalDroppedRead (h : ReqHdr) (s : State) : Host.Outcome State Fault Refusal :=
  s.awake (fun (t : State) => t.dtpRead h (readBody 0x1400 0x0E))

/-- ALERT_PERIOD. The next edge of the ALERT_N pattern (R400). -/
def execAlertPeriod (s : State) : Host.Outcome State Fault Refusal :=
  s.awake (fun (t : State) => t.alertPeriod)

/-- C2LOSS_ALARM_END. One second has passed since the last C2 refusal (R399). -/
def execC2lossAlarmEnd (s : State) : Host.Outcome State Fault Refusal :=
  s.awake (fun (t : State) => t.c2LossEnd)

end Sys2Proof.Machine
end

