-- ==== Sys2Proof/Machine/ExecFire.lean ====
section
/-!
DEFINITION. The meanings of the commands of the emitter banks, the governor, the direct gates and the charge supply, one for each row, over the shared operations.
-/

namespace Sys2Proof.Machine

/-- SLOT_ENQUEUE. The next slot of a bank is placed (R155). -/
def execSlotEnqueue (b : RegionNo) (s : State) : Host.Outcome State Fault Refusal :=
  s.awake (fun (t : State) => t.slotEnqueue b.val)

/-- FIRE_EDGE. The next placed shot of a bank reaches its FIRE edge (R142). -/
def execFireEdge (b : RegionNo) (s : State) : Host.Outcome State Fault Refusal :=
  s.awake (fun (t : State) => t.fireEdge b.val)

/-- GOV_SUBINTERVAL_BOUNDARY. A sub-interval of a governor window ends (R154). -/
def execGovSubintervalBoundary (w : Fin 3) (s : State) : Host.Outcome State Fault Refusal :=
  s.awake (fun (t : State) => t.govBoundary w.val)

/-- GOVFILL_READ. A BLOCK_READ_INIT of GovFill, which clears it (R53, R156). -/
def execGovFillRead (h : ReqHdr) (s : State) : Host.Outcome State Fault Refusal :=
  s.awake (fun (t : State) => t.dtpBlockRead h (readBody 0x2C00 0x12) none)

/-- START_WINDOW_EXPIRY. The optical-start window of a shot ends without an edge (R111). -/
def execStartWindowExpiry (b : RegionNo) (slot : Fin 256) (s : State) : Host.Outcome State Fault Refusal :=
  s.awake (fun (t : State) => t.startWindowExpiry b.val slot.val)

/-- SAFE_OFF_N_ASSERT. SAFE_OFF_N falls (R158). -/
def execSafeOffNAssert (s : State) : Host.Outcome State Fault Refusal :=
  s.awake (fun (t : State) => t.safeOffAssert)

/-- SAFE_OFF_N_RELEASE. SAFE_OFF_N rises (R60). -/
def execSafeOffNRelease (s : State) : Host.Outcome State Fault Refusal :=
  s.awake (fun (t : State) => t.safeOffRelease)

/-- SCAN_VALID_FALL. SCAN_VALID falls (R157). -/
def execScanValidFall (s : State) : Host.Outcome State Fault Refusal :=
  s.awake (fun (t : State) => t.scanValidFall)

/-- SCANVALID_CLEAR. SCAN_VALID has been high for 10 µs (R158). -/
def execScanvalidClear (s : State) : Host.Outcome State Fault Refusal :=
  s.awake (fun (t : State) => t.scanvalidClear)

/-- PFAIL_N_FALL. PFAIL_N falls (R418). -/
def execPfailNFall (s : State) : Host.Outcome State Fault Refusal :=
  s.awake (fun (t : State) => t.pfailFall)

/-- PFAIL_N_RISE. PFAIL_N rises (R279). -/
def execPfailNRise (s : State) : Host.Outcome State Fault Refusal :=
  s.awake (fun (t : State) => t.pfailRise)

/-- PFAIL_CLEAR. PFAIL_N has been high for 10 µs (R158). -/
def execPfailClear (s : State) : Host.Outcome State Fault Refusal :=
  s.awake (fun (t : State) => t.pfailClear)

/-- CS_LIMIT_CYCLE. A GDRV cycle ends, by its current limit or not (R161). -/
def execCsLimitCycle (byLimit : Bool) (s : State) : Host.Outcome State Fault Refusal :=
  s.awake (fun (t : State) => t.csCycle byLimit)

/-- OVERCURRENT_FAULT. The overcurrent of the charge supply (R161). -/
def execOvercurrentFault (s : State) : Host.Outcome State Fault Refusal :=
  s.awake (fun (t : State) => t.overcurrent)

/-- HEADROOM_HOLD. The headroom of a bank is held for its conversion (R163). -/
def execHeadroomHold (b : RegionNo) (s : State) : Host.Outcome State Fault Refusal :=
  s.awake (fun (t : State) => t.headroomHold b.val)

/-- VCHG_DISCHARGE_TIMEOUT. VCHG has not discharged in 250 ms (R162). -/
def execVchgDischargeTimeout (s : State) : Host.Outcome State Fault Refusal :=
  s.awake (fun (t : State) => t.dischargeTimeout)

end Sys2Proof.Machine
end

