-- ==== Sys2Proof/Machine/ExecHost.lean ====
section
/-!
DEFINITION. The meanings of the commands of the requests of DTP, Knock and the SPI status port, one for each row, over the shared operations.
-/

namespace Sys2Proof.Machine

/-- READ. A READ: its answer, and the counters that the read clears (R52). -/
def execRead (h : ReqHdr) (body : Bytes) (s : State) : Host.Outcome State Fault Refusal :=
  s.awake (fun (t : State) => t.dtpRead h body)

/-- WRITE. A WRITE: its answer and the effect of the write (R46, R52). -/
def execWrite (h : ReqHdr) (body : Bytes) (s : State) : Host.Outcome State Fault Refusal :=
  s.awake (fun (t : State) => t.dtpWrite h body)

/-- STAGE. A STAGE: the value into the shadow set (R64). -/
def execStage (h : ReqHdr) (body : Bytes) (s : State) : Host.Outcome State Fault Refusal :=
  s.awake (fun (t : State) => t.dtpStage h body)

/-- BLOCK_READ_INIT. A BLOCK_READ_INIT (R53). -/
def execBlockReadInit (h : ReqHdr) (body : Bytes) (s : State) : Host.Outcome State Fault Refusal :=
  s.awake (fun (t : State) => t.dtpBlockRead h body none)

/-- BLOCK_WRITE_INIT. A BLOCK_WRITE_INIT (R53). -/
def execBlockWriteInit (h : ReqHdr) (body : Bytes) (s : State) : Host.Outcome State Fault Refusal :=
  s.awake (fun (t : State) => t.dtpBlockWrite h body)

/-- BLOCK_NEXT. A BLOCK_NEXT of the open transfer (R53). -/
def execBlockNext (h : ReqHdr) (body : Bytes) (s : State) : Host.Outcome State Fault Refusal :=
  s.awake (fun (t : State) => t.dtpBlockNext h body)

/-- BLOCK_TRANSFER_TIMEOUT. A block transfer without a block for 2 s ends (R53). -/
def execBlockTransferTimeout (owner : XferOwner) (s : State) : Host.Outcome State Fault Refusal :=
  s.awake (fun (t : State) => t.transferTimeout owner)

/-- AUTH_CHALLENGE. An AUTH_CHALLENGE opens a pending session (R56). -/
def execAuthChallenge (h : ReqHdr) (body : Bytes) (s : State) : Host.Outcome State Fault Refusal :=
  s.awake (fun (t : State) => t.dtpChallenge h body)

/-- AUTH_RESPONSE. An AUTH_RESPONSE proves the key, or counts a failure (R56, R57). -/
def execAuthResponse (h : ReqHdr) (body : Bytes) (s : State) : Host.Outcome State Fault Refusal :=
  s.awake (fun (t : State) => t.dtpResponse h body)

/-- AUTH_RESPONSE_TIMEOUT. A pending session without its response for 1 s ends (R56). -/
def execAuthResponseTimeout (tr : Transport) (sid : BitVec 16) (s : State) : Host.Outcome State Fault Refusal :=
  s.awake (fun (t : State) => t.pendingTimeout tr sid.toNat)

/-- LOCKOUT_EXPIRY. The 10 s lockout of a level ends (R57). -/
def execLockoutExpiry (level : Fin 4) (s : State) : Host.Outcome State Fault Refusal :=
  s.awake (fun (t : State) => t.lockoutEnd level.val)

/-- CLOSE. A CLOSE ends its session (R55). -/
def execClose (h : ReqHdr) (body : Bytes) (s : State) : Host.Outcome State Fault Refusal :=
  s.awake (fun (t : State) => t.dtpClose h body)

/-- SESSION_IDLE_TIMEOUT. A session without a request for SessionTimeout ends (R55). -/
def execSessionIdleTimeout (tr : Transport) (sid : BitVec 16) (s : State) : Host.Outcome State Fault Refusal :=
  s.awake (fun (t : State) => t.idleTimeout tr sid.toNat)

/-- UNKNOWN_OPCODE. A request with another opcode is answered 0x0204 under opcode 0xFF (R52). -/
def execUnknownOpcode (h : ReqHdr) (op : Byte) (body : Bytes) (s : State) : Host.Outcome State Fault Refusal :=
  s.awake (fun (t : State) =>
    let _ := body
    t.dtpUnknown h op.toNat)

/-- DTP_SHORT_DATAGRAM. A datagram shorter than its header is dropped without an answer (R454). -/
def execDtpShortDatagram (port : Fin 2) (bytes : Bytes) (s : State) : Host.Outcome State Fault Refusal :=
  s.awake (fun (t : State) =>
    let _ := (port, bytes)
    t)

/-- KNOCK. A KNOCK: pending, refused with its report, ignored or dropped (R65, R66, R68). -/
def execKnock (m : KnockMsg) (s : State) : Host.Outcome State Fault Refusal :=
  s.awake (fun (t : State) => t.knock m)

/-- KNOCK_APPLY. The pending Knock takes effect (R66, R67). -/
def execKnockApply (s : State) : Host.Outcome State Fault Refusal :=
  s.awake (fun (t : State) => t.knockApply)

/-- SPI_READ. An SPI read transaction (R70). -/
def execSpiRead (addr : BitVec 16) (count : Nat) (s : State) : Host.Outcome State Fault Refusal :=
  s.awake (fun (t : State) => t.spiRead addr.toNat count)

/-- SPI_WRITE. An SPI write transaction (R71). -/
def execSpiWrite (addr : BitVec 16) (words : List (BitVec 32)) (s : State) : Host.Outcome State Fault Refusal :=
  s.awake (fun (t : State) => t.spiWrite addr.toNat (words.map (fun (w : BitVec 32) => w.toNat)))

/-- SAFE_REQUEST. The SPI write of 0x0000_5AFE to SafeRequest (R71). -/
def execSafeRequest (s : State) : Host.Outcome State Fault Refusal :=
  s.awake (fun (t : State) => t.spiWrite 0x10 [0x5AFE])

/-- SPI_BAD_OPCODE. A transaction whose opcode is neither 0x02 nor 0x03 (R69). -/
def execSpiBadOpcode (op : Byte) (count : Nat) (s : State) : Host.Outcome State Fault Refusal :=
  s.awake (fun (t : State) => if op = 2#8 ∨ op = 3#8 then t else t.spiBad count)

/-- ALIVE_TICK. Alive counts 1 ms (Table DICT-15, R71). -/
def execAliveTick (s : State) : Host.Outcome State Fault Refusal :=
  s.awake (fun (t : State) => t.aliveTick)

end Sys2Proof.Machine
end

