-- ==== Sys2Proof/Machine/ExecMayfly.lean ====
section
/-!
DEFINITION. The meanings of the commands of the Mayfly capture engines and their ring, one for each row, over the shared operations.
-/

namespace Sys2Proof.Machine

/-- HOST_TRIGGER. A WRITE to HostTrigger (R230). -/
def execHostTrigger (h : ReqHdr) (v : Byte) (s : State) : Host.Outcome State Fault Refusal :=
  s.awake (fun (t : State) => t.dtpWrite h (writeBody 0x2400 0x0D 0x02 ([v])))

/-- TIME_TRIGGER_WRITE. A WRITE to TimeTrigger (R229). -/
def execTimeTriggerWrite (h : ReqHdr) (sec : BitVec 48) (ns : BitVec 32) (s : State) : Host.Outcome State Fault Refusal :=
  s.awake (fun (t : State) => t.dtpWrite h (writeBody 0x2400 0x0B 0x0B (timeBytes sec ns)))

/-- TIME_TRIGGER_MATCH. Native time reaches TimeTrigger (R229). -/
def execTimeTriggerMatch (s : State) : Host.Outcome State Fault Refusal :=
  s.awake (fun (t : State) => t.timeTriggerMatch)

/-- SEGMENT_CLOSE. A capture ends with its window (R236). -/
def execSegmentClose (e : Fin 16) (s : State) : Host.Outcome State Fault Refusal :=
  s.awake (fun (t : State) => t.segmentClose e.val)

/-- ENGINE_REARM. A capture engine re-arms (R237). -/
def execEngineRearm (e : Fin 16) (s : State) : Host.Outcome State Fault Refusal :=
  s.awake (fun (t : State) => t.engineRearm e.val)

/-- SEGMENT_DRAIN_OFFER. The next segment of the ring is offered to its stream (R247). -/
def execSegmentDrainOffer (s : State) : Host.Outcome State Fault Refusal :=
  s.awake (fun (t : State) => t.holdingOffer 5)

/-- RINGHIGHWATER_READ. A READ of RingHighWater, which clears it (R248). -/
def execRingHighWaterRead (h : ReqHdr) (s : State) : Host.Outcome State Fault Refusal :=
  s.awake (fun (t : State) => t.dtpRead h (readBody 0x2400 0x18))

end Sys2Proof.Machine
end

