-- ==== Sys2Proof/Machine/ExecPair.lean ====
section
/-!
DEFINITION. The meanings of the commands of the redundant pair, one for each row, over the shared operations.
-/

namespace Sys2Proof.Machine

/-- HELLO. A HELLO frame (R402, R404). -/
def execHello (f : PairFrame) (s : State) : Host.Outcome State Fault Refusal :=
  s.awake (fun (t : State) => t.hello f)

/-- HELLO_SEND. The device sends HELLO (R404). -/
def execHelloSend (s : State) : Host.Outcome State Fault Refusal :=
  s.awake (fun (t : State) => t.helloSend)

/-- HEARTBEAT. A HEARTBEAT frame (R404). -/
def execHeartbeat (f : PairFrame) (s : State) : Host.Outcome State Fault Refusal :=
  s.awake (fun (t : State) => t.heartbeat f)

/-- HEARTBEAT_SEND. The device sends HEARTBEAT (R408). -/
def execHeartbeatSend (s : State) : Host.Outcome State Fault Refusal :=
  s.awake (fun (t : State) => t.heartbeatSend)

/-- HEARTBEAT_MISS. A heartbeat is missed (R409). -/
def execHeartbeatMiss (s : State) : Host.Outcome State Fault Refusal :=
  s.awake (fun (t : State) => t.heartbeatMiss)

/-- TIME_EXCHANGE. A TIME exchange (R324). -/
def execTimeExchange (f : PairFrame) (s : State) : Host.Outcome State Fault Refusal :=
  s.awake (fun (t : State) => (t.timeExchange f).afterStep t)

/-- COLUMN_FRAME. A COLUMN frame (R406). -/
def execColumnFrame (f : PairFrame) (s : State) : Host.Outcome State Fault Refusal :=
  s.awake (fun (t : State) => t.columnFrame f)

/-- LOOP_FRAME. A LOOP frame (R223, R404). -/
def execLoopFrame (f : PairFrame) (s : State) : Host.Outcome State Fault Refusal :=
  s.awake (fun (t : State) => t.loopFrame f)

/-- CONFIG_FRAME. A CONFIG frame (R405). -/
def execConfigFrame (f : PairFrame) (s : State) : Host.Outcome State Fault Refusal :=
  s.awake (fun (t : State) => t.configFrame f)

/-- BULK_FRAME. A BULK frame (R404). -/
def execBulkFrame (f : PairFrame) (s : State) : Host.Outcome State Fault Refusal :=
  s.awake (fun (t : State) => t.bulkFrame f)

/-- CLAIM. A CLAIM frame (R407). -/
def execClaim (f : PairFrame) (s : State) : Host.Outcome State Fault Refusal :=
  s.awake (fun (t : State) => t.claim f)

/-- CLAIM_ACK. A CLAIM_ACK frame (R407). -/
def execClaimAck (f : PairFrame) (s : State) : Host.Outcome State Fault Refusal :=
  s.awake (fun (t : State) => t.claimAck f)

/-- RELEASE. A RELEASE frame (R409). -/
def execRelease (f : PairFrame) (s : State) : Host.Outcome State Fault Refusal :=
  s.awake (fun (t : State) => t.releaseFrame f)

/-- PAIR_OWN_TIMEOUT. PAIR_OWN has been released for the wait of R409 (R409). -/
def execPairOwnTimeout (s : State) : Host.Outcome State Fault Refusal :=
  s.awake (fun (t : State) => t.pairOwnTimeout)

/-- LIVENESS_RELEASE. Liveness releases PAIR_OWN (R408). -/
def execLivenessRelease (s : State) : Host.Outcome State Fault Refusal :=
  s.awake (fun (t : State) => t.livenessRelease)

/-- RILMAN_LINK_DOWN. The Rilman link goes down (R404). -/
def execRilmanLinkDown (s : State) : Host.Outcome State Fault Refusal :=
  s.awake (fun (t : State) => t.rilmanDown true)

/-- PARTNER_LOST. The partner is lost (R412). -/
def execPartnerLost (s : State) : Host.Outcome State Fault Refusal :=
  s.awake (fun (t : State) => t.partnerLost)

/-- MIRRORLAG_READ. A READ of MirrorLag, which clears it (R413). -/
def execMirrorLagRead (h : ReqHdr) (s : State) : Host.Outcome State Fault Refusal :=
  s.awake (fun (t : State) => t.dtpRead h (readBody 0x2F00 0x09))

/-- RILMAN_LINK_UP. The Rilman link comes up (R404). -/
def execRilmanLinkUp (s : State) : Host.Outcome State Fault Refusal :=
  s.awake (fun (t : State) => t.rilmanUp)

/-- PAIR_OWN_RELEASE. The partner releases PAIR_OWN (R409). -/
def execPairOwnRelease (s : State) : Host.Outcome State Fault Refusal :=
  s.awake (fun (t : State) => t.pairOwnRelease)

end Sys2Proof.Machine
end

