-- ==== Sys2Proof/Machine/ExecPower.lean ====
section
/-!
DEFINITION. The meanings of the commands of reset, clocks and boot, one for each row, over the shared operations.
-/

namespace Sys2Proof.Machine

/-- RESET_N_ASSERT. RESET_N is asserted (R417). -/
def execResetNAssert (widthNs : Nat) (s : State) : Host.Outcome State Fault Refusal :=
  s.does (fun (t : State) => t.resetNAssert widthNs)

/-- RAIL_UNDERVOLTAGE. A rail falls below its limit (R416). -/
def execRailUndervoltage (r : Rail) (s : State) : Host.Outcome State Fault Refusal :=
  s.does (fun (t : State) => t.railUndervoltage r)

/-- POWER_ON_RESET_END. The power-on reset ends (R416). -/
def execPowerOnResetEnd (s : State) : Host.Outcome State Fault Refusal :=
  s.does (fun (t : State) => t.powerOnResetEnd)

/-- RESET_RELEASE. The device leaves RESET (R420, R421). -/
def execResetRelease (pins : BootPins) (s : State) : Host.Outcome State Fault Refusal :=
  s.does (fun (t : State) => t.resetRelease pins)

/-- BOOT_COMPLETE. BOOT ends (R421, R453). -/
def execBootComplete (s : State) : Host.Outcome State Fault Refusal :=
  s.awake (fun (t : State) => t.bootComplete)

/-- BOOT_WATCHDOG. The boot watchdog expires (R424). -/
def execBootWatchdog (s : State) : Host.Outcome State Fault Refusal :=
  s.awake (fun (t : State) => t.bootWatchdog)

/-- REFCLK_LOST. The reference clock or the lock of its PLL is lost (R419). -/
def execRefclkLost (lockOnly : Bool) (s : State) : Host.Outcome State Fault Refusal :=
  s.does (fun (t : State) => t.refclkLost lockOnly)

/-- ETH_REFCLK_LOST. The Ethernet reference clock is lost (R419). -/
def execEthRefclkLost (s : State) : Host.Outcome State Fault Refusal :=
  s.awake (fun (t : State) => t.ethRefclkLost)

/-- PCIE_REFCLK_LOST. The PCIe reference clock is lost (R419). -/
def execPcieRefclkLost (s : State) : Host.Outcome State Fault Refusal :=
  s.awake (fun (t : State) => t.pcieRefclkLost)

end Sys2Proof.Machine
end

