-- ==== Sys2Proof/Machine/ExecRec.lean ====
section
/-!
DEFINITION. The meanings of the commands of the recorder, one for each row, over the shared operations.
-/

namespace Sys2Proof.Machine

/-- REC_PERST_RELEASE. REC_PERST_N is released (R376). -/
def execRecPerstRelease (s : State) : Host.Outcome State Fault Refusal :=
  s.awake (fun (t : State) => t.recPerst)

/-- REC_INIT_DONE. Recorder initialisation and recovery end (R378). -/
def execRecInitDone (r : RecInit) (s : State) : Host.Outcome State Fault Refusal :=
  s.awake (fun (t : State) => t.recInitDone r)

/-- REC_START. A WRITE of START to RecCommand (Table REC-5, R387). -/
def execRecStart (h : ReqHdr) (s : State) : Host.Outcome State Fault Refusal :=
  s.awake (fun (t : State) => t.dtpWrite h (writeBody 0x2E00 0x01 0x02 ([1])))

/-- REC_STOP. A WRITE of STOP to RecCommand (Table REC-5, R387). -/
def execRecStop (h : ReqHdr) (s : State) : Host.Outcome State Fault Refusal :=
  s.awake (fun (t : State) => t.dtpWrite h (writeBody 0x2E00 0x01 0x02 ([2])))

/-- REC_SYNC. A WRITE of SYNC to RecCommand (Table REC-5, R384). -/
def execRecSync (h : ReqHdr) (s : State) : Host.Outcome State Fault Refusal :=
  s.awake (fun (t : State) => t.dtpWrite h (writeBody 0x2E00 0x01 0x02 ([3])))

/-- REC_REINIT. A WRITE of REINIT to RecCommand (Table REC-5, R378). -/
def execRecReinit (h : ReqHdr) (s : State) : Host.Outcome State Fault Refusal :=
  s.awake (fun (t : State) => t.dtpWrite h (writeBody 0x2E00 0x01 0x02 ([4])))

/-- REC_FORMAT. A WRITE to RecFormat (Table REC-5, R387). -/
def execRecFormat (h : ReqHdr) (v : Byte) (s : State) : Host.Outcome State Fault Refusal :=
  s.awake (fun (t : State) => t.dtpWrite h (writeBody 0x2E00 0x02 0x02 ([v])))

/-- REC_SEGMENT_TAKE. The recorder takes the next segment of the ring (R387). -/
def execRecSegmentTake (s : State) : Host.Outcome State Fault Refusal :=
  s.awake (fun (t : State) => t.recTake)

/-- REC_WRITE_COMPLETE. An NVMe Write completes (R383). -/
def execRecWriteComplete (res : NvmeResult) (s : State) : Host.Outcome State Fault Refusal :=
  s.awake (fun (t : State) => t.recWriteComplete (res == .ok))

/-- REC_FLUSH_COMPLETE. A Flush completes (R384). -/
def execRecFlushComplete (res : NvmeResult) (s : State) : Host.Outcome State Fault Refusal :=
  s.awake (fun (t : State) => t.recFlushComplete (res == .ok))

/-- REC_SUPERBLOCK_PERIOD. SuperblockPeriod elapses (R384). -/
def execRecSuperblockPeriod (s : State) : Host.Outcome State Fault Refusal :=
  s.awake (fun (t : State) => t.recSuperPeriod)

/-- REC_CMD_TIMEOUT. An NVMe command has run for 100 ms (R388). -/
def execRecCmdTimeout (s : State) : Host.Outcome State Fault Refusal :=
  s.awake (fun (t : State) => t.recCmdTimeout)

/-- REC_SMART_POLL. The SMART log page is read (R377). -/
def execRecSmartPoll (page : Bytes) (s : State) : Host.Outcome State Fault Refusal :=
  s.awake (fun (t : State) => t.recSmart page)

/-- REC_LINK_LOSS. The PCIe link is lost (R388). -/
def execRecLinkLoss (s : State) : Host.Outcome State Fault Refusal :=
  s.awake (fun (t : State) => t.recLinkLoss)

/-- REC_READ. A BLOCK_READ_INIT of ReadData with the bytes that the drive returns (R53, R390). -/
def execRecRead (h : ReqHdr) (body : Bytes) (data : Bytes) (s : State) : Host.Outcome State Fault Refusal :=
  s.awake (fun (t : State) => t.dtpBlockRead h body (some data))

end Sys2Proof.Machine
end

