-- ==== Sys2Proof/Machine/ExecSense.lean ====
section
/-!
DEFINITION. The meanings of the commands of the converters, the window comparators and the loops, one for each row, over the shared operations.
-/

namespace Sys2Proof.Machine

/-- WC_TRIP_HIGH. A window comparator trips high (R185). -/
def execWcTripHigh (n : Fin 8) (s : State) : Host.Outcome State Fault Refusal :=
  s.awake (fun (t : State) => t.wcTrip n.val false)

/-- WC_TRIP_LOW. A window comparator trips low (R185). -/
def execWcTripLow (n : Fin 8) (s : State) : Host.Outcome State Fault Refusal :=
  s.awake (fun (t : State) => t.wcTrip n.val true)

/-- WC_REARM. A window comparator re-arms (R185). -/
def execWcRearm (n : Fin 8) (s : State) : Host.Outcome State Fault Refusal :=
  s.awake (fun (t : State) => t.wcRearm n.val)

/-- WCSTATUS_READ. A READ of WcStatus, which clears it (R185). -/
def execWcStatusRead (h : ReqHdr) (s : State) : Host.Outcome State Fault Refusal :=
  s.awake (fun (t : State) => t.dtpRead h (readBody 0x2800 0x11))

/-- CONVERSION_SLOT. A conversion slot of SC0 or SC1 ends (R174). -/
def execConversionSlot (sc : Fin 2) (x : Sample) (s : State) : Host.Outcome State Fault Refusal :=
  s.awake (fun (t : State) => t.converterSlot sc.val x)

/-- CHAIN_SYNC. A WRITE to ChainSync (R191). -/
def execChainSync (h : ReqHdr) (v : Byte) (s : State) : Host.Outcome State Fault Refusal :=
  s.awake (fun (t : State) => t.dtpWrite h (writeBody 0x2900 0x01 0x02 ([v])))

/-- SYNC_RESET. A synchronising reset of SC0 or SC1 (R192). -/
def execSyncReset (sc : Fin 2) (s : State) : Host.Outcome State Fault Refusal :=
  s.awake (fun (t : State) => t.syncReset sc.val)

/-- THERMAL_DEMAND. A demand conversion of SC2 or SC3 ends (R178). -/
def execThermalDemand (sc : Fin 2) (s : State) : Host.Outcome State Fault Refusal :=
  s.awake (fun (t : State) => t.thermalDemand (sc.val + 2))

/-- LOOP_SAMPLE. A sample of a loop: its law, its output, its frame to the partner (R198, R201, R404). -/
def execLoopSample (n : Fin 4) (latency : Nat) (coefEcc : Bool) (s : State) : Host.Outcome State Fault Refusal :=
  s.awake (fun (t : State) => t.loopRun n.val latency coefEcc)

/-- DEADLINE_MISS. A loop output misses its deadline (R199). -/
def execDeadlineMiss (n : Fin 4) (s : State) : Host.Outcome State Fault Refusal :=
  s.awake (fun (t : State) => t.deadlineMiss n.val)

/-- STALL_LATCH. The stall of the scanner is latched (R219). -/
def execStallLatch (s : State) : Host.Outcome State Fault Refusal :=
  s.awake (fun (t : State) => t.stallLatch)

/-- MAXLATENCY_READ. A READ of MaxLatency, which clears it (R198). -/
def execMaxLatencyRead (h : ReqHdr) (n : Fin 4) (s : State) : Host.Outcome State Fault Refusal :=
  s.awake (fun (t : State) => t.dtpRead h (readBody (0x2A10 + n.val) 0x19))

/-- LOOPSTATUS_READ. A READ of LoopStatus, which clears MISS and LIMIT (Table LOOP-10, R224). -/
def execLoopStatusRead (h : ReqHdr) (n : Fin 4) (s : State) : Host.Outcome State Fault Refusal :=
  s.awake (fun (t : State) => t.dtpRead h (readBody (0x2A10 + n.val) 0x17))

end Sys2Proof.Machine
end

