-- ==== Sys2Proof/Machine/ExecStream.lean ====
section
/-!
DEFINITION. The meanings of the commands of the output merge, the ports and the network services, one for each row, over the shared operations.
-/

namespace Sys2Proof.Machine

/-- MERGE_ENTRY. The records of the earliest fabric cycle enter the merge (R35, R36). -/
def execMergeEntry (s : State) : Host.Outcome State Fault Refusal :=
  s.awake (fun (t : State) => t.mergeEntry)

/-- HOLDING_OFFER. A holding source offers its next record (R340). -/
def execHoldingOffer (source : Fin 16) (s : State) : Host.Outcome State Fault Refusal :=
  s.awake (fun (t : State) => t.holdingOffer source.val)

/-- FRAME_TX_START. A port starts a frame (R339, R345). -/
def execFrameTxStart (port : Fin 2) (s : State) : Host.Outcome State Fault Refusal :=
  s.awake (fun (t : State) => t.frameTxStart port.val)

/-- CLASS_MAX_WAIT. A record has waited ClassMaxWait (R341). -/
def execClassMaxWait (port : Fin 2) (cls : Fin 6) (s : State) : Host.Outcome State Fault Refusal :=
  s.awake (fun (t : State) => t.classMaxWaitDue port.val cls.val)

/-- LOSS_MARKER_FORM. A loss marker of a stream is formed (R345). -/
def execLossMarkerForm (stream : Fin 16) (s : State) : Host.Outcome State Fault Refusal :=
  s.awake (fun (t : State) => t.lossMarkerForm stream.val)

/-- PORT_LINK_DOWN. A port loses its link (R348). -/
def execPortLinkDown (port : Fin 2) (s : State) : Host.Outcome State Fault Refusal :=
  s.awake (fun (t : State) => t.linkDown port.val)

/-- PORT_LINK_UP. A port gains its link (R327, R329, R348). -/
def execPortLinkUp (port : Fin 2) (s : State) : Host.Outcome State Fault Refusal :=
  s.awake (fun (t : State) => if t.linkMay port.val then (t.setLock 4 true).linkUp port.val else t)

/-- FAILBACK. A port takes its streams back (R348). -/
def execFailback (port : Fin 2) (s : State) : Host.Outcome State Fault Refusal :=
  s.awake (fun (t : State) => t.failbackDue port.val)

/-- BUFFERHIGHWATER_READ. A BLOCK_READ_INIT of BufferHighWater, which clears it (R53, R350). -/
def execBufferHighWaterRead (h : ReqHdr) (s : State) : Host.Outcome State Fault Refusal :=
  s.awake (fun (t : State) => t.dtpBlockRead h (readBody 0x1170 0x04) none)

/-- DHCP_OFFER. A DHCPOFFER (R328). -/
def execDhcpOffer (m : DhcpMsg) (s : State) : Host.Outcome State Fault Refusal :=
  s.awake (fun (t : State) => t.dhcpOffered m)

/-- DHCP_ACK. A DHCPACK (R328). -/
def execDhcpAck (m : DhcpMsg) (s : State) : Host.Outcome State Fault Refusal :=
  s.awake (fun (t : State) => t.dhcpAcked m)

/-- DHCP_NAK. A DHCPNAK (R328). -/
def execDhcpNak (m : DhcpMsg) (s : State) : Host.Outcome State Fault Refusal :=
  s.awake (fun (t : State) => t.dhcpNaked m)

/-- DHCP_RENEW. Half of the lease has passed (R328). -/
def execDhcpRenew (s : State) : Host.Outcome State Fault Refusal :=
  s.awake (fun (t : State) => t.dhcpRenewDue)

/-- DHCP_REBIND. Seven eighths of the lease have passed (R328). -/
def execDhcpRebind (s : State) : Host.Outcome State Fault Refusal :=
  s.awake (fun (t : State) => t.dhcpRebindDue)

/-- DHCP_LEASE_EXPIRY. The lease ends (R328). -/
def execDhcpLeaseExpiry (s : State) : Host.Outcome State Fault Refusal :=
  s.awake (fun (t : State) => t.dhcpExpire)

/-- ARP_REQUEST. An ARP request (R329). -/
def execArpRequest (port : Fin 2) (senderMac : BitVec 48) (senderIp : BitVec 32) (targetIp : BitVec 32)
    (s : State) : Host.Outcome State Fault Refusal :=
  s.awake (fun (t : State) => t.arpAsked port.val senderMac.toNat senderIp.toNat targetIp.toNat)

/-- ARP_REPLY. An ARP reply (R329). -/
def execArpReply (port : Fin 2) (senderMac : BitVec 48) (senderIp : BitVec 32) (s : State) : Host.Outcome State Fault Refusal :=
  s.awake (fun (t : State) => t.arpAnswered port.val senderMac.toNat senderIp.toNat)

/-- ARP_REFRESH. An ARP entry is due to be resolved again (R329). -/
def execArpRefresh (s : State) : Host.Outcome State Fault Refusal :=
  s.awake (fun (t : State) => t.arpRefreshDue)

/-- ICMP_ECHO. An ICMP echo request (R329). -/
def execIcmpEcho (port : Fin 2) (srcMac : BitVec 48) (srcIp : BitVec 32) (payload : Bytes)
    (s : State) : Host.Outcome State Fault Refusal :=
  s.awake (fun (t : State) => t.icmpEchoed port.val srcMac.toNat srcIp.toNat payload)

/-- IGMP_QUERY. An IGMP query (R329). -/
def execIgmpQuery (port : Fin 2) (group : BitVec 32) (s : State) : Host.Outcome State Fault Refusal :=
  s.awake (fun (t : State) => t.igmpQueried port.val group.toNat)

end Sys2Proof.Machine
end

