-- ==== Sys2Proof/Machine/ExecTherm.lean ====
section
/-!
DEFINITION. The meanings of the commands of the thermal monitor, one for each row, over the shared operations.
-/

namespace Sys2Proof.Machine

/-- TEMP_READING. A temperature conversion or an I2C transfer ends (R287). -/
def execTempReading (sensor : SensorNo) (x : Reading) (s : State) : Host.Outcome State Fault Refusal :=
  s.awake (fun (t : State) => t.tempReading sensor.val x)

/-- SENSOR_STALE. A sensor has not been read for StaleLimit (R287). -/
def execSensorStale (sensor : SensorNo) (s : State) : Host.Outcome State Fault Refusal :=
  s.awake (fun (t : State) => t.sensorStale sensor.val)

/-- HOUSEKEEP_DEMAND. HousekeepPeriod elapses (R290). -/
def execHousekeepDemand (s : State) : Host.Outcome State Fault Refusal :=
  s.awake (fun (t : State) => t.housekeepDemand)

/-- TEMP_DEMAND. A WRITE to TempDemand (R289). -/
def execTempDemand (h : ReqHdr) (mask : BitVec 32) (s : State) : Host.Outcome State Fault Refusal :=
  s.awake (fun (t : State) => t.dtpWrite h (writeBody 0x2700 0x15 0x04 (bitBytes 4 mask)))

/-- THROTTLE_DWELL. A throttle target has been too hot for its dwell (R296). -/
def execThrottleDwell (target : Fin 17) (s : State) : Host.Outcome State Fault Refusal :=
  s.awake (fun (t : State) => t.throttleDwell target.val)

/-- THROTTLE_RELEASE. A throttle target has been cool for its release time (R296). -/
def execThrottleRelease (target : Fin 17) (s : State) : Host.Outcome State Fault Refusal :=
  s.awake (fun (t : State) => t.throttleRelease target.val)

/-- TJSAFE_RELEASE. Step 4 is released (R299). -/
def execTjsafeRelease (s : State) : Host.Outcome State Fault Refusal :=
  s.awake (fun (t : State) => t.tjsafeRelease)

end Sys2Proof.Machine
end

