-- ==== Sys2Proof/Machine/ExecTime.lean ====
section
/-!
DEFINITION. The meanings of the commands of native time, PTP and PPS, one for each row, over the shared operations.
-/

namespace Sys2Proof.Machine

/-- TIME_SET. A WRITE to TimeSet (R309). -/
def execTimeSet (h : ReqHdr) (sec : BitVec 48) (ns : BitVec 32) (s : State) : Host.Outcome State Fault Refusal :=
  s.awake (fun (t : State) => t.dtpWrite h (writeBody 0x1300 0x04 0x0B (timeBytes sec ns)))

/-- TIME_ADJUST. A WRITE to TimeAdjust (R309). -/
def execTimeAdjust (h : ReqHdr) (v : BitVec 64) (s : State) : Host.Outcome State Fault Refusal :=
  s.awake (fun (t : State) => t.dtpWrite h (writeBody 0x1300 0x05 0x09 (bitBytes 8 v)))

/-- INCREMENT_SET. A WRITE to IncrementSet (R309). -/
def execIncrementSet (h : ReqHdr) (v : BitVec 64) (s : State) : Host.Outcome State Fault Refusal :=
  s.awake (fun (t : State) => t.dtpWrite h (writeBody 0x1300 0x06 0x05 (bitBytes 8 v)))

/-- SERVO_OFFSET. The servo takes an offset (R310). -/
def execServoOffset (offset : Int) (s : State) : Host.Outcome State Fault Refusal :=
  s.awake (fun (t : State) => (t.servoOffset offset).afterStep t)

/-- PTP_SYNC. A Sync with its origin time (R311). -/
def execPtpSync (m : PtpSyncMsg) (s : State) : Host.Outcome State Fault Refusal :=
  s.awake (fun (t : State) => (t.ptpSync m).afterStep t)

/-- PTP_ANNOUNCE. An Announce (R311). -/
def execPtpAnnounce (m : PtpAnnounceMsg) (s : State) : Host.Outcome State Fault Refusal :=
  s.awake (fun (t : State) => t.ptpAnnounce m)

/-- PTP_DELAY_REQ_SEND. The device sends a delay request (R311). -/
def execPtpDelayReqSend (s : State) : Host.Outcome State Fault Refusal :=
  s.awake (fun (t : State) => t.ptpDelayReqSend)

/-- PTP_DELAY_MEASUREMENT. A delay measurement completes (R313). -/
def execPtpDelayMeasurement (m : PtpDelayMsg) (s : State) : Host.Outcome State Fault Refusal :=
  s.awake (fun (t : State) => t.ptpDelay m)

/-- PTP_PDELAY_REQ. A Pdelay_Req is answered (R311). -/
def execPtpPdelayReq (m : PtpPdelayReqMsg) (s : State) : Host.Outcome State Fault Refusal :=
  s.awake (fun (t : State) => t.ptpPdelayReq m)

/-- PTP_SOURCE_LOST. The PTP source is lost (R312). -/
def execPtpSourceLost (s : State) : Host.Outcome State Fault Refusal :=
  s.awake (fun (t : State) => t.ptpSourceLost)

/-- PPS_IN_EDGE. An edge of PPS_IN (R321). -/
def execPpsInEdge (instant : Stamp) (s : State) : Host.Outcome State Fault Refusal :=
  s.awake (fun (t : State) => ((t.runToStamp instant).ppsInEdge instant).afterStep t)

/-- PPS_SOURCE_LOST. The PPS source is lost (R321). -/
def execPpsSourceLost (s : State) : Host.Outcome State Fault Refusal :=
  s.awake (fun (t : State) => t.ppsSourceLost)

/-- PPS_OUT_RISE. PPS_OUT rises (R320). -/
def execPpsOutRise (s : State) : Host.Outcome State Fault Refusal :=
  s.awake (fun (t : State) => t.ppsOutRise)

/-- PPS_OUT_FALL. PPS_OUT falls (R320). -/
def execPpsOutFall (s : State) : Host.Outcome State Fault Refusal :=
  s.awake (fun (t : State) => t.ppsOutFall)

/-- ANCHOR_INSTANT. A time anchor is due (R318). -/
def execAnchorInstant (s : State) : Host.Outcome State Fault Refusal :=
  s.awake (fun (t : State) => t.anchorInstant)

/-- LAUNCH_TIME. The launch time of a queued record comes (R323). -/
def execLaunchTime (port : Fin 2) (cls : Fin 6) (s : State) : Host.Outcome State Fault Refusal :=
  s.awake (fun (t : State) => t.launchTime port.val cls.val)

end Sys2Proof.Machine
end

