-- ==== Sys2Proof/Machine/Dispatch.lean ====
section
/-!
DEFINITION. exec: one arm for each command, each a direct call of its meaning.
-/

namespace Sys2Proof.Machine

def exec (i : Instr) (s : State) : Host.Outcome State Fault Refusal :=
  match i with
  | .read h body => Sys2Proof.Machine.execRead h body s
  | .write h body => Sys2Proof.Machine.execWrite h body s
  | .stage h body => Sys2Proof.Machine.execStage h body s
  | .blockReadInit h body => Sys2Proof.Machine.execBlockReadInit h body s
  | .blockWriteInit h body => Sys2Proof.Machine.execBlockWriteInit h body s
  | .blockNext h body => Sys2Proof.Machine.execBlockNext h body s
  | .blockTransferTimeout owner => Sys2Proof.Machine.execBlockTransferTimeout owner s
  | .authChallenge h body => Sys2Proof.Machine.execAuthChallenge h body s
  | .authResponse h body => Sys2Proof.Machine.execAuthResponse h body s
  | .authResponseTimeout tr sid => Sys2Proof.Machine.execAuthResponseTimeout tr sid s
  | .lockoutExpiry level => Sys2Proof.Machine.execLockoutExpiry level s
  | .close h body => Sys2Proof.Machine.execClose h body s
  | .sessionIdleTimeout tr sid => Sys2Proof.Machine.execSessionIdleTimeout tr sid s
  | .unknownOpcode h op body => Sys2Proof.Machine.execUnknownOpcode h op body s
  | .dtpShortDatagram port bytes => Sys2Proof.Machine.execDtpShortDatagram port bytes s
  | .knock m => Sys2Proof.Machine.execKnock m s
  | .knockApply => Sys2Proof.Machine.execKnockApply s
  | .arm h => Sys2Proof.Machine.execArm h s
  | .start h => Sys2Proof.Machine.execStart h s
  | .pause h => Sys2Proof.Machine.execPause h s
  | .resume h => Sys2Proof.Machine.execResume h s
  | .stop h => Sys2Proof.Machine.execStop h s
  | .disarm h => Sys2Proof.Machine.execDisarm h s
  | .calibrate h => Sys2Proof.Machine.execCalibrate h s
  | .endCalibrate h => Sys2Proof.Machine.execEndCalibrate h s
  | .follow h => Sys2Proof.Machine.execFollow h s
  | .enterUpdate h => Sys2Proof.Machine.execEnterUpdate h s
  | .commitImage h => Sys2Proof.Machine.execCommitImage h s
  | .cancelUpdate h => Sys2Proof.Machine.execCancelUpdate h s
  | .clearSafe h => Sys2Proof.Machine.execClearSafe h s
  | .forceSafe h => Sys2Proof.Machine.execForceSafe h s
  | .resetCmd h => Sys2Proof.Machine.execResetCmd h s
  | .commitShadow h => Sys2Proof.Machine.execCommitShadow h s
  | .discardShadow h => Sys2Proof.Machine.execDiscardShadow h s
  | .restoreDefaults h => Sys2Proof.Machine.execRestoreDefaults h s
  | .shadowActivation => Sys2Proof.Machine.execShadowActivation s
  | .spiRead addr count => Sys2Proof.Machine.execSpiRead addr count s
  | .spiWrite addr words => Sys2Proof.Machine.execSpiWrite addr words s
  | .safeRequest => Sys2Proof.Machine.execSafeRequest s
  | .spiBadOpcode op count => Sys2Proof.Machine.execSpiBadOpcode op count s
  | .aliveTick => Sys2Proof.Machine.execAliveTick s
  | .columnBoundary => Sys2Proof.Machine.execColumnBoundary s
  | .transomSlot => Sys2Proof.Machine.execTransomSlot s
  | .handoverSettleEnd k => Sys2Proof.Machine.execHandoverSettleEnd k s
  | .spadFire ch spad instant code => Sys2Proof.Machine.execSpadFire ch spad instant code s
  | .detectionAssign p => Sys2Proof.Machine.execDetectionAssign p s
  | .shutterOpen p slot => Sys2Proof.Machine.execShutterOpen p slot s
  | .shutterClose p slot => Sys2Proof.Machine.execShutterClose p slot s
  | .zoomPlacement p => Sys2Proof.Machine.execZoomPlacement p s
  | .bufferRelease p => Sys2Proof.Machine.execBufferRelease p s
  | .peakExtractionDone p => Sys2Proof.Machine.execPeakExtractionDone p s
  | .columnPacketForm => Sys2Proof.Machine.execColumnPacketForm s
  | .histEccError p uncorrectable => Sys2Proof.Machine.execHistEccError p uncorrectable s
  | .lineOverrunFault p => Sys2Proof.Machine.execLineOverrunFault p s
  | .louvreStuckFault ch => Sys2Proof.Machine.execLouvreStuckFault ch s
  | .replaceRequest h ch v => Sys2Proof.Machine.execReplaceRequest h ch v s
  | .restoreRequest h p v => Sys2Proof.Machine.execRestoreRequest h p v s
  | .slotEnqueue b => Sys2Proof.Machine.execSlotEnqueue b s
  | .fireEdge b => Sys2Proof.Machine.execFireEdge b s
  | .govSubintervalBoundary w => Sys2Proof.Machine.execGovSubintervalBoundary w s
  | .govFillRead h => Sys2Proof.Machine.execGovFillRead h s
  | .startWindowExpiry b slot => Sys2Proof.Machine.execStartWindowExpiry b slot s
  | .auxEdge n rising instant code => Sys2Proof.Machine.execAuxEdge n rising instant code s
  | .intervalDecide => Sys2Proof.Machine.execIntervalDecide s
  | .unpairedStopExpiry => Sys2Proof.Machine.execUnpairedStopExpiry s
  | .intervalNoStop => Sys2Proof.Machine.execIntervalNoStop s
  | .freqGateEnd n => Sys2Proof.Machine.execFreqGateEnd n s
  | .freqFitDone n => Sys2Proof.Machine.execFreqFitDone n s
  | .safeOffNAssert => Sys2Proof.Machine.execSafeOffNAssert s
  | .safeOffNRelease => Sys2Proof.Machine.execSafeOffNRelease s
  | .scanValidFall => Sys2Proof.Machine.execScanValidFall s
  | .scanvalidClear => Sys2Proof.Machine.execScanvalidClear s
  | .pfailNFall => Sys2Proof.Machine.execPfailNFall s
  | .pfailNRise => Sys2Proof.Machine.execPfailNRise s
  | .pfailClear => Sys2Proof.Machine.execPfailClear s
  | .csLimitCycle byLimit => Sys2Proof.Machine.execCsLimitCycle byLimit s
  | .overcurrentFault => Sys2Proof.Machine.execOvercurrentFault s
  | .wcTripHigh n => Sys2Proof.Machine.execWcTripHigh n s
  | .wcTripLow n => Sys2Proof.Machine.execWcTripLow n s
  | .wcRearm n => Sys2Proof.Machine.execWcRearm n s
  | .wcStatusRead h => Sys2Proof.Machine.execWcStatusRead h s
  | .headroomHold b => Sys2Proof.Machine.execHeadroomHold b s
  | .vchgDischargeTimeout => Sys2Proof.Machine.execVchgDischargeTimeout s
  | .conversionSlot sc x => Sys2Proof.Machine.execConversionSlot sc x s
  | .chainSync h v => Sys2Proof.Machine.execChainSync h v s
  | .syncReset sc => Sys2Proof.Machine.execSyncReset sc s
  | .thermalDemand sc => Sys2Proof.Machine.execThermalDemand sc s
  | .loopSample n latency coefEcc => Sys2Proof.Machine.execLoopSample n latency coefEcc s
  | .deadlineMiss n => Sys2Proof.Machine.execDeadlineMiss n s
  | .stallLatch => Sys2Proof.Machine.execStallLatch s
  | .maxLatencyRead h n => Sys2Proof.Machine.execMaxLatencyRead h n s
  | .loopStatusRead h n => Sys2Proof.Machine.execLoopStatusRead h n s
  | .hostTrigger h v => Sys2Proof.Machine.execHostTrigger h v s
  | .timeTriggerWrite h sec ns => Sys2Proof.Machine.execTimeTriggerWrite h sec ns s
  | .timeTriggerMatch => Sys2Proof.Machine.execTimeTriggerMatch s
  | .segmentClose e => Sys2Proof.Machine.execSegmentClose e s
  | .engineRearm e => Sys2Proof.Machine.execEngineRearm e s
  | .segmentDrainOffer => Sys2Proof.Machine.execSegmentDrainOffer s
  | .ringHighWaterRead h => Sys2Proof.Machine.execRingHighWaterRead h s
  | .calRequest h mask => Sys2Proof.Machine.execCalRequest h mask s
  | .regionRunStart r => Sys2Proof.Machine.execRegionRunStart r s
  | .calPassComplete p counts => Sys2Proof.Machine.execCalPassComplete p counts s
  | .calDeferTimeout p => Sys2Proof.Machine.execCalDeferTimeout p s
  | .standinAbandonReturn k => Sys2Proof.Machine.execStandinAbandonReturn k s
  | .inputCalInterval => Sys2Proof.Machine.execInputCalInterval s
  | .fullCalDone => Sys2Proof.Machine.execFullCalDone s
  | .bankWrite => Sys2Proof.Machine.execBankWrite s
  | .bankWriteDone ok => Sys2Proof.Machine.execBankWriteDone ok s
  | .calBankImport h body => Sys2Proof.Machine.execCalBankImport h body s
  | .zeroRun h v => Sys2Proof.Machine.execZeroRun h v s
  | .zeroRunDone => Sys2Proof.Machine.execZeroRunDone s
  | .zeroApply h v => Sys2Proof.Machine.execZeroApply h v s
  | .tempReading sensor x => Sys2Proof.Machine.execTempReading sensor x s
  | .sensorStale sensor => Sys2Proof.Machine.execSensorStale sensor s
  | .housekeepDemand => Sys2Proof.Machine.execHousekeepDemand s
  | .tempDemand h mask => Sys2Proof.Machine.execTempDemand h mask s
  | .throttleDwell target => Sys2Proof.Machine.execThrottleDwell target s
  | .throttleRelease target => Sys2Proof.Machine.execThrottleRelease target s
  | .tjsafeRelease => Sys2Proof.Machine.execTjsafeRelease s
  | .timeSet h sec ns => Sys2Proof.Machine.execTimeSet h sec ns s
  | .timeAdjust h v => Sys2Proof.Machine.execTimeAdjust h v s
  | .incrementSet h v => Sys2Proof.Machine.execIncrementSet h v s
  | .servoOffset offset => Sys2Proof.Machine.execServoOffset offset s
  | .ptpSync m => Sys2Proof.Machine.execPtpSync m s
  | .ptpAnnounce m => Sys2Proof.Machine.execPtpAnnounce m s
  | .ptpDelayReqSend => Sys2Proof.Machine.execPtpDelayReqSend s
  | .ptpDelayMeasurement m => Sys2Proof.Machine.execPtpDelayMeasurement m s
  | .ptpPdelayReq m => Sys2Proof.Machine.execPtpPdelayReq m s
  | .ptpSourceLost => Sys2Proof.Machine.execPtpSourceLost s
  | .ppsInEdge instant => Sys2Proof.Machine.execPpsInEdge instant s
  | .ppsSourceLost => Sys2Proof.Machine.execPpsSourceLost s
  | .ppsOutRise => Sys2Proof.Machine.execPpsOutRise s
  | .ppsOutFall => Sys2Proof.Machine.execPpsOutFall s
  | .anchorInstant => Sys2Proof.Machine.execAnchorInstant s
  | .launchTime port cls => Sys2Proof.Machine.execLaunchTime port cls s
  | .mergeEntry => Sys2Proof.Machine.execMergeEntry s
  | .holdingOffer source => Sys2Proof.Machine.execHoldingOffer source s
  | .frameTxStart port => Sys2Proof.Machine.execFrameTxStart port s
  | .classMaxWait port cls => Sys2Proof.Machine.execClassMaxWait port cls s
  | .lossMarkerForm stream => Sys2Proof.Machine.execLossMarkerForm stream s
  | .portLinkDown port => Sys2Proof.Machine.execPortLinkDown port s
  | .portLinkUp port => Sys2Proof.Machine.execPortLinkUp port s
  | .failback port => Sys2Proof.Machine.execFailback port s
  | .bufferHighWaterRead h => Sys2Proof.Machine.execBufferHighWaterRead h s
  | .dhcpOffer m => Sys2Proof.Machine.execDhcpOffer m s
  | .dhcpAck m => Sys2Proof.Machine.execDhcpAck m s
  | .dhcpNak m => Sys2Proof.Machine.execDhcpNak m s
  | .dhcpRenew => Sys2Proof.Machine.execDhcpRenew s
  | .dhcpRebind => Sys2Proof.Machine.execDhcpRebind s
  | .dhcpLeaseExpiry => Sys2Proof.Machine.execDhcpLeaseExpiry s
  | .arpRequest port senderMac senderIp targetIp => Sys2Proof.Machine.execArpRequest port senderMac senderIp targetIp s
  | .arpReply port senderMac senderIp => Sys2Proof.Machine.execArpReply port senderMac senderIp s
  | .arpRefresh => Sys2Proof.Machine.execArpRefresh s
  | .icmpEcho port srcMac srcIp payload => Sys2Proof.Machine.execIcmpEcho port srcMac srcIp payload s
  | .igmpQuery port group => Sys2Proof.Machine.execIgmpQuery port group s
  | .camTrigTimeWrite h p sec ns => Sys2Proof.Machine.execCamTrigTimeWrite h p sec ns s
  | .camTriggerLaunch p => Sys2Proof.Machine.execCamTriggerLaunch p s
  | .camTriggerEnd p => Sys2Proof.Machine.execCamTriggerEnd p s
  | .camVsyncStart p instant => Sys2Proof.Machine.execCamVsyncStart p instant s
  | .camNoframe p => Sys2Proof.Machine.execCamNoframe p s
  | .camLineComplete p pixels syncErrors => Sys2Proof.Machine.execCamLineComplete p pixels syncErrors s
  | .camPipelineLine => Sys2Proof.Machine.execCamPipelineLine s
  | .camFrameEnd p instant => Sys2Proof.Machine.execCamFrameEnd p instant s
  | .camFrameTimeout p => Sys2Proof.Machine.execCamFrameTimeout p s
  | .camTrailerForm p => Sys2Proof.Machine.execCamTrailerForm p s
  | .storeHighWaterRead h p => Sys2Proof.Machine.execStoreHighWaterRead h p s
  | .recPerstRelease => Sys2Proof.Machine.execRecPerstRelease s
  | .recInitDone r => Sys2Proof.Machine.execRecInitDone r s
  | .recStart h => Sys2Proof.Machine.execRecStart h s
  | .recStop h => Sys2Proof.Machine.execRecStop h s
  | .recSync h => Sys2Proof.Machine.execRecSync h s
  | .recReinit h => Sys2Proof.Machine.execRecReinit h s
  | .recFormat h v => Sys2Proof.Machine.execRecFormat h v s
  | .recSegmentTake => Sys2Proof.Machine.execRecSegmentTake s
  | .recWriteComplete res => Sys2Proof.Machine.execRecWriteComplete res s
  | .recFlushComplete res => Sys2Proof.Machine.execRecFlushComplete res s
  | .recSuperblockPeriod => Sys2Proof.Machine.execRecSuperblockPeriod s
  | .recCmdTimeout => Sys2Proof.Machine.execRecCmdTimeout s
  | .recSmartPoll page => Sys2Proof.Machine.execRecSmartPoll page s
  | .recLinkLoss => Sys2Proof.Machine.execRecLinkLoss s
  | .recRead h body data => Sys2Proof.Machine.execRecRead h body data s
  | .eventEntryClose => Sys2Proof.Machine.execEventEntryClose s
  | .journalClear h v => Sys2Proof.Machine.execJournalClear h v s
  | .journalResume => Sys2Proof.Machine.execJournalResume s
  | .journalDroppedRead h => Sys2Proof.Machine.execJournalDroppedRead h s
  | .alertPeriod => Sys2Proof.Machine.execAlertPeriod s
  | .hello f => Sys2Proof.Machine.execHello f s
  | .helloSend => Sys2Proof.Machine.execHelloSend s
  | .heartbeat f => Sys2Proof.Machine.execHeartbeat f s
  | .heartbeatSend => Sys2Proof.Machine.execHeartbeatSend s
  | .heartbeatMiss => Sys2Proof.Machine.execHeartbeatMiss s
  | .timeExchange f => Sys2Proof.Machine.execTimeExchange f s
  | .columnFrame f => Sys2Proof.Machine.execColumnFrame f s
  | .loopFrame f => Sys2Proof.Machine.execLoopFrame f s
  | .configFrame f => Sys2Proof.Machine.execConfigFrame f s
  | .bulkFrame f => Sys2Proof.Machine.execBulkFrame f s
  | .claim f => Sys2Proof.Machine.execClaim f s
  | .claimAck f => Sys2Proof.Machine.execClaimAck f s
  | .release f => Sys2Proof.Machine.execRelease f s
  | .pairOwnTimeout => Sys2Proof.Machine.execPairOwnTimeout s
  | .livenessRelease => Sys2Proof.Machine.execLivenessRelease s
  | .rilmanLinkDown => Sys2Proof.Machine.execRilmanLinkDown s
  | .partnerLost => Sys2Proof.Machine.execPartnerLost s
  | .mirrorLagRead h => Sys2Proof.Machine.execMirrorLagRead h s
  | .resetNAssert widthNs => Sys2Proof.Machine.execResetNAssert widthNs s
  | .railUndervoltage r => Sys2Proof.Machine.execRailUndervoltage r s
  | .powerOnResetEnd => Sys2Proof.Machine.execPowerOnResetEnd s
  | .resetRelease pins => Sys2Proof.Machine.execResetRelease pins s
  | .bootComplete => Sys2Proof.Machine.execBootComplete s
  | .bootWatchdog => Sys2Proof.Machine.execBootWatchdog s
  | .refclkLost lockOnly => Sys2Proof.Machine.execRefclkLost lockOnly s
  | .ethRefclkLost => Sys2Proof.Machine.execEthRefclkLost s
  | .pcieRefclkLost => Sys2Proof.Machine.execPcieRefclkLost s
  | .rilmanLinkUp => Sys2Proof.Machine.execRilmanLinkUp s
  | .c2lossAlarmEnd => Sys2Proof.Machine.execC2lossAlarmEnd s
  | .pairOwnRelease => Sys2Proof.Machine.execPairOwnRelease s

end Sys2Proof.Machine
end

