-- ==== Sys2Proof/Safety.lean ====
section
/-!
DEFINITION. The terms in which statements speak of the block: when a command finds the block ready, what a command leaves alone, when an
event has been told, and when a request is admitted.
-/

namespace Sys2Proof.Machine

/-- The block runs: it is not held in RESET, and no Fatal event waits for its entry to SAFE (none ever waits between commands). -/
def State.ready (s : State) : Prop := s.dev.state ≠ .reset ∧ s.ev.safeWanted = none

/-- The commands that act while the device is held in RESET: those of reset and clocks (R416, R419). -/
def actsInReset : Instr → Bool
  | .resetNAssert _ | .railUndervoltage _ | .powerOnResetEnd | .resetRelease _ | .refclkLost _ => true
  | _ => false

/-- The objects that the event log and the alarms write (R396 to R399). -/
def logObjects : List Nat :=
  [Obj.eventHead, Obj.lastFaultCode, Obj.journalDropped, Obj.activeAlarms, Obj.highestSeverity]

/-- What raising an event and ending a command leave of the log: the wish for SAFE, the Fatal causes, the closed entries that wait for the
LOG stream, and what the alarms JOURNAL and C2LOSS compare with. -/
def EventState.still (ev : EventState) : Option Nat × List Nat × Bool × List EventEntry × Nat × Option Nat :=
  (ev.safeWanted, ev.fatal, ev.safeByFatal, ev.logQueue, ev.droppedSeen, ev.c2LossAt)

/-- `t` is the expected state `e` but for what events, alarms and the end of a command write: the event log, the records formed, the objects
of the log, the wish for a bank of R105. The values of the objects `ids` are left to be said apart. -/
structure State.Logged (e t : State) (ids : List Nat) : Prop where
  /-- Every other part of the state is the expected one. -/
  rest : t = { e with live := t.live, mram := t.mram, ev := t.ev,
                      merge := { e.merge with formed := t.merge.formed, group := t.merge.group },
                      cal := { e.cal with wanted := t.cal.wanted },
                      array := { e.array with rolesDirty := t.array.rolesDirty } }
  /-- Every other object has the expected value. -/
  objects : ∀ id, id ∉ logObjects → id ∉ ids → t.get id = e.get id
  /-- MRAM is unchanged but for JournalDropped. -/
  stored : ∀ id, id ≠ Obj.journalDropped → Store.get t.variant t.mram id = Store.get e.variant e.mram id
  /-- No Fatal event is added, and the rest of the log that events do not write stays. -/
  calm : t.ev.still = e.ev.still
  /-- Every open entry of the log is still open. -/
  entries : ∀ x ∈ e.ev.openEntries, ∃ y ∈ t.ev.openEntries,
    y.number = x.number ∧ y.code = x.code ∧ y.source = x.source ∧ y.data = x.data ∧ y.cleared = x.cleared

/-- An event raised in `s` is told in `t`: an open entry has its key, or it lies below RingMinSeverity, or its key has no token and it is not
Fatal (R392, R394, R395). -/
def State.tells (s t : State) (code source sev data : Nat) : Prop :=
  sev < s.u Obj.ringMinSeverity ∨ ((s.bucketOf code source data false).tokens < tickHz ∧ sev ≠ 4) ∨
    ∃ y ∈ t.ev.openEntries, y.hasKey code source data false = true

/-- A request that passes form, session, tag and counter under the open session `x` (R49, R54 to R56). -/
def State.admits (s : State) (h : ReqHdr) (op : Nat) (body : Bytes) (x : Session) : Prop :=
  s.dev.state.answersDtp = true ∧ formOk h op body = true ∧ h.sessionId ≠ 0#16 ∧ s.begin.purge.sessionOf h = some x ∧
    tagOk h op body x.key = true ∧ x.lastIn < h.counter.toNat

/-- A request that passes form and security as the caller `c` (R49, R54 to R56): under SessionId 0, or under an open session. -/
def State.hears (s : State) (h : ReqHdr) (op : Nat) (body : Bytes) (c : Caller) : Prop :=
  (s.dev.state.answersDtp = true ∧ formOk h op body = true ∧ h.sessionId = 0#16 ∧ c = anonymous h) ∨
    ∃ x, s.admits h op body x ∧ c = x.caller

/-- The answer to an operation's code: under SessionId 0 it is plain, under a session it is tagged and takes the session's next Counter
(R54, R56). -/
def State.answerFor (s : State) (h : ReqHdr) (op : Nat) (code : Abort) (tail : Bytes) : Answer :=
  if h.sessionId = 0#16 then answerOf h (0x80 + op) 0 0 (replyBody op code tail) none
  else match s.begin.purge.sessionOf h with
    | some x => answerOf h (0x80 + op) x.id (x.lastOut + 1) (replyBody op code tail) (some x.key)
    | none => answerOf h (0x80 + op) 0 0 (replyBody op code tail) none

/-- `t` has the answer as the last that was sent. -/
def State.answered (t : State) (a : Answer) : Prop := t.dtp.answers.getLast? = some a

/-- Objects whose activation is a change of their value and nothing else: no unit acts on the change itself (R64). -/
def quietObj (id : Nat) : Bool :=
  !(heldInBank id || [Obj.ipMode, Obj.ipAddress, Obj.netMask, Obj.gateway, Obj.l1Pattern, Obj.watchList, Obj.mayflyEnable, Obj.timeSource, Obj.ptpPortMode,
      Obj.pairRole, Obj.operatorKey, Obj.integratorKey, Obj.sc0Sequence, Obj.sc1Sequence, Obj.pairMode, Obj.calrefMode].contains id ||
    [0x2500, 0x1141, 0x1142, 0x2D10, 0x2D11].contains (id / 256) || (decide (0x1150 ≤ id / 256) && decide (id / 256 < 0x1157)) ||
    (decide (0x2510 ≤ id / 256) && decide (id / 256 < 0x2519)) || (decide (0x2910 ≤ id / 256) && decide (id / 256 < 0x2916)))

/-- The objects that a read clears (R156, R185, R198, R224, R248, R350, R374, R399, R413). -/
def clearsOnRead (id : Nat) : Bool :=
  [Obj.journalDropped, Obj.ringHighWater, Obj.govFill, Obj.wcStatus, Obj.bufferHighWater, Obj.mirrorLag, Obj.camStoreHighWater 0,
   Obj.camStoreHighWater 1].contains id ||
  (decide (0x2A10 ≤ id / 256) && decide (id / 256 < 0x2A14) && (id % 256 == 0x17 || id % 256 == 0x19))

/-- The live value of an object has the size of the object's type. -/
def State.sized (s : State) (id : Nat) : Prop := (s.get id).length = objSize id

/-- An object reads as the number `v` in the object's own width (a counter past its last value wraps). -/
def State.shows (s : State) (id v : Nat) : Prop := s.get id = leBytes (objSize id) v

/-- A record of a stream, of a type and with this body, waits to enter the merge (R35). -/
def State.formed (s : State) (stream rtype : Nat) (body : Bytes) : Prop :=
  ∃ d ∈ s.merge.formed, d.stream = stream ∧ d.rtype = rtype ∧ d.body = body

/-- Every stream runs exactly where the variant has it and its Enable says so (R318), as every activation leaves it. -/
def State.streamsAsSet (s : State) : Prop :=
  ∀ k, k < 7 → (s.hasStream k && s.b (Obj.strEnable k)) = (s.stream k).enabled

/-- A WRITE of the bytes `bs` with type code `ty` to an object of its own row, heard as the caller `c`, that passes the checks of every
write: the unit is fitted, and level, access, type, length, state and value permit it (R46, R49, R52). -/
def State.takes (s : State) (h : ReqHdr) (index sub ty : Nat) (bs : Bytes) (c : Caller) : Prop :=
  s.hears h opWrite (writeBody index sub ty bs) c ∧ unitAbsent s.variant index = false ∧
    s.named index sub = .object (index * 256 + sub) ∧
    ∃ o, objDef? (index * 256 + sub) = some o ∧ s.begin.purge.writeCode o c.level ty bs false c.limit = Abort.ok

/-- What an answer writes: DTP's own state and the queues of the ports. -/
def State.withAnswer (e t : State) : State := { e with dtp := t.dtp, merge := { e.merge with ports := t.merge.ports } }

/-- Sensor `k` stands at `v`, 0.01 °C, and its object says so (Table THRM-5). -/
def State.readsAs (t : State) (k : Nat) (v : Int) : Prop :=
  (t.sensor k).value = v ∧ (k < 16 → t.word Obj.regionTemp 2 (2 * k) = twosOf 16 v) ∧
    (16 ≤ k → k < 18 → t.word Obj.logicTemp 2 (2 * (k - 16)) = twosOf 16 v) ∧
    (18 ≤ k → k < 20 → t.word Obj.packageTemp 2 (2 * (k - 18)) = twosOf 16 v) ∧
    (20 ≤ k → k < 22 → t.word Obj.thermTemp 2 (2 * (k - 20)) = twosOf 16 v) ∧ (k = 22 → t.shows Obj.i2cTemp (twosOf 16 v))

/-- `t` is `s` after sensor `k` has failed (R287, R300, R301). -/
structure State.SensorFails (s t : State) (k : Nat) : Prop where
  /-- The sensor is failed, and its run of valid readings starts anew. -/
  sensor : (t.sensor k).failed = true ∧ (t.sensor k).validRun = 0 ∧ (t.sensor k).gated = true
  /-- The change to failed is counted, told, and stands for the fail-hot reading. -/
  change : (s.sensor k).failed = false → t.readsAs k (s.failHot k) ∧ (t.u Obj.sensorFailed).testBit k = true ∧
    t.shows Obj.sensorFailCount (s.u Obj.sensorFailCount + 1) ∧ State.tells { s with time := t.time } t 0x0601 k 3 k
  /-- A step that the sensor drives rises at once. -/
  rise : (s.sensor k).failed = false →
    (k < 16 → 1 ≤ s.step' k → s.step' k < 3 → t.step' k = s.step' k + 1) ∧ (k < 16 → s.step' k = 3 → t.therm.step4 = true) ∧
    (20 ≤ k → k < 22 → 1 ≤ s.step' 16 → s.step' 16 < 3 → t.step' 16 = s.step' 16 + 1)
  /-- No other sensor changes. -/
  others : ∀ j, j ≠ k → t.sensor j = s.sensor j

/-- No pending Knock applies at once on account of a step that leads to `t`: the state has column boundaries, or its time lies ahead. -/
def State.knockCalm (s t : State) : Prop :=
  ∀ k, s.grp.pendingKnock = some k → s.dev.state.hasColumns = true ∨ t.nowNs < k.activation

/-- `t` is `s` after a step of native time by `d` ns (R315, R316, R318, R322, Table TIME-4): counted, told, stamped; a STEP anchor in every
enabled stream; frequency gates discarded; what has been stamped and not offered moved; what is scheduled acts when it is passed. -/
structure State.Stepped (s t : State) (d : Int) : Prop where
  /-- The time just after the step. -/
  native : t.time.native = ((s.time.native : Int) + d * 4294967296).toNat % nativeLimit ∧ t.time.ticks = s.time.ticks
  /-- Count, stamp and Notice. -/
  told : t.shows Obj.stepCount (s.u Obj.stepCount + 1) ∧ t.get Obj.lastStepTime = time80 t.nowNs ∧ s.tells t 0x0803 0xFFFF 1 (twosOf 64 d)
  /-- A STEP anchor in every enabled stream. -/
  anchors : s.knockCalm t → s.dev.booted = true → ∀ k, k < 16 → (getAt s.merge.streams k ⟨false, 0, [], 0⟩).enabled = true →
    ∃ x ∈ t.merge.formed, x.stream = k ∧ x.rtype = 0x02 ∧ x.stamp = t.nowNs ∧
      x.body.take 12 = time80 t.nowNs ++ leBytes 2 (t.time.native % 4294967296 / 65536)
  /-- No frequency gate is left. -/
  gates : s.knockCalm t → ∀ a ∈ t.aux.inputs, a.gate = none
  /-- A camera trigger whose time is passed fires, and a Knock that is passed applies at once where there are no column boundaries. -/
  passed : (s.knockCalm t → ∀ p, p < s.cams.length → s.camActive p = true → s.u (Obj.camTrigMode p) = 1 → s.nowNs < (s.cam p).nextNs →
      (s.cam p).nextNs ≤ t.nowNs → (s.cam p).trigHigh = false → (s.cam p).waiting = none → (t.cam p).trigHigh = true) ∧
    (¬ s.knockCalm t → t.grp.pendingKnock = none)
  /-- All else, where no Mayfly time and no Knock is passed. -/
  rest : s.knockCalm t → ofTime80 (s.get Obj.timeTrigger) = 0 ∨ ofTime80 (s.get Obj.timeTrigger) ≤ s.nowNs ∨
      t.nowNs < ofTime80 (s.get Obj.timeTrigger) →
    t.time.slewing = false ∧ t.dev = s.dev ∧ t.charge = s.charge ∧ t.loops = s.loops ∧ t.scan = s.scan ∧ t.sense = s.sense ∧
      t.therm = s.therm ∧ t.recd = s.recd ∧ t.pair = s.pair ∧ t.get Obj.timeTrigger = s.get Obj.timeTrigger ∧
      t.array = { s.array with notes := t.array.notes, rolesDirty := t.array.rolesDirty } ∧
      t.fire = { s.fire with banks := t.fire.banks } ∧ t.aux = { s.aux with inputs := t.aux.inputs }

/-- `t` is `s` with one counter risen by one, and nothing else. -/
def State.Counts (s t : State) (id : Nat) : Prop := t.shows id (s.u id + 1) ∧ s.begin.Logged t [id]

/-- `t` is `s` after an entry to REQUALIFY from the time state `tm`: the Increment is held, no measurement is doubted or kept for the
requalification, and the entry is counted and told (R308, R313). -/
def State.Requalifies (s t : State) (port data : Nat) (tm : TimeState) : Prop :=
  t.shows Obj.servoState 4 ∧ t.shows Obj.holdoverCount (s.u Obj.holdoverCount + 1) ∧ s.tells t 0x0801 port 2 data ∧
    State.Logged { s.begin with time := { tm with servo := 4, lockRun := 0, increment := s.heldIncrement, requalQ := [], dev := 0 } } t
      [Obj.servoState, Obj.holdoverCount]

/-- The header of a record under its sequence and ordinal, and its body (Tables STRM-2 and STRM-3). -/
def State.recordIs (s : State) (d : Draft) (seq ordinal : Nat) (bs : Bytes) : Prop :=
  bs = leBytes 4 seq ++ leBytes 4 d.stamp ++ leBytes 6 ordinal ++ leBytes 2 s.dev.identity ++
    [BitVec.ofNat 8 d.rtype, BitVec.ofNat 8 (16 * d.stream + 8 * b2n s.dup + d.cls)] ++ leBytes 2 d.body.length ++ d.body

/-- Whether a record's stamp lies beyond the bound from the newest anchor of its stream (R39). -/
def State.beyond (s : State) (d : Draft) : Prop :=
  d.rtype ≠ 2 ∧ ∃ a, (s.stream d.stream).anchors.head? = some a ∧ 2147483647 < natDist d.stamp a.2

/-- `t` is `s` after the record `d` has entered the merge alone, the drafts `rest` being left (R33 to R39, R323, R333, R342 to R344): queued,
or refused whole, and in each case counted. -/
structure State.Enters (s t : State) (d : Draft) (rest : List Draft) : Prop where
  /-- The drafts that are left wait on. -/
  left : ∀ x ∈ rest, x ∈ t.merge.formed
  /-- Refused with STAMP, or with LINK. -/
  refused : ∀ reason, (s.beyond d ∧ reason = 4) ∨ (¬ s.beyond d ∧ s.canCarry d.stream = false ∧ reason = 5) →
    (d.rtype ≠ 2 → ∀ p, (t.port p).queue = (s.port p).queue) ∧ (∀ p, ∀ q ∈ (t.port p).queue, q ∈ (s.port p).queue) ∧
      ∃ e ∈ t.merge.episodes, e.stream = d.stream ∧ e.cls = d.cls ∧ e.reason = reason ∧
        e.port = (if reason = 4 then 0xFF else if s.dup then 2 else s.queuePort (s.stream d.stream).carrier) ∧
        e.lastSeq = (s.stream d.stream).nextSeq
  /-- Refused with FULL: C2 that does not fit beside C2. -/
  full : ∀ p, p = s.queuePort (s.stream d.stream).carrier → p < s.merge.ports.length → ¬ s.beyond d → s.canCarry d.stream = true → d.cls = 2 →
    sharedArea < (s.port p).usedBy 2 + (20 + d.body.length) → (∀ q ∈ (s.port p).queue, q.cls ≤ 5) →
    (t.port p).barred = true ∧ ∃ e ∈ t.merge.episodes, e.stream = d.stream ∧ e.cls = 2 ∧ e.reason = 3
  /-- Queued as the last of its port. -/
  queued : ∀ (p delay launch : Nat), p = s.queuePort (s.stream d.stream).carrier → p < s.merge.ports.length →
    ¬ s.beyond d → s.canCarry d.stream = true → d.cls < 2 ∨ (s.port p).used + (20 + d.body.length) ≤ sharedArea →
    delay = (if d.cls < 2 then 0 else s.word Obj.launchDelay 4 (4 * (d.cls - 2))) →
    launch = (if delay = 0 ∨ d.stamp + delay < s.nowNs then 0 else d.stamp + delay) →
    (∃ q, (t.port p).queue.getLast? = some q ∧ q.stream = d.stream ∧ q.cls = d.cls ∧ q.seq = (s.stream d.stream).nextSeq ∧
        q.ordinal = s.merge.ordinal % 2 ^ 48 ∧ q.stamp = d.stamp ∧ q.launch = launch ∧ q.start = s.time.ticks ∧ q.tag = d.tag ∧
        q.sentOn = [] ∧ s.recordIs d (s.stream d.stream).nextSeq (s.merge.ordinal % 2 ^ 48) q.bytes) ∧
      (d.rtype ≠ 2 → (t.port p).queue.dropLast = (s.port p).queue ∧ (t.port p).barred = (s.port p).barred ∧
        State.Logged { s.begin with merge := { s.merge with ordinal := (s.merge.ordinal + 1) % 2 ^ 48,
                                                            streams := t.merge.streams, ports := t.merge.ports } } t
          [Obj.strNextSequence d.stream, Obj.classCounters, Obj.bufferHighWater, Obj.launchLateCount])

/-- `t` is `s` with these frames more among the service frames of port `p`, in order, and nothing else. -/
def State.Serves (s t : State) (p : Nat) (frames : List Bytes) : Prop :=
  State.Logged { s.begin with merge := { s.merge with ports := t.merge.ports } } t [] ∧ (∀ q, q ≠ p → t.port q = s.port q) ∧
    t.port p = { s.port p with services := (s.port p).services ++ frames.map (fun f => ⟨3, f⟩) }

/-- `t` is `s` with one DHCP message more among the service frames of port `p`, and nothing else (R328). -/
def State.SendsDhcp (s t : State) (p kind ciaddr : Nat) (ask server : Option Nat) (mac dst : Nat) : Prop :=
  s.Serves t p [s.ethFrame p mac (some (s.pcp 6)) 0x0800 (udpPacket ciaddr dst 68 67 (s.dhcpMessage p kind ciaddr ask server))]

/-- `t` is `s` after the address is gone: every queued record has been refused with LINK (R328). -/
def State.NoAddress (s t : State) : Prop :=
  (∀ p, p < 2 → (t.port p).queue = [] ∧ ∀ r ∈ (s.port p).queue, ∃ e ∈ t.merge.episodes, e.stream = r.stream ∧ e.cls = r.cls ∧ e.reason = 5) ∧
    t.time = s.time ∧ t.dev = s.dev ∧ t.fire = s.fire ∧ t.scan = s.scan ∧ t.loops = s.loops ∧ t.merge.streams = s.merge.streams

/-- The time state of `s` with the ticks and the native time of `t`: time has run, and nothing else of it has changed. -/
def State.ranTo (s t : State) : TimeState := { s.time with ticks := t.time.ticks, native := t.time.native }

/-- `t` is `s` after time has run and a frame of camera port `p` has been dropped for a reason of Table CAM-8, the port standing as `x` just
before: counted, told, and due in the next trailer (R363, R373). -/
def State.CamDrops (s t : State) (p reason number : Nat) (x : CamPort) : Prop :=
  t.cams = setAt s.cams p { x with droppedBefore := min 65535 (x.droppedBefore + 1), tnrEmpty := true } ∧
    t.get (Obj.camDropCount p) = patch (4 * reason) (leBytes 4 (s.word (Obj.camDropCount p) 4 (4 * reason) + 1)) (s.get (Obj.camDropCount p)) ∧
    State.tells { s with time := t.time } t (0x0B01 + reason) p 1 number ∧
    State.Logged { s.begin with time := s.ranTo t, cams := t.cams } t [Obj.camDropCount p]

/-- `t` is `s` after time has run and the recorder's service has ended, no segment being taken (R388): what it had in hand is gone, counted
and told. -/
def State.RecFails (s t : State) (status : Nat) : Prop :=
  t.shows Obj.recState 5 ∧ t.shows Obj.writeErrorCount (s.u Obj.writeErrorCount + 1) ∧
    State.tells { s with time := t.time } t 0x0C03 0 3 status ∧
    State.Logged { s.begin with time := s.ranTo t, fresh := t.fresh,
                                recd := { s.recd with extent := none, flight := [], superStage := 0, superDue := false } } t
      [Obj.recState, Obj.writeErrorCount, Obj.unrecordedCount]

/-- `t` is `s` after a follower has taken the ownership for a cause of R409: PAIR_OWN and GPIO0 are driven, and the takeover is counted, stamped
and told. With a mirror no older than 100 µs it is in SCAN, its generators loaded (R113), L0 to L2 on the owner's set-points and code; with
one that is older it is in ARMED, with L0 and L1 in START and its own START to come (R410). -/
structure State.TakesOver (s t : State) (cause : Nat) : Prop where
  /-- The ownership, counted, stamped and told. -/
  owns : t.pair.asserts = true ∧ t.pair.gpio0 = true ∧ t.shows Obj.owner 1 ∧ t.shows Obj.takeoverCount (s.u Obj.takeoverCount + 1) ∧
    t.shows Obj.lastTakeoverCause cause ∧ t.get Obj.lastTakeoverTime = time80 t.nowNs ∧ State.tells { s with time := t.time } t 0x0D01 0 2 cause
  /-- A mirror no older than 100 µs. -/
  fresh : t.time.ticks ≤ max (max (s.mirror 0).asOf (s.mirror 1).asOf) (s.mirror 2).asOf + 25000 →
    t.dev.state = .scan ∧ t.shows Obj.state 0x30 ∧ t.pair.startWhenReady = false ∧ bitOf t.fire.inhibit 0 = false ∧
      (s.loops.length = 4 → ∀ n, n < 3 → (t.loop n).r = (s.mirror n).r ∧ (t.loop n).v = (s.mirror n).v ∧ (t.loop n).a = (s.mirror n).a ∧
        (t.loop n).code = (s.mirror n).code) ∧
      (∀ b, b < 16 → (t.bank b).x = s.u Obj.shotSeed ^^^ (b * 0x10001 % 4294967296))
  /-- A mirror that is older. -/
  stale : max (max (s.mirror 0).asOf (s.mirror 1).asOf) (s.mirror 2).asOf + 25000 < t.time.ticks →
    t.dev.state = .armed ∧ t.shows Obj.state 0x20 ∧ t.pair.startWhenReady = true ∧ bitOf t.fire.inhibit 0 = true ∧
      (s.loops.length = 4 → (t.loop 0).mode = .start ∧ (t.loop 1).mode = .start)

/-- `t` is `s` after a reset with this ResetCause (R416, R417): what is volatile is as after power-on; MRAM keeps its objects but for
ResetCause and JournalDropped, its firmware slots, its calibration banks and its journal; the levels of the reset pins stand. -/
structure State.ResetInto (s t : State) (cause : Nat) : Prop where
  /-- The cause is stored. -/
  cause : Store.get t.variant t.mram Obj.resetCause = [BitVec.ofNat 8 cause]
  /-- Every other stored object keeps its value. -/
  stored : ∀ id, id ≠ Obj.resetCause → id ≠ Obj.journalDropped → Store.get t.variant t.mram id = Store.get s.variant s.mram id
  /-- MRAM's other contents stay. -/
  kept : t.variant = s.variant ∧ t.pending = s.pending ∧ t.dev.slotA = s.dev.slotA ∧ t.dev.slotB = s.dev.slotB ∧
    t.cal.slotA = s.cal.slotA ∧ t.cal.slotB = s.cal.slotB ∧ t.ev.journal = s.ev.journal
  /-- All else is as after power-on; the last RELEASE frame to the partner has been sent. -/
  volatile : t = { State.reset with
    pending := t.pending, fresh := t.fresh, variant := t.variant, mram := t.mram,
    dev := { Device.reset with resetNLow := t.dev.resetNLow, porActive := t.dev.porActive, railsLow := t.dev.railsLow,
                               slotA := t.dev.slotA, slotB := t.dev.slotB },
    ev := { EventState.reset with journal := t.ev.journal },
    cal := { CalState.reset with slotA := t.cal.slotA, slotB := t.cal.slotB },
    pair := { PairState.reset with out := t.pair.out } }

/-- The canonical form of an object store: object numbers strictly rising, and no entry that equals the object's default. -/
abbrev Store.wf (v : Variant) (st : Store) : Prop := st.Pairwise (fun a b => a.1 < b.1) ∧ ∀ e ∈ st, e.2 ≠ defaultOf v e.1

/-- Outside SCAN the STATE inhibit is set (Table EMIT-6). -/
def State.shut (s : State) : Prop := s.dev.state ≠ .scan → bitOf s.fire.inhibit 0 = true

/-- What holds between commands: no Fatal event waits, and firing is inhibited outside SCAN. -/
def State.good (s : State) : Prop := s.ev.safeWanted = none ∧ s.shut

/-- The device is in SAFE with firing inhibited (R63, Table EMIT-6). -/
def State.isSafe (s : State) : Prop := s.dev.state = .safe ∧ bitOf s.fire.inhibit 0 = true

end Sys2Proof.Machine
end

