-- ==== Sys2Proof/Certificates/Slice0/Obligations.lean ====
section
/-!
DEFINITION. The statements for the provers: what the commands of the block do, from the rules of spec/.
-/

open Sys2Proof Sys2Proof.Machine

/-- A step with the command `c` at the front of the queue is exec of `c` on the state with the queue's rest. -/
def Obligations.StepRunsFrontCommand : Prop :=
  ∀ (c : Sys2Proof.Instr) (s : Sys2Proof.Machine.State),
    Sys2Proof.Machine.step { s with pending := c :: s.pending } = Sys2Proof.Machine.exec c s

/-- An empty queue: one tick of the time counter, and nothing else (the model's choice, log entry 1). -/
def Obligations.IdleStepIsOneTick : Prop :=
  ∀ s : Sys2Proof.Machine.State, s.pending = [] →
    (s.time.running = true → ∃ t, Sys2Proof.Machine.step s = .next t ∧
      t = { s with time := { s.time with ticks := s.time.ticks + 1,
                                         native := (s.time.native + s.time.increment) % (2 ^ 48 * 1000000000 * 4294967296) } }) ∧
    (s.time.running = false → Sys2Proof.Machine.step s = .next s)

/-- Every command answers a next state with the queue untouched. -/
def Obligations.EveryCommandAnswers : Prop :=
  ∀ (c : Sys2Proof.Instr) (s : Sys2Proof.Machine.State),
    ∃ t, Sys2Proof.Machine.exec c s = .next t ∧ t.pending = s.pending

/-- The state after reset (R304, R400, R416, Table EMIT-6, Table PWR-4). -/
def Obligations.ResetState : Prop :=
  let s := Sys2Proof.Machine.State.reset
  s.dev.state = .reset ∧ s.pending = [] ∧ s.fire.inhibit = 1 ∧ s.fire.released = false ∧ s.charge.switching = false ∧
    s.recd.perstHigh = false ∧ s.ev.alertLow = true ∧ s.time.native = 0 ∧ s.time.increment = 0x400000000 ∧ s.time.running = false ∧
    s.dtp.sessions = [] ∧ s.dtp.pending = [] ∧ s.dtp.transfers = [] ∧ s.grp.pendingKnock = none ∧ s.grp.shadow = [] ∧
    s.ev.ring = [] ∧ s.ev.openEntries = [] ∧ s.ev.safeWanted = none ∧ s.may.ring = [] ∧ s.may.engines.length = 16 ∧
    (∀ p ∈ s.merge.ports, p.linkUp = false ∧ p.queue = [] ∧ p.services = []) ∧ s.recd.flight = [] ∧ s.recd.extent = none ∧
    (∀ l ∈ s.loops, l.mode = .off) ∧ s.loops.length = 4 ∧ s.pair.asserts = false ∧ s.pair.linkUp = false ∧ s.dev.booted = false ∧
    (∀ id, s.get id = Sys2Proof.Machine.defaultOf .sv id)

/-- The invariant of the next statement holds after reset. -/
def Obligations.ResetIsGood : Prop := Sys2Proof.Machine.State.reset.good

/-- The step keeps the invariant: firing inhibited outside SCAN, no Fatal event waiting (Table EMIT-6, R63, R393). -/
def Obligations.StepKeepsShut : Prop :=
  ∀ s t : Sys2Proof.Machine.State, s.good → Sys2Proof.Machine.step s = .next t → t.good

/-- Resets: the state that each cause leaves (R416, R417, R419, R424). -/
def Obligations.ResetCauses : Prop :=
  ∀ s : Sys2Proof.Machine.State,
    (s.dev.state ≠ .reset → ∀ ns, 2000 ≤ ns → ∃ t, Sys2Proof.Machine.exec (.resetNAssert ns) s = .next t ∧ s.ResetInto t 1 ∧
      t.dev.resetNLow = true) ∧
    (s.dev.state ≠ .reset → ∀ lockOnly : Bool, ∃ t, Sys2Proof.Machine.exec (.refclkLost lockOnly) s = .next t ∧
      s.ResetInto t (if lockOnly then 4 else 5)) ∧
    (s.dev.state = .boot → ∃ t, Sys2Proof.Machine.exec .bootWatchdog s = .next t ∧ s.ResetInto t 6) ∧
    (∀ r ∈ [Sys2Proof.Rail.vddCore, .vddTdc, .vddSram, .vdda18, .vddSerdes], ∃ t,
      Sys2Proof.Machine.exec (.railUndervoltage r) s = .next t ∧ s.ResetInto t 0 ∧ t.dev.porActive = true ∧ r ∈ t.dev.railsLow)

/-- What RESET, short pulses and rails that are not watched leave alone (R59, R416). -/
def Obligations.ResetHolds : Prop :=
  ∀ s : Sys2Proof.Machine.State, s.ev.safeWanted = none →
    (s.dev.state = .reset → ∀ c : Sys2Proof.Instr, Sys2Proof.Machine.actsInReset c = false →
      ∃ t, Sys2Proof.Machine.exec c s = .next t ∧ s.begin.Logged t []) ∧
    (∀ ns, ns < 1000 → ∃ t, Sys2Proof.Machine.exec (.resetNAssert ns) s = .next t ∧ s.begin.Logged t []) ∧
    (∀ r ∈ [Sys2Proof.Rail.vddio, .vddQuench, .vspad], ∃ t, Sys2Proof.Machine.exec (.railUndervoltage r) s = .next t ∧
      s.begin.Logged t []) ∧
    (s.dev.state ≠ .reset → ∀ ns, 1000 ≤ ns → ns < 2000 → ∃ t, Sys2Proof.Machine.exec (.resetNAssert ns) s = .next t ∧
      (State.Logged { s.begin with fresh := s.fresh + 1 } t [] ∨ (s.ResetInto t 1 ∧ t.dev.resetNLow = true))) ∧
    (∃ t, Sys2Proof.Machine.exec .powerOnResetEnd s = .next t ∧
      State.Logged { s.begin with dev := { s.dev with porActive := false, railsLow := [] } } t [])

/-- A READ of NativeTime returns native time at the instant of the read, and changes nothing (R305). -/
def Obligations.ReadNativeTime : Prop :=
  ∀ (s : Sys2Proof.Machine.State) (h : Sys2Proof.ReqHdr) (c : Sys2Proof.Machine.Caller),
    s.ready → s.dev.recovery = false → s.hears h Sys2Proof.Machine.opRead (Sys2Proof.Machine.readBody 0x1300 0x01) c →
    ∃ t, Sys2Proof.Machine.exec (.read h (Sys2Proof.Machine.readBody 0x1300 0x01)) s = .next t ∧
      t.answered (s.answerFor h Sys2Proof.Machine.opRead Sys2Proof.Machine.Abort.ok
        (Sys2Proof.Machine.readTail .time80 (Sys2Proof.Machine.time80 s.nowNs))) ∧
      (s.begin.withAnswer t).Logged t []

/-- Reads that clear what they read (R156, R185, R198, R224, R248, R350, R374, R399, R413). -/
def Obligations.ClearingReads : Prop :=
  ∀ (s : Sys2Proof.Machine.State) (h : Sys2Proof.ReqHdr) (c : Sys2Proof.Machine.Caller), s.ready → s.dev.recovery = false →
    (s.hears h Sys2Proof.Machine.opRead (Sys2Proof.Machine.readBody 0x2800 0x11) c → s.sized Sys2Proof.Machine.Obj.wcStatus →
      ∃ t, Sys2Proof.Machine.exec (.wcStatusRead h) s = .next t ∧ t.u Sys2Proof.Machine.Obj.wcStatus = 0 ∧
        t.answered (s.answerFor h Sys2Proof.Machine.opRead 0 (Sys2Proof.Machine.readTail .u16 (s.get Sys2Proof.Machine.Obj.wcStatus))) ∧
        (s.begin.withAnswer t).Logged t [Sys2Proof.Machine.Obj.wcStatus]) ∧
    (∀ n : Fin 4, s.hears h Sys2Proof.Machine.opRead (Sys2Proof.Machine.readBody (0x2A10 + n.val) 0x19) c →
      s.sized (Sys2Proof.Machine.Obj.loopMaxLatency n.val) →
      ∃ t, Sys2Proof.Machine.exec (.maxLatencyRead h n) s = .next t ∧ t.u (Sys2Proof.Machine.Obj.loopMaxLatency n.val) = 0 ∧
        t.answered (s.answerFor h Sys2Proof.Machine.opRead 0
          (Sys2Proof.Machine.readTail .u32 (s.get (Sys2Proof.Machine.Obj.loopMaxLatency n.val)))) ∧
        (s.begin.withAnswer t).Logged t [Sys2Proof.Machine.Obj.loopMaxLatency n.val]) ∧
    (∀ n : Fin 4, s.hears h Sys2Proof.Machine.opRead (Sys2Proof.Machine.readBody (0x2A10 + n.val) 0x17) c →
      ∃ t, Sys2Proof.Machine.exec (.loopStatusRead h n) s = .next t ∧
        t.answered (s.answerFor h Sys2Proof.Machine.opRead 0
          (Sys2Proof.Machine.readTail .u32 (Sys2Proof.Machine.leBytes 4 (s.loopStatus n.val)))) ∧
        ((s.begin.setLoop n.val { s.loop n.val with miss := false, limit := false }).withAnswer t).Logged t []) ∧
    (s.hears h Sys2Proof.Machine.opRead (Sys2Proof.Machine.readBody 0x2400 0x18) c → s.sized Sys2Proof.Machine.Obj.ringHighWater →
      ∃ t, Sys2Proof.Machine.exec (.ringHighWaterRead h) s = .next t ∧ t.u Sys2Proof.Machine.Obj.ringHighWater = 0 ∧
        t.answered (s.answerFor h Sys2Proof.Machine.opRead 0
          (Sys2Proof.Machine.readTail .u32 (s.get Sys2Proof.Machine.Obj.ringHighWater))) ∧
        (s.begin.withAnswer t).Logged t [Sys2Proof.Machine.Obj.ringHighWater]) ∧
    (∀ p : Fin 2, p.val < s.variant.cams → s.hears h Sys2Proof.Machine.opRead (Sys2Proof.Machine.readBody (0x2D10 + p.val) 0x25) c →
      s.sized (Sys2Proof.Machine.Obj.camStoreHighWater p.val) →
      ∃ t, Sys2Proof.Machine.exec (.storeHighWaterRead h p) s = .next t ∧ t.u (Sys2Proof.Machine.Obj.camStoreHighWater p.val) = 0 ∧
        t.answered (s.answerFor h Sys2Proof.Machine.opRead 0
          (Sys2Proof.Machine.readTail .u32 (s.get (Sys2Proof.Machine.Obj.camStoreHighWater p.val)))) ∧
        (s.begin.withAnswer t).Logged t [Sys2Proof.Machine.Obj.camStoreHighWater p.val]) ∧
    (s.hears h Sys2Proof.Machine.opRead (Sys2Proof.Machine.readBody 0x2F00 0x09) c → s.sized Sys2Proof.Machine.Obj.mirrorLag →
      ∃ t, Sys2Proof.Machine.exec (.mirrorLagRead h) s = .next t ∧ t.u Sys2Proof.Machine.Obj.mirrorLag = 0 ∧
        t.answered (s.answerFor h Sys2Proof.Machine.opRead 0 (Sys2Proof.Machine.readTail .u32 (s.get Sys2Proof.Machine.Obj.mirrorLag))) ∧
        (s.begin.withAnswer t).Logged t [Sys2Proof.Machine.Obj.mirrorLag]) ∧
    (s.hears h Sys2Proof.Machine.opRead (Sys2Proof.Machine.readBody 0x1400 0x0E) c → s.sized Sys2Proof.Machine.Obj.journalDropped →
      ∃ t, Sys2Proof.Machine.exec (.journalDroppedRead h) s = .next t ∧
        t.answered (s.answerFor h Sys2Proof.Machine.opRead 0
          (Sys2Proof.Machine.readTail .u32 (s.get Sys2Proof.Machine.Obj.journalDropped))) ∧
        (State.withAnswer { s.begin with ev := { s.ev with droppedSeen := s.u Sys2Proof.Machine.Obj.journalDropped } } t).Logged t []) ∧
    (s.hears h Sys2Proof.Machine.opBlockRead (Sys2Proof.Machine.readBody 0x2C00 0x12) c →
      s.begin.purge.openCode c = 0 → s.sized Sys2Proof.Machine.Obj.govFill →
      ∃ t, Sys2Proof.Machine.exec (.govFillRead h) s = .next t ∧
        t.get Sys2Proof.Machine.Obj.govFill = List.replicate 96 0 ∧
        t.answered (s.answerFor h Sys2Proof.Machine.opBlockRead 0 ([0, 0] ++ Sys2Proof.Machine.leBytes 4 96)) ∧
        (∃ x ∈ t.dtp.transfers, x.owner = c.owner ∧ x.isWrite = false ∧ x.data = s.get Sys2Proof.Machine.Obj.govFill ∧ x.done = 0 ∧
          x.nextBlock = 0) ∧
        (s.begin.withAnswer t).Logged t [Sys2Proof.Machine.Obj.govFill]) ∧
    (s.hears h Sys2Proof.Machine.opBlockRead (Sys2Proof.Machine.readBody 0x1170 0x04) c →
      s.begin.purge.openCode c = 0 → s.sized Sys2Proof.Machine.Obj.bufferHighWater →
      ∃ t, Sys2Proof.Machine.exec (.bufferHighWaterRead h) s = .next t ∧
        t.get Sys2Proof.Machine.Obj.bufferHighWater = List.replicate 8 0 ∧
        t.answered (s.answerFor h Sys2Proof.Machine.opBlockRead 0 ([0, 0] ++ Sys2Proof.Machine.leBytes 4 8)) ∧
        (∃ x ∈ t.dtp.transfers, x.owner = c.owner ∧ x.isWrite = false ∧ x.data = s.get Sys2Proof.Machine.Obj.bufferHighWater ∧
          x.done = 0 ∧ x.nextBlock = 0) ∧
        (s.begin.withAnswer t).Logged t [Sys2Proof.Machine.Obj.bufferHighWater])

/-- WRITE, STAGE and refusals: what the object store and the shadow set become (R46, R49, R64). -/
def Obligations.WriteAndStage : Prop :=
  ∀ (s : Sys2Proof.Machine.State) (h : Sys2Proof.ReqHdr) (c : Sys2Proof.Machine.Caller), s.ready → s.dev.recovery = false →
    (∀ e ∈ [(Sys2Proof.Machine.Obj.compatOffset, 0x09, 8), (Sys2Proof.Machine.Obj.compatRate, 0x08, 4), (Sys2Proof.Machine.Obj.readLba, 0x05, 8)],
      ∀ bs : Sys2Proof.Bytes, bs.length = e.2.2 → 1 ≤ c.level → s.streamsAsSet →
      Sys2Proof.Machine.unitAbsent s.variant (e.1 / 256) = false →
      s.hears h Sys2Proof.Machine.opWrite (Sys2Proof.Machine.writeBody (e.1 / 256) (e.1 % 256) e.2.1 bs) c →
      ∃ t, Sys2Proof.Machine.exec (.write h (Sys2Proof.Machine.writeBody (e.1 / 256) (e.1 % 256) e.2.1 bs)) s = .next t ∧ t.get e.1 = bs ∧
        t.answered (s.answerFor h Sys2Proof.Machine.opWrite Sys2Proof.Machine.Abort.ok [0, 0]) ∧
        ((s.begin.put e.1 bs).withAnswer t).Logged t []) ∧
    (∀ (id ty : Nat) (o : Sys2Proof.Machine.ObjDef) (bs : Sys2Proof.Bytes), id / 256 < 0x5000 → ty < 256 →
      Sys2Proof.Machine.objDef? id = some o → s.named (id / 256) (id % 256) = .object id →
      id ≠ Sys2Proof.Machine.Obj.command → Sys2Proof.Machine.unitAbsent s.variant (id / 256) = false →
      s.begin.purge.writeCode o c.level ty bs true c.limit = Sys2Proof.Machine.Abort.ok →
      s.hears h Sys2Proof.Machine.opStage (Sys2Proof.Machine.writeBody (id / 256) (id % 256) ty bs) c →
      ∃ t, Sys2Proof.Machine.exec (.stage h (Sys2Proof.Machine.writeBody (id / 256) (id % 256) ty bs)) s = .next t ∧
        t.answered (s.answerFor h Sys2Proof.Machine.opStage Sys2Proof.Machine.Abort.ok [0, 0]) ∧ t.shadowGet id = bs ∧
        ((s.begin.stageValue id bs).withAnswer t).Logged t []) ∧
    (∀ (stage : Bool) (id ty : Nat) (o : Sys2Proof.Machine.ObjDef) (bs : Sys2Proof.Bytes), id / 256 < 0x5000 → ty < 256 →
      Sys2Proof.Machine.objDef? id = some o → s.named (id / 256) (id % 256) = .object id →
      id ≠ Sys2Proof.Machine.Obj.command → Sys2Proof.Machine.unitAbsent s.variant (id / 256) = false →
      s.begin.purge.writeCode o c.level ty bs stage c.limit ≠ Sys2Proof.Machine.Abort.ok →
      Sys2Proof.Machine.untagged (s.begin.purge.writeCode o c.level ty bs stage c.limit) = false →
      s.hears h (if stage then Sys2Proof.Machine.opStage else Sys2Proof.Machine.opWrite)
        (Sys2Proof.Machine.writeBody (id / 256) (id % 256) ty bs) c →
      ∃ t, Sys2Proof.Machine.exec (if stage then .stage h (Sys2Proof.Machine.writeBody (id / 256) (id % 256) ty bs)
            else .write h (Sys2Proof.Machine.writeBody (id / 256) (id % 256) ty bs)) s = .next t ∧
        t.answered (s.answerFor h (if stage then Sys2Proof.Machine.opStage else Sys2Proof.Machine.opWrite)
          (s.begin.purge.writeCode o c.level ty bs stage c.limit) []) ∧
        (s.begin.withAnswer t).Logged t []) ∧
    (∀ index sub : Nat, index < 65536 → sub < 256 → s.named index sub = .missing →
      s.hears h Sys2Proof.Machine.opRead (Sys2Proof.Machine.readBody index sub) c →
      ∃ t, Sys2Proof.Machine.exec (.read h (Sys2Proof.Machine.readBody index sub)) s = .next t ∧
        t.answered (s.answerFor h Sys2Proof.Machine.opRead Sys2Proof.Machine.Abort.noObject []) ∧ (s.begin.withAnswer t).Logged t [])

/-- Block transfers (R53). -/
def Obligations.BlockTransfers : Prop :=
  ∀ (s : Sys2Proof.Machine.State) (h : Sys2Proof.ReqHdr) (c : Sys2Proof.Machine.Caller), s.ready → s.dev.recovery = false →
    (∀ (id : Nat) (o : Sys2Proof.Machine.ObjDef), id / 256 < 0x5000 → Sys2Proof.Machine.objDef? id = some o →
      s.named (id / 256) (id % 256) = .object id → Sys2Proof.Machine.unitAbsent s.variant (id / 256) = false →
      id ≠ Sys2Proof.Machine.Obj.readData → Sys2Proof.Machine.clearsOnRead id = false →
      s.begin.purge.readCode o c.level true 0 0 = Sys2Proof.Machine.Abort.ok → s.begin.purge.openCode c = Sys2Proof.Machine.Abort.ok →
      (s.begin.purge.valueOf false id) ≠ [] →
      s.hears h Sys2Proof.Machine.opBlockRead (Sys2Proof.Machine.readBody (id / 256) (id % 256)) c →
      ∃ t, Sys2Proof.Machine.exec (.blockReadInit h (Sys2Proof.Machine.readBody (id / 256) (id % 256))) s = .next t ∧
        t.answered (s.answerFor h Sys2Proof.Machine.opBlockRead 0 ([0, 0] ++ Sys2Proof.Machine.leBytes 4 ((s.begin.purge.valueOf false id)).length)) ∧
        (∃ x ∈ t.dtp.transfers, x.owner = c.owner ∧ x.isWrite = false ∧ x.data = (s.begin.purge.valueOf false id) ∧ x.done = 0 ∧ x.nextBlock = 0) ∧
        (s.begin.withAnswer t).Logged t []) ∧
    (∀ (id total : Nat) (o : Sys2Proof.Machine.ObjDef), id / 256 < 0x5000 → 0 < total → total < 2 ^ 32 →
      Sys2Proof.Machine.objDef? id = some o → s.named (id / 256) (id % 256) = .object id →
      Sys2Proof.Machine.unitAbsent s.variant (id / 256) = false →
      s.begin.purge.blockWriteCode o c.level total 0 = Sys2Proof.Machine.Abort.ok →
      s.begin.purge.openCode c = Sys2Proof.Machine.Abort.ok →
      s.hears h Sys2Proof.Machine.opBlockWrite
        (Sys2Proof.Machine.readBody (id / 256) (id % 256) ++ Sys2Proof.Machine.leBytes 4 total) c →
      ∃ t, Sys2Proof.Machine.exec (.blockWriteInit h
            (Sys2Proof.Machine.readBody (id / 256) (id % 256) ++ Sys2Proof.Machine.leBytes 4 total)) s = .next t ∧
        t.answered (s.answerFor h Sys2Proof.Machine.opBlockWrite 0 [0, 0]) ∧
        (∃ x ∈ t.dtp.transfers, x.owner = c.owner ∧ x.isWrite = true ∧ x.obj = id ∧ x.total = total ∧ x.data = [] ∧ x.nextBlock = 0) ∧
        (s.begin.withAnswer t).Logged t []) ∧
    (∀ (x : Sys2Proof.Machine.Transfer) (len : Nat), s.begin.purge.transferOf c = some x → x.isWrite = false → x.nextBlock < 65536 →
      0 < len → len ≤ c.block →
      s.hears h Sys2Proof.Machine.opBlockNext (Sys2Proof.Machine.leBytes 2 x.nextBlock ++ Sys2Proof.Machine.leBytes 2 len) c →
      ∃ t, Sys2Proof.Machine.exec (.blockNext h (Sys2Proof.Machine.leBytes 2 x.nextBlock ++ Sys2Proof.Machine.leBytes 2 len)) s = .next t ∧
        t.answered (s.answerFor h Sys2Proof.Machine.opBlockNext 0
          (Sys2Proof.Machine.leBytes 2 x.nextBlock ++ Sys2Proof.Machine.leBytes 2 (Sys2Proof.Machine.slice x.done len x.data).length ++
            Sys2Proof.Machine.slice x.done len x.data)) ∧
        (x.done + (Sys2Proof.Machine.slice x.done len x.data).length < x.total →
          ∃ y ∈ t.dtp.transfers, y.owner = x.owner ∧ y.data = x.data ∧ y.nextBlock = (x.nextBlock + 1) % 65536 ∧
            y.done = x.done + (Sys2Proof.Machine.slice x.done len x.data).length) ∧
        (x.total ≤ x.done + (Sys2Proof.Machine.slice x.done len x.data).length → ∀ y ∈ t.dtp.transfers, y.owner ≠ c.owner) ∧
        (s.begin.withAnswer t).Logged t []) ∧
    (∀ (x : Sys2Proof.Machine.Transfer) (data : Sys2Proof.Bytes), s.begin.purge.transferOf c = some x → x.isWrite = true →
      x.nextBlock < 65536 → x.obj ≠ Sys2Proof.Machine.Obj.firmwareImage → 0 < data.length → data.length ≤ c.block →
      x.done + data.length ≤ x.total → (x.data ++ data).length < x.total →
      s.hears h Sys2Proof.Machine.opBlockNext
        (Sys2Proof.Machine.leBytes 2 x.nextBlock ++ Sys2Proof.Machine.leBytes 2 data.length ++ data) c →
      ∃ t, Sys2Proof.Machine.exec (.blockNext h
            (Sys2Proof.Machine.leBytes 2 x.nextBlock ++ Sys2Proof.Machine.leBytes 2 data.length ++ data)) s = .next t ∧
        t.answered (s.answerFor h Sys2Proof.Machine.opBlockNext 0
          (Sys2Proof.Machine.leBytes 2 x.nextBlock ++ Sys2Proof.Machine.leBytes 2 data.length)) ∧
        (∃ y ∈ t.dtp.transfers, y.owner = x.owner ∧ y.isWrite = true ∧ y.obj = x.obj ∧ y.data = x.data ++ data ∧
          y.nextBlock = (x.nextBlock + 1) % 65536) ∧
        (s.begin.withAnswer t).Logged t []) ∧
    (∀ (x : Sys2Proof.Machine.Transfer) (o : Sys2Proof.XferOwner), s.dtp.transfers.find? (fun y => y.owner == o) = some x →
      ∃ t, Sys2Proof.Machine.exec (.blockTransferTimeout o) s = .next t ∧
        t.dtp.transfers = s.dtp.transfers.filter (fun y => y.owner != o) ∧ t.dtp.sessions = s.dtp.sessions ∧
        s.time.ticks ≤ t.time.ticks ∧ t.time.ticks ≤ max s.time.ticks (x.seenAt + 2 * Sys2Proof.Machine.tickHz) ∧
        (State.withAnswer { s.begin with time := t.time } t).Logged t [])

/-- Authentication and CLOSE (R55 to R58). -/
def Obligations.Authentication : Prop :=
  ∀ (s : Sys2Proof.Machine.State) (h : Sys2Proof.ReqHdr) (body : Sys2Proof.Bytes), s.ready → s.dev.state.answersDtp = true →
    (Sys2Proof.Machine.formOk h Sys2Proof.Machine.opChallenge body = true → h.sessionId = 0#16 →
      ∀ level, level = Sys2Proof.Machine.numAt 0 1 body → 1 ≤ level → level ≤ 3 →
      Sys2Proof.Machine.getAt s.begin.purge.dtp.lockedUntil level none = none → Sys2Proof.Machine.allZero (s.keyOf level) = false →
      (s.begin.purge.idsOn h.transport).length < 8 →
      ∃ t p, Sys2Proof.Machine.exec (.authChallenge h body) s = .next t ∧ t.dtp.pending = s.begin.purge.dtp.pending ++ [p] ∧
        p.transport = h.transport ∧ p.srcAddr = h.srcAddr ∧ p.srcPort = h.srcPort ∧ p.level = level ∧
        p.hostNonce = Sys2Proof.Machine.slice 4 16 body ∧ p.deviceNonce.length = 16 ∧ p.openedAt = s.time.ticks ∧
        t.dtp.sessions = s.begin.purge.dtp.sessions ∧
        t.answered (Sys2Proof.Machine.answerOf h (0x80 + Sys2Proof.Machine.opChallenge) 0 0
          (Sys2Proof.Machine.replyBody Sys2Proof.Machine.opChallenge 0 (Sys2Proof.Machine.leBytes 2 p.id ++ p.deviceNonce)) none) ∧
        (State.withAnswer { s.begin with fresh := s.fresh + 2 } t).Logged t []) ∧
    (∀ (p : Sys2Proof.Machine.PendingSession) (key : Sys2Proof.Bytes),
      Sys2Proof.Machine.formOk h Sys2Proof.Machine.opResponse body = true → h.sessionId ≠ 0#16 →
      s.begin.purge.sessionOf h = none → s.begin.purge.pendingOf h = some p →
      key = Sys2Proof.Machine.sessionKey (s.keyOf p.level) p.hostNonce p.deviceNonce p.id →
      Sys2Proof.Machine.tagOk h Sys2Proof.Machine.opResponse body key = true → h.counter ≠ 0#32 →
      (body = Sys2Proof.Machine.authProof (s.keyOf p.level) p.deviceNonce p.hostNonce p.id s.dev.identity p.level →
        ∃ t x, Sys2Proof.Machine.exec (.authResponse h body) s = .next t ∧ t.dtp.sessions = s.begin.purge.dtp.sessions ++ [x] ∧
          x.transport = p.transport ∧ x.id = p.id ∧ x.level = p.level ∧ x.key = key ∧ x.lastIn = h.counter.toNat ∧ x.lastOut = 1 ∧
          x.seenAt = s.time.ticks ∧ (∀ y ∈ t.dtp.pending, ¬ (y.transport = p.transport ∧ y.id = p.id)) ∧
          t.dtp.fails = Sys2Proof.Machine.setAt s.dtp.fails p.level 0 ∧
          t.answered (Sys2Proof.Machine.answerOf h (0x80 + Sys2Proof.Machine.opResponse) p.id 1
            (Sys2Proof.Machine.replyBody Sys2Proof.Machine.opResponse 0 [BitVec.ofNat 8 p.level, 0]) (some key)) ∧
          (s.begin.withAnswer t).Logged t []) ∧
      (body ≠ Sys2Proof.Machine.authProof (s.keyOf p.level) p.deviceNonce p.hostNonce p.id s.dev.identity p.level →
        ∃ t, Sys2Proof.Machine.exec (.authResponse h body) s = .next t ∧ t.dtp.sessions = s.begin.purge.dtp.sessions ∧
          (∀ y ∈ t.dtp.pending, ¬ (y.transport = p.transport ∧ y.id = p.id)) ∧
          (Sys2Proof.Machine.getAt s.dtp.fails p.level 0 < 2 →
            t.dtp.fails = Sys2Proof.Machine.setAt s.dtp.fails p.level (Sys2Proof.Machine.getAt s.dtp.fails p.level 0 + 1) ∧
            t.dtp.lockedUntil = s.begin.purge.dtp.lockedUntil) ∧
          (2 ≤ Sys2Proof.Machine.getAt s.dtp.fails p.level 0 →
            t.dtp.lockedUntil = Sys2Proof.Machine.setAt s.begin.purge.dtp.lockedUntil p.level
              (some (s.time.ticks + 10 * Sys2Proof.Machine.tickHz)) ∧
            s.tells t 0x0E01 0 2 p.level) ∧
          t.answered (Sys2Proof.Machine.answerOf h (0x80 + Sys2Proof.Machine.opResponse) 0 0
            (Sys2Proof.Machine.replyBody Sys2Proof.Machine.opResponse Sys2Proof.Machine.Abort.authFailed []) none) ∧
          (s.begin.withAnswer t).Logged t [])) ∧
    (∀ x : Sys2Proof.Machine.Session, s.admits h Sys2Proof.Machine.opClose body x →
      ∃ t, Sys2Proof.Machine.exec (.close h body) s = .next t ∧ (∀ y ∈ t.dtp.sessions, ¬ (y.transport = h.transport ∧ y.id = h.sessionId.toNat)) ∧
        (∀ y ∈ t.dtp.transfers, y.owner ≠ .session h.transport (BitVec.ofNat 16 h.sessionId.toNat)) ∧
        t.answered (s.answerFor h Sys2Proof.Machine.opClose 0 [0, 0]) ∧ (s.begin.withAnswer t).Logged t [])

/-- Requests turned away (R49, R52, R54, R454). -/
def Obligations.RequestsRefused : Prop :=
  ∀ (s : Sys2Proof.Machine.State) (h : Sys2Proof.ReqHdr) (body : Sys2Proof.Bytes), s.ready → s.dev.state.answersDtp = true →
    (∀ e ∈ [(Sys2Proof.Machine.opRead, Sys2Proof.Instr.read h body), (Sys2Proof.Machine.opWrite, .write h body),
        (Sys2Proof.Machine.opStage, .stage h body), (Sys2Proof.Machine.opBlockRead, .blockReadInit h body),
        (Sys2Proof.Machine.opBlockWrite, .blockWriteInit h body), (Sys2Proof.Machine.opBlockNext, .blockNext h body),
        (Sys2Proof.Machine.opChallenge, .authChallenge h body), (Sys2Proof.Machine.opClose, .close h body)],
      (Sys2Proof.Machine.formOk h e.1 body = false →
        ∃ t, Sys2Proof.Machine.exec e.2 s = .next t ∧
          t.answered (Sys2Proof.Machine.answerOf h (0x80 + e.1) 0 0
            (Sys2Proof.Machine.replyBody e.1 Sys2Proof.Machine.Abort.malformed []) none) ∧
          t.dtp.sessions = s.dtp.sessions ∧ t.dtp.pending = s.dtp.pending ∧ (s.begin.withAnswer t).Logged t []) ∧
      (Sys2Proof.Machine.formOk h e.1 body = true → h.sessionId ≠ 0#16 → s.begin.purge.sessionOf h = none →
        s.begin.purge.pendingOf h = none →
        ∃ t, Sys2Proof.Machine.exec e.2 s = .next t ∧
          t.answered (Sys2Proof.Machine.answerOf h (0x80 + e.1) 0 0
            (Sys2Proof.Machine.replyBody e.1 Sys2Proof.Machine.Abort.sessionUnknown []) none) ∧
          t.dtp.sessions = s.begin.purge.dtp.sessions ∧ t.dtp.pending = s.begin.purge.dtp.pending ∧ (s.begin.withAnswer t).Logged t []) ∧
      (∀ x, Sys2Proof.Machine.formOk h e.1 body = true → h.sessionId ≠ 0#16 → s.begin.purge.sessionOf h = some x →
        (Sys2Proof.Machine.tagOk h e.1 body x.key = false →
          ∃ t, Sys2Proof.Machine.exec e.2 s = .next t ∧
            t.answered (Sys2Proof.Machine.answerOf h (0x80 + e.1) 0 0
              (Sys2Proof.Machine.replyBody e.1 Sys2Proof.Machine.Abort.badTag []) none) ∧
            t.dtp.sessions = s.begin.purge.dtp.sessions ∧ t.dtp.pending = s.begin.purge.dtp.pending ∧ (s.begin.withAnswer t).Logged t []) ∧
        (Sys2Proof.Machine.tagOk h e.1 body x.key = true → h.counter.toNat = x.lastIn → h.transaction.toNat = x.lastTransaction →
          s.time.ticks ≤ x.seenAt + Sys2Proof.Machine.tickHz →
          ∃ t, Sys2Proof.Machine.exec e.2 s = .next t ∧ t.answered x.response ∧
            t.dtp.sessions = s.begin.purge.dtp.sessions ∧ t.dtp.pending = s.begin.purge.dtp.pending ∧ (s.begin.withAnswer t).Logged t []) ∧
        (Sys2Proof.Machine.tagOk h e.1 body x.key = true → h.counter.toNat ≤ x.lastIn →
          ¬ (h.counter.toNat = x.lastIn ∧ h.transaction.toNat = x.lastTransaction ∧
            s.time.ticks ≤ x.seenAt + Sys2Proof.Machine.tickHz) →
          ∃ t, Sys2Proof.Machine.exec e.2 s = .next t ∧
            t.answered (Sys2Proof.Machine.answerOf h (0x80 + e.1) 0 0
              (Sys2Proof.Machine.replyBody e.1 Sys2Proof.Machine.Abort.badCounter []) none) ∧
            t.dtp.sessions = s.begin.purge.dtp.sessions ∧ t.dtp.pending = s.begin.purge.dtp.pending ∧
            (s.begin.withAnswer t).Logged t []))) ∧
    (∀ op : Sys2Proof.Byte, Sys2Proof.Machine.opcodes.contains op.toNat = false →
      ∃ t, Sys2Proof.Machine.exec (.unknownOpcode h op body) s = .next t ∧
        t.answered (Sys2Proof.Machine.answerOf h 0xFF 0 0 (Sys2Proof.Machine.leBytes 2 Sys2Proof.Machine.Abort.malformed) none) ∧
        t.dtp.sessions = s.dtp.sessions ∧ (s.begin.withAnswer t).Logged t []) ∧
    (∀ (port : Fin 2) (bytes : Sys2Proof.Bytes), ∃ t, Sys2Proof.Machine.exec (.dtpShortDatagram port bytes) s = .next t ∧ s.begin.Logged t [])

/-- Sessions, pending sessions and lockouts that end by time (R55 to R57). -/
def Obligations.SessionsEnd : Prop :=
  ∀ s : Sys2Proof.Machine.State, s.ready →
    (∀ (tr : Sys2Proof.Transport) (sid : BitVec 16) (x : Sys2Proof.Machine.Session),
      s.dtp.sessions.find? (fun y => y.transport == tr && y.id == sid.toNat) = some x →
      ∃ t, Sys2Proof.Machine.exec (.sessionIdleTimeout tr sid) s = .next t ∧
        t.dtp.sessions = s.dtp.sessions.filter (fun y => !(y.transport == tr && y.id == sid.toNat)) ∧
        t.dtp.transfers = s.dtp.transfers.filter (fun y => y.owner != .session tr (BitVec.ofNat 16 sid.toNat)) ∧
        t.time.ticks ≤ max s.time.ticks (x.seenAt + s.idleTicks) ∧ (State.withAnswer { s.begin with time := t.time } t).Logged t []) ∧
    (∀ (tr : Sys2Proof.Transport) (sid : BitVec 16) (p : Sys2Proof.Machine.PendingSession),
      s.dtp.pending.find? (fun y => y.transport == tr && y.id == sid.toNat) = some p →
      ∃ t, Sys2Proof.Machine.exec (.authResponseTimeout tr sid) s = .next t ∧
        t.dtp.pending = s.dtp.pending.filter (fun y => !(y.transport == tr && y.id == sid.toNat)) ∧
        t.dtp.sessions = s.dtp.sessions ∧
        t.time.ticks ≤ max s.time.ticks (p.openedAt + Sys2Proof.Machine.tickHz) ∧
        (State.withAnswer { s.begin with time := t.time } t).Logged t []) ∧
    (∀ (level : Fin 4) (at' : Nat), Sys2Proof.Machine.getAt s.dtp.lockedUntil level.val none = some at' →
      ∃ t, Sys2Proof.Machine.exec (.lockoutExpiry level) s = .next t ∧
        t.dtp.lockedUntil = Sys2Proof.Machine.setAt s.dtp.lockedUntil level.val none ∧ t.dtp.sessions = s.dtp.sessions ∧
        t.dtp.fails = s.dtp.fails ∧ t.time.ticks ≤ max s.time.ticks at' ∧
        (State.withAnswer { s.begin with time := t.time } t).Logged t [])

/-- The receipt of a Knock (R65, R66, R68). -/
def Obligations.KnockReceived : Prop :=
  ∀ (s : Sys2Proof.Machine.State) (m : Sys2Proof.KnockMsg), s.ready → s.dev.state.answersDtp = true →
    (Sys2Proof.Machine.knockForm m = false → ∃ t, Sys2Proof.Machine.exec (.knock m) s = .next t ∧
      t.u Sys2Proof.Machine.Obj.knockMalformedCount = (s.u Sys2Proof.Machine.Obj.knockMalformedCount + 1) % 2 ^ 32 ∧
      s.begin.Logged t [Sys2Proof.Machine.Obj.knockMalformedCount]) ∧
    (Sys2Proof.Machine.knockForm m = true →
      s.u Sys2Proof.Machine.Obj.knockGroup = 0 ∨ (s.knockOf m).group ≠ s.u Sys2Proof.Machine.Obj.knockGroup →
      ∃ t, Sys2Proof.Machine.exec (.knock m) s = .next t ∧ s.begin.Logged t []) ∧
    (Sys2Proof.Machine.knockForm m = true → s.u Sys2Proof.Machine.Obj.knockGroup ≠ 0 →
      (s.knockOf m).group = s.u Sys2Proof.Machine.Obj.knockGroup →
      (s.begin.knockCode m = Sys2Proof.Machine.Abort.ok →
        ∃ t, Sys2Proof.Machine.exec (.knock m) s = .next t ∧ t.grp.pendingKnock = some (s.knockOf m) ∧
          t.knockSeen (s.knockOf m).group = some (s.knockOf m).sequence ∧ t.grp.shadow = s.grp.shadow ∧ t.grp.changed = s.grp.changed ∧
          State.Logged { s.begin with grp := t.grp } t []) ∧
      (s.begin.knockCode m ≠ Sys2Proof.Machine.Abort.ok →
        ∃ t, Sys2Proof.Machine.exec (.knock m) s = .next t ∧ t.grp = s.grp ∧
          t.get Sys2Proof.Machine.Obj.lastKnockReport = s.knockBody (s.knockOf m) (s.begin.knockCode m) 0 0 ∧
          s.tells t 0x0103 0 2 (s.begin.knockCode m) ∧
          (s.begin.withAnswer t).Logged t [Sys2Proof.Machine.Obj.lastKnockReport]))

/-- A pending Knock and a waiting commit take effect (R64, R66, R68). -/
def Obligations.ShadowTakesEffect : Prop :=
  ∀ s : Sys2Proof.Machine.State, s.ready →
    (∀ (k : Sys2Proof.Machine.PendingKnock) (u : Sys2Proof.Machine.State), s.grp.pendingKnock = some k → s.dev.state.hasColumns = false →
      u = { s.begin.runTo (s.begin.tickOfNs k.activation) with grp := { s.grp with pendingKnock := none } } →
      (u.combinedCode u.stagedSet = Sys2Proof.Machine.Abort.ok → (∀ e ∈ u.stagedSet, Sys2Proof.Machine.quietObj e.1 = true) →
        s.streamsAsSet → s.pair.role = 0 →
        ∃ t, Sys2Proof.Machine.exec .knockApply s = .next t ∧ t.grp.pendingKnock = none ∧
          (∀ e ∈ u.stagedSet, e.1 ∉ Sys2Proof.Machine.logObjects → e.1 ≠ Sys2Proof.Machine.Obj.lastKnockReport →
            t.get e.1 = Sys2Proof.Machine.Store.get s.variant s.grp.shadow e.1 ∧ e.1 ∉ t.grp.changed) ∧
          (∀ id, (∀ e ∈ u.stagedSet, e.1 ≠ id) → id ∉ Sys2Proof.Machine.logObjects → id ≠ Sys2Proof.Machine.Obj.lastKnockReport →
            t.get id = s.get id) ∧
          t.get Sys2Proof.Machine.Obj.lastKnockReport = s.knockBody k 0 u.stagedSet.length (u.nsAt u.nowStamp) ∧
          (State.withAnswer { u with live := t.live, mram := t.mram, grp := t.grp } t).Logged t []) ∧
      (u.combinedCode u.stagedSet ≠ Sys2Proof.Machine.Abort.ok →
        ∃ t, Sys2Proof.Machine.exec .knockApply s = .next t ∧ t.grp = { s.grp with pendingKnock := none } ∧
          t.get Sys2Proof.Machine.Obj.lastKnockReport = s.knockBody k (u.combinedCode u.stagedSet) 0 0 ∧
          u.tells t 0x0103 0 2 (u.combinedCode u.stagedSet) ∧
          (u.withAnswer t).Logged t [Sys2Proof.Machine.Obj.lastKnockReport])) ∧
    (∀ (x : Sys2Proof.Machine.DevState) (b : Sys2Proof.Machine.Bdy) (frame : Sys2Proof.Bytes) (u : Sys2Proof.Machine.State),
      s.grp.commitWaiting = some x → s.begin.boundaryNext = some (b, frame) →
      u = { s.begin.runToStamp b.t with grp := { s.grp with commitWaiting := none } } →
      (u.combinedCode u.stagedSet = Sys2Proof.Machine.Abort.ok → (∀ e ∈ u.stagedSet, Sys2Proof.Machine.quietObj e.1 = true) →
        s.streamsAsSet → s.pair.role = 0 →
        ∃ t, Sys2Proof.Machine.exec .shadowActivation s = .next t ∧ t.grp.commitWaiting = none ∧
          (∀ e ∈ u.stagedSet, e.1 ∉ Sys2Proof.Machine.logObjects →
            t.get e.1 = Sys2Proof.Machine.Store.get s.variant s.grp.shadow e.1 ∧ e.1 ∉ t.grp.changed) ∧
          (∀ id, (∀ e ∈ u.stagedSet, e.1 ≠ id) → id ∉ Sys2Proof.Machine.logObjects → t.get id = s.get id) ∧
          State.Logged { u with live := t.live, mram := t.mram, grp := t.grp } t []) ∧
      (u.combinedCode u.stagedSet ≠ Sys2Proof.Machine.Abort.ok →
        ∃ t, Sys2Proof.Machine.exec .shadowActivation s = .next t ∧ t.grp = { s.grp with commitWaiting := none } ∧ u.Logged t []))

/-- The SPI status port (R69 to R71). -/
def Obligations.SpiPort : Prop :=
  ∀ s : Sys2Proof.Machine.State, s.ready →
    (∀ a : BitVec 16, Sys2Proof.Machine.pairHigh a.toNat = none →
      ∃ t, Sys2Proof.Machine.exec (.spiRead a 1) s = .next t ∧
        t.spi.answer = (2 * Sys2Proof.Machine.b2n s.spi.addrErr + 4 * Sys2Proof.Machine.b2n s.spi.writeRefused,
          [(s.begin.spiWord a.toNat).getD 0]) ∧
        t.spi.addrErr = (s.begin.spiWord a.toNat).isNone ∧ t.spi.writeRefused = false ∧
        (∀ k, Sys2Proof.Machine.pairLow a.toNat = some k → t.spi.lastLow = some k ∧
          t.spi.snapshots = Sys2Proof.Machine.setAt s.spi.snapshots k (s.begin.spiPair k)) ∧
        State.Logged { s.begin with spi := t.spi } t []) ∧
    (∀ (a : BitVec 16) (k : Nat), Sys2Proof.Machine.pairHigh a.toNat = some k →
      ∃ t, Sys2Proof.Machine.exec (.spiRead a 1) s = .next t ∧
        (s.spi.lastLow = some k → t.spi.answer = (2 * Sys2Proof.Machine.b2n s.spi.addrErr + 4 * Sys2Proof.Machine.b2n s.spi.writeRefused,
          [Sys2Proof.Machine.getAt s.spi.snapshots k 0 / 2 ^ 32])) ∧
        (s.spi.lastLow ≠ some k → t.spi.answer =
          (1 + 2 * Sys2Proof.Machine.b2n s.spi.addrErr + 4 * Sys2Proof.Machine.b2n s.spi.writeRefused, [s.begin.spiPair k / 2 ^ 32])) ∧
        State.Logged { s.begin with spi := t.spi } t []) ∧
    (∀ (a : BitVec 16) (ws : List (BitVec 32)), ws ≠ [] →
      (∀ e ∈ (Sys2Proof.Machine.burst a.toNat ws.length).zip (ws.map (fun (w : BitVec 32) => w.toNat)), ¬ (e.1 = 0x10 ∧ e.2 = 0x5AFE)) →
      ∃ t, Sys2Proof.Machine.exec (.spiWrite a ws) s = .next t ∧ t.spi.writeRefused = true ∧ t.spi.lastLow = none ∧
        State.Logged { s.begin with spi := t.spi } t []) ∧
    (∀ (op : Sys2Proof.Byte) (n : Nat), op ≠ 2#8 → op ≠ 3#8 →
      ∃ t, Sys2Proof.Machine.exec (.spiBadOpcode op n) s = .next t ∧ t.spi.answer.2 = List.replicate n 0 ∧ t.spi.addrErr = true ∧
        State.Logged { s.begin with spi := t.spi } t []) ∧
    (∃ t, Sys2Proof.Machine.exec .aliveTick s = .next t ∧ t.spi.alive = (s.spi.alive + 1) % 256 ∧ t.spi.aliveAt = t.time.ticks ∧
      t.time.ticks ≤ max s.time.ticks (s.spi.aliveAt + Sys2Proof.Machine.msTicks 1) ∧
      State.Logged { s.begin with spi := t.spi, time := t.time } t [])

/-- The commands of Table DICT-9 that change the state at once (R60 to R63). -/
def Obligations.CommandsChangeState : Prop :=
  ∀ (s : Sys2Proof.Machine.State) (h : Sys2Proof.ReqHdr) (c : Sys2Proof.Machine.Caller), s.ready → s.dev.recovery = false →
    (∀ e ∈ [(Sys2Proof.Machine.Cmd.disarm, Sys2Proof.Instr.disarm h, Sys2Proof.Machine.DevState.idle),
        (.calibrate, .calibrate h, .calibrate), (.endCalibrate, .endCalibrate h, .idle), (.enterUpdate, .enterUpdate h, .update),
        (.cancelUpdate, .cancelUpdate h, .idle), (.forceSafe, .forceSafe h, .safe)],
      s.hears h Sys2Proof.Machine.opWrite (Sys2Proof.Machine.commandBody e.1) c → e.1.level ≤ c.level →
      (s.scan.pendingCmd = none ∨ e.1 = .forceSafe) → e.1.legalIn s.dev.state = true → s.dev.state ≠ e.2.2 →
      ∃ t, Sys2Proof.Machine.exec e.2.1 s = .next t ∧ t.dev.state = e.2.2 ∧ Sys2Proof.Machine.bitOf t.fire.inhibit 0 = true ∧
        t.variant = s.variant ∧ t.answered (s.answerFor h Sys2Proof.Machine.opWrite 0 [0, 0])) ∧
    (s.hears h Sys2Proof.Machine.opWrite (Sys2Proof.Machine.commandBody .follow) c → 1 ≤ c.level → s.scan.pendingCmd = none →
      s.dev.state = .idle → s.u Sys2Proof.Machine.Obj.pairRole ≠ 0 →
      ∃ t, Sys2Proof.Machine.exec (.follow h) s = .next t ∧ t.dev.state = .standby ∧
        Sys2Proof.Machine.bitOf t.fire.inhibit 0 = true ∧ t.answered (s.answerFor h Sys2Proof.Machine.opWrite 0 [0, 0])) ∧
    (s.hears h Sys2Proof.Machine.opWrite (Sys2Proof.Machine.commandBody .start) c → 1 ≤ c.level → s.scan.pendingCmd = none →
      s.dev.state = .armed → s.armReady = true →
      ∃ t, Sys2Proof.Machine.exec (.start h) s = .next t ∧ t.dev.state = .scan ∧
        Sys2Proof.Machine.bitOf t.fire.inhibit 0 = false ∧ t.answered (s.answerFor h Sys2Proof.Machine.opWrite 0 [0, 0])) ∧
    (s.hears h Sys2Proof.Machine.opWrite (Sys2Proof.Machine.commandBody .arm) c → 1 ≤ c.level → s.scan.pendingCmd = none →
      s.dev.state = .idle → s.u Sys2Proof.Machine.Obj.activeBank ≠ 0 → s.armMayOwn = true → s.boardForbids = false →
      ∃ t, Sys2Proof.Machine.exec (.arm h) s = .next t ∧ t.dev.state = .armed ∧
        Sys2Proof.Machine.bitOf t.fire.inhibit 0 = true ∧ t.answered (s.answerFor h Sys2Proof.Machine.opWrite 0 [0, 0])) ∧
    (s.hears h Sys2Proof.Machine.opWrite (Sys2Proof.Machine.commandBody .clearSafe) c → 1 ≤ c.level → s.scan.pendingCmd = none →
      s.dev.state = .safe → s.fire.safeOffN = true → (∀ x ∈ s.ev.fatal, x ≠ 0x0303 ∧ x ≠ 0x0304 ∧ x ≠ 0x0604) →
      ∃ t, Sys2Proof.Machine.exec (.clearSafe h) s = .next t ∧ t.dev.state = .idle ∧
        Sys2Proof.Machine.bitOf t.fire.inhibit 0 = true ∧ t.answered (s.answerFor h Sys2Proof.Machine.opWrite 0 [0, 0]))

/-- Commands that wait, are refused, or act on the shadow set (R60 to R64). -/
def Obligations.CommandsWaitOrRefuse : Prop :=
  ∀ (s : Sys2Proof.Machine.State) (h : Sys2Proof.ReqHdr) (c : Sys2Proof.Machine.Caller), s.ready → s.dev.recovery = false →
    (∀ e ∈ [(Sys2Proof.Machine.Cmd.pause, Sys2Proof.Instr.pause h), (.resume, .resume h), (.stop, .stop h)],
      s.hears h Sys2Proof.Machine.opWrite (Sys2Proof.Machine.commandBody e.1) c → 1 ≤ c.level → s.scan.pendingCmd = none →
      e.1.legalIn s.dev.state = true →
      ∃ t, Sys2Proof.Machine.exec e.2 s = .next t ∧ t.scan.pendingCmd = some e.1 ∧
        t.answered (s.answerFor h Sys2Proof.Machine.opWrite 0 [0, 0]) ∧
        (State.withAnswer { s.begin with scan := { s.scan with pendingCmd := some e.1 } } t).Logged t []) ∧
    (∀ e ∈ [(Sys2Proof.Machine.Cmd.arm, Sys2Proof.Instr.arm h), (.start, .start h), (.pause, .pause h), (.resume, .resume h),
        (.stop, .stop h), (.disarm, .disarm h), (.calibrate, .calibrate h), (.endCalibrate, .endCalibrate h), (.follow, .follow h),
        (.enterUpdate, .enterUpdate h), (.commitImage, .commitImage h), (.cancelUpdate, .cancelUpdate h), (.clearSafe, .clearSafe h),
        (.commitShadow, .commitShadow h), (.discardShadow, .discardShadow h), (.restoreDefaults, .restoreDefaults h)],
      s.hears h Sys2Proof.Machine.opWrite (Sys2Proof.Machine.commandBody e.1) c → e.1.level ≤ c.level →
      (s.scan.pendingCmd.isSome = true →
        ∃ t, Sys2Proof.Machine.exec e.2 s = .next t ∧ t.answered (s.answerFor h Sys2Proof.Machine.opWrite 0x0404 []) ∧
          (s.begin.withAnswer t).Logged t []) ∧
      (s.scan.pendingCmd = none → e.1.legalIn s.dev.state = false →
        ∃ t, Sys2Proof.Machine.exec e.2 s = .next t ∧ t.answered (s.answerFor h Sys2Proof.Machine.opWrite 0x0402 []) ∧
          s.tells t 0x0101 e.1.code 1 e.1.code ∧ (s.begin.withAnswer t).Logged t [])) ∧
    (s.hears h Sys2Proof.Machine.opWrite (Sys2Proof.Machine.commandBody .discardShadow) c → 1 ≤ c.level → s.scan.pendingCmd = none →
      s.dev.state.stages = true → s.frozen = false →
      ∃ t, Sys2Proof.Machine.exec (.discardShadow h) s = .next t ∧ t.grp = { s.grp with shadow := [], changed := [] } ∧
        t.answered (s.answerFor h Sys2Proof.Machine.opWrite 0 [0, 0]) ∧ (State.withAnswer { s.begin with grp := t.grp } t).Logged t []) ∧
    (s.hears h Sys2Proof.Machine.opWrite (Sys2Proof.Machine.commandBody .commitShadow) c → 1 ≤ c.level → s.scan.pendingCmd = none →
      s.dev.state.stages = true → s.frozen = false →
      s.begin.purge.combinedCode s.begin.purge.stagedSet = Sys2Proof.Machine.Abort.ok →
      (s.dev.state.hasColumns = true →
        ∃ t, Sys2Proof.Machine.exec (.commitShadow h) s = .next t ∧ t.grp = { s.grp with commitWaiting := some s.dev.state } ∧
          t.answered (s.answerFor h Sys2Proof.Machine.opWrite 0 [0, 0]) ∧
          (State.withAnswer { s.begin with grp := t.grp } t).Logged t []) ∧
      (s.dev.state.hasColumns = false → s.pair.role = 0 → s.streamsAsSet →
        (∀ e ∈ s.begin.purge.stagedSet, Sys2Proof.Machine.quietObj e.1 = true) →
        ∃ t, Sys2Proof.Machine.exec (.commitShadow h) s = .next t ∧
          (∀ e ∈ s.begin.purge.stagedSet, e.1 ∉ Sys2Proof.Machine.logObjects →
            t.get e.1 = Sys2Proof.Machine.Store.get s.variant s.grp.shadow e.1 ∧ e.1 ∉ t.grp.changed) ∧
          (∀ id, (∀ e ∈ s.begin.purge.stagedSet, e.1 ≠ id) → id ∉ Sys2Proof.Machine.logObjects → t.get id = s.get id) ∧
          t.answered (s.answerFor h Sys2Proof.Machine.opWrite 0 [0, 0]) ∧
          (State.withAnswer { s.begin with live := t.live, mram := t.mram, grp := t.grp } t).Logged t []))

/-- RESET, COMMIT_IMAGE and RESTORE_DEFAULTS (R61, R416, R426). -/
def Obligations.ResetUpdateRestore : Prop :=
  ∀ (s : Sys2Proof.Machine.State) (h : Sys2Proof.ReqHdr) (c : Sys2Proof.Machine.Caller), s.ready → s.dev.recovery = false →
    (s.hears h Sys2Proof.Machine.opWrite (Sys2Proof.Machine.commandBody .reset) c → 1 ≤ c.level →
      ∃ t u, Sys2Proof.Machine.exec (.resetCmd h) s = .next t ∧ s.ResetInto u 2 ∧ (u.withAnswer t).Logged t [] ∧
        t.answered (s.answerFor h Sys2Proof.Machine.opWrite 0 [0, 0])) ∧
    (∀ img : Sys2Proof.Bytes, s.hears h Sys2Proof.Machine.opWrite (Sys2Proof.Machine.commandBody .commitImage) c → 2 ≤ c.level →
      s.scan.pendingCmd = none → s.dev.state = .update → (s.slot s.updateSlot).image = .written img → s.imageGood img = true →
      s.mramRefusal = Sys2Proof.Machine.Abort.ok →
      ∃ t u, Sys2Proof.Machine.exec (.commitImage h) s = .next t ∧
        (s.setSlot s.updateSlot { s.slot s.updateSlot with
          state := 1, trials := 0, generation := max s.dev.slotA.generation s.dev.slotB.generation + 1 }).ResetInto u 3 ∧ (u.withAnswer t).Logged t [] ∧
        t.answered (s.answerFor h Sys2Proof.Machine.opWrite 0 [0, 0])) ∧
    (s.hears h Sys2Proof.Machine.opWrite (Sys2Proof.Machine.commandBody .restoreDefaults) c → 2 ≤ c.level → s.scan.pendingCmd = none →
      s.dev.state = .idle → s.dev.safeBoot = false → s.mramRefusal = Sys2Proof.Machine.Abort.ok → s.pair.role = 0 → s.streamsAsSet →
      (∀ e ∈ s.live, Sys2Proof.Machine.isRestored e.1 = true → Sys2Proof.Machine.quietObj e.1 = true) →
      ∃ t, Sys2Proof.Machine.exec (.restoreDefaults h) s = .next t ∧
        (∀ id, Sys2Proof.Machine.isRestored id = true → t.get id = Sys2Proof.Machine.defaultOf s.variant id ∧
          Sys2Proof.Machine.Store.get t.variant t.mram id = Sys2Proof.Machine.defaultOf s.variant id) ∧
        (∀ id, Sys2Proof.Machine.isRestored id = false → id ∉ Sys2Proof.Machine.logObjects → t.get id = s.get id ∧
          Sys2Proof.Machine.Store.get t.variant t.mram id = Sys2Proof.Machine.Store.get s.variant s.mram id) ∧
        t.answered (s.answerFor h Sys2Proof.Machine.opWrite 0 [0, 0]) ∧
        (State.withAnswer { s.begin with live := t.live, mram := t.mram } t).Logged t [])

/-- The Fatal causes on pins, comparators and loops, and the safety word of the SPI port, end in SAFE with firing inhibited (R63). -/
def Obligations.FatalCausesEndInSafe : Prop :=
  ∀ s : Sys2Proof.Machine.State, s.ready →
    (s.dev.state.safeNow = true →
      (s.fire.safeOffN = true → ∃ t, Sys2Proof.Machine.exec .safeOffNAssert s = .next t ∧ t.isSafe) ∧
      (1024 ≤ s.charge.csRun → ∃ t, Sys2Proof.Machine.exec .overcurrentFault s = .next t ∧ t.isSafe) ∧
      (∀ n : Fin 8, n.val < 2 → s.wcOn n.val = true → ∃ t, Sys2Proof.Machine.exec (.wcTripHigh n) s = .next t ∧ t.isSafe) ∧
      (s.pair.role ≠ 0 → s.pair.asserts = true → ∃ t, Sys2Proof.Machine.exec .livenessRelease s = .next t ∧ t.isSafe) ∧
      ((s.loop 0).mode = .track → s.scan.stall = false → (s.loop 0).badSince.isSome = true →
        ∃ t, Sys2Proof.Machine.exec .stallLatch s = .next t ∧ t.isSafe) ∧
      (∀ n : Fin 4, (s.loop n.val).mode ≠ .off → s.u Sys2Proof.Machine.Obj.missLimit ≤ min ((s.loop n.val).missRun + 1) 255 →
        0x0401 ∉ s.ev.fatal → ∃ t, Sys2Proof.Machine.exec (.deadlineMiss n) s = .next t ∧ t.isSafe) ∧
      (s.dev.recovery = false → ∃ t, Sys2Proof.Machine.exec .safeRequest s = .next t ∧ t.isSafe)) ∧
    (s.dev.state = .boot → ∃ t, Sys2Proof.Machine.exec .safeRequest s = .next t ∧ t.spi.safeLatched = true ∧ s.tells t 0x0E02 1 3 0 ∧
      State.Logged { s.begin with spi := t.spi } t [])

/-- SAFE_OFF_N, SCAN_VALID and PFAIL_N on the firing inhibits (R157, R158, Table EMIT-6). -/
def Obligations.InhibitPins : Prop :=
  ∀ s : Sys2Proof.Machine.State, s.ready →
    (∃ t, Sys2Proof.Machine.exec .safeOffNRelease s = .next t ∧
      State.Logged { s.begin with
        fire := { s.fire with safeOffN := true, inhibit := Sys2Proof.Machine.setBit s.fire.inhibit 2 false },
        ev := { s.ev with fatal := s.ev.fatal.filter (fun x => x != 0x0303) } } t []) ∧
    (s.fire.scanValid = true → ∃ t, Sys2Proof.Machine.exec .scanValidFall s = .next t ∧ t.fire.scanValid = false ∧
      (∀ e ∈ t.fire.banks, e.2.pulseEnd ≤ s.nowStamp) ∧
      (s.dev.state = .scan → t.shows Sys2Proof.Machine.Obj.scanValidDropCount (s.u Sys2Proof.Machine.Obj.scanValidDropCount + 1)) ∧
      (s.dev.state = .scan ∨ s.dev.state = .hold → t.fire.inhibit = Sys2Proof.Machine.setBit s.fire.inhibit 1 true ∧
        s.tells t 0x0302 0 3 t.fire.inhibit) ∧
      (¬ (s.dev.state = .scan ∨ s.dev.state = .hold) → t.fire.inhibit = s.fire.inhibit) ∧
      State.Logged { s.begin with fire := t.fire, array := t.array } t [Sys2Proof.Machine.Obj.scanValidDropCount]) ∧
    (s.fire.scanValid = true → ∃ t, Sys2Proof.Machine.exec .scanvalidClear s = .next t ∧
      t.time.ticks ≤ max s.time.ticks (s.fire.scanValidAt + 2500) ∧
      State.Logged { s.begin with time := t.time, fire := { s.fire with inhibit := Sys2Proof.Machine.setBit s.fire.inhibit 1 false } } t []) ∧
    (s.fire.pfailN = true → ∃ t, Sys2Proof.Machine.exec .pfailClear s = .next t ∧
      t.time.ticks ≤ max s.time.ticks (s.fire.pfailHighAt + 2500) ∧
      State.Logged { s.begin with time := t.time, fire := { s.fire with inhibit := Sys2Proof.Machine.setBit s.fire.inhibit 7 false } } t []) ∧
    (s.fire.pfailN = true → ∃ t, Sys2Proof.Machine.exec .pfailNFall s = .next t ∧ t.fire.pfailN = false ∧
      t.fire.inhibit = Sys2Proof.Machine.setBit s.fire.inhibit 7 true ∧ t.dev.state = s.dev.state ∧ t.pending = s.pending ∧
      s.tells t 0x0306 0 3 0) ∧
    (s.fire.pfailN = false → ∃ t, Sys2Proof.Machine.exec .pfailNRise s = .next t ∧
      t.fire = { s.fire with pfailN := true, pfailHighAt := s.time.ticks } ∧ t.dev = s.dev ∧ t.pending = s.pending)

/-- The charge supply's cycles, its headroom samples and its discharge (R161 to R163). -/
def Obligations.ChargeSupply : Prop :=
  ∀ s : Sys2Proof.Machine.State, s.ready →
    (s.charge.switching = true →
      (∃ t, Sys2Proof.Machine.exec (.csLimitCycle true) s = .next t ∧
        t.shows Sys2Proof.Machine.Obj.csLimitCount (s.u Sys2Proof.Machine.Obj.csLimitCount + 1) ∧
        State.Logged { s.begin with charge := { s.charge with csRun := s.charge.csRun + 1 } } t [Sys2Proof.Machine.Obj.csLimitCount]) ∧
      (∃ t, Sys2Proof.Machine.exec (.csLimitCycle false) s = .next t ∧
        State.Logged { s.begin with charge := { s.charge with csRun := 0 } } t [])) ∧
    (∀ (b : Sys2Proof.RegionNo) (j : Sys2Proof.Machine.Shot), s.dev.state = .scan → s.scan.columnsDone % 16 = b.val →
      (s.bank b.val).sampled = false →
      (s.bank b.val).fired.find? (fun k => decide (k.column = s.scan.columnNo) && !k.muted) = some j →
      ∃ t, Sys2Proof.Machine.exec (.headroomHold b) s = .next t ∧ (t.bank b.val).sampled = true ∧
        t.charge = { s.charge with held := s.charge.held ++ [(b.val, s.u Sys2Proof.Machine.Obj.chargeMeasured)] } ∧
        t.time.ticks ≤ max s.time.ticks ((j.fire + 80 + 32 * j.width - 32 * s.u Sys2Proof.Machine.Obj.headroomLead) / 320) ∧
        (∀ c, c ≠ b.val → t.bank c = s.bank c) ∧
        State.Logged { s.begin with fire := t.fire, time := t.time, charge := t.charge } t []) ∧
    (∀ t0, s.charge.lowAt = some t0 → s.charge.warned = false → s.b Sys2Proof.Machine.Obj.vchgDischarged = false →
      ∃ t, Sys2Proof.Machine.exec .vchgDischargeTimeout s = .next t ∧ t.time.ticks ≤ max s.time.ticks (t0 + 62500000) ∧
        State.tells { s with time := t.time } t 0x0308 0xFFFF 2 (s.u Sys2Proof.Machine.Obj.chargeMeasured) ∧
        State.Logged { s.begin with time := t.time, charge := { s.charge with warned := true } } t [])

/-- A SPAD fire at the Louvre gate and the TDC, the Shutter's edges, and the settle window (R74, R78, R83, R87, R91, R99). -/
def Obligations.GateAndShutter : Prop :=
  ∀ s : Sys2Proof.Machine.State, s.ready →
    (∀ (ch : Sys2Proof.ChanNo) (spad : Fin 9) (x : Sys2Proof.Stamp) (code : Fin 65), s.dev.sensorPowered = true →
      s.variant.hasPath ch.val = true → (s.path ch.val).role ≠ 3 →
      (x < (s.pixel ch.val).activeUntil → ∃ t, Sys2Proof.Machine.exec (.spadFire ch spad x code) s = .next t ∧
        t.time.ticks ≤ max s.time.ticks (x / 320) ∧ State.Logged { s.begin with time := t.time } t []) ∧
      ((s.pixel ch.val).activeUntil ≤ x →
        ((s.pixel ch.val).fires.filter (fun u => decide (x < u + 8 * (s.pixel ch.val).window))).length + 1 < (s.pixel ch.val).depth →
        ∃ t, Sys2Proof.Machine.exec (.spadFire ch spad x code) s = .next t ∧ t.time.ticks ≤ max s.time.ticks (x / 320) ∧
          t.pixel ch.val = { s.pixel ch.val with
            fires := (s.pixel ch.val).fires.filter (fun u => decide (x < u + 8 * (s.pixel ch.val).window)) ++ [x] } ∧
          (∀ c, c ≠ ch.val → t.pixel c = s.pixel c) ∧
          State.Logged { s.begin with time := t.time, array := { s.array with pixels := t.array.pixels } } t []) ∧
      ((s.pixel ch.val).activeUntil ≤ x →
        (s.pixel ch.val).depth ≤ ((s.pixel ch.val).fires.filter (fun u => decide (x < u + 8 * (s.pixel ch.val).window))).length + 1 →
        (s.servingPath ch.val = none ∨ (s.cluster (ch.val / 16)).settling = true →
          ∃ t, Sys2Proof.Machine.exec (.spadFire ch spad x code) s = .next t ∧
            t.pixel ch.val = { s.pixel ch.val with fires := [], activeUntil := x + 80 } ∧
            State.Logged { s.begin with time := t.time, array := { s.array with pixels := t.array.pixels } } t []) ∧
        (∀ p, s.servingPath ch.val = some p → (s.cluster (ch.val / 16)).settling = false → (s.meas p).ignoreBefore ≤ x →
          ((s.meas p).blindFrom ≤ x → x < (s.meas p).blindTo →
            ∃ t, Sys2Proof.Machine.exec (.spadFire ch spad x code) s = .next t ∧
              t.pixel ch.val = { s.pixel ch.val with fires := [], activeUntil := x + 80 } ∧
              t.shows (Sys2Proof.Machine.Obj.chBlindEdgeCount ch.val) (s.u (Sys2Proof.Machine.Obj.chBlindEdgeCount ch.val) + 1) ∧
              State.Logged { s.begin with time := t.time, array := { s.array with pixels := t.array.pixels } } t
                [Sys2Proof.Machine.Obj.chBlindEdgeCount ch.val]) ∧
          (¬ ((s.meas p).blindFrom ≤ x ∧ x < (s.meas p).blindTo) →
            (s.bank (ch.val / 64)).fired.any (fun j => (s.meas p).enabled j x) = true →
            ∃ t, Sys2Proof.Machine.exec (.spadFire ch spad x code) s = .next t ∧
              t.pixel ch.val = { s.pixel ch.val with fires := [], activeUntil := x + 80, edges := (s.pixel ch.val).edges + 1 } ∧
              (t.meas p).convs = (s.meas p).convs ++ [Sys2Proof.Machine.Conv.mk ((s.path p).taps.stamp p (x / 64 + 1) code.val)
                (Sys2Proof.Machine.blindEnd ((s.path p).taps.stamp p (x / 64 + 1) code.val) (s.meas p).holdOff)
                ((s.bank (ch.val / 64)).fired.any (fun j => (s.meas p).within j ((s.path p).taps.stamp p (x / 64 + 1) code.val)))] ∧
              (t.meas p).blindFrom = (s.path p).taps.stamp p (x / 64 + 1) code.val ∧
              t.pending = s.pending ∧ t.dev = s.dev ∧ t.fire = s.fire)))) ∧
    (∀ (p : Sys2Proof.PathNo) (slot : Fin 256) (j : Sys2Proof.Machine.Shot),
      (s.bank (Sys2Proof.Machine.regionOf p.val)).fired.find? (fun k => k.slot == slot.val && !(s.meas p.val).openSlots.contains k.mark &&
        decide (s.nowStamp ≤ ((s.meas p.val).shutter k).2)) = some j →
      ∃ t, Sys2Proof.Machine.exec (.shutterOpen p slot) s = .next t ∧
        t.time.ticks ≤ max s.time.ticks (((s.meas p.val).shutter j).1 / 320) ∧
        t.meas p.val = { s.meas p.val with openSlots := (s.meas p.val).openSlots ++ [j.mark] } ∧
        State.Logged { s.begin with time := t.time, array := { s.array with meas := t.array.meas } } t []) ∧
    (∀ (p : Sys2Proof.PathNo) (slot : Fin 256) (k : Nat), (s.meas p.val).openSlots.find? (fun k => k % 256 == slot.val) = some k →
      ∃ t, Sys2Proof.Machine.exec (.shutterClose p slot) s = .next t ∧
        t.meas p.val = { s.meas p.val with openSlots := (s.meas p.val).openSlots.filter (fun x => x != k) } ∧
        State.Logged { s.begin with time := t.time, array := { s.array with meas := t.array.meas } } t []) ∧
    (∀ k : Sys2Proof.ClusterNo, (s.cluster k.val).settling = true →
      ∃ t, Sys2Proof.Machine.exec (.handoverSettleEnd k) s = .next t ∧ t.cluster k.val = { s.cluster k.val with settling := false } ∧
        t.time.ticks ≤ max s.time.ticks (((s.cluster k.val).settleFrom + 4800) / 320) ∧
        (∀ c, c ≠ k.val → t.cluster c = s.cluster c) ∧
        State.Logged { s.begin with time := t.time, array := { s.array with clusters := t.array.clusters } } t [])

/-- Channel fault checks and the host's requests of replacement and restoring (R95, R96, R103, R106). -/
def Obligations.ChannelFaults : Prop :=
  ∀ s : Sys2Proof.Machine.State, s.ready →
    (s.dev.booted = true →
      (∀ p : Sys2Proof.PathNo, s.variant.hasPath p.val = true →
        (∃ t, Sys2Proof.Machine.exec (.histEccError p false) s = .next t ∧
          t.shows Sys2Proof.Machine.Obj.histEccCorrected (s.u Sys2Proof.Machine.Obj.histEccCorrected + 1) ∧
          s.begin.Logged t [Sys2Proof.Machine.Obj.histEccCorrected]) ∧
        (p.val < 1024 → (s.path p.val).role = 0 → (s.path p.val).fault = 0 →
          ∀ e ∈ [(Sys2Proof.Instr.histEccError p true, 1), (Sys2Proof.Instr.lineOverrunFault p, 2)],
          (e.2 = 2 → 16 < (s.meas p.val).code64) →
          ((s.path (1024 + p.val / 16)).role = 8 → (s.cluster (p.val / 16)).causes = [] →
            ∃ t, Sys2Proof.Machine.exec e.1 s = .next t ∧
              t.path p.val = { s.path p.val with fault := e.2, faultNative := s.time.native } ∧
              (t.cluster (p.val / 16)).causes = [.takeover p.val s.nowStamp] ∧ s.tells t (0x0200 + e.2) p.val 3 p.val ∧
              State.Logged { s.begin with array := { s.array with paths := t.array.paths, clusters := t.array.clusters } } t []) ∧
          ((s.path (1024 + p.val / 16)).role = 0xA ∨ (s.path (1024 + p.val / 16)).role = 0xB →
            ∃ t, Sys2Proof.Machine.exec e.1 s = .next t ∧
              t.path p.val = { s.path p.val with role := 4, fault := e.2, faultNative := s.time.native } ∧
              s.tells t (0x0200 + e.2) p.val 3 p.val ∧
              State.Logged { s.begin with array := { s.array with paths := t.array.paths } } t []))) ∧
      (∀ ch : Sys2Proof.ChanNo, s.variant.hasPath ch.val = true → s.dev.sensorPowered = true → (s.path ch.val).role ≠ 3 →
        ∃ t, Sys2Proof.Machine.exec (.louvreStuckFault ch) s = .next t ∧
          t.path ch.val = { s.path ch.val with role := 3, fault := 4, faultNative := s.time.native } ∧
          s.tells t 0x0204 ch.val 3 ((s.servingPath ch.val).getD 0xFFFF) ∧
          ((s.path ch.val).role = 1 ∨ (s.path ch.val).role = 2 →
            (t.path (1024 + ch.val / 16)).role = 8 ∧ (t.cluster (ch.val / 16)).served = none) ∧
          State.Logged { s.begin with array := { s.array with paths := t.array.paths, clusters := t.array.clusters } } t [])) ∧
    (∀ (h : Sys2Proof.ReqHdr) (c : Sys2Proof.Machine.Caller) (ch : Sys2Proof.ChanNo),
      (s.takes h (0x3000 + ch.val) 0x17 0x01 [1#8] c → (s.cluster (ch.val / 16)).served = none → (s.path ch.val).role = 0 →
        (s.path (1024 + ch.val / 16)).role = 8 →
        ∃ t, Sys2Proof.Machine.exec (.replaceRequest h ch 1#8) s = .next t ∧
          t.answered (s.answerFor h Sys2Proof.Machine.opWrite Sys2Proof.Machine.Abort.ok [0, 0]) ∧
          (s.dev.state = .idle ∨ s.dev.state = .armed → (t.path ch.val).role = 2 ∧ (t.path (1024 + ch.val / 16)).role = 0xA ∧
            (t.cluster (ch.val / 16)).served = some ch.val ∧ (t.cluster (ch.val / 16)).settling = true) ∧
          (¬ (s.dev.state = .idle ∨ s.dev.state = .armed) → t.replacePending ch.val = true ∧ t.path ch.val = s.path ch.val) ∧
          (State.withAnswer { s.begin with array := t.array } t).Logged t []) ∧
      (s.takes h (0x3000 + ch.val) 0x17 0x01 [0#8] c →
        ∃ t, Sys2Proof.Machine.exec (.replaceRequest h ch 0#8) s = .next t ∧
          t.answered (s.answerFor h Sys2Proof.Machine.opWrite Sys2Proof.Machine.Abort.ok [0, 0]) ∧ t.replacePending ch.val = false ∧
          (State.withAnswer { s.begin with array := { s.array with clusters := t.array.clusters } } t).Logged t []) ∧
      (s.takes h (0x3000 + ch.val) 0x17 0x01 [1#8] c →
        (s.path (1024 + ch.val / 16)).role = 0xA ∨ (s.path (1024 + ch.val / 16)).role = 0xB ∨ (s.path ch.val).role = 2 →
        ∃ t, Sys2Proof.Machine.exec (.replaceRequest h ch 1#8) s = .next t ∧
          t.answered (s.answerFor h Sys2Proof.Machine.opWrite Sys2Proof.Machine.Abort.notAllowedNow [0, 0]) ∧
          (s.begin.withAnswer t).Logged t [])) ∧
    (∀ (h : Sys2Proof.ReqHdr) (c : Sys2Proof.Machine.Caller) (p : Sys2Proof.PathNo),
      s.takes h (0x3000 + p.val) 0x18 0x01 [1#8] c →
        (p.val < 1024 → (s.path p.val).role ∈ [2, 3, 4] → ∃ t, Sys2Proof.Machine.exec (.restoreRequest h p 1#8) s = .next t ∧
          t.answered (s.answerFor h Sys2Proof.Machine.opWrite Sys2Proof.Machine.Abort.ok [0, 0]) ∧
          t.path p.val = { s.path p.val with role := 0, fault := 0, faultNative := 0, fails := 0, suspect := true } ∧
          ((s.path p.val).role = 2 → (t.path (1024 + p.val / 16)).role = 8 ∧ (t.cluster (p.val / 16)).served = none) ∧
          (State.withAnswer { s.begin with array := { s.array with paths := t.array.paths, clusters := t.array.clusters } } t).Logged t []) ∧
        (1024 ≤ p.val → (s.path p.val).role = 0xB → ∃ t, Sys2Proof.Machine.exec (.restoreRequest h p 1#8) s = .next t ∧
          t.answered (s.answerFor h Sys2Proof.Machine.opWrite Sys2Proof.Machine.Abort.ok [0, 0]) ∧
          t.path p.val = { s.path p.val with role := 8, fault := 0, faultNative := 0, suspect := true } ∧
          (State.withAnswer { s.begin with array := { s.array with paths := t.array.paths } } t).Logged t []) ∧
        ((p.val < 1024 → (s.path p.val).role ∉ [2, 3, 4]) → (1024 ≤ p.val → (s.path p.val).role ≠ 0xB) →
          ∃ t, Sys2Proof.Machine.exec (.restoreRequest h p 1#8) s = .next t ∧
            t.answered (s.answerFor h Sys2Proof.Machine.opWrite Sys2Proof.Machine.Abort.notAllowedNow [0, 0]) ∧
            (s.begin.withAnswer t).Logged t []))

/-- Conversions, zooms, buffers, extraction and column packets (R112 to R139). -/
def Obligations.HistogramPath : Prop :=
  ∀ s : Sys2Proof.Machine.State, s.ready →
    (∀ (p : Sys2Proof.PathNo) (v : Sys2Proof.Machine.Conv) (rest : List Sys2Proof.Machine.Conv), (s.meas p.val).convs = v :: rest →
      ((s.bank (Sys2Proof.Machine.regionOf p.val)).fired.any (fun j => decide (j.fire < v.te) &&
          ((s.meas p.val).within j v.t || decide (v.t < ((s.meas p.val).shutter j).2)) && j.start.isNone) = true →
        ∃ t, Sys2Proof.Machine.exec (.detectionAssign p) s = .next t ∧ s.begin.Logged t []) ∧
      ((∀ j ∈ (s.bank (Sys2Proof.Machine.regionOf p.val)).fired, j.start.isSome = true) →
        ∃ t, Sys2Proof.Machine.exec (.detectionAssign p) s = .next t ∧ (t.meas p.val).convs = rest ∧ t.dev = s.dev ∧ t.fire = s.fire ∧
          t.pending = s.pending ∧
          (∀ (j : Sys2Proof.Machine.Shot) (x : Nat), (s.bank (Sys2Proof.Machine.regionOf p.val)).fired = [j] → j.muted = false →
            j.start = some x → x ≤ v.t → j.fire < v.te → v.kept = true → (s.meas p.val).within j v.t = true →
            (v.t - x) / (s.under j.interval).binLsb < 1024 →
            (Sys2Proof.Machine.tabGet (((s.meas p.val).buf? j.interval).getD (s.bufRest p.val j.interval)).coarse
              ((v.t - x) / (s.under j.interval).binLsb) (0, 0)).1 ≤ 4095 →
            ∃ b, (t.meas p.val).buf? j.interval = some b ∧
              Sys2Proof.Machine.tabGet b.coarse ((v.t - x) / (s.under j.interval).binLsb) (0, 0) =
                (min 4095 ((Sys2Proof.Machine.tabGet (((s.meas p.val).buf? j.interval).getD (s.bufRest p.val j.interval)).coarse
                    ((v.t - x) / (s.under j.interval).binLsb) (0, 0)).1 + 1),
                 (Sys2Proof.Machine.tabGet (((s.meas p.val).buf? j.interval).getD (s.bufRest p.val j.interval)).coarse
                    ((v.t - x) / (s.under j.interval).binLsb) (0, 0)).2)))) ∧
    (∀ (p : Sys2Proof.PathNo) (b : Sys2Proof.Machine.HistBuf) (n : Sys2Proof.Machine.IntervalNote),
      (s.meas p.val).bufs.find? (fun b => !b.searched && b.released.isNone) = some b → s.note b.interval = some n →
      (s.bank (Sys2Proof.Machine.regionOf p.val)).queue = [] →
      (s.bank (Sys2Proof.Machine.regionOf p.val)).shots ≤ (s.bank (Sys2Proof.Machine.regionOf p.val)).nextSlot →
      (∀ j ∈ (s.bank (Sys2Proof.Machine.regionOf p.val)).fired, j.start.isSome = true) →
      ∃ t, Sys2Proof.Machine.exec (.zoomPlacement p) s = .next t ∧
        (∀ x ∈ (t.meas p.val).bufs, x.interval = b.interval → x.searched = true ∧ (x.zoomReady.isSome = true ↔ x.zooms ≠ [])) ∧
        State.Logged { s.begin with time := t.time, array := { s.array with meas := t.array.meas } } t
          [Sys2Proof.Machine.Obj.zoomDropCount]) ∧
    (∀ (p : Sys2Proof.PathNo) (n : Sys2Proof.Machine.IntervalNote) (b : Sys2Proof.Machine.HistBuf), s.array.notes = [n] → n.formed = false →
      s.intervalEnded n.interval = true → (s.bank (Sys2Proof.Machine.regionOf p.val)).shotsIn n.interval ≠ [] →
      (∀ j ∈ (s.bank (Sys2Proof.Machine.regionOf p.val)).shotsIn n.interval, j.start.isSome = true) → (s.meas p.val).convs = [] →
      (s.meas p.val).buf? n.interval = some b → b.released = none →
      ∃ t, Sys2Proof.Machine.exec (.bufferRelease p) s = .next t ∧
        (∀ x ∈ (t.meas p.val).bufs, x.interval = n.interval → x.released = some t.nowStamp) ∧
        State.Logged { s.begin with time := t.time, array := { s.array with meas := t.array.meas } } t []) ∧
    (∀ (p : Sys2Proof.PathNo) (b : Sys2Proof.Machine.HistBuf), (s.meas p.val).bufs.find? (fun b => b.released.isSome) = some b →
      ∃ t r, Sys2Proof.Machine.exec (.peakExtractionDone p) s = .next t ∧
        (∀ x ∈ (t.meas p.val).bufs, x.interval ≠ b.interval) ∧ t.array.results = s.array.results ++ [r] ∧ r.interval = b.interval ∧
        r.ch = b.ch ∧
        (s.pathFailed p.val = true ∨ (s.path b.ch).role = 3 ∨ (s.path b.ch).role = 4 →
          r.slots = List.replicate (s.under b.interval).slotsPer Sys2Proof.Machine.flagChfault ∧
          r.summary = Sys2Proof.Machine.satNat 0x0FFFFFFF b.blind) ∧
        (¬ (s.pathFailed p.val = true ∨ (s.path b.ch).role = 3 ∨ (s.path b.ch).role = 4) →
          r.summary = b.depth * 2 ^ 28 + Sys2Proof.Machine.satNat 0x0FFFFFFF b.blind) ∧
        t.dev = s.dev ∧ t.fire = s.fire ∧ t.pending = s.pending) ∧
    (∀ n : Sys2Proof.Machine.IntervalNote, s.array.notes.find? (fun n => !n.formed && s.intervalEnded n.interval) = some n →
      s.array.meas.any (fun e => e.2.bufs.any (fun b => b.interval == n.interval)) = false →
      ∃ t, Sys2Proof.Machine.exec .columnPacketForm s = .next t ∧
        (∀ x ∈ t.array.notes, x.interval = n.interval → x.formed = true) ∧ (∀ r ∈ t.array.results, r.interval ≠ n.interval) ∧
        t.dev = s.dev ∧ t.pending = s.pending ∧ t.fire.inhibit = s.fire.inhibit)

/-- The Firefly engines' slots and edges, starts that are missed, and the governor's sub-intervals (R111, R113, R142, R150 to R155). -/
def Obligations.FiringSlots : Prop :=
  ∀ s : Sys2Proof.Machine.State, s.ready →
    (∀ b : Sys2Proof.RegionNo,
      (¬ (s.dev.state = .scan ∨ s.dev.state = .standby) ∨ (s.bank b.val).shots ≤ (s.bank b.val).nextSlot ∨ (s.bank b.val).dropped = true →
        ∃ t, Sys2Proof.Machine.exec (.slotEnqueue b) s = .next t ∧ s.begin.Logged t []) ∧
      (∀ g e : Nat, s.dev.state = .scan → (s.bank b.val).nextSlot < (s.bank b.val).shots → (s.bank b.val).dropped = false →
        g = (if (s.bank b.val).nextSlot = 0 then (s.bank b.val).x else (69069 * (s.bank b.val).x + 1) % 4294967296) →
        e = (if (s.bank b.val).nextSlot = 0 then (s.bank b.val).nextEdge
          else (s.bank b.val).nextEdge + ((s.bank b.val).base + g / 16777216 * (s.bank b.val).dither / 256)) →
        (s.scan.columnEnd ≤ 4 * e → ∃ t, Sys2Proof.Machine.exec (.slotEnqueue b) s = .next t ∧
          t.bank b.val = { s.bank b.val with x := g, nextSlot := (s.bank b.val).shots, dropped := true } ∧
          t.shows Sys2Proof.Machine.Obj.shotOverrunCount
            (s.u Sys2Proof.Machine.Obj.shotOverrunCount + ((s.bank b.val).shots - (s.bank b.val).nextSlot)) ∧
          State.Logged { s.begin with fire := { s.fire with banks := t.fire.banks } } t [Sys2Proof.Machine.Obj.shotOverrunCount]) ∧
        (4 * e < s.scan.columnEnd → s.u Sys2Proof.Machine.Obj.mantisMutePeriod ≠ 0 →
          (s.bank b.val).nextSlot % s.u Sys2Proof.Machine.Obj.mantisMutePeriod = s.u Sys2Proof.Machine.Obj.mantisMutePeriod - 1 →
          ∃ t, Sys2Proof.Machine.exec (.slotEnqueue b) s = .next t ∧
            t.bank b.val = { s.bank b.val with x := g, nextSlot := (s.bank b.val).nextSlot + 1, nextEdge := e,
                                               queue := (s.bank b.val).queue ++ [⟨(s.bank b.val).nextSlot, e, true, (s.bank b.val).width⟩] } ∧
            State.Logged { s.begin with fire := { s.fire with banks := t.fire.banks } } t []) ∧
        (4 * e < s.scan.columnEnd → s.u Sys2Proof.Machine.Obj.mantisMutePeriod = 0 →
          (s.govPasses b.val (s.bank b.val).width = false → ∃ t, Sys2Proof.Machine.exec (.slotEnqueue b) s = .next t ∧
            t.bank b.val = { s.bank b.val with x := g, nextSlot := (s.bank b.val).nextSlot + 1, nextEdge := e,
                                               inhibitedSlots := (s.bank b.val).inhibitedSlots + 1 } ∧
            t.get Sys2Proof.Machine.Obj.govInhibitCount = Sys2Proof.Machine.patch (4 * b.val)
              (Sys2Proof.Machine.leBytes 4 (s.word Sys2Proof.Machine.Obj.govInhibitCount 4 (4 * b.val) + 1))
              (s.get Sys2Proof.Machine.Obj.govInhibitCount) ∧
            State.Logged { s.begin with fire := { s.fire with banks := t.fire.banks }, array := { s.array with notes := t.array.notes } } t
              [Sys2Proof.Machine.Obj.govInhibitCount]) ∧
          (s.govPasses b.val (s.bank b.val).width = true →
            (∀ x ∈ s.fire.placed, x.2 ≠ b.val → s.u Sys2Proof.Machine.Obj.fireMinGap ≤ Sys2Proof.Machine.natDist x.1 e) →
            ∃ t, Sys2Proof.Machine.exec (.slotEnqueue b) s = .next t ∧
              t.bank b.val = { s.bank b.val with x := g, nextSlot := (s.bank b.val).nextSlot + 1, nextEdge := e,
                                                 queue := (s.bank b.val).queue ++ [⟨(s.bank b.val).nextSlot, e, false, (s.bank b.val).width⟩] } ∧
              t.fire.gov = s.fire.gov.map (fun w => w.charge (s.fire.cell * 16 + b.val) (s.doseOf b.val (s.bank b.val).width)) ∧
              (e, b.val) ∈ t.fire.placed ∧
              State.Logged { s.begin with fire := t.fire } t [Sys2Proof.Machine.Obj.govFill]))) ∧
      (∀ (q : Sys2Proof.Machine.EnqSlot) (rest : List Sys2Proof.Machine.EnqSlot), (s.bank b.val).queue = q :: rest →
        ∃ t, Sys2Proof.Machine.exec (.fireEdge b) s = .next t ∧ t.time.ticks ≤ max s.time.ticks (4 * q.edge / 320) ∧
          (t.bank b.val).queue = rest ∧
          (q.muted = true ∨ s.dev.state = .standby ∨ (s.dev.state = .scan ∧ s.fire.inhibit = 0 ∧ s.fire.released = true) →
            ∃ j, (t.bank b.val).fired = (s.bank b.val).fired ++ [j] ∧ j.slot = q.slot ∧ j.fire = 4 * q.edge ∧ j.muted = q.muted ∧
              j.width = q.width ∧ j.column = s.scan.columnNo ∧ j.interval = s.scan.interval ∧
              j.start = (if q.muted = true ∨ s.u Sys2Proof.Machine.Obj.startSource = 0 then some (4 * q.edge + s.startNominal b.val) else none)) ∧
          (¬ (q.muted = true ∨ s.dev.state = .standby ∨ (s.dev.state = .scan ∧ s.fire.inhibit = 0 ∧ s.fire.released = true)) →
            (t.bank b.val).fired = (s.bank b.val).fired) ∧
          (s.dev.state = .scan → s.fire.inhibit = 0 → s.fire.released = true → q.muted = false →
            (t.bank b.val).pulseEnd = 4 * q.edge + 80 + 32 * q.width) ∧
          (¬ (s.dev.state = .scan ∧ s.fire.inhibit = 0 ∧ s.fire.released = true) → (t.bank b.val).pulseEnd = (s.bank b.val).pulseEnd) ∧
          State.Logged { s.begin with time := t.time, fire := { s.fire with banks := t.fire.banks } } t []) ∧
      (∀ (slot : Fin 256) (j : Sys2Proof.Machine.Shot),
        (s.bank b.val).fired.find? (fun j => j.slot == slot.val && j.start.isNone) = some j →
        ∃ t, Sys2Proof.Machine.exec (.startWindowExpiry b slot) s = .next t ∧
          t.time.ticks ≤ max s.time.ticks ((j.fire + 8 * s.u Sys2Proof.Machine.Obj.startWindowMax) / 320) ∧
          t.shows Sys2Proof.Machine.Obj.missingStartCount (s.u Sys2Proof.Machine.Obj.missingStartCount + 1) ∧
          (∃ k ∈ (t.bank b.val).fired, k.slot = j.slot ∧ k.fire = j.fire ∧ k.start = some (j.fire + s.startNominal b.val) ∧ k.estimated = true) ∧
          State.Logged { s.begin with time := t.time, fire := { s.fire with banks := t.fire.banks } } t
            [Sys2Proof.Machine.Obj.missingStartCount])) ∧
    (∀ (w : Fin 3) (g : Sys2Proof.Machine.GovWindow), s.dev.booted = true → s.fire.gov[w.val]? = some g →
      ∃ t g', Sys2Proof.Machine.exec (.govSubintervalBoundary w) s = .next t ∧
        t.fire = { s.fire with gov := Sys2Proof.Machine.setAt s.fire.gov w.val g' } ∧ g'.subs = [] :: g.subs.take 16 ∧
        (s.dev.bootTick ≤ g.boundaryAt → g.boundaryAt < g'.boundaryAt) ∧ t.time.ticks ≤ max s.time.ticks g'.boundaryAt ∧
        State.Logged { s.begin with time := t.time, fire := t.fire } t [])

/-- The columns of a scan and the slots between sweeps (R62, R209, R210, R214, R406). -/
def Obligations.ColumnsAndSlots : Prop :=
  ∀ s : Sys2Proof.Machine.State, s.ready →
    (s.boundaryNext = none → ∃ t, Sys2Proof.Machine.exec .columnBoundary s = .next t ∧ s.begin.Logged t []) ∧
    (∀ b : Sys2Proof.Machine.Bdy, s.dev.state = .scan ∨ s.dev.state = .hold → s.nextBdy = some b → s.grp.commitWaiting = none →
      s.grp.pendingKnock = none →
      (s.scan.pendingCmd = none → ∃ t, Sys2Proof.Machine.exec .columnBoundary s = .next t ∧
        t.dev = s.dev ∧ t.grp = s.grp ∧ t.loops = s.loops ∧ t.sense = s.sense ∧ t.aux = s.aux ∧ t.recd = s.recd ∧ t.time.ticks ≤ max s.time.ticks (b.t / 320) ∧
        t.scan.columnNo = s.scan.columnNo + 1 ∧ t.scan.boundary = b.t ∧ t.scan.columnEnd = b.stop ∧ t.scan.index = b.index ∧
        t.scan.reverse = b.reverse ∧ t.scan.position = Sys2Proof.Machine.ratRound b.place ∧ t.scan.running = true ∧
        t.scan.completed = s.scan.completed + Sys2Proof.Machine.b2n s.scan.running ∧
        (s.scan.running = false ∨ s.scan.intervalLeft ≤ 1 →
          t.scan.interval = s.scan.interval + 1 ∧ t.scan.intervalLeft = s.u Sys2Proof.Machine.Obj.integrationColumns) ∧
        (s.scan.running = true → 1 < s.scan.intervalLeft →
          t.scan.interval = s.scan.interval ∧ t.scan.intervalLeft = s.scan.intervalLeft - 1) ∧
        t.shows Sys2Proof.Machine.Obj.boundaryPosition (Sys2Proof.Machine.twosOf 32 (Sys2Proof.Machine.ratRound b.place)) ∧
        (s.dev.state = .scan → s.fire.inhibit = 0 → t.fire.released = true)) ∧
      (s.scan.pendingCmd = some .pause → s.dev.state = .scan → ∃ t, Sys2Proof.Machine.exec .columnBoundary s = .next t ∧
        t.dev.state = .hold ∧ t.scan.pendingCmd = none ∧ t.scan.columnNo = s.scan.columnNo + 1 ∧ t.shows Sys2Proof.Machine.Obj.state 0x31) ∧
      (s.scan.pendingCmd = some .resume → s.dev.state = .hold → ∃ t, Sys2Proof.Machine.exec .columnBoundary s = .next t ∧
        t.dev.state = .scan ∧ t.scan.pendingCmd = none ∧ t.scan.columnNo = s.scan.columnNo + 1 ∧ t.shows Sys2Proof.Machine.Obj.state 0x30) ∧
      (s.scan.pendingCmd = some .stop → ∃ t, Sys2Proof.Machine.exec .columnBoundary s = .next t ∧
        t.dev.state = .armed ∧ t.scan.pendingCmd = none ∧ t.scan.columnNo = s.scan.columnNo ∧ t.scan.running = false ∧
        t.scan.completed = s.scan.completed + Sys2Proof.Machine.b2n s.scan.running ∧ t.shows Sys2Proof.Machine.Obj.state 0x20)) ∧
    (∀ (b : Sys2Proof.Machine.Bdy) (frame : Sys2Proof.Bytes), s.dev.state = .standby → s.mirroredBdy = some (b, frame) →
      s.grp.commitWaiting = none → s.grp.pendingKnock = none → s.pair.configs = [] →
      ∃ t, Sys2Proof.Machine.exec .columnBoundary s = .next t ∧ t.dev = s.dev ∧ t.pair.columns = s.pair.columns.tail ∧
        t.scan.columnNo = s.scan.columnNo + 1 ∧ t.scan.boundary = b.t ∧ t.scan.columnEnd = b.stop ∧ t.scan.index = b.index ∧
        t.scan.reverse = b.reverse ∧ t.scan.running = true) ∧
    (s.nextTransom = none → ∃ t, Sys2Proof.Machine.exec .transomSlot s = .next t ∧ s.begin.Logged t []) ∧
    (∀ (a e : Sys2Proof.Stamp) (forward : Bool), s.nextTransom = some (a, e, forward) →
      ∃ t, Sys2Proof.Machine.exec .transomSlot s = .next t ∧ t.time.ticks ≤ max s.time.ticks (a / 320) ∧
        t.shows Sys2Proof.Machine.Obj.transomCount (s.u Sys2Proof.Machine.Obj.transomCount + 1) ∧
        t.scan = { s.scan with transomFrom := a, transomTo := e, biasSetpoint := t.scan.biasSetpoint,
                               patternEntry := if forward = true ∧ s.scan.transomTo ≠ 0 then (s.scan.patternEntry + 1) % max 1 s.l1Pattern.length
                                               else s.scan.patternEntry } ∧
        t.dev = s.dev ∧ t.grp = s.grp ∧ t.fire = s.fire ∧ t.loops = s.loops ∧ t.charge = s.charge ∧ t.aux = s.aux)

/-- The samples of the four loops, in time and late (R198, R199, R201). -/
def Obligations.LoopSamples : Prop :=
  ∀ (s : Sys2Proof.Machine.State) (n : Fin 4) (latency : Nat) (ecc : Bool), s.ready → n.val < s.loops.length →
    (s.dev.booted = false ∨ s.sampleReady n.val = false → s.pair.startWhenReady = false →
      ∃ t, Sys2Proof.Machine.exec (.loopSample n latency ecc) s = .next t ∧ t.pair.checkInAt = none ∧
        State.Logged { s.begin with pair := { s.begin.pair with checkInAt := none, out := t.pair.out, outSeq := t.pair.outSeq } } t []) ∧
    (s.dev.booted = false ∨ s.sampleReady n.val = false → s.pair.startWhenReady = true → s.dev.state = .armed → s.armReady = true →
      ∃ t, Sys2Proof.Machine.exec (.loopSample n latency ecc) s = .next t ∧ t.dev.state = .scan ∧ t.pair.startWhenReady = false) ∧
    (s.dev.booted = true → s.sampleReady n.val = true → s.pair.startWhenReady = false →
      (s.loop n.val).mode = .off ∨ latency ≤ s.deadlineNs n.val ∨
        Sys2Proof.Machine.satNat 255 ((s.loop n.val).missRun + 1) < s.u Sys2Proof.Machine.Obj.missLimit →
      ∃ t, Sys2Proof.Machine.exec (.loopSample n latency ecc) s = .next t ∧
        t.shows (Sys2Proof.Machine.Obj.loopMeasuredNow n.val) (s.loopY n.val).bits32 ∧
        (ecc = true → t.shows Sys2Proof.Machine.Obj.coefEccCount (s.u Sys2Proof.Machine.Obj.coefEccCount + 1)) ∧
        (t.loop n.val).divider = (s.chain (Sys2Proof.Machine.loopChain n.val)).outputs ∧
        (∀ m, m ≠ n.val → t.loop m = s.loop m) ∧ t.dev = s.dev ∧ t.sense = s.sense ∧ t.charge = s.charge ∧ t.aux = s.aux ∧
        t.grp = s.grp ∧ t.time = s.time ∧ t.therm = s.therm ∧ t.may = s.may ∧ t.recd = s.recd ∧ t.array.paths = s.array.paths ∧
        (n.val < 3 → s.pair.role ≠ 0 → s.pair.linkUp = true → s.pair.asserts = true → s.dev.state.live = true →
          ∃ k, t.pair.out = [⟨5, k, t.loopBody n.val⟩]) ∧
        ((s.loop n.val).mode = .off →
          t.loop n.val = { s.loop n.val with yPrev := (s.loopY n.val).bits32, first := false, divider := (t.loop n.val).divider }) ∧
        ((s.loop n.val).mode ≠ .off → latency ≤ s.deadlineNs n.val →
          (t.loop n.val).missRun = 0 ∧ (t.loop n.val).missedNow = false ∧
          t.shows (Sys2Proof.Machine.Obj.loopOutputNow n.val) (t.loop n.val).code ∧
          (s.u (Sys2Proof.Machine.Obj.loopMaxLatency n.val) < latency →
            t.shows (Sys2Proof.Machine.Obj.loopMaxLatency n.val) latency) ∧
          (n.val = 3 → s.charge.ao3Gate = true → (t.loop n.val).code = 0) ∧
          (∀ q : Rat, (s.loop n.val).mode ≠ .start → (s.loop n.val).mode ≠ .park → s.resonant n.val = false →
            (n.val = 3 → s.charge.ao3Gate = false) →
            Sys2Proof.Machine.Fl.clamp (Sys2Proof.Machine.fOf (s.u (Sys2Proof.Machine.Obj.loopOutMin n.val)))
              (Sys2Proof.Machine.fOf (s.u (Sys2Proof.Machine.Obj.loopOutMax n.val)))
              (s.law n.val (s.setpoint n.val (s.sampleAt n.val) (s.loopY n.val)).1 (s.loopY n.val)).u = .fin q →
            (t.loop n.val).code = (Sys2Proof.Machine.clampInt 0 65535 (Sys2Proof.Machine.ratRound q)).toNat)) ∧
        ((s.loop n.val).mode ≠ .off → (s.loop n.val).mode ≠ .park → s.deadlineNs n.val < latency → (s.loop n.val).missedNow = false →
          (t.loop n.val).code = (s.loop n.val).code ∧ (t.loop n.val).miss = true ∧ (t.loop n.val).yPrev = (s.loopY n.val).bits32 ∧
          (t.loop n.val).missRun = Sys2Proof.Machine.satNat 255 ((s.loop n.val).missRun + 1) ∧
          t.shows (Sys2Proof.Machine.Obj.loopDeadlineMissCount n.val)
            (s.u (Sys2Proof.Machine.Obj.loopDeadlineMissCount n.val) + 1))) ∧
    ((s.loop n.val).mode = .off → ∃ t, Sys2Proof.Machine.exec (.deadlineMiss n) s = .next t ∧ s.begin.Logged t []) ∧
    ((s.loop n.val).mode ≠ .off → Sys2Proof.Machine.satNat 255 ((s.loop n.val).missRun + 1) < s.u Sys2Proof.Machine.Obj.missLimit →
      ∃ t, Sys2Proof.Machine.exec (.deadlineMiss n) s = .next t ∧
        t.loop n.val = { s.loop n.val with miss := true, missedNow := true,
                                           missRun := Sys2Proof.Machine.satNat 255 ((s.loop n.val).missRun + 1) } ∧
        (∀ m, m ≠ n.val → t.loop m = s.loop m) ∧
        t.shows (Sys2Proof.Machine.Obj.loopDeadlineMissCount n.val) (s.u (Sys2Proof.Machine.Obj.loopDeadlineMissCount n.val) + 1) ∧
        (2 ≤ n.val → State.Logged { s.begin with loops := t.loops } t [Sys2Proof.Machine.Obj.loopDeadlineMissCount n.val]))

/-- Conversion slots, synchronising resets, thermal demands and the comparators (R174 to R192, R290). -/
def Obligations.ConvertersAndComparators : Prop :=
  ∀ s : Sys2Proof.Machine.State, s.ready →
    (∀ (c : Fin 2) (x : Sys2Proof.Sample),
      (s.dev.booted = false → ∃ t, Sys2Proof.Machine.exec (.conversionSlot c x) s = .next t ∧ s.begin.Logged t []) ∧
      (∀ src : Nat, s.dev.booted = true → c.val < s.sense.convs.length → (s.conv c.val).resetCause = none → src < 6 →
        Sys2Proof.Machine.getAt (s.sequence c.val) ((s.conv c.val).slot % max 1 (s.sequence c.val).length) 0xFF = src →
        ∃ t, Sys2Proof.Machine.exec (.conversionSlot c x) s = .next t ∧ t.time.ticks ≤ max s.time.ticks ((s.conv c.val).startAt + 250) ∧
          (t.conv c.val).slot = ((s.conv c.val).slot + 1) % max 1 (s.sequence c.val).length ∧
          (t.conv c.val).startAt = (s.conv c.val).startAt + 250 ∧
          t.sense.counts = Sys2Proof.Machine.tabPut s.sense.counts src ((Sys2Proof.Machine.tabGet s.sense.counts src 0 + 1) % 256) ∧
          (∀ d, d ≠ c.val → t.conv d = s.conv d) ∧ (∀ k, k ≠ src → t.chain k = s.chain k) ∧ t.dev = s.dev ∧ t.loops = s.loops ∧
          t.fire = s.fire ∧ t.charge = s.charge ∧
          ((s.conv c.val).discard = false →
            t.get Sys2Proof.Machine.Obj.lastResults = Sys2Proof.Machine.patch (4 * src)
              (Sys2Proof.Machine.leBytes 4 (t.resultWord src (s.sampleCode src x) x.overRange)) (s.get Sys2Proof.Machine.Obj.lastResults) ∧
            (t.conv c.val).discard = x.overRange ∧
            t.sense.chains = Sys2Proof.Machine.setAt s.sense.chains src
              ((s.chain src).input (s.chainSet src) (s.sampleCode src x) false x.overRange ((s.conv c.val).startAt * 320 + 20000)).1 ∧
            (∀ w, ((s.chain src).input (s.chainSet src) (s.sampleCode src x) false x.overRange
                ((s.conv c.val).startAt * 320 + 20000)).2 = some w →
              t.shows (Sys2Proof.Machine.Obj.chainOutput src) w)) ∧
          ((s.conv c.val).discard = true →
            t.get Sys2Proof.Machine.Obj.lastResults = s.get Sys2Proof.Machine.Obj.lastResults ∧ (t.conv c.val).discard = false ∧
            t.get Sys2Proof.Machine.Obj.discardCount = Sys2Proof.Machine.patch (4 * c.val)
              (Sys2Proof.Machine.leBytes 4 (s.word Sys2Proof.Machine.Obj.discardCount 4 (4 * c.val) + 1))
              (s.get Sys2Proof.Machine.Obj.discardCount) ∧
            t.shows (Sys2Proof.Machine.Obj.chainFillCount src) (s.u (Sys2Proof.Machine.Obj.chainFillCount src) + 1) ∧
            t.sense.chains = Sys2Proof.Machine.setAt s.sense.chains src
              ((s.chain src).input (s.chainSet src) (s.chain src).lastX true false ((s.conv c.val).startAt * 320 + 20000)).1))) ∧
    (∀ (h : Sys2Proof.ReqHdr) (v : Sys2Proof.Byte) (c : Sys2Proof.Machine.Caller), s.takes h 0x2900 0x01 0x02 [v] c →
      (s.dev.state = .idle ∨ s.dev.state = .armed ∨ s.dev.state = .calibrate →
        ∃ t, Sys2Proof.Machine.exec (.chainSync h v) s = .next t ∧
          t.answered (s.answerFor h Sys2Proof.Machine.opWrite Sys2Proof.Machine.Abort.ok [0, 0]) ∧
          (∀ d, d < 2 → d < s.sense.convs.length → t.conv d =
            if v.toNat.testBit d then { s.conv d with resetCause := some s.time.ticks } else s.conv d) ∧
          (State.withAnswer { s.begin with sense := { s.sense with convs := t.sense.convs } } t).Logged t []) ∧
      (¬ (s.dev.state = .idle ∨ s.dev.state = .armed ∨ s.dev.state = .calibrate) →
        ∃ t, Sys2Proof.Machine.exec (.chainSync h v) s = .next t ∧
          t.answered (s.answerFor h Sys2Proof.Machine.opWrite Sys2Proof.Machine.Abort.notAllowedNow [0, 0]) ∧
          (State.withAnswer s.begin t).Logged t [])) ∧
    (∀ c : Fin 2, c.val < s.sense.convs.length →
      ((s.conv c.val).resetCause = none ∨ (∃ r, (s.conv c.val).resetCause = some r ∧ (s.conv c.val).startAt < r + 250) →
        ∃ t, Sys2Proof.Machine.exec (.syncReset c) s = .next t ∧ s.begin.Logged t []) ∧
      (∀ r, (s.conv c.val).resetCause = some r → r + 250 ≤ (s.conv c.val).startAt →
        ∃ t, Sys2Proof.Machine.exec (.syncReset c) s = .next t ∧ t.time.ticks ≤ max s.time.ticks (s.conv c.val).startAt ∧
          t.conv c.val = { s.conv c.val with slot := 0, resetCause := none } ∧
          (∀ k, k < s.sense.chains.length → t.chain k =
            if Sys2Proof.Machine.chainConv k = c.val then { s.chain k with primed := false } else s.chain k) ∧
          State.Logged { s.begin with time := t.time, sense := { s.sense with convs := t.sense.convs, chains := t.sense.chains } } t []) ∧
      (∀ d, d = 2 + c.val → s.dev.state ≠ .scan → s.dev.state ≠ .standby → d < s.sense.convs.length →
        ∃ t, Sys2Proof.Machine.exec (.thermalDemand c) s = .next t ∧
          (t.conv d).queue = (s.conv d).queue ++
            ((Sys2Proof.Machine.maskSensors s.therm.calDemand).filter (fun k => Sys2Proof.Machine.sensorConv k == d && k != 22)).map
              (fun k => (0, Sys2Proof.Machine.sensorSource k)) ++
            ((Sys2Proof.Machine.maskSensors s.therm.hostDemand).filter (fun k => Sys2Proof.Machine.sensorConv k == d && k != 22)).map
              (fun k => (1, Sys2Proof.Machine.sensorSource k)) ∧
          (∀ k, k < 22 → t.therm.hostDemand.testBit k = (s.therm.hostDemand.testBit k && decide (Sys2Proof.Machine.sensorConv k ≠ d)) ∧
            t.therm.calDemand.testBit k = (s.therm.calDemand.testBit k && decide (Sys2Proof.Machine.sensorConv k ≠ d))) ∧
          (∀ e, e ≠ d → t.conv e = s.conv e) ∧
          State.Logged { s.begin with therm := { s.therm with hostDemand := t.therm.hostDemand, calDemand := t.therm.calDemand },
                                      sense := { s.sense with convs := t.sense.convs } } t [])) ∧
    (∃ t, Sys2Proof.Machine.exec (.wcTripLow 0) s = .next t ∧ s.begin.Logged t []) ∧
    (∀ n : Fin 8, (s.wcOn n.val = false →
        (∃ t, Sys2Proof.Machine.exec (.wcTripLow n) s = .next t ∧ s.begin.Logged t []) ∧
        (∃ t, Sys2Proof.Machine.exec (.wcTripHigh n) s = .next t ∧ s.begin.Logged t [])) ∧
      (∀ low : Bool, s.wcOn n.val = true → 2 ≤ n.val ∨ (n.val = 1 ∧ low = true) →
        ∃ t, (if low then Sys2Proof.Machine.exec (.wcTripLow n) s else Sys2Proof.Machine.exec (.wcTripHigh n) s) = .next t ∧
          t.sense = { s.sense with tripped := Sys2Proof.Machine.setBit s.sense.tripped (2 * n.val + Sys2Proof.Machine.b2n low) true } ∧
          t.shows Sys2Proof.Machine.Obj.wcStatus
            (Sys2Proof.Machine.setBit (s.u Sys2Proof.Machine.Obj.wcStatus) (2 * n.val + Sys2Proof.Machine.b2n low) true) ∧
          t.get Sys2Proof.Machine.Obj.wcTripCount = Sys2Proof.Machine.patch (4 * n.val)
            (Sys2Proof.Machine.leBytes 4 (s.word Sys2Proof.Machine.Obj.wcTripCount 4 (4 * n.val) + 1)) (s.get Sys2Proof.Machine.Obj.wcTripCount) ∧
          (s.wcSeverity n.val low < 4 →
            s.tells t (0x0501 + n.val) n.val (s.wcSeverity n.val low) (Sys2Proof.Machine.b2n low) ∧
            State.Logged { s.begin with sense := t.sense } t [Sys2Proof.Machine.Obj.wcStatus, Sys2Proof.Machine.Obj.wcTripCount])) ∧
      (∃ t, Sys2Proof.Machine.exec (.wcRearm n) s = .next t ∧
        Sys2Proof.Machine.fieldOf t.sense.tripped (2 * n.val + 1) (2 * n.val) = 0 ∧
        (∀ k, k ≠ 2 * n.val → k ≠ 2 * n.val + 1 → t.sense.tripped.testBit k = s.sense.tripped.testBit k) ∧
        State.Logged { s.begin with sense := { s.sense with tripped := t.sense.tripped } } t []))

/-- The edges of the timing inputs, the interval unit, and the frequency engines (R249 to R264). -/
def Obligations.TimingInputs : Prop :=
  ∀ s : Sys2Proof.Machine.State, s.ready →
    (∀ (n : Fin 9) (rising : Bool) (x : Sys2Proof.Stamp) (code : Fin 65), n.val < s.aux.inputs.length →
      (s.dev.booted = false ∨ Sys2Proof.Machine.slopeTakes (s.u (Sys2Proof.Machine.Obj.auxSlope n.val)) rising = false →
        ∃ t, Sys2Proof.Machine.exec (.auxEdge n rising x code) s = .next t ∧ t.time.ticks ≤ max s.time.ticks (x / 320) ∧
          t.auxIn n.val = { s.auxIn n.val with level := rising } ∧ (∀ m, m ≠ n.val → t.auxIn m = s.auxIn m) ∧
          State.Logged { s.begin with time := t.time, aux := { s.aux with inputs := t.aux.inputs } } t []) ∧
      (∀ st : Nat, s.dev.booted = true → Sys2Proof.Machine.slopeTakes (s.u (Sys2Proof.Machine.Obj.auxSlope n.val)) rising = true →
        st = (((s.auxIn n.val).taps.stamp (1088 + n.val) (x / 64 + 1) code.val : Nat) -
          (Sys2Proof.Machine.roundDiv (s.u (Sys2Proof.Machine.Obj.auxDelay n.val) * 2) 25 : Int)).toNat →
        ∃ t, Sys2Proof.Machine.exec (.auxEdge n rising x code) s = .next t ∧
          t.shows (Sys2Proof.Machine.Obj.auxEdgeCount n.val) (s.u (Sys2Proof.Machine.Obj.auxEdgeCount n.val) + 1) ∧
          (t.auxIn n.val).level = rising ∧ t.dev = s.dev ∧
          (s.auxRoleNow n.val ≠ 7 → ∀ m, m ≠ n.val → t.auxIn m = s.auxIn m) ∧
          ((s.auxIn n.val).blindTo ≤ st → (t.auxIn n.val).blindTo = st + 128 ∧
            t.get (Sys2Proof.Machine.Obj.auxLastStamp n.val) = Sys2Proof.Machine.time80 ((s.runToStamp x).nsAt st) ∧
            t.get (Sys2Proof.Machine.Obj.auxBlindEdgeCount n.val) = s.get (Sys2Proof.Machine.Obj.auxBlindEdgeCount n.val)) ∧
          (st < (s.auxIn n.val).blindTo → (t.auxIn n.val).blindTo = (s.auxIn n.val).blindTo ∧
            t.shows (Sys2Proof.Machine.Obj.auxBlindEdgeCount n.val) (s.u (Sys2Proof.Machine.Obj.auxBlindEdgeCount n.val) + 1) ∧
            t.get (Sys2Proof.Machine.Obj.auxLastStamp n.val) = s.get (Sys2Proof.Machine.Obj.auxLastStamp n.val)) ∧
          (s.auxRoleNow n.val = 0 → State.Logged { s.begin with time := t.time, aux := { s.aux with inputs := t.aux.inputs } } t
            [Sys2Proof.Machine.Obj.auxEdgeCount n.val, Sys2Proof.Machine.Obj.auxBlindEdgeCount n.val, Sys2Proof.Machine.Obj.auxLastStamp n.val]) ∧
          (s.auxRoleNow n.val = 1 → (s.auxIn n.val).blindTo ≤ st → (∀ b, (s.bank b).fired = []) →
            t.shows Sys2Proof.Machine.Obj.strayStartCount (s.u Sys2Proof.Machine.Obj.strayStartCount + 1)) ∧
          (s.auxRoleNow n.val = 5 → s.intervalSingle = false → (s.auxIn n.val).blindTo ≤ st →
            t.aux.starts = s.aux.starts ++ (if s.u Sys2Proof.Machine.Obj.intervalStartInput = n.val ∧
              Sys2Proof.Machine.slopeTakes (s.u Sys2Proof.Machine.Obj.intervalStartSlope) rising = true then [st] else []) ∧
            t.aux.stops = s.aux.stops ++ (if s.u Sys2Proof.Machine.Obj.intervalStopInput = n.val ∧
              Sys2Proof.Machine.slopeTakes (s.u Sys2Proof.Machine.Obj.intervalStopSlope) rising = true then [(st, false)] else [])))) ∧
    (s.intervalSingle = true ∨ s.aux.starts = [] → ∃ t, Sys2Proof.Machine.exec .intervalDecide s = .next t ∧ s.begin.Logged t []) ∧
    (∀ (a : Sys2Proof.Stamp) (rest : List Sys2Proof.Stamp), s.intervalSingle = false → s.aux.starts = a :: rest →
      ((∀ e ∈ s.aux.stops, s.intervalLsb < Sys2Proof.Machine.natDist e.1 a) →
        ∃ t, Sys2Proof.Machine.exec .intervalDecide s = .next t ∧ t.time.ticks ≤ max s.time.ticks ((a + s.intervalLsb) / 320) ∧
          t.shows Sys2Proof.Machine.Obj.noStopCount (s.u Sys2Proof.Machine.Obj.noStopCount + 1) ∧
          State.Logged { s.begin with time := t.time, aux := { s.aux with starts := rest } } t [Sys2Proof.Machine.Obj.noStopCount]) ∧
      (∀ x : Sys2Proof.Stamp, (x, false) ∈ s.aux.stops → Sys2Proof.Machine.natDist x a ≤ s.intervalLsb →
        (∀ e ∈ s.aux.stops, Sys2Proof.Machine.natDist x a < Sys2Proof.Machine.natDist e.1 a ∨
          (Sys2Proof.Machine.natDist x a = Sys2Proof.Machine.natDist e.1 a ∧ e.1 ≤ x)) →
        ∃ t, Sys2Proof.Machine.exec .intervalDecide s = .next t ∧ t.time.ticks ≤ max s.time.ticks ((a + s.intervalLsb) / 320) ∧
          t.aux.starts = rest ∧ t.aux.stops = s.aux.stops.erase (x, false) ∧
          t.shows Sys2Proof.Machine.Obj.intervalCount (s.u Sys2Proof.Machine.Obj.intervalCount + 1) ∧
          t.get Sys2Proof.Machine.Obj.lastInterval =
            Sys2Proof.Machine.leBytes 4 ((s.runToStamp (a + s.intervalLsb)).nsAt a % 4294967296) ++
            Sys2Proof.Machine.leBytes 4 (Sys2Proof.Machine.twosOf 32 ((x : Int) - (a : Int))) ++
            Sys2Proof.Machine.leBytes 4 (t.u Sys2Proof.Machine.Obj.intervalCount) ++
            Sys2Proof.Machine.leBytes 2 (if x < a then 1 else if x = a then 2 else 0) ++ Sys2Proof.Machine.leBytes 2 0 ∧
          t.aux.log.getLast? = some (t.get Sys2Proof.Machine.Obj.lastInterval) ∧
          State.Logged { s.begin with time := t.time, aux := { s.aux with starts := rest, stops := t.aux.stops, log := t.aux.log } } t
            [Sys2Proof.Machine.Obj.intervalCount, Sys2Proof.Machine.Obj.lastInterval])) ∧
    (∀ (e : Sys2Proof.Stamp × Bool) (rest : List (Sys2Proof.Stamp × Bool)), s.aux.stops = e :: rest →
      ∃ t, Sys2Proof.Machine.exec .unpairedStopExpiry s = .next t ∧ t.time.ticks ≤ max s.time.ticks ((e.1 + 2 * s.intervalLsb) / 320) ∧
        t.shows Sys2Proof.Machine.Obj.unpairedStopCount (s.u Sys2Proof.Machine.Obj.unpairedStopCount + 1) ∧
        State.Logged { s.begin with time := t.time, aux := { s.aux with stops := rest } } t [Sys2Proof.Machine.Obj.unpairedStopCount]) ∧
    (∀ (a : Sys2Proof.Stamp) (rest : List Sys2Proof.Stamp), s.intervalSingle = true → s.aux.starts = a :: rest →
      ∃ t, Sys2Proof.Machine.exec .intervalNoStop s = .next t ∧ t.time.ticks ≤ max s.time.ticks ((a + s.intervalLsb) / 320) ∧
        t.shows Sys2Proof.Machine.Obj.noStopCount (s.u Sys2Proof.Machine.Obj.noStopCount + 1) ∧
        State.Logged { s.begin with time := t.time, aux := { s.aux with starts := rest } } t [Sys2Proof.Machine.Obj.noStopCount]) ∧
    (∀ n : Fin 9, n.val < s.aux.inputs.length →
      (s.freqRuns n.val = false → ∃ t, Sys2Proof.Machine.exec (.freqGateEnd n) s = .next t ∧ s.begin.Logged t []) ∧
      (s.freqRuns n.val = true → ∃ (t : Sys2Proof.Machine.State) (due : Nat), Sys2Proof.Machine.exec (.freqGateEnd n) s = .next t ∧
        due = (match (s.auxIn n.val).gate with
          | some g => g.startNs + s.gateNs n.val
          | none => (s.nowNs / s.gateNs n.val + 1) * s.gateNs n.val) ∧
        t.auxIn n.val = { s.auxIn n.val with done := (s.auxIn n.val).gate, gate := some ⟨due, 1, 0, 0, []⟩ } ∧
        t.time.ticks ≤ max s.time.ticks (s.tickOfNs due) ∧ (∀ m, m ≠ n.val → t.auxIn m = s.auxIn m) ∧
        State.Logged { s.begin with time := t.time, aux := { s.aux with inputs := t.aux.inputs } } t []) ∧
      ((s.auxIn n.val).done = none → ∃ t, Sys2Proof.Machine.exec (.freqFitDone n) s = .next t ∧ s.begin.Logged t []) ∧
      (∀ g : Sys2Proof.Machine.FreqGate, (s.auxIn n.val).done = some g →
        ∃ t, Sys2Proof.Machine.exec (.freqFitDone n) s = .next t ∧
          t.auxIn n.val = { s.auxIn n.val with done := none } ∧ (∀ m, m ≠ n.val → t.auxIn m = s.auxIn m) ∧
          t.get (Sys2Proof.Machine.Obj.auxFreqResult n.val) = (s.freqResult n.val g).1 ∧
          t.shows (Sys2Proof.Machine.Obj.auxFreqResultCount n.val) (s.u (Sys2Proof.Machine.Obj.auxFreqResultCount n.val) + 1) ∧
          (g.pairs.length < 3 → t.get (Sys2Proof.Machine.Obj.auxFreqResult n.val) =
            List.replicate 38 0 ++ Sys2Proof.Machine.leBytes 2 1) ∧
          (n.val ≠ 8 → State.Logged { s.begin with aux := { s.aux with inputs := t.aux.inputs } } t
            [Sys2Proof.Machine.Obj.auxFreqResult n.val, Sys2Proof.Machine.Obj.auxFreqResultCount n.val]) ∧
          (n.val = 8 →
            t.shows Sys2Proof.Machine.Obj.calrefPresent (Sys2Proof.Machine.b2n ((s.freqResult 8 g).2.2 &&
              decide ((s.freqResult 8 g).2.1.natAbs ≤ s.u Sys2Proof.Machine.Obj.calrefTolPpb))) ∧
            (g.pairs.length < 3 → t.aux.scaleRun = 0 ∧
              t.shows Sys2Proof.Machine.Obj.scaleSource (if s.storedScale.isSome then 2 else 0) ∧
              t.shows Sys2Proof.Machine.Obj.scaleErrorPpb (Sys2Proof.Machine.twosOf 32 (s.storedScale.getD 0))) ∧
            State.Logged { s.begin with aux := { s.aux with inputs := t.aux.inputs, scaleGates := t.aux.scaleGates, scaleRun := t.aux.scaleRun } } t
              [Sys2Proof.Machine.Obj.auxFreqResult 8, Sys2Proof.Machine.Obj.auxFreqResultCount 8, Sys2Proof.Machine.Obj.calrefPresent,
               Sys2Proof.Machine.Obj.scaleSource, Sys2Proof.Machine.Obj.scaleErrorPpb])))

/-- Host and time triggers, the closing and re-arming of engines, and the drain of the ring (R229, R230, R236, R237, R245 to R247). -/
def Obligations.SegmentCapture : Prop :=
  ∀ s : Sys2Proof.Machine.State, s.ready →
    (∀ (h : Sys2Proof.ReqHdr) (v : Sys2Proof.Byte) (c : Sys2Proof.Machine.Caller), s.takes h 0x2400 0x0D 0x02 [v] c →
      (s.mayArmed = false → ∃ t, Sys2Proof.Machine.exec (.hostTrigger h v) s = .next t ∧
        t.answered (s.answerFor h Sys2Proof.Machine.opWrite Sys2Proof.Machine.Abort.notAllowedNow [0, 0]) ∧
        (State.withAnswer s.begin t).Logged t []) ∧
      (s.mayArmed = true → s.u Sys2Proof.Machine.Obj.causeEnable = 2 ^ 12 → s.u Sys2Proof.Machine.Obj.kind = 0 →
        (∀ e, ∀ x ∈ (s.engine e).history, x < s.nowStamp) → s.watchList.length ≤ s.may.engines.length →
        (∀ e cap, (s.engine e).capture = some cap → cap.info.instant / 64 ≠ s.nowStamp / 64) →
        ∃ t, Sys2Proof.Machine.exec (.hostTrigger h v) s = .next t ∧
          t.answered (s.answerFor h Sys2Proof.Machine.opWrite Sys2Proof.Machine.Abort.ok [0, 0]) ∧
          (∀ e ch, s.watchList[e]? = some ch → (s.engine e).capture = none → (s.engine e).closedAt = none →
            ∃ cap, t.engine e = { s.engine e with capture := some cap } ∧ cap.info = s.trigInfo 12 0xFFFF s.nowStamp ∧ cap.subject = ch ∧
              cap.post = [] ∧ cap.postGoal = s.effPost ∧ cap.window = 80 * s.u Sys2Proof.Machine.Obj.postWindow ∧
              cap.pre = (((s.engine e).history.filter (fun x => decide (s.nowStamp - x ≤ 2147483647))).take s.effPre).reverse) ∧
          (∀ e, (s.watchList[e]? = none ∨ (s.engine e).capture ≠ none ∨ (s.engine e).closedAt ≠ none) → t.engine e = s.engine e) ∧
          (State.withAnswer { s.begin with may := { s.may with engines := t.may.engines } } t).Logged t
            [Sys2Proof.Machine.Obj.missedByCause, Sys2Proof.Machine.Obj.missedByReason])) ∧
    (∀ (h : Sys2Proof.ReqHdr) (sec : BitVec 48) (ns : BitVec 32) (c : Sys2Proof.Machine.Caller) (code : Sys2Proof.Machine.Abort),
      s.takes h 0x2400 0x0B 0x0B (Sys2Proof.Machine.timeBytes sec ns) c →
      code = (if sec.toNat = 0 ∧ ns.toNat = 0 then Sys2Proof.Machine.Abort.ok
        else if (sec.toNat * 1000000000 + ns.toNat) * 4294967296 < s.time.native then Sys2Proof.Machine.Abort.timeElapsed
        else if (sec.toNat * 1000000000 + ns.toNat) * 4294967296 < s.time.native + 10000 * 4294967296 then Sys2Proof.Machine.Abort.timeLead
        else Sys2Proof.Machine.Abort.ok) →
      ∃ t, Sys2Proof.Machine.exec (.timeTriggerWrite h sec ns) s = .next t ∧
        t.answered (s.answerFor h Sys2Proof.Machine.opWrite code [0, 0]) ∧
        t.get Sys2Proof.Machine.Obj.timeTrigger = (if code = Sys2Proof.Machine.Abort.ok then Sys2Proof.Machine.timeBytes sec ns
          else s.get Sys2Proof.Machine.Obj.timeTrigger) ∧
        (State.withAnswer s.begin t).Logged t [Sys2Proof.Machine.Obj.timeTrigger]) ∧
    (Sys2Proof.Machine.ofTime80 (s.get Sys2Proof.Machine.Obj.timeTrigger) = 0 →
      ∃ t, Sys2Proof.Machine.exec .timeTriggerMatch s = .next t ∧ s.begin.Logged t []) ∧
    (∀ ns, Sys2Proof.Machine.ofTime80 (s.get Sys2Proof.Machine.Obj.timeTrigger) = ns → ns ≠ 0 → s.mayArmed = false →
      ∃ t, Sys2Proof.Machine.exec .timeTriggerMatch s = .next t ∧ t.time.ticks ≤ max s.time.ticks (s.tickOfNs ns) ∧
        t.get Sys2Proof.Machine.Obj.timeTrigger = Sys2Proof.Machine.time80 (if s.u Sys2Proof.Machine.Obj.timeTrigPeriod = 0 then 0
          else ns + s.u Sys2Proof.Machine.Obj.timeTrigPeriod) ∧
        ((s.u Sys2Proof.Machine.Obj.causeEnable).testBit 11 = true →
          t.get Sys2Proof.Machine.Obj.missedByCause = Sys2Proof.Machine.patch 44
            (Sys2Proof.Machine.leBytes 4 (s.word Sys2Proof.Machine.Obj.missedByCause 4 44 + 1)) (s.get Sys2Proof.Machine.Obj.missedByCause) ∧
          t.get Sys2Proof.Machine.Obj.missedByReason = Sys2Proof.Machine.patch 16
            (Sys2Proof.Machine.leBytes 4 (s.word Sys2Proof.Machine.Obj.missedByReason 4 16 + 1)) (s.get Sys2Proof.Machine.Obj.missedByReason)) ∧
        ((s.u Sys2Proof.Machine.Obj.causeEnable).testBit 11 = false →
          State.Logged { s.begin with time := t.time } t [Sys2Proof.Machine.Obj.timeTrigger]) ∧
        State.Logged { s.begin with time := t.time } t [Sys2Proof.Machine.Obj.timeTrigger, Sys2Proof.Machine.Obj.missedByCause,
          Sys2Proof.Machine.Obj.missedByReason]) ∧
    (∀ e : Fin 16, e.val < s.may.engines.length →
      ((s.engine e.val).capture = none → ∃ t, Sys2Proof.Machine.exec (.segmentClose e) s = .next t ∧ s.begin.Logged t []) ∧
      (∀ cap : Sys2Proof.Machine.Capture, (s.engine e.val).capture = some cap →
        ∃ t, Sys2Proof.Machine.exec (.segmentClose e) s = .next t ∧
          t.time.ticks ≤ max s.time.ticks ((cap.info.instant + cap.window) / 320) ∧
          t.engine e.val = { s.engine e.val with capture := none, closedAt := some (cap.info.instant + cap.window) } ∧
          (∀ d, d ≠ e.val → t.engine d = s.engine d) ∧
          (s.may.ring.length < s.ringCap → ∃ g, t.may.ring = s.may.ring ++ [g] ∧ g.number = t.u Sys2Proof.Machine.Obj.segmentCount ∧
            g.mask = cap.info.mask ∧ g.stampNs = cap.info.ns ∧ g.streamWaits = (s.u Sys2Proof.Machine.Obj.drainMask).testBit 0 ∧
            g.recWaits = (s.u Sys2Proof.Machine.Obj.drainMask).testBit 1 ∧ g.offered = false ∧ t.may.missed = false ∧
            t.shows Sys2Proof.Machine.Obj.segmentCount (s.u Sys2Proof.Machine.Obj.segmentCount + 1)) ∧
          (s.ringCap ≤ s.may.ring.length → t.may.ring = s.may.ring ∧ t.may.missed = true ∧
            t.may.lossForRec = s.may.lossForRec + 1 ∧
            t.get Sys2Proof.Machine.Obj.missedByReason = Sys2Proof.Machine.patch 0
              (Sys2Proof.Machine.leBytes 4 (s.word Sys2Proof.Machine.Obj.missedByReason 4 0 + 1)) (s.get Sys2Proof.Machine.Obj.missedByReason)) ∧
          t.dev = s.dev ∧ t.fire = s.fire ∧ t.array = { s.array with rolesDirty := t.array.rolesDirty } ∧ t.scan = s.scan) ∧
      ((s.engine e.val).closedAt = none → ∃ t, Sys2Proof.Machine.exec (.engineRearm e) s = .next t ∧ s.begin.Logged t []) ∧
      (∀ a : Sys2Proof.Stamp, (s.engine e.val).closedAt = some a →
        ∃ t, Sys2Proof.Machine.exec (.engineRearm e) s = .next t ∧
          t.engine e.val = { s.engine e.val with closedAt := none, deadTime := (max a (min s.nowStamp (a + 12000)) - a) / 80 } ∧
          (∀ d, d ≠ e.val → t.engine d = s.engine d) ∧
          State.Logged { s.begin with may := { s.may with engines := t.may.engines } } t [])) ∧
    ((∀ g ∈ s.may.ring, g.streamWaits = false ∨ g.offered = true) →
      ∃ t, Sys2Proof.Machine.exec .segmentDrainOffer s = .next t ∧ s.begin.Logged t []) ∧
    (∀ g : Sys2Proof.Machine.Segment, s.may.ring.find? (fun g => g.streamWaits && !g.offered) = some g →
      ((s.stream 5).enabled = false → ∃ t, Sys2Proof.Machine.exec .segmentDrainOffer s = .next t ∧
        t.may.ring = (s.may.ring.map (fun x => if x.number = g.number then { x with offered := true, streamWaits := false } else x)).filter
          (fun x => x.streamWaits || x.recWaits) ∧
        State.Logged { s.begin with may := { s.may with ring := t.may.ring } } t []) ∧
      (∀ p, (s.stream 5).enabled = true → p = s.queuePort (s.stream 5).carrier → s.canCarry 5 = true →
        (s.mayOffer p 4 (20 + (g.header ++ g.payload).length) = false →
          ∃ t, Sys2Proof.Machine.exec .segmentDrainOffer s = .next t ∧ s.begin.Logged t []) ∧
        (s.mayOffer p 4 (20 + (g.header ++ g.payload).length) = true → p < s.merge.ports.length → 5 < s.merge.streams.length →
          s.word Sys2Proof.Machine.Obj.launchDelay 4 8 = 0 →
          (∀ a, (s.stream 5).anchors.head? = some a → Sys2Proof.Machine.natDist g.stampNs a.2 ≤ 2147483647) →
          ∃ (t : Sys2Proof.Machine.State) (q : Sys2Proof.Machine.Queued), Sys2Proof.Machine.exec .segmentDrainOffer s = .next t ∧
            (t.port p).queue = (s.port p).queue ++ [q] ∧ q.stream = 5 ∧ q.cls = 4 ∧ q.seq = (s.stream 5).nextSeq ∧
            q.ordinal = s.merge.ordinal % 2 ^ 48 ∧ q.stamp = g.stampNs ∧ q.tag = g.number ∧ q.bytes.drop 20 = g.header ++ g.payload ∧
            t.merge.ordinal = (s.merge.ordinal + 1) % 2 ^ 48 ∧ (t.stream 5).nextSeq = ((s.stream 5).nextSeq + 1) % 4294967296 ∧
            t.may = { s.may with ring := s.may.ring.map (fun x => if x.number = g.number then { x with offered := true } else x) } ∧
            t.dev = s.dev ∧ t.fire = s.fire ∧ t.time = s.time)))

/-- Requests for calibration runs of regions (R266). -/
def Obligations.CalRequests : Prop :=
  ∀ (s : Sys2Proof.Machine.State) (h : Sys2Proof.ReqHdr) (mask : BitVec 16) (c : Sys2Proof.Machine.Caller), s.ready →
    s.takes h 0x2600 0x09 0x03 (Sys2Proof.Machine.bitBytes 2 mask) c →
    ((∃ r, r < 16 ∧ mask.toNat.testBit r = true ∧ s.variant.regions ≤ r) →
      ∃ t, Sys2Proof.Machine.exec (.calRequest h mask) s = .next t ∧
        t.answered (s.answerFor h Sys2Proof.Machine.opWrite 0x0701 [0, 0]) ∧ (State.withAnswer s.begin t).Logged t []) ∧
    ((∀ r, r < 16 → mask.toNat.testBit r = true → r < s.variant.regions) →
      (¬ (s.dev.state = .scan ∨ s.dev.state = .hold ∨ s.dev.state = .standby) →
        ∃ t, Sys2Proof.Machine.exec (.calRequest h mask) s = .next t ∧
          t.answered (s.answerFor h Sys2Proof.Machine.opWrite 0x0402 [0, 0]) ∧ (State.withAnswer s.begin t).Logged t []) ∧
      (s.dev.state = .scan ∨ s.dev.state = .hold ∨ s.dev.state = .standby →
        ∃ t, Sys2Proof.Machine.exec (.calRequest h mask) s = .next t ∧
          t.answered (s.answerFor h Sys2Proof.Machine.opWrite Sys2Proof.Machine.Abort.ok [0, 0]) ∧
          (∀ r, r < 16 → (t.u Sys2Proof.Machine.Obj.regionDue).testBit r =
            ((s.u Sys2Proof.Machine.Obj.regionDue).testBit r || (mask.toNat.testBit r && !s.regionRunning r))) ∧
          ((∀ r, r < 16 → mask.toNat.testBit r = true → s.regionDueBit r = true ∨ s.regionRunning r = true) →
            (State.withAnswer s.begin t).Logged t []) ∧
          (State.withAnswer { s.begin with cal := { s.cal with gap := t.cal.gap } } t).Logged t [Sys2Proof.Machine.Obj.regionDue]))

/-- The runs of regions, paths and inputs (R267 to R275). -/
def Obligations.CalibrationRuns : Prop :=
  ∀ s : Sys2Proof.Machine.State, s.ready →
    (∀ r : Sys2Proof.RegionNo,
      (s.regionDueBit r.val = false ∨ s.regionRunning r.val = true ∨ s.calProceeds r.val = false →
        ∃ t, Sys2Proof.Machine.exec (.regionRunStart r) s = .next t ∧ s.begin.Logged t []) ∧
      (s.regionDueBit r.val = true → s.regionRunning r.val = false → s.calProceeds r.val = true →
        ∃ t, Sys2Proof.Machine.exec (.regionRunStart r) s = .next t ∧
          t.cal.started = Sys2Proof.Machine.tabPut s.cal.started r.val (s.nowNs, s.reading r.val) ∧
          (∀ k, k / 4 = r.val → Sys2Proof.Machine.tabGet t.cal.todo k [] = s.clusterPaths k) ∧
          (∀ k, k / 4 ≠ r.val → Sys2Proof.Machine.tabGet t.cal.todo k [] = Sys2Proof.Machine.tabGet s.cal.todo k []) ∧
          t.shows Sys2Proof.Machine.Obj.regionRunning
            (Sys2Proof.Machine.setBit (s.u Sys2Proof.Machine.Obj.regionRunning) r.val true) ∧
          State.Logged { s.begin with cal := { s.cal with todo := t.cal.todo, started := t.cal.started } } t
            [Sys2Proof.Machine.Obj.regionRunning])) ∧
    (∀ (p : Sys2Proof.CalPath) (counts : List Nat) (k : Nat), k = Sys2Proof.Machine.calKey p →
      (s.calRun k = none → k < 1088 ∨ (s.cal.fullRun = false ∧ (s.u Sys2Proof.Machine.Obj.inputCalDue).testBit (k - 1088) = false) →
        ∃ t, Sys2Proof.Machine.exec (.calPassComplete p counts) s = .next t ∧ s.begin.Logged t []) ∧
      (∀ x : Sys2Proof.Machine.CalRun, s.calRun k = some x ∨ (s.calRun k = none ∧ x = s.newRun k true ∧ 1088 ≤ k ∧
          (s.cal.fullRun = true ∨ (s.u Sys2Proof.Machine.Obj.inputCalDue).testBit (k - 1088) = true)) →
        (Sys2Proof.Machine.sumNat counts ≠ s.u Sys2Proof.Machine.Obj.calConversions →
          ∃ t, Sys2Proof.Machine.exec (.calPassComplete p counts) s = .next t ∧ s.begin.Logged t []) ∧
        (∀ tab : List Nat × Nat, Sys2Proof.Machine.sumNat counts = s.u Sys2Proof.Machine.Obj.calConversions →
          tab = Sys2Proof.Machine.tapsOf counts (s.u Sys2Proof.Machine.Obj.calConversions) →
          (Sys2Proof.Machine.passFails counts tab.2 = false → x.first = none →
            ∃ t, Sys2Proof.Machine.exec (.calPassComplete p counts) s = .next t ∧
              t.calRun k = some { x with first := some tab, began := s.nowNs } ∧
              State.Logged { s.begin with cal := { s.cal with runs := t.cal.runs } } t []) ∧
          (∀ one : List Nat × Nat, Sys2Proof.Machine.passFails counts tab.2 = false → x.first = some one → s.passesAgree one tab = true →
            s.cal.fullRun = false →
            ∃ t, Sys2Proof.Machine.exec (.calPassComplete p counts) s = .next t ∧ t.calRun k = none ∧
              t.cal.results = s.cal.results ++ [⟨k, .run ((List.zip one.1 tab.1).map (fun e => (e.1 + e.2 + 1) / 2))
                ((one.2 + tab.2 + 1) / 2) s.time.native x.temp⟩] ∧ 1 ∈ t.cal.wanted ∧
              t.shows Sys2Proof.Machine.Obj.calPassCount (s.u Sys2Proof.Machine.Obj.calPassCount + 1) ∧
              State.Logged { s.begin with cal := { s.cal with runs := t.cal.runs, results := t.cal.results } } t
                [Sys2Proof.Machine.Obj.calPassCount]) ∧
          (Sys2Proof.Machine.passFails counts tab.2 = true ∨ (∃ one, x.first = some one ∧ s.passesAgree one tab = false) →
            ∃ t, Sys2Proof.Machine.exec (.calPassComplete p counts) s = .next t ∧
              t.shows Sys2Proof.Machine.Obj.calFailTotal (s.u Sys2Proof.Machine.Obj.calFailTotal + 1) ∧
              (1088 ≤ k → t.calRun k = some ⟨none, s.logicTemp, s.nowNs, x.deferred⟩ ∧
                State.Logged { s.begin with cal := { s.cal with runs := t.cal.runs } } t [Sys2Proof.Machine.Obj.calFailTotal]) ∧
              (k < 1088 → (s.path k).fails < 2 →
                t.path k = { s.path k with suspect := true, fails := (s.path k).fails + 1 } ∧ 5 ∈ t.cal.wanted ∧
                t.calRun k = some ⟨none, s.reading (Sys2Proof.Machine.regionOf k), s.nowNs, x.deferred⟩ ∧
                State.Logged { s.begin with array := { s.array with paths := t.array.paths }, cal := { s.cal with runs := t.cal.runs } } t
                  [Sys2Proof.Machine.Obj.calFailTotal]) ∧
              (1024 ≤ k → k < 1088 → 2 ≤ (s.path k).fails → s.cal.fullRun = false →
                (t.path k).role = 0xB ∧ (t.path k).fault = 3 ∧ (t.path k).suspect = true ∧ (t.path k).fails = 3 ∧
                s.tells t 0x0203 k 3 k)))) ∧
      ((∀ x, s.calRun k = some x → x.deferred = false) →
        ∃ t, Sys2Proof.Machine.exec (.calDeferTimeout p) s = .next t ∧ s.begin.Logged t []) ∧
      (∀ x : Sys2Proof.Machine.CalRun, s.calRun k = some x → x.deferred = true →
        ∃ t, Sys2Proof.Machine.exec (.calDeferTimeout p) s = .next t ∧
          t.time.ticks ≤ max s.time.ticks (s.tickOfNs (x.began + 1000000 * s.u Sys2Proof.Machine.Obj.calDeferMax)) ∧
          t.calRun k = some { x with began := t.nowNs } ∧
          State.Logged { s.begin with time := t.time, cal := { s.cal with runs := t.cal.runs } } t [])) ∧
    (∀ k : Sys2Proof.ClusterNo,
      ((s.cluster k.val).served = none ∨ s.dev.state.hasColumns = true ∨ (s.path (1024 + k.val)).role ≠ 0x9 →
        ∃ t, Sys2Proof.Machine.exec (.standinAbandonReturn k) s = .next t ∧ s.begin.Logged t []) ∧
      (∀ ch, (s.cluster k.val).served = some ch → ch < 1024 → s.dev.state.hasColumns = false → (s.path (1024 + k.val)).role = 0x9 →
        ∃ t, Sys2Proof.Machine.exec (.standinAbandonReturn k) s = .next t ∧
          (t.path ch).role = 0x0 ∧ (t.path (1024 + k.val)).role = 0x8 ∧ (t.cluster k.val).served = none ∧
          (t.cluster k.val).settling = false ∧ t.calRun ch = none ∧ (∀ r ∈ t.cal.results, r.path ≠ ch) ∧
          State.Logged { s.begin with array := { s.array with paths := t.array.paths, clusters := t.array.clusters },
                                      cal := { s.cal with runs := t.cal.runs, results := t.cal.results } } t [])) ∧
    (∃ t, Sys2Proof.Machine.exec .inputCalInterval s = .next t ∧
      (s.cal.inputAt ≠ [] → ∀ n, n < 9 → (t.u Sys2Proof.Machine.Obj.inputCalDue).testBit n =
        ((s.u Sys2Proof.Machine.Obj.inputCalDue).testBit n ||
          (match s.cal.inputAt[n]? with
           | some a => decide (a + s.u Sys2Proof.Machine.Obj.calInputInterval * 1000000000 ≤ t.nowNs)
           | none => false))) ∧
      State.Logged { s.begin with time := t.time } t [Sys2Proof.Machine.Obj.inputCalDue])

/-- The writing of calibration banks (R276 to R281). -/
def Obligations.CalibrationBanks : Prop :=
  ∀ s : Sys2Proof.Machine.State, s.ready →
    (s.dev.state ≠ .calibrate ∨ s.fullCalReady = false →
      ∃ t, Sys2Proof.Machine.exec .fullCalDone s = .next t ∧ s.begin.Logged t []) ∧
    (s.dev.state = .calibrate → s.fullCalReady = true →
      (s.mramRefusal = Sys2Proof.Machine.Abort.ok →
        ∃ t b, Sys2Proof.Machine.exec .fullCalDone s = .next t ∧ t.dev.state = .idle ∧ t.cal.fullRun = false ∧
          b.generation = s.u Sys2Proof.Machine.Obj.activeGeneration + 1 ∧ b.cause = 2 ∧
          (s.u Sys2Proof.Machine.Obj.activeBank = 1 → t.cal.slotB = some b ∧ t.cal.slotA = s.cal.slotA ∧
            t.shows Sys2Proof.Machine.Obj.activeBank 2) ∧
          (s.u Sys2Proof.Machine.Obj.activeBank ≠ 1 → t.cal.slotA = some b ∧ t.cal.slotB = s.cal.slotB ∧
            t.shows Sys2Proof.Machine.Obj.activeBank 1) ∧
          t.shows Sys2Proof.Machine.Obj.activeGeneration (s.u Sys2Proof.Machine.Obj.activeGeneration + 1) ∧
          t.shows Sys2Proof.Machine.Obj.bankWriteCount (s.u Sys2Proof.Machine.Obj.bankWriteCount + 1) ∧
          t.shows Sys2Proof.Machine.Obj.regionDue 0 ∧ t.shows Sys2Proof.Machine.Obj.inputCalDue 0) ∧
      (s.mramRefusal ≠ Sys2Proof.Machine.Abort.ok →
        ∃ t, Sys2Proof.Machine.exec .fullCalDone s = .next t ∧ t.dev.state = .idle ∧ t.cal.fullRun = false ∧ t.cal.results = [] ∧
          t.cal.slotA = s.cal.slotA ∧ t.cal.slotB = s.cal.slotB ∧
          t.get Sys2Proof.Machine.Obj.activeGeneration = s.get Sys2Proof.Machine.Obj.activeGeneration ∧
          s.tells t 0x0703 0xFFFF 3 s.mramRefusal)) ∧
    (s.cal.wanted = [] ∨ s.cal.writing ≠ none ∨ s.mramRefusal ≠ Sys2Proof.Machine.Abort.ok →
      ∃ t, Sys2Proof.Machine.exec .bankWrite s = .next t ∧ s.begin.Logged t []) ∧
    (∀ (c : Nat) (cs : List Nat), s.cal.wanted = c :: cs → s.cal.writing = none → s.mramRefusal = Sys2Proof.Machine.Abort.ok →
      ∃ t b, Sys2Proof.Machine.exec .bankWrite s = .next t ∧ t.cal.writing = some b ∧ b.cause = c ∧
        b.generation = s.u Sys2Proof.Machine.Obj.activeGeneration + 1 ∧ b.writeNs = s.nowNs ∧ b.regions = s.cal.regions ∧
        (s.cal.results = [] → b.paths = s.array.paths) ∧ t.cal.retried = false ∧ (s.array.rolesDirty = false → t.cal.wanted = []) ∧
        State.Logged { s.begin with cal := { s.cal with writing := t.cal.writing, retried := false } } t []) ∧
    (∀ ok : Bool,
      (s.cal.writing = none ∨ s.fire.pfailN = false →
        ∃ t, Sys2Proof.Machine.exec (.bankWriteDone ok) s = .next t ∧ s.begin.Logged t []) ∧
      (∀ b : Sys2Proof.Machine.CalBank, s.cal.writing = some b → s.fire.pfailN = true →
        (ok = true → ∃ t, Sys2Proof.Machine.exec (.bankWriteDone ok) s = .next t ∧ t.cal.writing = none ∧
          (s.u Sys2Proof.Machine.Obj.activeBank = 1 → t.cal.slotB = some b ∧ t.cal.slotA = s.cal.slotA ∧
            t.shows Sys2Proof.Machine.Obj.activeBank 2) ∧
          (s.u Sys2Proof.Machine.Obj.activeBank ≠ 1 → t.cal.slotA = some b ∧ t.cal.slotB = s.cal.slotB ∧
            t.shows Sys2Proof.Machine.Obj.activeBank 1) ∧
          t.shows Sys2Proof.Machine.Obj.activeGeneration b.generation ∧
          t.shows Sys2Proof.Machine.Obj.bankWriteCount (s.u Sys2Proof.Machine.Obj.bankWriteCount + 1) ∧
          (s.cal.results = [] → State.Logged
            { s.begin with cal := { s.cal with writing := none, retried := false, slotA := t.cal.slotA, slotB := t.cal.slotB } } t
            [Sys2Proof.Machine.Obj.activeBank, Sys2Proof.Machine.Obj.activeGeneration, Sys2Proof.Machine.Obj.bankWriteCount])) ∧
        (ok = false → s.cal.retried = false → ∃ t, Sys2Proof.Machine.exec (.bankWriteDone ok) s = .next t ∧
          State.Logged { s.begin with cal := { s.cal with retried := true } } t []) ∧
        (ok = false → s.cal.retried = true → ∃ t, Sys2Proof.Machine.exec (.bankWriteDone ok) s = .next t ∧
          t.shows Sys2Proof.Machine.Obj.bankWriteFailCount (s.u Sys2Proof.Machine.Obj.bankWriteFailCount + 1) ∧
          s.tells t 0x0701 0xFFFF 3 b.generation ∧
          State.Logged { s.begin with cal := { s.cal with writing := none, retried := false } } t
            [Sys2Proof.Machine.Obj.bankWriteFailCount]))) ∧
    (∀ (h : Sys2Proof.ReqHdr) (c : Sys2Proof.Machine.Caller) (x : Sys2Proof.Machine.Transfer) (data all : Sys2Proof.Bytes),
      s.dev.state = .idle → s.dev.recovery = false → s.begin.purge.transferOf c = some x → x.isWrite = true → x.shadow = false →
      x.obj = Sys2Proof.Machine.Obj.calBankImport → x.nextBlock < 65536 → data ≠ [] → data.length ≤ c.block →
      all = x.data ++ data → x.done = x.data.length → all.length = x.total → x.total = 179936 →
      s.hears h Sys2Proof.Machine.opBlockNext
        (Sys2Proof.Machine.leBytes 2 x.nextBlock ++ Sys2Proof.Machine.leBytes 2 data.length ++ data) c →
      (Sys2Proof.Machine.bankGood all = false ∨ Sys2Proof.Machine.numAt 40 8 all ≠ Sys2Proof.Config.calDeviceUid.toNat →
        ∃ t, Sys2Proof.Machine.exec (.calBankImport h
              (Sys2Proof.Machine.leBytes 2 x.nextBlock ++ Sys2Proof.Machine.leBytes 2 data.length ++ data)) s = .next t ∧
          t.answered (s.answerFor h Sys2Proof.Machine.opBlockNext 0x0302
            (Sys2Proof.Machine.leBytes 2 x.nextBlock ++ Sys2Proof.Machine.leBytes 2 data.length)) ∧
          (∀ y ∈ t.dtp.transfers, y.owner ≠ c.owner) ∧ (State.withAnswer s.begin t).Logged t []) ∧
      (∀ b : Sys2Proof.Machine.CalBank, Sys2Proof.Machine.bankGood all = true →
        Sys2Proof.Machine.numAt 40 8 all = Sys2Proof.Config.calDeviceUid.toNat → s.mramRefusal = Sys2Proof.Machine.Abort.ok →
        b = { Sys2Proof.Machine.bankRead s.variant all with
                generation := s.u Sys2Proof.Machine.Obj.activeGeneration + 1, cause := 6, writeNs := s.nowNs } →
        ∃ t, Sys2Proof.Machine.exec (.calBankImport h
              (Sys2Proof.Machine.leBytes 2 x.nextBlock ++ Sys2Proof.Machine.leBytes 2 data.length ++ data)) s = .next t ∧
          t.answered (s.answerFor h Sys2Proof.Machine.opBlockNext Sys2Proof.Machine.Abort.ok
            (Sys2Proof.Machine.leBytes 2 x.nextBlock ++ Sys2Proof.Machine.leBytes 2 data.length)) ∧
          (∀ y ∈ t.dtp.transfers, y.owner ≠ c.owner) ∧
          (s.u Sys2Proof.Machine.Obj.activeBank = 1 → t.cal.slotB = some b ∧ t.cal.slotA = s.cal.slotA) ∧
          (s.u Sys2Proof.Machine.Obj.activeBank ≠ 1 → t.cal.slotA = some b ∧ t.cal.slotB = s.cal.slotB) ∧
          t.shows Sys2Proof.Machine.Obj.activeGeneration (s.u Sys2Proof.Machine.Obj.activeGeneration + 1) ∧
          t.shows Sys2Proof.Machine.Obj.bankWriteCount (s.u Sys2Proof.Machine.Obj.bankWriteCount + 1) ∧
          t.cal.regions = b.regions ∧ (∀ p, t.path p = Sys2Proof.Machine.tabGet b.paths p (Sys2Proof.Machine.PathRec.rest p)) ∧
          t.dev = s.dev ∧ t.fire = s.fire ∧ t.scan = s.scan ∧ t.therm = s.therm))

/-- Zero-range runs and their offsets (R282, R283). -/
def Obligations.ZeroOffsets : Prop :=
  ∀ s : Sys2Proof.Machine.State, s.ready →
    (∀ (h : Sys2Proof.ReqHdr) (c : Sys2Proof.Machine.Caller) (v : Sys2Proof.Byte), s.takes h 0x2600 0x22 0x02 [v] c →
      (v.toNat = 0 → s.cal.zeroMode = 0 → ∃ t, Sys2Proof.Machine.exec (.zeroRun h v) s = .next t ∧
        t.answered (s.answerFor h Sys2Proof.Machine.opWrite Sys2Proof.Machine.Abort.ok [0, 0]) ∧ (State.withAnswer s.begin t).Logged t []) ∧
      (v.toNat = 0 → s.cal.zeroMode ≠ 0 → ∃ t, Sys2Proof.Machine.exec (.zeroRun h v) s = .next t ∧
        t.answered (s.answerFor h Sys2Proof.Machine.opWrite Sys2Proof.Machine.Abort.ok [0, 0]) ∧
        t.shows Sys2Proof.Machine.Obj.zeroStatus 3 ∧
        (s.cal.zeroMode = 2 → ∀ k ch, k < 4 * s.variant.regions → (s.cluster k).served = some ch → (s.path (1024 + k)).role = 0x9 →
          .endStandin ch ∈ (t.cluster k).causes) ∧
        (∀ k, (s.cal.zeroMode ≠ 2 → t.cluster k = s.cluster k) ∧
          t.cluster k = { s.cluster k with causes := (t.cluster k).causes } ∧ ∀ x ∈ (s.cluster k).causes, x ∈ (t.cluster k).causes) ∧
        (State.withAnswer
          { s.begin with cal := { s.cal with zeroMode := 0, zeroAcc := [], zeroColumns := 0, zeroPos := 0 },
                         array := { s.array with clusters := t.array.clusters } } t).Logged t [Sys2Proof.Machine.Obj.zeroStatus]) ∧
      (v.toNat ≠ 0 → s.dev.state ≠ .scan ∨ s.cal.zeroMode ≠ 0 → ∃ t, Sys2Proof.Machine.exec (.zeroRun h v) s = .next t ∧
        t.answered (s.answerFor h Sys2Proof.Machine.opWrite 0x0402 [0, 0]) ∧ (State.withAnswer s.begin t).Logged t []) ∧
      (v.toNat ≠ 0 → s.dev.state = .scan → s.cal.zeroMode = 0 → ∃ t, Sys2Proof.Machine.exec (.zeroRun h v) s = .next t ∧
        t.answered (s.answerFor h Sys2Proof.Machine.opWrite Sys2Proof.Machine.Abort.ok [0, 0]) ∧
        t.shows Sys2Proof.Machine.Obj.zeroStatus 1 ∧
        t.get Sys2Proof.Machine.Obj.zeroResult = List.replicate 16384 0 ∧
        (v.toNat = 2 → ∀ k, k < 4 * s.variant.regions → (s.path (16 * k)).role = 0x0 →
          (s.path (1024 + k)).role = 0x8 ∨ (s.path (1024 + k)).role = 0x9 → .beginStandin (16 * k) ∈ (t.cluster k).causes) ∧
        (∀ k, (v.toNat ≠ 2 → t.cluster k = s.cluster k) ∧
          t.cluster k = { s.cluster k with causes := (t.cluster k).causes } ∧ ∀ x ∈ (s.cluster k).causes, x ∈ (t.cluster k).causes) ∧
        (State.withAnswer
          { s.begin with cal := { s.cal with zeroMode := v.toNat, zeroAcc := [], zeroColumns := 0, zeroPos := 0 },
                         array := { s.array with clusters := t.array.clusters } } t).Logged t
          [Sys2Proof.Machine.Obj.zeroStatus, Sys2Proof.Machine.Obj.zeroResult])) ∧
    (s.cal.zeroMode = 0 ∨ s.cal.zeroColumns < s.u Sys2Proof.Machine.Obj.zeroColumns →
      ∃ t, Sys2Proof.Machine.exec .zeroRunDone s = .next t ∧ s.begin.Logged t []) ∧
    (s.cal.zeroMode ≠ 0 → s.u Sys2Proof.Machine.Obj.zeroColumns ≤ s.cal.zeroColumns →
      ∃ t, Sys2Proof.Machine.exec .zeroRunDone s = .next t ∧
        t.get Sys2Proof.Machine.Obj.zeroResult = s.cal.zeroAcc.foldl (fun bs e =>
          Sys2Proof.Machine.patch (8 * e.1) (s.zeroRecord e.1 e.2) bs) (s.get Sys2Proof.Machine.Obj.zeroResult) ∧
        (s.cal.zeroMode = 1 → ∀ k, t.cluster k = s.cluster k) ∧
        (∀ k, t.cluster k = { s.cluster k with causes := (t.cluster k).causes } ∧
          ∀ x ∈ (s.cluster k).causes, x ∈ (t.cluster k).causes) ∧
        (s.cal.zeroMode = 1 ∨ 15 ≤ s.cal.zeroPos →
          t.shows Sys2Proof.Machine.Obj.zeroStatus 2 ∧
          State.Logged
            { s.begin with cal := { s.cal with zeroMode := 0, zeroAcc := [], zeroColumns := 0, zeroPos := 0 },
                           array := { s.array with clusters := t.array.clusters } } t
            [Sys2Proof.Machine.Obj.zeroStatus, Sys2Proof.Machine.Obj.zeroResult]) ∧
        (s.cal.zeroMode ≠ 1 → ∀ k ch, k < 4 * s.variant.regions → (s.cluster k).served = some ch → (s.path (1024 + k)).role = 0x9 →
          .endStandin ch ∈ (t.cluster k).causes) ∧
        (s.cal.zeroMode ≠ 1 → s.cal.zeroPos < 15 →
          (∀ k, k < 4 * s.variant.regions → (s.path (16 * k + (s.cal.zeroPos + 1))).role = 0x0 →
            (s.path (1024 + k)).role = 0x8 ∨ (s.path (1024 + k)).role = 0x9 →
            .beginStandin (16 * k + (s.cal.zeroPos + 1)) ∈ (t.cluster k).causes) ∧
          State.Logged
            { s.begin with cal := { s.cal with zeroAcc := [], zeroColumns := 0, zeroPos := s.cal.zeroPos + 1 },
                           array := { s.array with clusters := t.array.clusters } } t
            [Sys2Proof.Machine.Obj.zeroResult])) ∧
    (∀ (h : Sys2Proof.ReqHdr) (c : Sys2Proof.Machine.Caller) (v : Sys2Proof.Byte), s.takes h 0x2600 0x25 0x02 [v] c →
      (v.toNat ≠ 1 → ∃ t, Sys2Proof.Machine.exec (.zeroApply h v) s = .next t ∧
        t.answered (s.answerFor h Sys2Proof.Machine.opWrite 0x0301 [0, 0]) ∧ (State.withAnswer s.begin t).Logged t []) ∧
      (v.toNat = 1 → s.dev.state ≠ .idle ∨ s.u Sys2Proof.Machine.Obj.zeroStatus ≠ 2 →
        ∃ t, Sys2Proof.Machine.exec (.zeroApply h v) s = .next t ∧
          t.answered (s.answerFor h Sys2Proof.Machine.opWrite 0x0402 [0, 0]) ∧ (State.withAnswer s.begin t).Logged t []) ∧
      (v.toNat = 1 → s.dev.state = .idle → s.u Sys2Proof.Machine.Obj.zeroStatus = 2 →
        (s.mramRefusal ≠ Sys2Proof.Machine.Abort.ok → ∃ t, Sys2Proof.Machine.exec (.zeroApply h v) s = .next t ∧
          t.answered (s.answerFor h Sys2Proof.Machine.opWrite s.mramRefusal [0, 0]) ∧ (State.withAnswer s.begin t).Logged t []) ∧
        (s.mramRefusal = Sys2Proof.Machine.Abort.ok → ∃ t, Sys2Proof.Machine.exec (.zeroApply h v) s = .next t ∧
          t.answered (s.answerFor h Sys2Proof.Machine.opWrite Sys2Proof.Machine.Abort.ok [0, 0]) ∧ 3 ∈ t.cal.wanted ∧
          (∀ ch, ch < 1024 →
            (s.zeroValid ch = true → (s.path ch).role ≠ 0x2 →
              t.shows (Sys2Proof.Machine.Obj.chZeroOffset ch) (s.word Sys2Proof.Machine.Obj.zeroResult 4 (8 * ch))) ∧
            (s.zeroValid ch = false ∨ (s.path ch).role = 0x2 →
              t.get (Sys2Proof.Machine.Obj.chZeroOffset ch) = s.get (Sys2Proof.Machine.Obj.chZeroOffset ch)) ∧
            (s.zeroValid (1024 + ch) = true → t.word (Sys2Proof.Machine.Obj.chSubstOffset (1024 + ch / 16)) 4 (4 * (ch % 16)) =
              s.word Sys2Proof.Machine.Obj.zeroResult 4 (8 * (1024 + ch))) ∧
            (s.zeroValid (1024 + ch) = false → s.zeroValid ch = true → (s.path ch).role = 0x2 →
              t.word (Sys2Proof.Machine.Obj.chSubstOffset (1024 + ch / 16)) 4 (4 * (ch % 16)) =
                s.word Sys2Proof.Machine.Obj.zeroResult 4 (8 * ch))) ∧
          (State.withAnswer s.begin t).Logged t
            ((List.range 1024).map Sys2Proof.Machine.Obj.chZeroOffset ++
              (List.range 64).map (fun k => Sys2Proof.Machine.Obj.chSubstOffset (1024 + k))))))

/-- Temperature readings and demands (R285 to R301). -/
def Obligations.Temperatures : Prop :=
  ∀ s : Sys2Proof.Machine.State, s.ready → s.therm.sensors.length = 23 → s.therm.throttles.length = 17 → s.sense.convs.length = 4 →
    (∀ (k : Sys2Proof.SensorNo) (x : Sys2Proof.Reading) (asked : Bool),
      asked = ((s.conv (Sys2Proof.Machine.sensorConv k.val)).serves.map (·.2) == some (Sys2Proof.Machine.sensorSource k.val)) →
      ((match x with
        | .i2c _ _ => k.val ≠ 22 ∨ s.sensorFitted 22 = false
        | .diode _ _ => 20 ≤ k.val ∨ asked = false
        | .therm _ _ => k.val < 20 ∨ 21 < k.val ∨ asked = false) →
        ∃ t, Sys2Proof.Machine.exec (.tempReading k x) s = .next t ∧ s.begin.Logged t []) ∧
      (∀ v : Option Int, (match x with
          | .i2c w ack => k.val = 22 ∧ s.sensorFitted 22 = true ∧ v = (if ack then some (Sys2Proof.Machine.roundDivInt
              (Sys2Proof.Machine.signedOf 16 w.toNat * s.word Sys2Proof.Machine.Obj.i2cConfig 4 4) 10000) else none)
          | .diode d ovr => k.val < 20 ∧ asked = true ∧ v = (if ovr = false ∧ -5500 ≤ Sys2Proof.Machine.signedOf 16 d.toNat ∧
              Sys2Proof.Machine.signedOf 16 d.toNat ≤ 15000 then some (Sys2Proof.Machine.signedOf 16 d.toNat) else none)
          | .therm code ovr => 20 ≤ k.val ∧ k.val < 22 ∧ asked = true ∧ v = (if ovr then none else s.thermRead code.toNat)) →
        ∃ t, Sys2Proof.Machine.exec (.tempReading k x) s = .next t ∧
          (k.val ≠ 22 → ∀ e, (s.conv (Sys2Proof.Machine.sensorConv k.val)).serves = some e →
            (t.conv (Sys2Proof.Machine.sensorConv k.val)).queue = (s.conv (Sys2Proof.Machine.sensorConv k.val)).queue.erase e) ∧
          (v = none → s.SensorFails t k.val) ∧
          (∀ c, v = some c → t.readsAs k.val c ∧ (t.sensor k.val).failed = false ∧ (t.sensor k.val).validAt = some s.time.ticks ∧
            (t.sensor k.val).validRun = (s.sensor k.val).validRun + 1 ∧ (t.u Sys2Proof.Machine.Obj.sensorFailed).testBit k.val = false ∧
            (∀ j, j ≠ k.val → t.sensor j = s.sensor j) ∧
            (k.val < 16 → t.bandOf k.val = (if (s.sensor k.val).validAt = none then Sys2Proof.Machine.bandPlain c
                else Sys2Proof.Machine.bandMove (s.bandOf k.val) c) ∧
              t.step' k.val = (if s.i Sys2Proof.Machine.Obj.throttleTemp ≤ c ∧ s.step' k.val = 0 then 1 else s.step' k.val)) ∧
            (k.val < 18 → s.i Sys2Proof.Machine.Obj.tjSafe < c → t.therm.step4 = true ∧
              (s.therm.step4 = false → s.tells t 0x0604 k.val 4 (Sys2Proof.Machine.twosOf 64 c)))) ∧
          (∀ j, j < 32 → j ≠ k.val →
            (t.u Sys2Proof.Machine.Obj.sensorFailed).testBit j = (s.u Sys2Proof.Machine.Obj.sensorFailed).testBit j) ∧
          (t.therm.step4 = s.therm.step4 →
            (k.val < 16 ∨ 18 ≤ k.val) → (k.val < 20 ∨ k.val = 22) → State.Logged
              { s.begin with therm := { t.therm with hostDemand := s.therm.hostDemand, calDemand := s.therm.calDemand,
                                                     nextSched := s.therm.nextSched, releasedAt := s.therm.releasedAt,
                                                     logicBand := s.therm.logicBand, thRange := s.therm.thRange },
                             sense := { s.sense with convs := t.sense.convs, counts := t.sense.counts }, fresh := t.fresh,
                             cal := { s.cal with gap := t.cal.gap, queued := t.cal.queued } } t
              [Sys2Proof.Machine.Obj.regionTemp, Sys2Proof.Machine.Obj.packageTemp, Sys2Proof.Machine.Obj.i2cTemp,
               Sys2Proof.Machine.Obj.regionBand, Sys2Proof.Machine.Obj.regionRate, Sys2Proof.Machine.Obj.regionDue,
               Sys2Proof.Machine.Obj.throttleStep, Sys2Proof.Machine.Obj.throttleNow, Sys2Proof.Machine.Obj.sensorFailed,
               Sys2Proof.Machine.Obj.sensorFailCount, Sys2Proof.Machine.Obj.lastResults, Sys2Proof.Machine.Obj.ovrCount,
               Sys2Proof.Machine.Obj.discardCount]) ∧
          (t.therm.step4 = s.therm.step4 → 16 ≤ k.val → k.val < 18 → State.Logged
              { s.begin with therm := { s.therm with sensors := t.therm.sensors, logicBand := t.therm.logicBand,
                                                     coldHold := t.therm.coldHold, step4Cool := t.therm.step4Cool },
                             sense := { s.sense with convs := t.sense.convs, counts := t.sense.counts }, fresh := t.fresh,
                             cal := { s.cal with runs := t.cal.runs, results := t.cal.results },
                             array := { s.array with clusters := t.array.clusters } } t
              [Sys2Proof.Machine.Obj.logicTemp, Sys2Proof.Machine.Obj.mramWriteAllowed, Sys2Proof.Machine.Obj.inputCalDue,
               Sys2Proof.Machine.Obj.sensorFailed, Sys2Proof.Machine.Obj.sensorFailCount, Sys2Proof.Machine.Obj.lastResults,
               Sys2Proof.Machine.Obj.ovrCount, Sys2Proof.Machine.Obj.discardCount]) ∧
          (20 ≤ k.val → k.val < 22 → -4000 ≤ t.tEb → t.tEb ≤ 9500 → State.Logged
              { s.begin with therm := { s.therm with sensors := t.therm.sensors, thRange := t.therm.thRange, boardKept := t.therm.boardKept,
                                                     throttles := t.therm.throttles, inForce := t.therm.inForce },
                             sense := { s.sense with convs := t.sense.convs, counts := t.sense.counts },
                             fire := { s.fire with inhibit := Sys2Proof.Machine.setBit s.fire.inhibit Sys2Proof.Machine.inhBoardTemp false },
                             ev := { s.begin.ev with fatal := s.ev.fatal.filter (· != 0x0304) } } t
              [Sys2Proof.Machine.Obj.thermTemp, Sys2Proof.Machine.Obj.boardTemp, Sys2Proof.Machine.Obj.boardRate,
               Sys2Proof.Machine.Obj.throttleStep, Sys2Proof.Machine.Obj.throttleNow, Sys2Proof.Machine.Obj.sensorFailed,
               Sys2Proof.Machine.Obj.sensorFailCount, Sys2Proof.Machine.Obj.lastResults, Sys2Proof.Machine.Obj.ovrCount,
               Sys2Proof.Machine.Obj.discardCount])) ∧
      (s.sensorFitted k.val = false ∨ s.dev.booted = false →
        ∃ t, Sys2Proof.Machine.exec (.sensorStale k) s = .next t ∧ s.begin.Logged t []) ∧
      (s.sensorFitted k.val = true → s.dev.booted = true →
        ∃ t, Sys2Proof.Machine.exec (.sensorStale k) s = .next t ∧ s.SensorFails t k.val ∧
          t.time.ticks ≤ max s.time.ticks ((s.sensor k.val).validAt.getD s.dev.bootTick +
            Sys2Proof.Machine.msTicks (s.u Sys2Proof.Machine.Obj.staleLimit) + 1))) ∧
    (s.dev.booted = false ∨ s.dev.state = .scan ∨ s.dev.state = .standby →
      ∃ t, Sys2Proof.Machine.exec .housekeepDemand s = .next t ∧ s.begin.Logged t []) ∧
    (s.dev.booted = true → s.dev.state ≠ .scan → s.dev.state ≠ .standby →
      ∃ t, Sys2Proof.Machine.exec .housekeepDemand s = .next t ∧
        t.time.ticks ≤ max s.time.ticks (s.therm.releasedAt + Sys2Proof.Machine.msTicks (s.u Sys2Proof.Machine.Obj.housekeepPeriod)) ∧
        (∀ d, (t.conv d).queue = (s.conv d).queue ++
          (s.sensorList.filter (fun k => Sys2Proof.Machine.sensorConv k == d && k != 22)).map
            (fun k => (2, Sys2Proof.Machine.sensorSource k))) ∧
        (∀ d, t.conv d = { s.conv d with queue := (t.conv d).queue }) ∧
        State.Logged { s.begin with time := t.time, therm := { s.therm with releasedAt := t.time.ticks },
                                    sense := { s.sense with convs := t.sense.convs } } t []) ∧
    (∀ (h : Sys2Proof.ReqHdr) (c : Sys2Proof.Machine.Caller) (mask : BitVec 32),
      s.takes h 0x2700 0x15 0x04 (Sys2Proof.Machine.bitBytes 4 mask) c →
      ((∃ k, k < 16 ∧ mask.toNat.testBit k = true ∧ s.variant.regions ≤ k) →
        ∃ t, Sys2Proof.Machine.exec (.tempDemand h mask) s = .next t ∧
          t.answered (s.answerFor h Sys2Proof.Machine.opWrite 0x0701 [0, 0]) ∧ (State.withAnswer s.begin t).Logged t []) ∧
      ((∀ k, k < 16 → mask.toNat.testBit k = true → k < s.variant.regions) →
        ∃ t, Sys2Proof.Machine.exec (.tempDemand h mask) s = .next t ∧
          t.answered (s.answerFor h Sys2Proof.Machine.opWrite Sys2Proof.Machine.Abort.ok [0, 0]) ∧
          (s.dev.state = .scan ∨ s.dev.state = .standby →
            (State.withAnswer { s.begin with therm := { s.therm with hostDemand := s.therm.hostDemand ||| mask.toNat } } t).Logged t []) ∧
          (s.dev.state ≠ .scan → s.dev.state ≠ .standby →
            (∀ d, (t.conv d).queue = (s.conv d).queue ++
              ((Sys2Proof.Machine.maskSensors mask.toNat).filter (fun k => Sys2Proof.Machine.sensorConv k == d && k != 22)).map
                (fun k => (1, Sys2Proof.Machine.sensorSource k))) ∧
            (∀ d, t.conv d = { s.conv d with queue := (t.conv d).queue }) ∧
            (State.withAnswer { s.begin with sense := { s.sense with convs := t.sense.convs } } t).Logged t [])))

/-- The throttle's rise and release (R296 to R299). -/
def Obligations.ThrottleSteps : Prop :=
  ∀ s : Sys2Proof.Machine.State, s.ready → s.therm.throttles.length = 17 →
    (∀ (k : Fin 17) (t : Sys2Proof.Machine.State),
      (Sys2Proof.Machine.exec (.throttleDwell k) s = .next t ∨ Sys2Proof.Machine.exec (.throttleRelease k) s = .next t) →
      t.step' k.val ≠ s.step' k.val →
      t.shows Sys2Proof.Machine.Obj.throttleNow
        (if s.therm.step4 then 4 else ((List.range s.variant.regions).map t.stepWanted).foldl max 0) ∧
      (∀ r, r < s.variant.regions → t.stepWanted r ≠ s.stepWanted r →
        State.tells { s with time := t.time } t 0x0603 r 2 (s.stepWanted r + 256 * t.stepWanted r)) ∧
      t.therm.inForce = (if s.dev.state.hasColumns then s.therm.inForce else (List.range 16).map t.stepWanted)) ∧
    (∀ k : Fin 17,
      (k.val < 16 → (s.throttle k.val).hotSince = none → ∃ t, Sys2Proof.Machine.exec (.throttleDwell k) s = .next t ∧ s.begin.Logged t []) ∧
      (k.val = 16 → (s.throttle 16).lastRise = none ∨ s.tEb < s.i Sys2Proof.Machine.Obj.boardThrottleTemp →
        ∃ t, Sys2Proof.Machine.exec (.throttleDwell k) s = .next t ∧ s.begin.Logged t []) ∧
      (∀ from' due : Nat, due = from' + Sys2Proof.Machine.msTicks (s.u Sys2Proof.Machine.Obj.throttleDwell) →
        (k.val < 16 ∧ (s.throttle k.val).hotSince = some from') ∨
          (k.val = 16 ∧ (s.throttle 16).lastRise = some from' ∧ s.i Sys2Proof.Machine.Obj.boardThrottleTemp ≤ s.tEb) →
        ∃ t, Sys2Proof.Machine.exec (.throttleDwell k) s = .next t ∧ t.time.ticks ≤ max s.time.ticks due ∧
          t.step' k.val = (if s.step' k.val < 3 ∧ (k.val = 16 → due ≤ t.time.ticks) then s.step' k.val + 1 else s.step' k.val) ∧
          (k.val < 16 → (t.throttle k.val).hotSince = some due ∧ (t.throttle k.val).lastRise = some t.time.ticks) ∧
          (∀ j, j < 17 → j ≠ k.val → t.throttle j = s.throttle j ∧ t.step' j = s.step' j) ∧
          State.Logged { s.begin with time := t.time, therm := { s.therm with throttles := t.therm.throttles, inForce := t.therm.inForce } } t
            [Sys2Proof.Machine.Obj.throttleStep, Sys2Proof.Machine.Obj.throttleNow]) ∧
      ((s.throttle k.val).coolSince = none → ∃ t, Sys2Proof.Machine.exec (.throttleRelease k) s = .next t ∧ s.begin.Logged t []) ∧
      (∀ from' due : Nat, due = from' + Sys2Proof.Machine.msTicks (s.u Sys2Proof.Machine.Obj.throttleRelease) →
        (s.throttle k.val).coolSince = some from' →
        ∃ t, Sys2Proof.Machine.exec (.throttleRelease k) s = .next t ∧ t.time.ticks ≤ max s.time.ticks due ∧
          t.step' k.val = s.step' k.val - 1 ∧ t.throttle k.val = { s.throttle k.val with coolSince := some due } ∧
          (∀ j, j < 17 → j ≠ k.val → t.throttle j = s.throttle j ∧ t.step' j = s.step' j) ∧
          State.Logged { s.begin with time := t.time, therm := { s.therm with throttles := t.therm.throttles, inForce := t.therm.inForce } } t
            [Sys2Proof.Machine.Obj.throttleStep, Sys2Proof.Machine.Obj.throttleNow])) ∧
    (s.therm.step4Cool = none → ∃ t, Sys2Proof.Machine.exec .tjsafeRelease s = .next t ∧ s.begin.Logged t []) ∧
    (∀ from', s.therm.step4Cool = some from' →
      ∃ t, Sys2Proof.Machine.exec .tjsafeRelease s = .next t ∧
        t.time.ticks ≤ max s.time.ticks (from' + Sys2Proof.Machine.msTicks (s.u Sys2Proof.Machine.Obj.throttleRelease)) ∧
        t.shows Sys2Proof.Machine.Obj.throttleNow (((List.range s.variant.regions).map s.stepWanted).foldl max 0) ∧
        State.Logged { s.begin with time := t.time, therm := { s.therm with step4 := false, step4Cool := none, step4Sensor := none },
                                    ev := { s.begin.ev with fatal := s.ev.fatal.filter (· != 0x0604) } } t
          [Sys2Proof.Machine.Obj.throttleNow])

/-- Host writes and the servo (R308 to R318). That the integral term is kept in 2^-32 ppb is the model's choice (log entry 20). -/
def Obligations.TimeSteps : Prop :=
  ∀ s : Sys2Proof.Machine.State, s.ready →
    (∀ (h : Sys2Proof.ReqHdr) (c : Sys2Proof.Machine.Caller) (sec : BitVec 48) (ns : BitVec 32),
      s.takes h 0x1300 0x04 0x0B (Sys2Proof.Machine.timeBytes sec ns) c →
      (s.timeSourceNow ≠ 0 → s.timeSourceNow ≠ 2 → ∃ t, Sys2Proof.Machine.exec (.timeSet h sec ns) s = .next t ∧
        t.answered (s.answerFor h Sys2Proof.Machine.opWrite 0x0402 [0, 0]) ∧ (State.withAnswer s.begin t).Logged t []) ∧
      (s.timeSourceNow = 0 ∨ s.timeSourceNow = 2 → ∃ t, Sys2Proof.Machine.exec (.timeSet h sec ns) s = .next t ∧
        t.answered (s.answerFor h Sys2Proof.Machine.opWrite Sys2Proof.Machine.Abort.ok [0, 0]) ∧
        s.Stepped t ((sec.toNat * 1000000000 + ns.toNat : Nat) - (s.nowNs : Int)) ∧
        t.time.native = (sec.toNat * 1000000000 + ns.toNat) * 4294967296 + s.time.native % 4294967296 ∧
        (s.knockCalm t → t.time.servo = s.time.servo ∧ t.time.increment = s.time.increment))) ∧
    (∀ (h : Sys2Proof.ReqHdr) (c : Sys2Proof.Machine.Caller) (v : BitVec 64) (d : Int), d = Sys2Proof.Machine.signedOf 64 v.toNat →
      s.takes h 0x1300 0x05 0x09 (Sys2Proof.Machine.bitBytes 8 v) c →
      ((s.time.native : Int) + d * 4294967296 < 0 ∨ (Sys2Proof.Machine.nativeLimit : Int) ≤ (s.time.native : Int) + d * 4294967296 →
        ∃ t, Sys2Proof.Machine.exec (.timeAdjust h v) s = .next t ∧
          t.answered (s.answerFor h Sys2Proof.Machine.opWrite 0x0301 [0, 0]) ∧ (State.withAnswer s.begin t).Logged t []) ∧
      (0 ≤ (s.time.native : Int) + d * 4294967296 → (s.time.native : Int) + d * 4294967296 < (Sys2Proof.Machine.nativeLimit : Int) →
        (s.timeSourceNow ≠ 0 → s.timeSourceNow ≠ 2 → ∃ t, Sys2Proof.Machine.exec (.timeAdjust h v) s = .next t ∧
          t.answered (s.answerFor h Sys2Proof.Machine.opWrite 0x0402 [0, 0]) ∧ (State.withAnswer s.begin t).Logged t []) ∧
        (s.timeSourceNow = 0 ∨ s.timeSourceNow = 2 → ∃ t, Sys2Proof.Machine.exec (.timeAdjust h v) s = .next t ∧
          t.answered (s.answerFor h Sys2Proof.Machine.opWrite Sys2Proof.Machine.Abort.ok [0, 0]) ∧ s.Stepped t d ∧
          (s.knockCalm t → t.time.servo = s.time.servo ∧ t.time.increment = s.time.increment)))) ∧
    (∀ (h : Sys2Proof.ReqHdr) (c : Sys2Proof.Machine.Caller) (v : BitVec 64),
      s.takes h 0x1300 0x06 0x05 (Sys2Proof.Machine.bitBytes 8 v) c →
      (500 * 0x400000000 < 1000000 * Sys2Proof.Machine.natDist v.toNat 0x400000000 →
        ∃ t, Sys2Proof.Machine.exec (.incrementSet h v) s = .next t ∧
          t.answered (s.answerFor h Sys2Proof.Machine.opWrite 0x0301 [0, 0]) ∧ (State.withAnswer s.begin t).Logged t []) ∧
      (1000000 * Sys2Proof.Machine.natDist v.toNat 0x400000000 ≤ 500 * 0x400000000 →
        (s.timeSourceNow ≠ 0 → ∃ t, Sys2Proof.Machine.exec (.incrementSet h v) s = .next t ∧
          t.answered (s.answerFor h Sys2Proof.Machine.opWrite 0x0402 [0, 0]) ∧ (State.withAnswer s.begin t).Logged t []) ∧
        (s.timeSourceNow = 0 → ∃ t, Sys2Proof.Machine.exec (.incrementSet h v) s = .next t ∧
          t.answered (s.answerFor h Sys2Proof.Machine.opWrite Sys2Proof.Machine.Abort.ok [0, 0]) ∧
          (State.withAnswer { s.begin with time := { s.time with increment := v.toNat } } t).Logged t []))) ∧
    (∀ o : Int,
      (s.timeSourceNow = 0 ∨ (s.time.servo = 3 ∧ s.timeSourceNow = 1) ∨ (4 ≤ s.time.servo ∧ s.timeSourceNow ≠ 2) ∨
          ((s.time.servo = 1 ∨ s.time.servo = 2) ∧ 0 < s.time.dev) →
        ∃ t, Sys2Proof.Machine.exec (.servoOffset o) s = .next t ∧ s.begin.Logged t []) ∧
      (4 ≤ s.time.servo → s.timeSourceNow = 2 → ∃ t, Sys2Proof.Machine.exec (.servoOffset o) s = .next t ∧
        s.tells t 0x0802 s.time.ptpPort 1 (Sys2Proof.Machine.twosOf 64 s.time.meanDelay) ∧
        t.shows Sys2Proof.Machine.Obj.servoState 1 ∧
        State.Logged { s.begin with time := { s.time with servo := 1, lockRun := 0, incRef := s.time.increment } } t
          [Sys2Proof.Machine.Obj.servoState]) ∧
      (∀ (i0 : Int) (ref run0 : Nat), s.timeSourceNow ≠ 0 →
        (s.time.servo = 0 ∧ i0 = 0 ∧ ref = s.time.increment ∧ run0 = 0) ∨
          ((s.time.servo = 1 ∨ s.time.servo = 2) ∧ s.time.dev = 0 ∧ i0 = s.time.integ ∧ ref = s.time.incRef ∧ run0 = s.time.lockRun) ∨
          (s.time.servo = 3 ∧ s.timeSourceNow ≠ 1 ∧ i0 = s.time.integ ∧ ref = s.time.increment ∧ run0 = 0) →
        (s.u Sys2Proof.Machine.Obj.stepThreshold < o.natAbs → s.mayStep = true →
          ∃ t, Sys2Proof.Machine.exec (.servoOffset o) s = .next t ∧ s.Stepped t (-o) ∧
            (s.knockCalm t → t.time.integ = 0 ∧ t.time.servo = 1 ∧ t.time.lockRun = 0 ∧ t.time.incRef = s.time.increment ∧
              t.time.increment = s.time.increment ∧ t.shows Sys2Proof.Machine.Obj.servoState 1 ∧
              t.shows Sys2Proof.Machine.Obj.offsetNow (Sys2Proof.Machine.twosOf 32 (Sys2Proof.Machine.clamp32 o)))) ∧
        (o.natAbs ≤ s.u Sys2Proof.Machine.Obj.stepThreshold ∨ s.mayStep = false →
          ∀ (hold : Rat → Rat) (top r : Rat) (i1 : Int) (run1 : Nat), top = (s.u Sys2Proof.Machine.Obj.maxSlew : Rat) →
            (∀ x, hold x = if x > top then top else if x < -top then -top else x) →
            i1 = Sys2Proof.Machine.ratRound (hold ((i0 : Rat) / 4294967296 + s.q Sys2Proof.Machine.Obj.servoKi * (o : Rat)) * 4294967296) →
            r = hold (s.q Sys2Proof.Machine.Obj.servoKp * (o : Rat) + (i1 : Rat) / 4294967296) →
            run1 = (if o.natAbs ≤ s.u Sys2Proof.Machine.Obj.lockThreshold then run0 + 1 else 0) →
            ∃ t, Sys2Proof.Machine.exec (.servoOffset o) s = .next t ∧
              t.time.integ = i1 ∧ t.time.increment = (Sys2Proof.Machine.ratRound ((ref : Rat) * (1 - r / 1000000000))).toNat ∧
              t.time.slewing = decide (s.u Sys2Proof.Machine.Obj.stepThreshold < o.natAbs) ∧
              t.time.servo = (if s.time.servo = 2 then 2 else if 16 ≤ run1 then 2 else 1) ∧
              t.shows Sys2Proof.Machine.Obj.offsetNow (Sys2Proof.Machine.twosOf 32 (Sys2Proof.Machine.clamp32 o)) ∧
              t.shows Sys2Proof.Machine.Obj.rateNow (Sys2Proof.Machine.twosOf 32 (Sys2Proof.Machine.ratRound r)) ∧
              (t.time.servo ≠ s.time.servo → t.shows Sys2Proof.Machine.Obj.servoState t.time.servo) ∧
              (t.time.servo = s.time.servo → t.get Sys2Proof.Machine.Obj.servoState = s.get Sys2Proof.Machine.Obj.servoState) ∧
              State.Logged { s.begin with time := { s.time with
                  servo := t.time.servo, integ := i1, incRef := ref, rate := t.time.rate, increment := t.time.increment,
                  slewing := t.time.slewing, offsetNow := o,
                  lockRun := if s.time.servo ≠ 2 ∧ 16 ≤ run1 then 0 else run1,
                  lockedIncs := if s.time.servo = 2 then (t.time.increment :: s.time.lockedIncs).take 16 else s.time.lockedIncs } } t
                [Sys2Proof.Machine.Obj.offsetNow, Sys2Proof.Machine.Obj.rateNow, Sys2Proof.Machine.Obj.servoState])))

/-- PTP (R311 to R314). That a servo without any measurement stays in FREERUN when its source is lost is the model's reading (log entry 21). -/
def Obligations.PtpMessages : Prop :=
  ∀ s : Sys2Proof.Machine.State, s.ready →
    (∀ m : Sys2Proof.PtpAnnounceMsg,
      (s.timeSourceNow ≠ 1 → ∃ t, Sys2Proof.Machine.exec (.ptpAnnounce m) s = .next t ∧ s.begin.Logged t []) ∧
      (s.timeSourceNow = 1 → s.ptpMatches m.port m.domain.toNat m.majorSdoId.toNat = false →
        ∃ t, Sys2Proof.Machine.exec (.ptpAnnounce m) s = .next t ∧ s.Counts t Sys2Proof.Machine.Obj.ptpIgnoredCount) ∧
      (∀ r, s.timeSourceNow = 1 → s.ptpMatches m.port m.domain.toNat m.majorSdoId.toNat = true → r = Sys2Proof.Machine.announceRank m →
        (s.time.bestMaster = none ∨ (∃ b, s.time.bestMaster = some b ∧ (b.drop 7 = r.drop 7 ∨ Sys2Proof.Machine.rankLt r b = true)) →
          ∃ t, Sys2Proof.Machine.exec (.ptpAnnounce m) s = .next t ∧
            State.Logged { s.begin with time := { s.time with bestMaster := some r, announceLog := m.logInterval } } t []) ∧
        (∀ b, s.time.bestMaster = some b → b.drop 7 ≠ r.drop 7 → Sys2Proof.Machine.rankLt r b = false →
          ∃ t, Sys2Proof.Machine.exec (.ptpAnnounce m) s = .next t ∧ s.begin.Logged t []))) ∧
    (∀ (m : Sys2Proof.PtpSyncMsg) (good : Prop),
      (good ↔ s.ptpMatches m.port m.domain.toNat m.majorSdoId.toNat = true ∧ -7 ≤ m.logInterval ∧ m.logInterval ≤ 0 ∧
        ∃ r, s.time.bestMaster = some r ∧ r.drop 7 = [m.sourceId.toNat, m.sourcePort.toNat]) →
      (s.timeSourceNow ≠ 1 → ∃ t, Sys2Proof.Machine.exec (.ptpSync m) s = .next t ∧ s.begin.Logged t []) ∧
      (s.timeSourceNow = 1 → ¬ good → ∃ t, Sys2Proof.Machine.exec (.ptpSync m) s = .next t ∧
        s.Counts t Sys2Proof.Machine.Obj.ptpIgnoredCount) ∧
      (s.timeSourceNow = 1 → good → s.time.servo = 3 → ∃ t, Sys2Proof.Machine.exec (.ptpSync m) s = .next t ∧
        s.Requalifies t s.time.ptpPort (Sys2Proof.Machine.twosOf 64 s.time.meanDelay) { s.time with syncAt := some s.time.ticks }) ∧
      (s.timeSourceNow = 1 → good → s.time.servo ≠ 3 → s.time.delays = [] → ∃ t, Sys2Proof.Machine.exec (.ptpSync m) s = .next t ∧
        State.Logged { s.begin with time := { s.time with syncAt := some s.time.ticks } } t []) ∧
      (∀ t1 t2 : Rat, s.timeSourceNow = 1 → good → s.time.servo ≠ 3 → s.time.delays ≠ [] →
        t2 = (s.nativeAt m.rxStamp : Rat) / 4294967296 - (s.ingressPs m.port : Rat) / 1000 →
        t1 = ((m.originSec.toNat * 1000000000 + m.originNs.toNat : Nat) : Rat) + (m.correction : Rat) / 65536 →
        ∃ t, Sys2Proof.Machine.exec (.ptpSync m) s = .next t ∧
          Sys2Proof.Machine.exec (.servoOffset (Sys2Proof.Machine.ratRound (t2 - t1 - (s.time.meanDelay : Rat) - (s.asymmetry m.port : Rat))))
            { s with time := { s.time with syncAt := some s.time.ticks } } = .next t)) ∧
    (s.timeSourceNow ≠ 1 → ∃ t, Sys2Proof.Machine.exec .ptpDelayReqSend s = .next t ∧ s.begin.Logged t []) ∧
    (∀ n msg, s.timeSourceNow = 1 → n = (s.time.delayReqSeq + 1) % 65536 →
      msg = (if s.u Sys2Proof.Machine.Obj.ptpProfile = 0 then s.ptpHeader 1 44 s.time.ptpPort n ++ List.replicate 10 0
        else s.ptpHeader 2 54 s.time.ptpPort n ++ List.replicate 20 0) →
      ∃ t, Sys2Proof.Machine.exec .ptpDelayReqSend s = .next t ∧
        State.Logged (State.ptpSend { s.begin with time := { s.time with delayReqSeq := n } } s.time.ptpPort true msg) t []) ∧
    (∀ m : Sys2Proof.PtpDelayMsg,
      (s.timeSourceNow ≠ 1 → ∃ t, Sys2Proof.Machine.exec (.ptpDelayMeasurement m) s = .next t ∧ s.begin.Logged t []) ∧
      (s.timeSourceNow = 1 → m.port.val ≠ s.time.ptpPort ∨ m.domain.toNat ≠ s.u Sys2Proof.Machine.Obj.ptpDomain ∨
          m.peer ≠ decide (s.u Sys2Proof.Machine.Obj.ptpProfile = 1) ∨ m.sequence.toNat ≠ s.time.delayReqSeq →
        ∃ t, Sys2Proof.Machine.exec (.ptpDelayMeasurement m) s = .next t ∧ s.Counts t Sys2Proof.Machine.Obj.ptpIgnoredCount) ∧
      (∀ (d : Int) (w q : List Int) (mean : Rat) (close : Prop), s.timeSourceNow = 1 → m.port.val = s.time.ptpPort →
        m.domain.toNat = s.u Sys2Proof.Machine.Obj.ptpDomain → m.peer = decide (s.u Sys2Proof.Machine.Obj.ptpProfile = 1) →
        m.sequence.toNat = s.time.delayReqSeq →
        d = Sys2Proof.Machine.ratRound ((((if m.peer then (m.t4 - m.t1) - (m.t3 - m.t2) else (m.t2 - m.t1) + (m.t4 - m.t3) : Int) : Rat) -
          (m.correction : Rat) / 65536) / 2) →
        w = (d :: s.time.delays).take 16 → q = (d :: s.time.requalQ).take (s.u Sys2Proof.Machine.Obj.requalifyCount) →
        mean = (Sys2Proof.Machine.sumInt q : Rat) / max 1 (q.length : Nat) →
        (close ↔ q.length = s.u Sys2Proof.Machine.Obj.requalifyCount ∧ ∀ x ∈ q,
          -(s.u Sys2Proof.Machine.Obj.delayStepThreshold : Rat) ≤ (x : Rat) - mean ∧
            (x : Rat) - mean ≤ (s.u Sys2Proof.Machine.Obj.delayStepThreshold : Rat)) →
        (m.peer = true → 800 < d → ∃ t, Sys2Proof.Machine.exec (.ptpDelayMeasurement m) s = .next t ∧
          t.shows Sys2Proof.Machine.Obj.meanPathDelay 0 ∧
          State.Logged { s.begin with time := { s.time with delays := [], meanDelay := 0 } } t [Sys2Proof.Machine.Obj.meanPathDelay]) ∧
        (m.peer = false ∨ d ≤ 800 →
          (s.time.servo = 4 → ¬ close → ∃ t, Sys2Proof.Machine.exec (.ptpDelayMeasurement m) s = .next t ∧
            State.Logged { s.begin with time := { s.time with requalQ := q } } t []) ∧
          (s.time.servo = 4 → close → ∃ t, Sys2Proof.Machine.exec (.ptpDelayMeasurement m) s = .next t ∧
            t.shows Sys2Proof.Machine.Obj.servoState 1 ∧
            t.shows Sys2Proof.Machine.Obj.meanPathDelay (Sys2Proof.Machine.meanInt (q.take 16)).toNat ∧
            s.tells t 0x0802 s.time.ptpPort 1 (Sys2Proof.Machine.twosOf 64 (Sys2Proof.Machine.meanInt (q.take 16))) ∧
            State.Logged { s.begin with time := { s.time with
                requalQ := q, delays := q.take 16, meanDelay := Sys2Proof.Machine.meanInt (q.take 16), servo := 1, lockRun := 0,
                incRef := s.time.increment } } t
              [Sys2Proof.Machine.Obj.servoState, Sys2Proof.Machine.Obj.meanPathDelay]) ∧
          (s.time.servo ≠ 4 → s.time.delays = [] ∨ (d - s.time.meanDelay).natAbs ≤ s.u Sys2Proof.Machine.Obj.delayStepThreshold →
            ∃ t, Sys2Proof.Machine.exec (.ptpDelayMeasurement m) s = .next t ∧
              t.shows Sys2Proof.Machine.Obj.meanPathDelay (Sys2Proof.Machine.meanInt w).toNat ∧
              State.Logged { s.begin with time := { s.time with dev := 0, delays := w, meanDelay := Sys2Proof.Machine.meanInt w } } t
                [Sys2Proof.Machine.Obj.meanPathDelay]) ∧
          (s.time.servo ≠ 4 → s.time.delays ≠ [] → s.u Sys2Proof.Machine.Obj.delayStepThreshold < (d - s.time.meanDelay).natAbs →
            (s.time.dev + 1 < s.u Sys2Proof.Machine.Obj.delayStepCount →
              ∃ t, Sys2Proof.Machine.exec (.ptpDelayMeasurement m) s = .next t ∧
                State.Logged { s.begin with time := { s.time with dev := s.time.dev + 1 } } t []) ∧
            (s.u Sys2Proof.Machine.Obj.delayStepCount ≤ s.time.dev + 1 →
              ∃ t, Sys2Proof.Machine.exec (.ptpDelayMeasurement m) s = .next t ∧
                s.Requalifies t s.time.ptpPort (Sys2Proof.Machine.twosOf 64 d) s.time))))) ∧
    (∀ m : Sys2Proof.PtpPdelayReqMsg,
      (s.u Sys2Proof.Machine.Obj.ptpProfile = 0 ∨ m.majorSdoId.toNat ≠ 1 ∨ m.domain.toNat ≠ s.u Sys2Proof.Machine.Obj.ptpDomain →
        ∃ t, Sys2Proof.Machine.exec (.ptpPdelayReq m) s = .next t ∧ s.Counts t Sys2Proof.Machine.Obj.ptpIgnoredCount) ∧
      (∀ (be80 : Nat → Sys2Proof.Bytes) (who : Sys2Proof.Bytes), s.u Sys2Proof.Machine.Obj.ptpProfile ≠ 0 → m.majorSdoId.toNat = 1 →
        m.domain.toNat = s.u Sys2Proof.Machine.Obj.ptpDomain →
        (∀ ns, be80 ns = Sys2Proof.Machine.beBytes 6 (ns / 1000000000) ++ Sys2Proof.Machine.beBytes 4 (ns % 1000000000)) →
        who = Sys2Proof.Machine.beBytes 8 m.sourceId.toNat ++ Sys2Proof.Machine.beBytes 2 m.sourcePort.toNat →
        ∃ t, Sys2Proof.Machine.exec (.ptpPdelayReq m) s = .next t ∧
          State.Logged
            ((s.begin.ptpSend m.port true (s.ptpHeader 3 54 m.port m.sequence.toNat ++ be80 (s.nsAt m.rxStamp) ++ who)).ptpSend m.port false
              (s.ptpHeader 0xA 54 m.port m.sequence.toNat ++ be80 s.nowNs ++ who)) t [])) ∧
    (s.time.syncAt = none ∨ s.timeSourceNow ≠ 1 → ∃ t, Sys2Proof.Machine.exec .ptpSourceLost s = .next t ∧ s.begin.Logged t []) ∧
    (∀ at' wait, s.time.syncAt = some at' → s.timeSourceNow = 1 →
      wait = (if 0 ≤ s.time.announceLog then s.u Sys2Proof.Machine.Obj.announceTimeout * 250000000 * 2 ^ s.time.announceLog.toNat
        else s.u Sys2Proof.Machine.Obj.announceTimeout * 250000000 / 2 ^ (-s.time.announceLog).toNat) →
      ∃ t, Sys2Proof.Machine.exec .ptpSourceLost s = .next t ∧ t.time.ticks ≤ max s.time.ticks (at' + wait) ∧
        (∀ (other : Nat) (moves : Prop), other = 1 - s.time.ptpPort →
          (moves ↔ s.u Sys2Proof.Machine.Obj.ptpPortMode = 2 ∧ s.portUp other = true) →
          (moves → s.time.servo ≠ 0 → State.Requalifies { s with time := { s.time with ticks := t.time.ticks } } t other
            (Sys2Proof.Machine.twosOf 64 s.time.meanDelay)
            { s.time with bestMaster := none, syncAt := none, ptpPort := other, ticks := t.time.ticks, native := t.time.native }) ∧
          (moves → s.time.servo = 0 → State.Logged { s.begin with time := { s.time with
              bestMaster := none, syncAt := none, ptpPort := other, ticks := t.time.ticks, native := t.time.native } } t []) ∧
          (¬ moves → s.time.servo = 0 ∨ s.time.servo = 3 → State.Logged { s.begin with time := { s.time with
              bestMaster := none, syncAt := none, ticks := t.time.ticks, native := t.time.native } } t []) ∧
          (¬ moves → s.time.servo ≠ 0 → s.time.servo ≠ 3 → t.shows Sys2Proof.Machine.Obj.servoState 3 ∧
            State.Logged { s.begin with time := { s.time with
                bestMaster := none, syncAt := none, servo := 3, lockRun := 0, increment := s.heldIncrement, ticks := t.time.ticks,
                native := t.time.native } } t [Sys2Proof.Machine.Obj.servoState])))

/-- PPS in and out, and the anchors (R318, R320, R321). -/
def Obligations.PpsAndAnchors : Prop :=
  ∀ s : Sys2Proof.Machine.State, s.ready →
    (∀ (instant : Sys2Proof.Stamp) (tm : Sys2Proof.Machine.TimeState), tm = (s.runToStamp instant).time →
      (s.u Sys2Proof.Machine.Obj.ppsInSource ≠ 0 ∨ s.timeSourceNow ≠ 2 → ∃ t, Sys2Proof.Machine.exec (.ppsInEdge instant) s = .next t ∧
        State.Logged { s.begin with time := tm } t []) ∧
      (∀ (e : Rat) (sec off : Int), s.u Sys2Proof.Machine.Obj.ppsInSource = 0 → s.timeSourceNow = 2 →
        e = ((s.runToStamp instant).nativeAt (Sys2Proof.Machine.ceilDiv instant 64 * 64) : Rat) / 4294967296 -
          (s.i Sys2Proof.Machine.Obj.ppsInDelay : Rat) →
        sec = Sys2Proof.Machine.ratRound (e / 1000000000) → off = Sys2Proof.Machine.ratRound (e - (sec : Rat) * 1000000000) →
        (100000000 < off.natAbs → ∃ t, Sys2Proof.Machine.exec (.ppsInEdge instant) s = .next t ∧
          t.shows Sys2Proof.Machine.Obj.ppsRejectCount (s.u Sys2Proof.Machine.Obj.ppsRejectCount + 1) ∧
          State.Logged { s.begin with time := tm } t [Sys2Proof.Machine.Obj.ppsRejectCount]) ∧
        (off.natAbs ≤ 100000000 → ∃ t, Sys2Proof.Machine.exec (.ppsInEdge instant) s = .next t ∧
          Sys2Proof.Machine.exec (.servoOffset off) { s with time := { tm with ppsAcceptedAt := some tm.ticks } } = .next t))) ∧
    (s.time.ppsAcceptedAt = none ∨ s.timeSourceNow ≠ 2 → ∃ t, Sys2Proof.Machine.exec .ppsSourceLost s = .next t ∧ s.begin.Logged t []) ∧
    (∀ at', s.time.ppsAcceptedAt = some at' → s.timeSourceNow = 2 → ∃ t, Sys2Proof.Machine.exec .ppsSourceLost s = .next t ∧
      t.time.ticks ≤ max s.time.ticks (at' + 750000000) ∧
      (s.time.servo = 0 ∨ s.time.servo = 3 → State.Logged
        { s.begin with time := { s.time with ppsAcceptedAt := none, ticks := t.time.ticks, native := t.time.native } } t []) ∧
      (s.time.servo ≠ 0 → s.time.servo ≠ 3 → t.shows Sys2Proof.Machine.Obj.servoState 3 ∧ State.Logged
        { s.begin with time := { s.time with ppsAcceptedAt := none, servo := 3, lockRun := 0, increment := s.heldIncrement,
                                             ticks := t.time.ticks, native := t.time.native } } t [Sys2Proof.Machine.Obj.servoState])) ∧
    (s.ppsRuns = false ∨ s.dev.booted = false → ∃ t, Sys2Proof.Machine.exec .ppsOutRise s = .next t ∧ s.begin.Logged t []) ∧
    (∀ sec, s.ppsRuns = true → s.dev.booted = true →
      sec = (if s.nowNs / 1000000000 ≤ s.time.ppsNextSec then s.time.ppsNextSec else s.nowNs / 1000000000 + 1) →
      ∃ t, Sys2Proof.Machine.exec .ppsOutRise s = .next t ∧ t.time.ticks ≤ max s.time.ticks (s.tickOfNs (sec * 1000000000)) ∧
        State.Logged { s.begin with time := { s.time with ppsHigh := true, ppsRoseAt := t.time.ticks, ppsNextSec := sec + 1,
                                                          ticks := t.time.ticks, native := t.time.native } } t []) ∧
    (s.time.ppsHigh = false → ∃ t, Sys2Proof.Machine.exec .ppsOutFall s = .next t ∧ s.begin.Logged t []) ∧
    (s.time.ppsHigh = true → ∃ t, Sys2Proof.Machine.exec .ppsOutFall s = .next t ∧
      t.time.ticks ≤ max s.time.ticks (s.time.ppsRoseAt + Sys2Proof.Machine.msTicks (s.u Sys2Proof.Machine.Obj.ppsOutWidth)) ∧
      State.Logged { s.begin with time := { s.time with ppsHigh := false, ticks := t.time.ticks, native := t.time.native } } t []) ∧
    (s.dev.booted = false → ∃ t, Sys2Proof.Machine.exec .anchorInstant s = .next t ∧ s.begin.Logged t []) ∧
    (∀ p at', s.dev.booted = true → p = max 1 (s.u Sys2Proof.Machine.Obj.anchorPeriod) * 1000000 → at' = (s.merge.anchorAt / p + 1) * p →
      ∃ t, Sys2Proof.Machine.exec .anchorInstant s = .next t ∧ t.time.ticks ≤ max s.time.ticks (s.tickOfNs at') ∧
        (∀ k, k < 16 → (s.stream k).enabled = true → ∃ x ∈ t.merge.formed, x.stream = k ∧ x.rtype = 0x02 ∧ x.cls = 1 ∧ x.stamp = at' ∧
          x.body.take 16 = Sys2Proof.Machine.time80 at' ++ [0, 0] ++ Sys2Proof.Machine.leBytes 4 s.merge.anchorCount) ∧
        State.Logged { s.begin with time := { s.time with ticks := t.time.ticks, native := t.time.native },
                                    merge := { s.merge with anchorCount := (s.merge.anchorCount + 1) % 4294967296, anchorAt := at' } } t [])

/-- Entry into the merge, holding sources, launch times and waits (R33 to R39, R323, R339 to R345). -/
def Obligations.MergeAndWaits : Prop :=
  ∀ s : Sys2Proof.Machine.State, s.ready → s.merge.ports.length = 2 → s.merge.streams.length = 7 →
    (s.merge.formed = [] → ∃ t, Sys2Proof.Machine.exec .mergeEntry s = .next t ∧ s.begin.Logged t []) ∧
    (∀ d ds now, s.merge.formed = d :: ds → now = (d :: ds).filter (fun x => x.group == d.group) → (∀ x ∈ d :: ds, x.stream < 7) →
      ∃ t, Sys2Proof.Machine.exec .mergeEntry s = .next t ∧ t.merge.ordinal = (s.merge.ordinal + now.length) % 2 ^ 48 ∧
        (∀ k, k < 7 → (∃ x ∈ now, x.stream = k) → (t.stream k).nextSeq =
          ((s.stream k).nextSeq + (now.filter (fun x => x.stream == k)).length) % 4294967296) ∧
        (∀ k, k < 7 → (∀ x ∈ now, x.stream ≠ k) → t.stream k = s.stream k) ∧
        (∀ x ∈ d :: ds, x.group ≠ d.group → x ∈ t.merge.formed) ∧
        t.dev = s.dev ∧ t.fire = s.fire ∧ t.time = s.time ∧ t.scan = s.scan ∧ t.loops = s.loops ∧ t.therm = s.therm ∧ t.pair = s.begin.pair ∧
        (now = [d] → s.Enters t d (ds.filter (fun x => x.group != d.group)))) ∧
    (∀ k : Fin 16,
      (s.heldNext k.val = none → ∃ t, Sys2Proof.Machine.exec (.holdingOffer k) s = .next t ∧ s.begin.Logged t []) ∧
      (∀ d, s.heldNext k.val = some d →
        ((s.stream k.val).enabled = false → ∃ t, Sys2Proof.Machine.exec (.holdingOffer k) s = .next t ∧
          State.Logged ((s.begin.heldTaken k.val d.tag).recordDone k.val d.tag) t []) ∧
        (∀ p, (s.stream k.val).enabled = true → p = s.queuePort (s.stream k.val).carrier →
          (s.canCarry k.val = true → s.mayOffer p d.cls (20 + d.body.length) = false →
            ∃ t, Sys2Proof.Machine.exec (.holdingOffer k) s = .next t ∧ s.begin.Logged t []) ∧
          (s.canCarry k.val = false ∨ s.mayOffer p d.cls (20 + d.body.length) = true →
            ∃ t, Sys2Proof.Machine.exec (.holdingOffer k) s = .next t ∧ t.merge.ordinal = (s.merge.ordinal + 1) % 2 ^ 48 ∧
              (t.stream k.val).nextSeq = ((s.stream k.val).nextSeq + 1) % 4294967296 ∧
              State.Enters (s.heldTaken k.val d.tag) t d s.merge.formed)))) ∧
    (∀ (p : Fin 2) (c : Fin 6),
      (s.headOf p.val c.val = none ∨ (∃ q, s.headOf p.val c.val = some q ∧ q.launch = 0) →
        ∃ t, Sys2Proof.Machine.exec (.launchTime p c) s = .next t ∧ s.begin.Logged t []) ∧
      (∀ q qp, s.headOf p.val c.val = some q → q.launch ≠ 0 → qp = s.queuePort p.val →
        ∃ t, Sys2Proof.Machine.exec (.launchTime p c) s = .next t ∧ t.time.ticks ≤ max s.time.ticks (s.tickOfNs q.launch) ∧
          (t.port qp) = { s.port qp with queue := (s.port qp).queue.map (fun r =>
            if r.ordinal = q.ordinal then { r with launch := 0, launchedAt := t.time.ticks } else r) } ∧
          t.port (1 - qp) = s.port (1 - qp) ∧
          State.Logged { s.begin with time := { s.time with ticks := t.time.ticks, native := t.time.native },
                                      merge := { s.merge with ports := t.merge.ports } } t []) ∧
      (c.val < 2 ∨ (∀ q ∈ (s.port (s.queuePort p.val)).queue, q.cls ≠ c.val) →
        ∃ t, Sys2Proof.Machine.exec (.classMaxWait p c) s = .next t ∧ s.begin.Logged t []) ∧
      (∀ q qp due gone, 2 ≤ c.val → qp = s.queuePort p.val → (s.port qp).queue.find? (fun q => q.cls == c.val) = some q →
        due = s.waitStart q + Sys2Proof.Machine.usTicks (s.word Sys2Proof.Machine.Obj.classMaxWait 4 (4 * (c.val - 2))) →
        gone = (s.port qp).queue.filter (fun r => (decide (c.val < r.cls) && decide (r.cls ≤ 5)) || r.ordinal == q.ordinal) →
        ∃ t, Sys2Proof.Machine.exec (.classMaxWait p c) s = .next t ∧ t.time.ticks ≤ max s.time.ticks due ∧
          (t.port qp).queue = (s.port qp).queue.filter (fun r => !((decide (c.val < r.cls) && decide (r.cls ≤ 5)) || r.ordinal == q.ordinal)) ∧
          (t.port qp).barred = (((s.port qp).barred || decide (c.val = 2)) && (t.port qp).queue.any (fun r => r.cls == 2)) ∧
          t.port (1 - qp) = s.port (1 - qp) ∧
          (∀ r ∈ gone, ∃ e ∈ t.merge.episodes, e.stream = r.stream ∧ e.cls = r.cls ∧
            e.reason = (if c.val < r.cls then 2 else 1) ∧ e.port = (if s.dup then 2 else qp)) ∧
          t.dev = s.dev ∧ t.fire = s.fire ∧ t.scan = s.scan ∧ t.loops = s.loops ∧ t.merge.streams = s.merge.streams ∧
          t.merge.ordinal = s.merge.ordinal ∧
          (∀ id, id ∉ [Sys2Proof.Machine.Obj.classCounters, Sys2Proof.Machine.Obj.c2LossCount] → id ∉ Sys2Proof.Machine.logObjects →
            t.get id = s.get id)))

/-- Start of transmission and loss markers (R338, R339, R345). -/
def Obligations.FramesAndMarkers : Prop :=
  ∀ s : Sys2Proof.Machine.State, s.ready → s.merge.ports.length = 2 →
    (∀ (p : Fin 2) (svc : Nat → Option Sys2Proof.Machine.ServiceFrame) (rcd : Nat → Option Sys2Proof.Machine.Queued),
      (∀ l, svc l = (s.port p.val).services.find? (fun f => f.level == l)) → (∀ c, rcd c = (s.headOf p.val c).filter s.launched) →
      (s.portUp p.val = false ∨ (svc 1 = none ∧ svc 3 = none ∧ ∀ c, c < 6 → rcd c = none) →
        ∃ t, Sys2Proof.Machine.exec (.frameTxStart p) s = .next t ∧ s.begin.Logged t []) ∧
      (∀ f, s.portUp p.val = true → svc 1 = some f ∨ (svc 1 = none ∧ rcd 0 = none ∧ svc 3 = some f) →
        ∃ t, Sys2Proof.Machine.exec (.frameTxStart p) s = .next t ∧
          t.port p.val = { s.port p.val with services := (s.port p.val).services.erase f, lastFrame := f.bytes } ∧
          t.port (1 - p.val) = s.port (1 - p.val) ∧ State.Logged { s.begin with merge := { s.merge with ports := t.merge.ports } } t []) ∧
      (∀ q c qp, s.portUp p.val = true → svc 1 = none → rcd c = some q → qp = s.queuePort p.val →
        c = 0 ∨ (1 ≤ c ∧ c < 6 ∧ svc 3 = none ∧ ∀ b, b < c → rcd b = none) →
        ∃ t, Sys2Proof.Machine.exec (.frameTxStart p) s = .next t ∧ (t.port p.val).lastFrame = s.recordFrame p.val q ∧
          t.get Sys2Proof.Machine.Obj.classCounters = Sys2Proof.Machine.patch (168 * p.val + 28 * q.cls + 4) (Sys2Proof.Machine.leBytes 4
            (s.word Sys2Proof.Machine.Obj.classCounters 4 (168 * p.val + 28 * q.cls + 4) + 1)) (s.get Sys2Proof.Machine.Obj.classCounters) ∧
          (t.port qp).queue = (if s.dup = false ∨ (1 - p.val) ∈ q.sentOn ∨ s.portUp (1 - p.val) = false
            then (s.port qp).queue.filter (fun r => r.ordinal != q.ordinal)
            else (s.port qp).queue.map (fun r => if r.ordinal = q.ordinal then { q with sentOn := p.val :: q.sentOn } else r)) ∧
          (∀ e ∈ s.merge.episodes, e.stream = q.stream → e.reason ≠ 6 → e.port = p.val ∨ e.port = 2 ∨ e.port = 0xFF →
            (s.stream q.stream).enabled = true → (∀ m ∈ s.merge.markerAt, m.1 = e.key →
              m.2 + Sys2Proof.Machine.usTicks (s.u Sys2Proof.Machine.Obj.markerInterval) ≤ s.time.ticks) →
            (∀ x ∈ t.merge.episodes, x.key ≠ e.key)) ∧
          (∀ e ∈ t.merge.episodes, e ∈ s.merge.episodes) ∧ t.time = s.time ∧ t.dev = s.dev ∧ t.fire = s.fire ∧ t.scan = s.scan ∧
          t.loops = s.loops ∧ t.merge.streams = s.merge.streams ∧ t.merge.ordinal = s.merge.ordinal ∧
          (∀ id, id ≠ Sys2Proof.Machine.Obj.classCounters → id ≠ Sys2Proof.Machine.Obj.lossMarkerCount →
            id ∉ Sys2Proof.Machine.logObjects → t.get id = s.get id))) ∧
    (∀ k : Fin 16,
      ((∀ e ∈ s.merge.episodes, e.stream ≠ k.val) ∨ (s.stream k.val).enabled = false ∨ s.portNow k.val = 0xFF →
        ∃ t, Sys2Proof.Machine.exec (.lossMarkerForm k) s = .next t ∧ s.begin.Logged t []) ∧
      (∀ e rest due, s.merge.episodes.filter (fun e => e.stream == k.val) = e :: rest → (s.merge.episodes.map (·.key)).Nodup →
        (s.stream k.val).enabled = true → s.portNow k.val ≠ 0xFF → s.dev.booted = true →
        due = rest.foldl (fun d f => min d (s.markerDue f)) (s.markerDue e) →
        ∃ t, Sys2Proof.Machine.exec (.lossMarkerForm k) s = .next t ∧ t.time.ticks ≤ max s.time.ticks due ∧
          (∀ f ∈ e :: rest, s.markerDue f ≤ t.time.ticks → ∃ x ∈ t.merge.formed, x.stream = k.val ∧ x.rtype = 0x07 ∧ x.cls = 0 ∧
            x.stamp = f.firstNs ∧ x.body = [BitVec.ofNat 8 f.cls, BitVec.ofNat 8 f.reason, BitVec.ofNat 8 f.port, 0] ++
              Sys2Proof.Machine.leBytes 4 f.count ++ Sys2Proof.Machine.leBytes 4 f.firstSeq ++ Sys2Proof.Machine.leBytes 4 f.lastSeq ++
              Sys2Proof.Machine.leBytes 4 (min 0xFFFFFFFF (f.lastNs - f.firstNs))) ∧
          t.merge.episodes = s.merge.episodes.filter (fun f => !(f.stream == k.val && decide (s.markerDue f ≤ t.time.ticks))) ∧
          t.shows Sys2Proof.Machine.Obj.lossMarkerCount (s.u Sys2Proof.Machine.Obj.lossMarkerCount +
            ((e :: rest).filter (fun f => decide (s.markerDue f ≤ t.time.ticks))).length) ∧
          State.Logged { s.begin with time := { s.time with ticks := t.time.ticks, native := t.time.native },
                                      merge := { s.merge with episodes := t.merge.episodes, markerAt := t.merge.markerAt } } t
            [Sys2Proof.Machine.Obj.lossMarkerCount]))

/-- Ports that go down and come up (R312, R327 to R329, R347, R348). -/
def Obligations.PortLinks : Prop :=
  ∀ s : Sys2Proof.Machine.State, s.ready → s.merge.ports.length = 2 → ∀ p : Fin 2,
    ((s.port p.val).linkUp = false → ∃ t, Sys2Proof.Machine.exec (.portLinkDown p) s = .next t ∧ s.begin.Logged t []) ∧
    (∀ q, q = 1 - p.val → (s.port p.val).linkUp = true → ∃ t, Sys2Proof.Machine.exec (.portLinkDown p) s = .next t ∧
      (t.port p.val).linkUp = false ∧ (t.port p.val).services = [] ∧ t.shows (Sys2Proof.Machine.Obj.portLinkUp p.val) 0 ∧
      t.shows (Sys2Proof.Machine.Obj.portLinkDownCount p.val) (s.u (Sys2Proof.Machine.Obj.portLinkDownCount p.val) + 1) ∧
      s.tells t 0x0901 p.val 2 0 ∧
      (s.dup = true → s.portUp q = true → (t.port 0).queue = (s.port 0).queue.filter (fun r => r.sentOn.isEmpty)) ∧
      (s.dup = true → s.portUp q = false → (t.port 0).queue = [] ∧ ∀ r ∈ (s.port 0).queue, r.sentOn = [] →
        ∃ e ∈ t.merge.episodes, e.stream = r.stream ∧ e.cls = r.cls ∧ e.reason = 5 ∧ e.port = 2) ∧
      (s.dup = false → s.b Sys2Proof.Machine.Obj.failover = true → s.portUp q = true →
        (t.port p.val).queue = [] ∧ (t.port q).queue = (s.port q).queue ++ (s.port p.val).queue ∧
        (∀ k, k < s.merge.streams.length → t.stream k =
          { s.stream k with carrier := if (s.stream k).carrier = p.val then q else (s.stream k).carrier }) ∧
        t.shows Sys2Proof.Machine.Obj.failoverCount (s.u Sys2Proof.Machine.Obj.failoverCount + 1) ∧
        s.tells t 0x0902 p.val 2 (s.carried p.val)) ∧
      (s.dup = false → s.b Sys2Proof.Machine.Obj.failover = false ∨ s.portUp q = false →
        (t.port p.val).queue = [] ∧ t.port q = s.port q ∧ t.merge.streams = s.merge.streams ∧ ∀ r ∈ (s.port p.val).queue,
          ∃ e ∈ t.merge.episodes, e.stream = r.stream ∧ e.cls = r.cls ∧ e.reason = 5 ∧ e.port = p.val) ∧
      (s.timeSourceNow = 1 → s.time.ptpPort = p.val →
        (s.u Sys2Proof.Machine.Obj.ptpPortMode = 2 → s.portUp q = true →
          t.time.ptpPort = q ∧ (s.time.servo ≠ 0 → t.time.servo = 4 ∧ t.time.increment = s.heldIncrement)) ∧
        (s.u Sys2Proof.Machine.Obj.ptpPortMode ≠ 2 ∨ s.portUp q = false →
          t.time.ptpPort = p.val ∧ (s.time.servo ≠ 0 → t.time.servo = 3) ∧
            (s.time.servo ≠ 0 → s.time.servo ≠ 3 → t.time.increment = s.heldIncrement)) ∧
        (s.time.servo = 0 → t.time.servo = 0 ∧ t.time.increment = s.time.increment)) ∧
      (s.timeSourceNow ≠ 1 ∨ s.time.ptpPort ≠ p.val → t.time = s.time) ∧
      t.time.ticks = s.time.ticks ∧ t.time.native = s.time.native ∧
      t.dev = s.dev ∧ t.fire = s.fire ∧ t.scan = s.scan ∧ t.loops = s.loops ∧ t.therm = s.therm ∧ t.recd = s.recd) ∧
    (s.linkMay p.val = false → ∃ t, Sys2Proof.Machine.exec (.portLinkUp p) s = .next t ∧ s.begin.Logged t []) ∧
    (∀ q, q = 1 - p.val → (s.port p.val).linkUp = false → p.val < s.variant.ports → s.u (Sys2Proof.Machine.Obj.portMode p.val) ≠ 0 →
      ∃ t, Sys2Proof.Machine.exec (.portLinkUp p) s = .next t ∧
        (t.port p.val).linkUp = true ∧ (t.port p.val).upSince = s.time.ticks ∧ t.shows (Sys2Proof.Machine.Obj.portLinkUp p.val) 1 ∧
        t.dev = { s.dev with pllLock := Sys2Proof.Machine.setBit s.dev.pllLock 4 true } ∧
        (s.u Sys2Proof.Machine.Obj.ipNow ≠ 0 → ⟨3, s.ethFrame p.val 0xFFFFFFFFFFFF (some (s.pcp 6)) 0x0806 (Sys2Proof.Machine.arpPacket 1
          (Sys2Proof.Machine.portMac p.val) (s.u Sys2Proof.Machine.Obj.ipNow) 0 (s.u Sys2Proof.Machine.Obj.ipNow))⟩ ∈ (t.port p.val).services) ∧
        (∀ g ∈ s.groups, ∃ f ∈ (t.port p.val).services, f.level = 3 ∧ f.bytes = s.ethFrame p.val (Sys2Proof.Machine.groupMac g)
          (some (s.pcp 6)) 0x0800 (Sys2Proof.Machine.ipPacket 2 (s.u Sys2Proof.Machine.Obj.ipNow) g ([0x16, 0] ++
            Sys2Proof.Machine.beBytes 2 (Sys2Proof.Machine.inetSum ([0x16, 0, 0, 0] ++ Sys2Proof.Machine.beBytes 4 g)) ++
            Sys2Proof.Machine.beBytes 4 g))) ∧
        (s.u Sys2Proof.Machine.Obj.ipMode = 1 → s.merge.dhcp.phase = 1 ∨ s.merge.dhcp.phase = 3 → p.val = 0 ∨ s.portUp 0 = false →
          t.merge.dhcp = { s.merge.dhcp with xid := Sys2Proof.Config.freeValue s.fresh % 4294967296 }) ∧
        (s.dup = false → s.b Sys2Proof.Machine.Obj.failover = true → s.portUp q = false → 0 < s.carried q →
          (t.port p.val).queue = (s.port p.val).queue ++ (s.port q).queue ∧ (t.port q).queue = [] ∧
          (∀ k, k < s.merge.streams.length → t.stream k =
            { s.stream k with carrier := if (s.stream k).carrier = q then p.val else (s.stream k).carrier }) ∧
          t.shows Sys2Proof.Machine.Obj.failoverCount (s.u Sys2Proof.Machine.Obj.failoverCount + 1) ∧ s.tells t 0x0902 q 2 (s.carried q)) ∧
        (s.dup = true ∨ s.b Sys2Proof.Machine.Obj.failover = false ∨ s.portUp q = true ∨ s.carried q = 0 →
          t.merge.streams = s.merge.streams ∧ (t.port p.val).queue = (s.port p.val).queue ∧ t.port q = s.port q) ∧
        t.time = { s.time with ptpPort := if s.u Sys2Proof.Machine.Obj.ptpPortMode = 2 ∧ (s.time.ptpPort ≠ p.val ∧
          s.portUp s.time.ptpPort = false) then p.val else s.time.ptpPort } ∧
        t.fire = s.fire ∧ t.scan = s.scan ∧ t.loops = s.loops ∧ t.therm = s.therm ∧ t.recd = s.recd) ∧
    (∀ (q : Nat) (away : Nat → Bool), q = 1 - p.val → (∀ k, away k = decide (s.u (Sys2Proof.Machine.Obj.strPortMap k) = p.val)) →
      (s.dup = true ∨ (s.port p.val).linkUp = false ∨
          (∀ k, k < s.merge.streams.length → (s.stream k).carrier = q → away k = false) →
        ∃ t, Sys2Proof.Machine.exec (.failback p) s = .next t ∧ s.begin.Logged t []) ∧
      (s.dup = false → (s.port p.val).linkUp = true → (∃ k, k < s.merge.streams.length ∧ (s.stream k).carrier = q ∧ away k = true) →
        ∃ t, Sys2Proof.Machine.exec (.failback p) s = .next t ∧
          t.time.ticks ≤ max s.time.ticks ((s.port p.val).upSince + Sys2Proof.Machine.msTicks (s.u Sys2Proof.Machine.Obj.failbackHold)) ∧
          (t.port p.val).queue = (s.port p.val).queue ++ (s.port q).queue.filter (fun r => away r.stream) ∧
          (t.port q).queue = (s.port q).queue.filter (fun r => !away r.stream) ∧
          (∀ k, k < s.merge.streams.length → t.stream k =
            { s.stream k with carrier := if (s.stream k).carrier = q ∧ away k = true then p.val else (s.stream k).carrier }) ∧
          State.Logged { s.begin with time := { s.time with ticks := t.time.ticks, native := t.time.native },
                                      merge := { s.merge with ports := t.merge.ports, streams := t.merge.streams } } t
            [Sys2Proof.Machine.Obj.bufferHighWater]))

/-- DHCP (R328). The layout of the messages is taken from the standards (log entry 30). -/
def Obligations.DhcpClient : Prop :=
  ∀ s : Sys2Proof.Machine.State, s.ready → s.merge.ports.length = 2 →
    (∀ m : Sys2Proof.DhcpMsg,
      (s.dhcpAwaits m = false ∨ s.merge.dhcp.phase = 0 →
        (∃ t, Sys2Proof.Machine.exec (.dhcpOffer m) s = .next t ∧ s.begin.Logged t []) ∧
        (∃ t, Sys2Proof.Machine.exec (.dhcpAck m) s = .next t ∧ s.begin.Logged t []) ∧
        (∃ t, Sys2Proof.Machine.exec (.dhcpNak m) s = .next t ∧ s.begin.Logged t [])) ∧
      (s.dhcpAwaits m = true ↔ s.u Sys2Proof.Machine.Obj.ipMode = 1 ∧ s.portUp m.port = true ∧ s.dhcpPort = some m.port.val ∧
        m.xid.toNat = s.merge.dhcp.xid) ∧
      (s.dhcpAwaits m = true → s.merge.dhcp.phase = 2 → ∃ t, Sys2Proof.Machine.exec (.dhcpOffer m) s = .next t ∧ s.begin.Logged t []) ∧
      (s.dhcpAwaits m = true → s.merge.dhcp.phase = 1 ∨ s.merge.dhcp.phase = 3 →
        ∃ t, Sys2Proof.Machine.exec (.dhcpOffer m) s = .next t ∧
          s.SendsDhcp t m.port 3 0 (some m.yourAddr.toNat) (some m.serverId.toNat) 0xFFFFFFFFFFFF 0xFFFFFFFF) ∧
      (s.dhcpAwaits m = true → s.merge.dhcp.phase ≠ 0 → ∃ t, Sys2Proof.Machine.exec (.dhcpAck m) s = .next t ∧
        t.merge.dhcp = { s.merge.dhcp with phase := 2, ip := m.yourAddr.toNat, netMask := m.netMask.toNat, gateway := m.router.toNat,
                                           server := m.serverId.toNat, leaseSeconds := m.leaseSeconds.toNat, boundAt := s.time.ticks } ∧
        t.u Sys2Proof.Machine.Obj.ipNow = m.yourAddr.toNat ∧ t.shows Sys2Proof.Machine.Obj.dhcpState 2 ∧
        State.Logged { s.begin with merge := { s.merge with dhcp := t.merge.dhcp, ports := t.merge.ports } } t
          [Sys2Proof.Machine.Obj.dhcpState, Sys2Proof.Machine.Obj.ipNow] ∧
        (∀ q : Nat, (t.port q) = { s.port q with services := (t.port q).services })) ∧
      (s.dhcpAwaits m = true → s.merge.dhcp.phase ≠ 0 → ∃ t, Sys2Proof.Machine.exec (.dhcpNak m) s = .next t ∧
        t.merge.dhcp = { s.merge.dhcp with phase := 1, xid := Sys2Proof.Config.freeValue s.fresh % 4294967296 } ∧ t.fresh = s.fresh + 1 ∧
        t.u Sys2Proof.Machine.Obj.ipNow = 0 ∧ t.shows Sys2Proof.Machine.Obj.dhcpState 1 ∧ s.NoAddress t)) ∧
    (s.merge.dhcp.phase ≠ 2 → (∃ t, Sys2Proof.Machine.exec .dhcpRenew s = .next t ∧ s.begin.Logged t []) ∧
      (∃ t, Sys2Proof.Machine.exec .dhcpRebind s = .next t ∧ s.begin.Logged t []) ∧
      (∃ t, Sys2Proof.Machine.exec .dhcpLeaseExpiry s = .next t ∧ s.begin.Logged t [])) ∧
    (∀ (d : Sys2Proof.Machine.DhcpClient) (due : Nat → Nat), d = s.merge.dhcp → d.phase = 2 → (∀ n, due n = d.boundAt + d.leaseSeconds * 250000000 * n / 8) →
      (∃ t, Sys2Proof.Machine.exec .dhcpRenew s = .next t ∧ t.time.ticks ≤ max s.time.ticks (due 4) ∧
        (s.dhcpPort = none → State.Logged { s.begin with time := { s.time with ticks := t.time.ticks, native := t.time.native } } t []) ∧
        (∀ p, s.dhcpPort = some p → State.SendsDhcp { s with time := { s.time with ticks := t.time.ticks, native := t.time.native } } t p 3 d.ip
          (some d.ip) none (Sys2Proof.Config.peerMac (BitVec.ofNat 32 d.server)).toNat d.server)) ∧
      (∃ t, Sys2Proof.Machine.exec .dhcpRebind s = .next t ∧ t.time.ticks ≤ max s.time.ticks (due 7) ∧
        (s.dhcpPort = none → State.Logged { s.begin with time := { s.time with ticks := t.time.ticks, native := t.time.native } } t []) ∧
        (∀ p, s.dhcpPort = some p → State.SendsDhcp { s with time := { s.time with ticks := t.time.ticks, native := t.time.native } } t p 3 d.ip
          (some d.ip) none 0xFFFFFFFFFFFF 0xFFFFFFFF)) ∧
      (s.u Sys2Proof.Machine.Obj.ipMode = 1 → ∃ t, Sys2Proof.Machine.exec .dhcpLeaseExpiry s = .next t ∧ t.time.ticks ≤ max s.time.ticks (due 8) ∧
        t.merge.dhcp = { d with phase := 3, xid := Sys2Proof.Config.freeValue s.fresh % 4294967296 } ∧ t.fresh = s.fresh + 1 ∧
        t.u Sys2Proof.Machine.Obj.ipNow = 0 ∧ t.shows Sys2Proof.Machine.Obj.dhcpState 3 ∧
        State.tells { s with time := t.time } t 0x0903 (s.dhcpPort.getD 0) 3 0 ∧
        State.NoAddress { s with time := t.time } t))

/-- ARP, ICMP and IGMP (R329). The layout of the frames is taken from the standards (log entry 30). -/
def Obligations.NetworkServices : Prop :=
  ∀ s : Sys2Proof.Machine.State, s.ready → s.merge.ports.length = 2 →
    (∀ (p : Fin 2) (mac : BitVec 48) (ip target : BitVec 32),
      (target.toNat = 0 ∨ target.toNat ≠ s.u Sys2Proof.Machine.Obj.ipNow ∨ s.portUp p.val = false →
        ∃ t, Sys2Proof.Machine.exec (.arpRequest p mac ip target) s = .next t ∧ s.begin.Logged t []) ∧
      (target.toNat ≠ 0 → target.toNat = s.u Sys2Proof.Machine.Obj.ipNow → s.portUp p.val = true →
        ∃ t, Sys2Proof.Machine.exec (.arpRequest p mac ip target) s = .next t ∧
          s.Serves t p.val [s.ethFrame p.val mac.toNat (some (s.pcp 6)) 0x0806 ([0, 1, 8, 0, 6, 4, 0, 2] ++
            Sys2Proof.Machine.beBytes 6 (Sys2Proof.Machine.portMac p.val) ++ Sys2Proof.Machine.beBytes 4 target.toNat ++
            Sys2Proof.Machine.beBytes 6 mac.toNat ++ Sys2Proof.Machine.beBytes 4 ip.toNat)]) ∧
      (s.portUp p.val = false → ∃ t, Sys2Proof.Machine.exec (.arpReply p mac ip) s = .next t ∧ s.begin.Logged t []) ∧
      (s.portUp p.val = true → ∃ t, Sys2Proof.Machine.exec (.arpReply p mac ip) s = .next t ∧
        State.Logged { s.begin with merge := { s.merge with arp := s.merge.arp.map (fun e =>
          if e.ip = ip.toNat then { e with mac := some mac.toNat } else e) } } t [])) ∧
    (s.arpHops = [] → ∃ t, Sys2Proof.Machine.exec .arpRefresh s = .next t ∧ s.begin.Logged t []) ∧
    (∀ h rest due, s.arpHops = h :: rest → due = rest.foldl (fun d e => min d (s.arpDue e.2)) (s.arpDue h.2) →
      ∃ t, Sys2Proof.Machine.exec .arpRefresh s = .next t ∧ t.time.ticks ≤ max s.time.ticks due ∧
        (rest = [] → h.2 ≠ 0 → s.arpDue h.2 ≤ t.time.ticks → ∀ p, p = (if s.dup then 0 else (s.stream h.1).carrier) →
          (∃ e ∈ t.merge.arp, e.ip = h.2 ∧ e.asOf = t.time.ticks) ∧
          (∀ q, q = p ∨ (s.dup = true ∧ q = 1) → s.portUp q = true → t.port q = { s.port q with services := (s.port q).services ++
            [⟨3, s.ethFrame q 0xFFFFFFFFFFFF (some (s.pcp 6)) 0x0806 (Sys2Proof.Machine.arpPacket 1 (Sys2Proof.Machine.portMac q)
              (s.u Sys2Proof.Machine.Obj.ipNow) 0 h.2)⟩] })) ∧
        (∀ q, (t.port q) = { s.port q with services := (t.port q).services }) ∧
        State.Logged { s.begin with time := { s.time with ticks := t.time.ticks, native := t.time.native },
                                    merge := { s.merge with arp := t.merge.arp, ports := t.merge.ports } } t []) ∧
    (∀ (p : Fin 2) (mac : BitVec 48) (ip : BitVec 32) (payload : Sys2Proof.Bytes) (fresh : Bool) (used : Nat),
      fresh = decide ((s.port p.val).echoAt + 250000000 ≤ s.time.ticks) → used = (if fresh then 0 else (s.port p.val).echoTokens) →
      ((s.port p.val).linkUp = false ∨ s.u Sys2Proof.Machine.Obj.ipNow = 0 ∨ s.u Sys2Proof.Machine.Obj.mtu < 24 + payload.length ∨ 100 ≤ used →
        ∃ t, Sys2Proof.Machine.exec (.icmpEcho p mac ip payload) s = .next t ∧ s.begin.Logged t []) ∧
      ((s.port p.val).linkUp = true → s.u Sys2Proof.Machine.Obj.ipNow ≠ 0 → 24 + payload.length ≤ s.u Sys2Proof.Machine.Obj.mtu → used < 100 →
        ∃ t, Sys2Proof.Machine.exec (.icmpEcho p mac ip payload) s = .next t ∧
          t.port p.val = { s.port p.val with
            echoTokens := used + 1, echoAt := (if fresh then s.time.ticks else (s.port p.val).echoAt),
            services := (s.port p.val).services ++ [⟨3, s.ethFrame p.val mac.toNat (some (s.pcp 6)) 0x0800
              (Sys2Proof.Machine.ipPacket 1 (s.u Sys2Proof.Machine.Obj.ipNow) ip.toNat ([0, 0] ++
                Sys2Proof.Machine.beBytes 2 (Sys2Proof.Machine.inetSum ([0, 0, 0, 0] ++ payload)) ++ payload))⟩] } ∧
          (∀ q, q ≠ p.val → t.port q = s.port q) ∧ State.Logged { s.begin with merge := { s.merge with ports := t.merge.ports } } t [])) ∧
    (∀ (p : Fin 2) (group : BitVec 32) (report : Nat → Sys2Proof.Bytes),
      (∀ g, report g = s.ethFrame p.val (Sys2Proof.Machine.groupMac g) (some (s.pcp 6)) 0x0800 (Sys2Proof.Machine.ipPacket 2
        (s.u Sys2Proof.Machine.Obj.ipNow) g ([0x16, 0] ++ Sys2Proof.Machine.beBytes 2 (Sys2Proof.Machine.inetSum ([0x16, 0, 0, 0] ++
          Sys2Proof.Machine.beBytes 4 g)) ++ Sys2Proof.Machine.beBytes 4 g))) →
      (s.portUp p.val = false ∨ (group.toNat ≠ 0 ∧ group.toNat ∉ s.groups) →
        ∃ t, Sys2Proof.Machine.exec (.igmpQuery p group) s = .next t ∧ s.begin.Logged t []) ∧
      (s.portUp p.val = true → group.toNat = 0 → ∃ t, Sys2Proof.Machine.exec (.igmpQuery p group) s = .next t ∧
        s.Serves t p.val (s.groups.map report)) ∧
      (s.portUp p.val = true → group.toNat ≠ 0 → group.toNat ∈ s.groups → ∃ t, Sys2Proof.Machine.exec (.igmpQuery p group) s = .next t ∧
        s.Serves t p.val [report group.toNat]))

/-- The exposure triggers of a camera port and the frames that VSYNC edges start (R356 to R358, R368, R371 to R373). -/
def Obligations.CamTriggers : Prop :=
  ∀ s : Sys2Proof.Machine.State, s.ready → s.cams.length = 2 → ∀ p : Fin 2,
    (∀ (h : Sys2Proof.ReqHdr) (sec : BitVec 48) (ns : BitVec 32) (c : Sys2Proof.Machine.Caller) (code : Sys2Proof.Machine.Abort) (at' : Nat),
      s.takes h (0x2D10 + p.val) 0x0F 0x0B (Sys2Proof.Machine.timeBytes sec ns) c → at' = sec.toNat * 1000000000 + ns.toNat →
      code = (if at' = 0 then Sys2Proof.Machine.Abort.ok
        else if at' * 4294967296 < s.time.native then Sys2Proof.Machine.Abort.timeElapsed
        else if at' * 4294967296 < s.time.native + 10000 * 4294967296 then Sys2Proof.Machine.Abort.timeLead
        else Sys2Proof.Machine.Abort.ok) →
      ∃ t, Sys2Proof.Machine.exec (.camTrigTimeWrite h p sec ns) s = .next t ∧
        t.answered (s.answerFor h Sys2Proof.Machine.opWrite code [0, 0]) ∧
        t.get (Sys2Proof.Machine.Obj.camTrigTime p.val) = (if code = Sys2Proof.Machine.Abort.ok then Sys2Proof.Machine.timeBytes sec ns
          else s.get (Sys2Proof.Machine.Obj.camTrigTime p.val)) ∧
        t.cam p.val = { s.cam p.val with nextNs := if code = Sys2Proof.Machine.Abort.ok then at' else (s.cam p.val).nextNs } ∧
        t.cam (1 - p.val) = s.cam (1 - p.val) ∧
        (State.withAnswer { s.begin with cams := t.cams } t).Logged t [Sys2Proof.Machine.Obj.camTrigTime p.val]) ∧
    (s.camActive p.val = false ∨ s.camNext p.val = none →
      ∃ t, Sys2Proof.Machine.exec (.camTriggerLaunch p) s = .next t ∧ s.begin.Logged t []) ∧
    (∀ (ns column : Nat) (timed : Bool), s.camActive p.val = true → s.camNext p.val = some (ns, column, timed) →
      ∃ (t : Sys2Proof.Machine.State) (x : Sys2Proof.Machine.CamPort), Sys2Proof.Machine.exec (.camTriggerLaunch p) s = .next t ∧
        t.time.ticks ≤ max s.time.ticks (s.tickOfNs ns) ∧
        x = (if timed then { s.cam p.val with nextNs := if s.u (Sys2Proof.Machine.Obj.camTrigPeriod p.val) = 0 then 0
            else ns + ((t.nowNs - ns) / s.u (Sys2Proof.Machine.Obj.camTrigPeriod p.val) + 1) * s.u (Sys2Proof.Machine.Obj.camTrigPeriod p.val) }
          else { s.cam p.val with angleNs := (s.cam p.val).angleNs.drop 1 }) ∧
        t.cam (1 - p.val) = s.cam (1 - p.val) ∧
        ((s.cam p.val).trigHigh = true ∨ (s.cam p.val).waiting ≠ none → t.cam p.val = x ∧
          t.shows (Sys2Proof.Machine.Obj.camSkippedTrigCount p.val) (s.u (Sys2Proof.Machine.Obj.camSkippedTrigCount p.val) + 1) ∧
          State.Logged { s.begin with time := s.ranTo t, cams := t.cams } t [Sys2Proof.Machine.Obj.camSkippedTrigCount p.val]) ∧
        ((s.cam p.val).trigHigh = false → (s.cam p.val).waiting = none →
          t.cam p.val = { x with trigHigh := true,
                                 trigEnd := t.time.ticks + 250 * s.u (Sys2Proof.Machine.Obj.camTrigWidth p.val),
                                 waiting := some ⟨s.u (Sys2Proof.Machine.Obj.camNextFrameNumber p.val), t.nowNs, t.time.ticks, column⟩ } ∧
          t.shows (Sys2Proof.Machine.Obj.camNextFrameNumber p.val) (s.u (Sys2Proof.Machine.Obj.camNextFrameNumber p.val) + 1) ∧
          State.Logged { s.begin with time := s.ranTo t, cams := t.cams } t [Sys2Proof.Machine.Obj.camNextFrameNumber p.val])) ∧
    ((s.cam p.val).trigHigh = false → ∃ t, Sys2Proof.Machine.exec (.camTriggerEnd p) s = .next t ∧ s.begin.Logged t []) ∧
    ((s.cam p.val).trigHigh = true → ∃ t, Sys2Proof.Machine.exec (.camTriggerEnd p) s = .next t ∧
      t.time.ticks ≤ max s.time.ticks (s.cam p.val).trigEnd ∧
      State.Logged { s.begin with time := s.ranTo t, cams := Sys2Proof.Machine.setAt s.cams p.val { s.cam p.val with trigHigh := false } } t []) ∧
    ((s.cam p.val).waiting = none → ∃ t, Sys2Proof.Machine.exec (.camNoframe p) s = .next t ∧ s.begin.Logged t []) ∧
    (∀ w : Sys2Proof.Machine.CamTrigger, (s.cam p.val).waiting = some w →
      ∃ t, Sys2Proof.Machine.exec (.camNoframe p) s = .next t ∧
        t.time.ticks ≤ max s.time.ticks (w.tick + 250 * s.u (Sys2Proof.Machine.Obj.camVsyncDelayMax p.val)) ∧
        s.CamDrops t p.val 0 w.number { s.cam p.val with waiting := none }) ∧
    (∀ v : Sys2Proof.Stamp, s.camActive p.val = false →
      ∃ t, Sys2Proof.Machine.exec (.camVsyncStart p v) s = .next t ∧ s.begin.Logged t []) ∧
    (∀ (v : Sys2Proof.Stamp) (f : Sys2Proof.Machine.CamFrame), s.camActive p.val = true → (s.cam p.val).frame = some f →
      ∃ t, Sys2Proof.Machine.exec (.camVsyncStart p v) s = .next t ∧ t.time.ticks ≤ max s.time.ticks (v / 320) ∧
        (f.ended = none → State.Logged { s.begin with time := s.ranTo t } t []) ∧
        (f.ended ≠ none → t.get (Sys2Proof.Machine.Obj.camLastStats p.val) =
          (s.camSet p.val f.snap).stats ((s.camSet p.val f.snap).check f.lines)
            ((s.camSet p.val f.snap).blackLevel ((s.camSet p.val f.snap).check f.lines)))) ∧
    (∀ v : Sys2Proof.Stamp, s.camActive p.val = true → (s.cam p.val).frame = none →
      ∃ t, Sys2Proof.Machine.exec (.camVsyncStart p v) s = .next t ∧ t.time.ticks ≤ max s.time.ticks (v / 320) ∧
        ((s.cam p.val).waiting = none → s.CamDrops t p.val 4 0 { s.cam p.val with ignoring := true }) ∧
        (∀ w lo hi, (s.cam p.val).waiting = some w → lo = (w.tick + 250 * s.u (Sys2Proof.Machine.Obj.camVsyncDelayMin p.val)) * 320 →
          hi = (w.tick + 250 * s.u (Sys2Proof.Machine.Obj.camVsyncDelayMax p.val)) * 320 →
          (v < lo → s.CamDrops t p.val 4 0 { s.cam p.val with ignoring := true }) ∧
          (lo ≤ v → hi < v → (t.cam p.val).waiting = none ∧ (t.cam p.val).frame = none ∧ (t.cam p.val).ignoring = true ∧
            State.tells { s with time := t.time } t 0x0B01 p.val 1 w.number ∧ (t.cam (1 - p.val)) = s.cam (1 - p.val) ∧
            State.Logged { s.begin with time := s.ranTo t, cams := t.cams } t [Sys2Proof.Machine.Obj.camDropCount p.val]) ∧
          (lo ≤ v → v ≤ hi → s.b (Sys2Proof.Machine.Obj.camTnrEnable p.val) = true ∧ s.tnrFits p.val = false →
            s.CamDrops t p.val 3 w.number { s.cam p.val with waiting := none, ignoring := true, memHeld := false }) ∧
          (lo ≤ v → v ≤ hi → s.b (Sys2Proof.Machine.Obj.camTnrEnable p.val) = false ∨ s.tnrFits p.val = true →
            (Sys2Proof.Machine.camStoreSize < (s.cam p.val).storeUsed + s.camReserve p.val →
              s.CamDrops t p.val 1 w.number { s.cam p.val with waiting := none, ignoring := true }) ∧
            ((s.cam p.val).storeUsed + s.camReserve p.val ≤ Sys2Proof.Machine.camStoreSize →
              t.cam p.val = { s.cam p.val with
                waiting := none, storeUsed := (s.cam p.val).storeUsed + s.camReserve p.val,
                memHeld := s.b (Sys2Proof.Machine.Obj.camTnrEnable p.val),
                tnrEmpty := (s.cam p.val).tnrEmpty || (s.b (Sys2Proof.Machine.Obj.camTnrEnable p.val) && !(s.cam p.val).memHeld),
                frame := some { trigger := w, vsync := v, lines := [], received := 0, surplus := 0, syncErr := false, timeout := false,
                                ended := none, dropped := false, waiting := 0, reserve := s.camReserve p.val, snap := s.camSnap p.val } } ∧
              t.cam (1 - p.val) = s.cam (1 - p.val) ∧
              t.u (Sys2Proof.Machine.Obj.camStoreHighWater p.val) = max (s.u (Sys2Proof.Machine.Obj.camStoreHighWater p.val))
                ((s.cam p.val).storeUsed + s.camReserve p.val) ∧
              State.Logged { s.begin with time := s.ranTo t, cams := t.cams } t [Sys2Proof.Machine.Obj.camStoreHighWater p.val]))))

/-- Lines, the pipeline, the end of frames and their trailers (R353, R359, R363, R365 to R370). -/
def Obligations.CamFrames : Prop :=
  ∀ s : Sys2Proof.Machine.State, s.ready → s.cams.length = 2 →
    (∀ p : Fin 2, ∀ (px : List (BitVec 16)) (errs : Nat), ((s.cam p.val).frame = none ∨ ∃ f, (s.cam p.val).frame = some f ∧ (f.ended ≠ none ∨ f.dropped = true)) →
      ∃ t, Sys2Proof.Machine.exec (.camLineComplete p px errs) s = .next t ∧ s.begin.Logged t []) ∧
    (∀ p : Fin 2, ∀ (px : List (BitVec 16)) (errs : Nat) (f f1 : Sys2Proof.Machine.CamFrame), (s.cam p.val).frame = some f → f.ended = none → f.dropped = false →
      f1 = { f with received := f.received + 1, syncErr := f.syncErr || decide (0 < errs) } →
      s.sized (Sys2Proof.Machine.Obj.camMalformedCount p.val) → (∀ k, k < 6 → s.word (Sys2Proof.Machine.Obj.camMalformedCount p.val) 4 (4 * k) + errs + 1 < 4294967296) →
      ∃ t, Sys2Proof.Machine.exec (.camLineComplete p px errs) s = .next t ∧
        (∀ k, k < 6 → t.word (Sys2Proof.Machine.Obj.camMalformedCount p.val) 4 (4 * k) =
          s.word (Sys2Proof.Machine.Obj.camMalformedCount p.val) 4 (4 * k) + (if k = 5 then errs
            else if s.u (Sys2Proof.Machine.Obj.camActiveHeight p.val) ≤ f.lines.length then (if k = 3 then 1 else 0)
            else if 32 ≤ f.waiting then 0
            else if k = 0 ∧ px.length < s.u (Sys2Proof.Machine.Obj.camActiveWidth p.val) then 1
            else if k = 1 ∧ s.u (Sys2Proof.Machine.Obj.camActiveWidth p.val) < px.length then 1 else 0)) ∧
        (s.u (Sys2Proof.Machine.Obj.camActiveHeight p.val) ≤ f.lines.length →
          State.Logged { s.begin with cams := Sys2Proof.Machine.setAt s.cams p.val { s.cam p.val with frame := some { f1 with surplus := f.surplus + 1 } } }
            t [Sys2Proof.Machine.Obj.camMalformedCount p.val]) ∧
        (f.lines.length < s.u (Sys2Proof.Machine.Obj.camActiveHeight p.val) → f.waiting < 32 →
          State.Logged { s.begin with cams := Sys2Proof.Machine.setAt s.cams p.val { s.cam p.val with
              frame := some { f1 with lines := f.lines ++ [px.map (fun x => x.toNat)], waiting := f.waiting + 1 } } }
            t [Sys2Proof.Machine.Obj.camMalformedCount p.val]) ∧
        (f.lines.length < s.u (Sys2Proof.Machine.Obj.camActiveHeight p.val) → 32 ≤ f.waiting →
          t.cams = Sys2Proof.Machine.setAt s.cams p.val { s.cam p.val with
            frame := some { f1 with dropped := true, lines := [], waiting := 0 }, storeUsed := (s.cam p.val).storeUsed - f.reserve,
            droppedBefore := min 65535 ((s.cam p.val).droppedBefore + 1), tnrEmpty := true } ∧
          t.get (Sys2Proof.Machine.Obj.camDropCount p.val) = Sys2Proof.Machine.patch 8
            (Sys2Proof.Machine.leBytes 4 (s.word (Sys2Proof.Machine.Obj.camDropCount p.val) 4 8 + 1)) (s.get (Sys2Proof.Machine.Obj.camDropCount p.val)) ∧
          s.tells t 0x0B03 p.val 1 f.trigger.number ∧
          State.Logged { s.begin with cams := t.cams } t
            [Sys2Proof.Machine.Obj.camMalformedCount p.val, Sys2Proof.Machine.Obj.camDropCount p.val])) ∧
    (∀ waits : Nat → Bool, (∀ p, waits p = true ↔ ∃ f, (s.cam p).frame = some f ∧ 0 < f.waiting) →
      (waits 0 = false → waits 1 = false → ∃ t, Sys2Proof.Machine.exec .camPipelineLine s = .next t ∧ s.begin.Logged t []) ∧
      (∀ p f, p < 2 → waits p = true → p = s.u Sys2Proof.Machine.Obj.camPriority ∨
          (waits (s.u Sys2Proof.Machine.Obj.camPriority) = false ∧ p = 1 - s.u Sys2Proof.Machine.Obj.camPriority) → (s.cam p).frame = some f →
        ∃ t, Sys2Proof.Machine.exec .camPipelineLine s = .next t ∧
          State.Logged { s.begin with cams := Sys2Proof.Machine.setAt s.cams p { s.cam p with frame := some { f with waiting := f.waiting - 1 } } } t [])) ∧
    (∀ p : Fin 2, ∀ v : Sys2Proof.Stamp,
      ∃ t, Sys2Proof.Machine.exec (.camFrameEnd p v) s = .next t ∧ t.time.ticks ≤ max s.time.ticks (v / 320) ∧
        ((s.cam p.val).ignoring = true →
          State.Logged { s.begin with time := s.ranTo t, cams := Sys2Proof.Machine.setAt s.cams p.val { s.cam p.val with ignoring := false } } t []) ∧
        ((s.cam p.val).ignoring = false → (s.cam p.val).frame = none → State.Logged { s.begin with time := s.ranTo t } t []) ∧
        (∀ f, (s.cam p.val).ignoring = false → (s.cam p.val).frame = some f → f.ended ≠ none → State.Logged { s.begin with time := s.ranTo t } t []) ∧
        (∀ f, (s.cam p.val).ignoring = false → (s.cam p.val).frame = some f → f.ended = none → f.dropped = true →
          State.Logged { s.begin with time := s.ranTo t, cams := Sys2Proof.Machine.setAt s.cams p.val { s.cam p.val with frame := none } } t []) ∧
        (∀ f, (s.cam p.val).ignoring = false → (s.cam p.val).frame = some f → f.ended = none → f.dropped = false →
          s.sized (Sys2Proof.Machine.Obj.camMalformedCount p.val) →
          t.word (Sys2Proof.Machine.Obj.camMalformedCount p.val) 4 8 = (s.word (Sys2Proof.Machine.Obj.camMalformedCount p.val) 4 8 +
            (s.u (Sys2Proof.Machine.Obj.camActiveHeight p.val) - f.lines.length)) % 4294967296 ∧
          State.Logged { s.begin with time := s.ranTo t, cams := Sys2Proof.Machine.setAt s.cams p.val { s.cam p.val with frame := some { f with ended := some v, timeout := false } } } t
            [Sys2Proof.Machine.Obj.camMalformedCount p.val])) ∧
    (∀ p : Fin 2, ((s.cam p.val).frame = none ∨ ∃ f, (s.cam p.val).frame = some f ∧ f.ended ≠ none) →
      ∃ t, Sys2Proof.Machine.exec (.camFrameTimeout p) s = .next t ∧ s.begin.Logged t []) ∧
    (∀ p : Fin 2, ∀ f : Sys2Proof.Machine.CamFrame, (s.cam p.val).frame = some f → f.ended = none → f.dropped = true →
      ∃ t, Sys2Proof.Machine.exec (.camFrameTimeout p) s = .next t ∧
        t.time.ticks ≤ max s.time.ticks (f.vsync / 320 + s.u (Sys2Proof.Machine.Obj.camFrameMaxTime p.val) * 250) ∧
        State.Logged { s.begin with time := s.ranTo t, cams := Sys2Proof.Machine.setAt s.cams p.val { s.cam p.val with frame := none, ignoring := true } } t []) ∧
    (∀ p : Fin 2, ∀ (f : Sys2Proof.Machine.CamFrame) (due : Sys2Proof.Stamp), (s.cam p.val).frame = some f → f.ended = none → f.dropped = false →
      due = f.vsync + s.u (Sys2Proof.Machine.Obj.camFrameMaxTime p.val) * 250 * 320 →
      s.sized (Sys2Proof.Machine.Obj.camMalformedCount p.val) →
      ∃ t, Sys2Proof.Machine.exec (.camFrameTimeout p) s = .next t ∧ t.time.ticks ≤ max s.time.ticks (due / 320) ∧
        t.word (Sys2Proof.Machine.Obj.camMalformedCount p.val) 4 8 = (s.word (Sys2Proof.Machine.Obj.camMalformedCount p.val) 4 8 +
          (s.u (Sys2Proof.Machine.Obj.camActiveHeight p.val) - f.lines.length)) % 4294967296 ∧
        t.word (Sys2Proof.Machine.Obj.camMalformedCount p.val) 4 16 = (s.word (Sys2Proof.Machine.Obj.camMalformedCount p.val) 4 16 + 1) % 4294967296 ∧
        State.Logged { s.begin with time := s.ranTo t, cams := Sys2Proof.Machine.setAt s.cams p.val { s.cam p.val with frame := some { f with ended := some due, timeout := true }, ignoring := true } }
          t [Sys2Proof.Machine.Obj.camMalformedCount p.val]) ∧
    (∀ p : Fin 2, ((s.cam p.val).frame = none ∨ ∃ f, (s.cam p.val).frame = some f ∧ (f.ended = none ∨ 0 < f.waiting)) →
      ∃ t, Sys2Proof.Machine.exec (.camTrailerForm p) s = .next t ∧ s.begin.Logged t []) ∧
    (∀ p : Fin 2, ∀ (f : Sys2Proof.Machine.CamFrame) (e : Sys2Proof.Stamp) (width height : Nat) (short long : List Nat) (reset : Bool),
      (s.cam p.val).frame = some f → f.ended = some e → f.waiting = 0 →
      width = s.u (Sys2Proof.Machine.Obj.camActiveWidth p.val) → height = s.u (Sys2Proof.Machine.Obj.camActiveHeight p.val) →
      short = (f.lines.zipIdx.filter (fun x => decide (x.1.length < width))).map (fun x => x.2) →
      long = (f.lines.zipIdx.filter (fun x => decide (width < x.1.length))).map (fun x => x.2) →
      reset = ((s.camSet p.val f.snap).tnr && ((s.cam p.val).tnrEmpty || (s.cam p.val).ref.isEmpty)) →
      ∃ t, Sys2Proof.Machine.exec (.camTrailerForm p) s = .next t ∧
        t.get (Sys2Proof.Machine.Obj.camLastStats p.val) = (s.camSet p.val f.snap).stats ((s.camSet p.val f.snap).check f.lines)
          ((s.camSet p.val f.snap).blackLevel ((s.camSet p.val f.snap).check f.lines)) ∧
        t.get (Sys2Proof.Machine.Obj.camLastTrailer p.val) =
          Sys2Proof.Machine.leBytes 2 ((if short = [] then 0 else 1) + (if long = [] then 0 else 2) + (if height ≤ f.lines.length then 0 else 4) +
            (if f.surplus = 0 then 0 else 8) + (if f.timeout then 16 else 0) + (if f.syncErr then 32 else 0) + (if reset then 64 else 0) +
            (if (s.cam p.val).droppedBefore = 0 then 0 else 128)) ++
          Sys2Proof.Machine.leBytes 2 (s.cam p.val).droppedBefore ++ Sys2Proof.Machine.leBytes 4 f.received ++
          Sys2Proof.Machine.leBytes 2 short.length ++ Sys2Proof.Machine.leBytes 2 long.length ++
          Sys2Proof.Machine.leBytes 2 (height - f.lines.length) ++ Sys2Proof.Machine.leBytes 2 f.surplus ++
          Sys2Proof.Machine.leBytes 2 (short.head?.getD 0xFFFF) ++ Sys2Proof.Machine.leBytes 2 (long.head?.getD 0xFFFF) ++
          Sys2Proof.Machine.slice 4 4 (t.get (Sys2Proof.Machine.Obj.camLastStats p.val)) ++
          Sys2Proof.Machine.leBytes 4 (s.nsAt f.vsync) ++ Sys2Proof.Machine.leBytes 4 (s.nsAt e) ++
          Sys2Proof.Machine.leBytes 2 f.trigger.column ++ [0, 0] ∧
        (t.cam p.val).frame = none ∧ (t.cam p.val).droppedBefore = 0 ∧ (t.cam p.val).tnrEmpty = false ∧ t.cam (1 - p.val) = s.cam (1 - p.val) ∧
        ((s.stream (3 + p.val)).enabled = false → (t.cam p.val).store = (s.cam p.val).store ∧
          (t.cam p.val).storeUsed = (s.cam p.val).storeUsed - f.reserve ∧
          State.Logged { s.begin with cams := t.cams } t [Sys2Proof.Machine.Obj.camLastStats p.val, Sys2Proof.Machine.Obj.camLastTrailer p.val]) ∧
        ((s.stream (3 + p.val)).enabled = true →
          (∃ pixels : List Sys2Proof.Bytes, (t.cam p.val).store = (s.cam p.val).store ++ pixels ++
              [Sys2Proof.Machine.camHeader p.val 1 pixels.length f.trigger.number 0 0 ++ t.get (Sys2Proof.Machine.Obj.camLastStats p.val),
               Sys2Proof.Machine.camHeader p.val 2 (pixels.length + 1) f.trigger.number 0 0 ++ t.get (Sys2Proof.Machine.Obj.camLastTrailer p.val)]) ∧
          t.shows (Sys2Proof.Machine.Obj.camFrameCount p.val) (s.u (Sys2Proof.Machine.Obj.camFrameCount p.val) + 1) ∧
          State.Logged { s.begin with cams := t.cams } t [Sys2Proof.Machine.Obj.camLastStats p.val, Sys2Proof.Machine.Obj.camLastTrailer p.val,
            Sys2Proof.Machine.Obj.camFrameCount p.val]))

/-- REC_PERST_N, initialisation and the recorder's commands (R376 to R378, R384 to R388, Table REC-5). -/
def Obligations.RecControl : Prop :=
  ∀ s : Sys2Proof.Machine.State, s.ready →
    (s.hasRecorder = false ∨ s.dev.booted = false ∨ s.recd.perstHigh = true →
      ∃ t, Sys2Proof.Machine.exec .recPerstRelease s = .next t ∧ s.begin.Logged t []) ∧
    (s.hasRecorder = true → s.dev.booted = true → s.recd.perstHigh = false →
      ∃ t, Sys2Proof.Machine.exec .recPerstRelease s = .next t ∧
        t.time.ticks ≤ max s.time.ticks (max s.dev.bootTick (s.recd.resetAt + 25000000)) ∧
        t.shows Sys2Proof.Machine.Obj.recState 1 ∧
        State.Logged { s.begin with time := s.ranTo t, recd := { s.recd with perstHigh := true } } t [Sys2Proof.Machine.Obj.recState]) ∧
    (∀ r : Sys2Proof.RecInit, s.u Sys2Proof.Machine.Obj.recState ≠ 1 ∨ s.recd.perstHigh = false →
      ∃ t, Sys2Proof.Machine.exec (.recInitDone r) s = .next t ∧ s.begin.Logged t []) ∧
    (∀ r : Sys2Proof.RecInit, s.u Sys2Proof.Machine.Obj.recState = 1 → s.recd.perstHigh = true →
      ∃ t, Sys2Proof.Machine.exec (.recInitDone r) s = .next t ∧
        (r.linkUp = false → t.shows Sys2Proof.Machine.Obj.linkStatus 0 ∧ t.shows Sys2Proof.Machine.Obj.recState 0 ∧
          s.begin.Logged t [Sys2Proof.Machine.Obj.linkStatus, Sys2Proof.Machine.Obj.recState]) ∧
        (r.linkUp = true → t.shows Sys2Proof.Machine.Obj.linkStatus (r.generation.val + 16 * r.lanes.val) ∧
          (r.generation.val < 4 ∨ r.lanes.val < 4 → s.tells t 0x0C01 0 2 (r.generation.val + 16 * r.lanes.val)) ∧
          (r.driveOk = false ∨ r.blockSize ≠ 4096 ∨ r.nvmeVersion.toNat < 0x00010300 →
            t.shows Sys2Proof.Machine.Obj.recState 0 ∧ s.tells t 0x0C02 0 3 (Sys2Proof.Config.freeValue s.fresh % 256) ∧
            State.Logged { s.begin with fresh := s.fresh + 1 } t [Sys2Proof.Machine.Obj.linkStatus, Sys2Proof.Machine.Obj.recState]) ∧
          (r.driveOk = true → r.blockSize = 4096 → 0x00010300 ≤ r.nvmeVersion.toNat →
            t.shows Sys2Proof.Machine.Obj.recState 2 ∧
            t.shows Sys2Proof.Machine.Obj.managedExtents ((min r.blocks (2 ^ 33) - 256) / 512) ∧
            t.get Sys2Proof.Machine.Obj.driveInfo = (r.serial ++ List.replicate 20 0).take 20 ++ (r.model ++ List.replicate 40 0).take 40 ++
              Sys2Proof.Machine.leBytes 4 r.nvmeVersion.toNat ∧
            (s.superGood r.superA = false → s.superGood r.superB = false → t.shows Sys2Proof.Machine.Obj.recordingId 0) ∧
            (∀ sb : Sys2Proof.Bytes, (s.superGood r.superA = true ∧ sb = r.superA ∧
                (s.superGood r.superB = true → Sys2Proof.Machine.numAt 8 8 r.superB ≤ Sys2Proof.Machine.numAt 8 8 r.superA)) ∨
              (s.superGood r.superB = true ∧ sb = r.superB ∧
                (s.superGood r.superA = true → Sys2Proof.Machine.numAt 8 8 r.superA < Sys2Proof.Machine.numAt 8 8 r.superB)) →
              t.shows Sys2Proof.Machine.Obj.recordingId (Sys2Proof.Machine.numAt 24 8 sb) ∧
              t.recd.superGen = Sys2Proof.Machine.numAt 8 8 sb ∧ t.recd.extentCount = Sys2Proof.Machine.numAt 40 4 sb ∧
              ((∀ e ∈ r.extents, e.1 ≠ Sys2Proof.Machine.numAt 48 4 sb) → t.shows Sys2Proof.Machine.Obj.headExtent (Sys2Proof.Machine.numAt 48 4 sb) ∧
                t.shows Sys2Proof.Machine.Obj.oldestExtent (Sys2Proof.Machine.numAt 52 4 sb) ∧
                t.recd.headSequence = Sys2Proof.Machine.numAt 56 8 sb ∧ t.recd.nextRecord = Sys2Proof.Machine.numAt 64 8 sb) ∧
              (∀ bs : Sys2Proof.Bytes, r.extents = [(Sys2Proof.Machine.numAt 48 4 sb, bs)] →
                State.extentGood (s.put Sys2Proof.Machine.Obj.recordingId (Sys2Proof.Machine.leBytes 8 (Sys2Proof.Machine.numAt 24 8 sb))) bs = true →
                Sys2Proof.Machine.numAt 8 8 bs = Sys2Proof.Machine.numAt 56 8 sb →
                Sys2Proof.Machine.numAt 48 4 sb + 1 < Sys2Proof.Machine.numAt 40 4 sb →
                t.shows Sys2Proof.Machine.Obj.headExtent (Sys2Proof.Machine.numAt 48 4 sb + 1) ∧
                t.recd.headSequence = Sys2Proof.Machine.numAt 56 8 sb + 1 ∧
                t.recd.nextRecord = Sys2Proof.Machine.numAt 32 8 bs + Sys2Proof.Machine.numAt 40 4 bs)) ∧
            State.Logged { s.begin with recd := t.recd } t [Sys2Proof.Machine.Obj.linkStatus, Sys2Proof.Machine.Obj.recState,
              Sys2Proof.Machine.Obj.managedExtents, Sys2Proof.Machine.Obj.driveInfo, Sys2Proof.Machine.Obj.recordingId,
              Sys2Proof.Machine.Obj.headExtent, Sys2Proof.Machine.Obj.oldestExtent]))) ∧
    (∀ (h : Sys2Proof.ReqHdr) (c : Sys2Proof.Machine.Caller), s.takes h 0x2E00 0x01 0x02 [1] c →
      (s.u Sys2Proof.Machine.Obj.recState ≠ 2 ∨ s.u Sys2Proof.Machine.Obj.recordingId = 0 → ∃ t, Sys2Proof.Machine.exec (.recStart h) s = .next t ∧
        t.answered (s.answerFor h Sys2Proof.Machine.opWrite Sys2Proof.Machine.Abort.notAllowedNow [0, 0]) ∧ (State.withAnswer s.begin t).Logged t []) ∧
      (∀ extent, s.u Sys2Proof.Machine.Obj.recState = 2 → s.u Sys2Proof.Machine.Obj.recordingId ≠ 0 → s.recd.extent = none →
        (s.u Sys2Proof.Machine.Obj.headExtent < s.recd.extentCount ∧ extent = s.u Sys2Proof.Machine.Obj.headExtent) ∨
          (s.recd.extentCount ≤ s.u Sys2Proof.Machine.Obj.headExtent ∧ s.u Sys2Proof.Machine.Obj.recPolicy = 0 ∧ extent = 0) →
        ∃ t, Sys2Proof.Machine.exec (.recStart h) s = .next t ∧
          t.answered (s.answerFor h Sys2Proof.Machine.opWrite Sys2Proof.Machine.Abort.ok [0, 0]) ∧
          t.shows Sys2Proof.Machine.Obj.recState 3 ∧ t.shows Sys2Proof.Machine.Obj.headExtent extent ∧
          t.shows Sys2Proof.Machine.Obj.recordsWritten (s.u Sys2Proof.Machine.Obj.recordsWritten + 1) ∧
          t.recd = { s.recd with
            superAt := s.time.ticks, epochKey := some s.epochKey, nextRecord := s.recd.nextRecord + 1,
            wrapCount := s.recd.wrapCount + (if extent = s.u Sys2Proof.Machine.Obj.headExtent then 0 else 1),
            extent := some { extent := extent, sequence := s.recd.headSequence, data := s.recEntry 2 0 s.epochBody, issued := 0, starts := [0],
                             firstRecord := s.recd.nextRecord, firstTime := 0, lastTime := 0, segEnds := [], closing := false,
                             partialFlag := false } } ∧
          (State.withAnswer { s.begin with recd := t.recd } t).Logged t [Sys2Proof.Machine.Obj.recState, Sys2Proof.Machine.Obj.headExtent,
            Sys2Proof.Machine.Obj.oldestExtent, Sys2Proof.Machine.Obj.recordsWritten]) ∧
      (s.u Sys2Proof.Machine.Obj.recState = 2 → s.u Sys2Proof.Machine.Obj.recordingId ≠ 0 → s.recd.extent = none →
        s.recd.extentCount ≤ s.u Sys2Proof.Machine.Obj.headExtent → s.u Sys2Proof.Machine.Obj.recPolicy = 1 →
        ∃ t, Sys2Proof.Machine.exec (.recStart h) s = .next t ∧
          t.answered (s.answerFor h Sys2Proof.Machine.opWrite Sys2Proof.Machine.Abort.ok [0, 0]) ∧
          t.shows Sys2Proof.Machine.Obj.recState 4 ∧ s.tells t (0x0C00 + Sys2Proof.Config.recFullDetail.toNat) 0 2 0 ∧
          (State.withAnswer { s.begin with recd := { s.recd with superAt := s.time.ticks } } t).Logged t [Sys2Proof.Machine.Obj.recState])) ∧
    (∀ (h : Sys2Proof.ReqHdr) (c : Sys2Proof.Machine.Caller), s.takes h 0x2E00 0x01 0x02 [2] c →
      (s.u Sys2Proof.Machine.Obj.recState ≠ 3 → s.u Sys2Proof.Machine.Obj.recState ≠ 4 → ∃ t, Sys2Proof.Machine.exec (.recStop h) s = .next t ∧
        t.answered (s.answerFor h Sys2Proof.Machine.opWrite Sys2Proof.Machine.Abort.notAllowedNow [0, 0]) ∧ (State.withAnswer s.begin t).Logged t []) ∧
      (s.u Sys2Proof.Machine.Obj.recState = 4 → ∃ t, Sys2Proof.Machine.exec (.recStop h) s = .next t ∧
        t.answered (s.answerFor h Sys2Proof.Machine.opWrite Sys2Proof.Machine.Abort.ok [0, 0]) ∧ t.shows Sys2Proof.Machine.Obj.recState 2 ∧
        (State.withAnswer s.begin t).Logged t [Sys2Proof.Machine.Obj.recState]) ∧
      (s.u Sys2Proof.Machine.Obj.recState = 3 → s.sized Sys2Proof.Machine.Obj.recState → ∃ t, Sys2Proof.Machine.exec (.recStop h) s = .next t ∧
        t.answered (s.answerFor h Sys2Proof.Machine.opWrite Sys2Proof.Machine.Abort.ok [0, 0]) ∧ t.shows Sys2Proof.Machine.Obj.recState 2 ∧
        (s.recd.extent = none → s.recd.superStage = 0 →
          t.recd = { s.recd with superStage := 1, superSnap := s.superFigures, superDue := false,
                                 flight := s.recd.flight ++ [⟨2, 0, [], 0, s.time.ticks, false⟩] }) ∧
        (∀ x : Sys2Proof.Machine.OpenExtent, s.recd.extent = some x → x.closing = false → t.recd.superDue = true ∧
          ∃ y, t.recd.extent = some y ∧ y.closing = true ∧ y.partialFlag = true ∧ y.data = x.data ∧ y.starts = x.starts) ∧
        (State.withAnswer { s.begin with recd := t.recd } t).Logged t [Sys2Proof.Machine.Obj.recState])) ∧
    (∀ (h : Sys2Proof.ReqHdr) (c : Sys2Proof.Machine.Caller), s.takes h 0x2E00 0x01 0x02 [3] c →
      ∃ t, Sys2Proof.Machine.exec (.recSync h) s = .next t ∧
        (s.u Sys2Proof.Machine.Obj.recState ≠ 3 →
          t.answered (s.answerFor h Sys2Proof.Machine.opWrite Sys2Proof.Machine.Abort.notAllowedNow [0, 0]) ∧ (State.withAnswer s.begin t).Logged t []) ∧
        (s.u Sys2Proof.Machine.Obj.recState = 3 → t.answered (s.answerFor h Sys2Proof.Machine.opWrite Sys2Proof.Machine.Abort.ok [0, 0]) ∧
          (s.recd.superStage ≠ 0 → (State.withAnswer { s.begin with recd := { s.recd with superDue := true } } t).Logged t []) ∧
          (s.recd.superStage = 0 → (State.withAnswer { s.begin with recd := { s.recd with
              superStage := 1, superSnap := s.superFigures, superDue := false,
              flight := s.recd.flight ++ [⟨2, 0, [], 0, s.time.ticks, false⟩] } } t).Logged t []))) ∧
    (∀ (h : Sys2Proof.ReqHdr) (c : Sys2Proof.Machine.Caller), s.takes h 0x2E00 0x01 0x02 [4] c →
      ∃ t, Sys2Proof.Machine.exec (.recReinit h) s = .next t ∧
        (s.u Sys2Proof.Machine.Obj.recState = 1 ∨ s.u Sys2Proof.Machine.Obj.recState = 3 →
          t.answered (s.answerFor h Sys2Proof.Machine.opWrite Sys2Proof.Machine.Abort.notAllowedNow [0, 0]) ∧ (State.withAnswer s.begin t).Logged t []) ∧
        (s.u Sys2Proof.Machine.Obj.recState ≠ 1 → s.u Sys2Proof.Machine.Obj.recState ≠ 3 → s.recTaken = 0 →
          t.answered (s.answerFor h Sys2Proof.Machine.opWrite Sys2Proof.Machine.Abort.ok [0, 0]) ∧ t.shows Sys2Proof.Machine.Obj.recState 1 ∧
          (State.withAnswer { s.begin with recd := { s.recd with extent := none, flight := [], superStage := 0, superDue := false } } t).Logged t
            [Sys2Proof.Machine.Obj.recState, Sys2Proof.Machine.Obj.unrecordedCount])) ∧
    (∀ (h : Sys2Proof.ReqHdr) (c : Sys2Proof.Machine.Caller), s.takes h 0x2E00 0x02 0x02 [1] c →
      ∃ t, Sys2Proof.Machine.exec (.recFormat h 1) s = .next t ∧
        (s.u Sys2Proof.Machine.Obj.recState ≠ 2 ∨ s.dev.state ≠ .idle →
          t.answered (s.answerFor h Sys2Proof.Machine.opWrite Sys2Proof.Machine.Abort.notAllowedNow [0, 0]) ∧ (State.withAnswer s.begin t).Logged t []) ∧
        (s.u Sys2Proof.Machine.Obj.recState = 2 → s.dev.state = .idle →
          t.answered (s.answerFor h Sys2Proof.Machine.opWrite Sys2Proof.Machine.Abort.ok [0, 0]) ∧
          t.shows Sys2Proof.Machine.Obj.headExtent 0 ∧ t.shows Sys2Proof.Machine.Obj.oldestExtent 0 ∧
          t.shows Sys2Proof.Machine.Obj.recordingId
            (Sys2Proof.Config.recordingId (s.nowNs / 1000000000) (s.u Sys2Proof.Machine.Obj.bootCount)).toNat ∧
          t.recd.headSequence = 1 ∧ t.recd.nextRecord = 0 ∧ t.recd.wrapCount = 0 ∧ t.recd.extentCount = s.u Sys2Proof.Machine.Obj.managedExtents ∧
          (∃ a b : Sys2Proof.Machine.NvmeCmd, t.recd.flight = s.recd.flight ++ [a, b] ∧ a.kind = 3 ∧ a.lba = 0 ∧ b.kind = 3 ∧ b.lba = 1 ∧
            a.data.length = 4096 ∧ b.data.length = 4096 ∧ Sys2Proof.Machine.numAt 8 8 a.data = 1 ∧ Sys2Proof.Machine.numAt 8 8 b.data = 2) ∧
          (State.withAnswer { s.begin with recd := t.recd } t).Logged t [Sys2Proof.Machine.Obj.recordingId, Sys2Proof.Machine.Obj.headExtent,
            Sys2Proof.Machine.Obj.oldestExtent]))

/-- The recorder's writing, its failures, its health page and readback (R379 to R384, R386 to R390). -/
def Obligations.RecWriting : Prop :=
  ∀ s : Sys2Proof.Machine.State, s.ready →
    (s.recWaiting.drop s.recTaken = [] ∨ s.recd.powerFail = true →
      ∃ t, Sys2Proof.Machine.exec .recSegmentTake s = .next t ∧ s.begin.Logged t []) ∧
    (∀ (g : Sys2Proof.Machine.Segment) (rest : List Sys2Proof.Machine.Segment), s.recWaiting.drop s.recTaken = g :: rest →
      s.recd.powerFail = false → s.u Sys2Proof.Machine.Obj.recState ≠ 3 ∨ s.dev.state = .update → s.recTaken = 0 →
      ∃ t, Sys2Proof.Machine.exec .recSegmentTake s = .next t ∧
        t.shows Sys2Proof.Machine.Obj.unrecordedCount (s.u Sys2Proof.Machine.Obj.unrecordedCount + 1) ∧
        State.Logged { s.begin with
          recd := { s.recd with unrecorded := s.recd.unrecorded + 1 }, may := { s.may with ring := (s.may.ring.map (fun x => if x.number = g.number then { x with recWaits := false } else x)).filter (fun x => x.streamWaits || x.recWaits) } } t [Sys2Proof.Machine.Obj.unrecordedCount]) ∧
    (∀ (g : Sys2Proof.Machine.Segment) (rest : List Sys2Proof.Machine.Segment) (x : Sys2Proof.Machine.OpenExtent),
      s.recWaiting.drop s.recTaken = g :: rest → s.recd.powerFail = false → s.u Sys2Proof.Machine.Obj.recState = 3 → s.dev.state ≠ .update →
      s.recd.extent = some x → x.closing = false → s.recd.epochKey = some s.epochKey → s.may.lossForRec = 0 → s.recd.unrecorded = 0 →
      ∃ (t : Sys2Proof.Machine.State) (y : Sys2Proof.Machine.OpenExtent), Sys2Proof.Machine.exec .recSegmentTake s = .next t ∧
        t.recd.extent = some y ∧ y.extent = x.extent ∧ y.sequence = x.sequence ∧ t.may = s.may ∧
        Sys2Proof.Machine.State.recInFlight t ≤ max s.recInFlight (s.u Sys2Proof.Machine.Obj.inFlightLimit) ∧
        (x.data.length + (32 + (g.header ++ g.payload).length) ≤ 511 * 4096 →
          y.data = x.data ++ s.recEntry 1 g.number (g.header ++ g.payload) ∧ y.starts = x.starts ++ [x.data.length] ∧ y.closing = false ∧
          t.recd.nextRecord = s.recd.nextRecord + 1 ∧ t.shows Sys2Proof.Machine.Obj.recordsWritten (s.u Sys2Proof.Machine.Obj.recordsWritten + 1) ∧
          State.Logged { s.begin with recd := t.recd } t [Sys2Proof.Machine.Obj.recordsWritten]) ∧
        (511 * 4096 < x.data.length + (32 + (g.header ++ g.payload).length) →
          y.data = x.data ∧ y.closing = true ∧ y.partialFlag = false ∧ State.Logged { s.begin with recd := t.recd } t [])) ∧
    (∀ (g : Sys2Proof.Machine.Segment) (rest : List Sys2Proof.Machine.Segment) (x : Sys2Proof.Machine.OpenExtent),
      s.recWaiting.drop s.recTaken = g :: rest → s.recd.powerFail = false → s.u Sys2Proof.Machine.Obj.recState = 3 → s.dev.state ≠ .update →
      s.recd.extent = some x → x.closing = false → s.recd.epochKey = some s.epochKey → 0 < s.may.lossForRec + s.recd.unrecorded →
      x.data.length + 48 + (32 + (g.header ++ g.payload).length) ≤ 511 * 4096 →
      ∃ (t : Sys2Proof.Machine.State) (y : Sys2Proof.Machine.OpenExtent) (loss seg : Sys2Proof.Bytes), Sys2Proof.Machine.exec .recSegmentTake s = .next t ∧
        t.recd.extent = some y ∧ y.data = x.data ++ loss ++ seg ∧ loss.length = 48 ∧ loss.take 2 = [3, 0] ∧
        loss.drop 32 = Sys2Proof.Machine.leBytes 4 s.may.lossForRec ++ Sys2Proof.Machine.leBytes 4 s.recd.unrecorded ++ List.replicate 8 0 ∧
        seg.take 2 = [1, 0] ∧ seg.drop 32 = g.header ++ g.payload ∧ t.may.lossForRec = 0 ∧ t.recd.unrecorded = 0 ∧
        t.recd.nextRecord = s.recd.nextRecord + 2) ∧
    (∀ res : Sys2Proof.NvmeResult, s.recd.flight.find? (fun c => c.kind != 2) = none →
      ∃ t, Sys2Proof.Machine.exec (.recWriteComplete res) s = .next t ∧ s.begin.Logged t []) ∧
    (∀ c : Sys2Proof.Machine.NvmeCmd, s.recd.flight.find? (fun c => c.kind != 2) = some c →
      ∃ t, Sys2Proof.Machine.exec (.recWriteComplete .ok) s = .next t ∧
        t.shows Sys2Proof.Machine.Obj.bytesWritten (s.u Sys2Proof.Machine.Obj.bytesWritten + c.data.length) ∧
        (c.segments = 0 → t.may = s.may) ∧
        (∀ g rest, c.segments = 1 → s.recWaiting = g :: rest → t.may.ring =
          (s.may.ring.map (fun x => if x.number = g.number then { x with recWaits := false } else x)).filter (fun x => x.streamWaits || x.recWaits)) ∧
        (c.kind = 0 → s.recd.extent = none → t.recd.flight = s.recd.flight.erase c) ∧
        (c.kind = 1 → s.recd.superDue = false → s.recd.powerFail = false → s.u Sys2Proof.Machine.Obj.headExtent + 1 < s.recd.extentCount →
          t.recd.extent = none ∧ t.recd.flight = s.recd.flight.erase c ∧ t.recd.headSequence = s.recd.headSequence + 1 ∧
          t.shows Sys2Proof.Machine.Obj.headExtent (s.u Sys2Proof.Machine.Obj.headExtent + 1)) ∧
        (c.kind = 1 → s.recd.superDue = false → s.recd.powerFail = false → s.recd.extentCount = s.u Sys2Proof.Machine.Obj.headExtent + 1 →
          s.u Sys2Proof.Machine.Obj.recPolicy = 0 →
          t.recd.extent = none ∧ t.shows Sys2Proof.Machine.Obj.headExtent 0 ∧ t.recd.wrapCount = s.recd.wrapCount + 1 ∧
          t.shows Sys2Proof.Machine.Obj.oldestExtent (1 % s.recd.extentCount)) ∧
        (c.kind = 3 → s.recd.superStage = 2 → t.recd.superStage = 3 ∧
          t.recd.flight = s.recd.flight.erase c ++ [⟨2, 0, [], 0, s.time.ticks, false⟩]) ∧
        State.Logged { s.begin with recd := t.recd, may := t.may } t [Sys2Proof.Machine.Obj.bytesWritten, Sys2Proof.Machine.Obj.headExtent,
          Sys2Proof.Machine.Obj.oldestExtent]) ∧
    (∀ res : Sys2Proof.NvmeResult, s.recd.flight.find? (fun c => c.kind == 2) = none →
      ∃ t, Sys2Proof.Machine.exec (.recFlushComplete res) s = .next t ∧ s.begin.Logged t []) ∧
    (∀ c : Sys2Proof.Machine.NvmeCmd, s.recd.flight.find? (fun c => c.kind == 2) = some c →
      ∃ t, Sys2Proof.Machine.exec (.recFlushComplete .ok) s = .next t ∧
        (s.recd.superStage = 1 → ∃ d : Sys2Proof.Machine.NvmeCmd, d.kind = 3 ∧ d.lba = (if (s.recd.superGen + 1) % 2 = 1 then 0 else 1) ∧
          d.data = s.superblock (s.recd.superGen + 1) s.recd.superSnap ∧ d.issuedAt = s.time.ticks ∧ d.retried = false ∧ d.segments = 0 ∧
          State.Logged { s.begin with recd := { s.recd with superGen := s.recd.superGen + 1, superStage := 2,
                                                            flight := s.recd.flight.erase c ++ [d] } } t []) ∧
        (s.recd.superStage = 3 → s.recd.superDue = false →
          State.Logged { s.begin with recd := { s.recd with superStage := 0, superAt := s.time.ticks, flight := s.recd.flight.erase c } } t [])) ∧
    (∀ (c : Sys2Proof.Machine.NvmeCmd) (e : Sys2Proof.Instr), (s.recd.flight.find? (fun c => c.kind != 2) = some c ∧ e = .recWriteComplete .error) ∨
        (s.recd.flight.find? (fun c => c.kind == 2) = some c ∧ e = .recFlushComplete .error) →
      (c.retried = false → ∃ t, Sys2Proof.Machine.exec e s = .next t ∧
        State.Logged { s.begin with recd := { s.recd with
          flight := s.recd.flight.map (fun d => if d = c then { c with retried := true, issuedAt := s.time.ticks } else d) } } t []) ∧
      (c.retried = true → s.recTaken = 0 → ∃ t, Sys2Proof.Machine.exec e s = .next t ∧
        s.RecFails t (Sys2Proof.Config.freeValue s.fresh % 65536) ∧ t.fresh = s.fresh + 1 ∧ t.time = s.time)) ∧
    (s.u Sys2Proof.Machine.Obj.recState ≠ 3 ∨ s.recd.powerFail = true →
      ∃ t, Sys2Proof.Machine.exec .recSuperblockPeriod s = .next t ∧ s.begin.Logged t []) ∧
    (s.u Sys2Proof.Machine.Obj.recState = 3 → s.recd.powerFail = false →
      ∃ t, Sys2Proof.Machine.exec .recSuperblockPeriod s = .next t ∧
        t.time.ticks ≤ max s.time.ticks (s.recd.superAt + 250000 * s.u Sys2Proof.Machine.Obj.superblockPeriod) ∧
        (s.recd.superStage ≠ 0 → State.Logged { s.begin with time := s.ranTo t, recd := { s.recd with superAt := t.time.ticks, superDue := true } } t []) ∧
        (s.recd.superStage = 0 → State.Logged { s.begin with time := s.ranTo t, recd := { s.recd with
            superAt := t.time.ticks, superStage := 1, superSnap := s.superFigures, superDue := false,
            flight := s.recd.flight ++ [⟨2, 0, [], 0, t.time.ticks, false⟩] } } t [])) ∧
    (s.recd.flight = [] → ∃ t, Sys2Proof.Machine.exec .recCmdTimeout s = .next t ∧ s.begin.Logged t []) ∧
    (∀ c rest, s.recd.flight = c :: rest → s.recTaken = 0 →
      ∃ t, Sys2Proof.Machine.exec .recCmdTimeout s = .next t ∧ t.time.ticks ≤ max s.time.ticks (c.issuedAt + 25000000) ∧
        s.RecFails t 0 ∧ t.fresh = s.fresh) ∧
    (s.u Sys2Proof.Machine.Obj.recState = 0 ∨ s.u Sys2Proof.Machine.Obj.recState = 5 →
      ∃ t, Sys2Proof.Machine.exec .recLinkLoss s = .next t ∧ s.begin.Logged t []) ∧
    (s.u Sys2Proof.Machine.Obj.recState ≠ 0 → s.u Sys2Proof.Machine.Obj.recState ≠ 5 → s.recTaken = 0 →
      ∃ t, Sys2Proof.Machine.exec .recLinkLoss s = .next t ∧ s.RecFails t 0 ∧ t.fresh = s.fresh ∧ t.time = s.time) ∧
    (∀ page : Sys2Proof.Bytes, s.u Sys2Proof.Machine.Obj.recState < 2 ∨ s.u Sys2Proof.Machine.Obj.recState = 5 →
      ∃ t, Sys2Proof.Machine.exec (.recSmartPoll page) s = .next t ∧ s.begin.Logged t []) ∧
    (∀ page : Sys2Proof.Bytes, 2 ≤ s.u Sys2Proof.Machine.Obj.recState → s.u Sys2Proof.Machine.Obj.recState ≠ 5 → 6 ≤ page.length →
      ∃ t, Sys2Proof.Machine.exec (.recSmartPoll page) s = .next t ∧ t.time.ticks ≤ max s.time.ticks (s.recd.smartAt + 2500000000) ∧
        t.get Sys2Proof.Machine.Obj.driveHealth = [page.getD 1 0, page.getD 2 0, page.getD 5 0, page.getD 0 0, page.getD 3 0, 0, 0, 0] ∧
        State.Logged { s.begin with time := s.ranTo t, recd := { s.recd with smartAt := t.time.ticks } } t [Sys2Proof.Machine.Obj.driveHealth]) ∧
    (∀ (h : Sys2Proof.ReqHdr) (c : Sys2Proof.Machine.Caller) (data : Sys2Proof.Bytes), s.dev.recovery = false →
      s.hears h Sys2Proof.Machine.opBlockRead (Sys2Proof.Machine.readBody 0x2E00 0x22) c → s.variant = .sv → 1 ≤ c.level →
      s.u Sys2Proof.Machine.Obj.readLba + s.u Sys2Proof.Machine.Obj.readBlocks ≤ 256 + 512 * s.u Sys2Proof.Machine.Obj.managedExtents →
      s.fire.pfailN = true → 2 ≤ s.u Sys2Proof.Machine.Obj.recState → s.u Sys2Proof.Machine.Obj.recState ≠ 5 →
      s.begin.purge.openCode c = Sys2Proof.Machine.Abort.ok → 0 < s.u Sys2Proof.Machine.Obj.readBlocks →
      data.length = 4096 * s.u Sys2Proof.Machine.Obj.readBlocks →
      ∃ t, Sys2Proof.Machine.exec (.recRead h (Sys2Proof.Machine.readBody 0x2E00 0x22) data) s = .next t ∧
        t.answered (s.answerFor h Sys2Proof.Machine.opBlockRead 0 ([0, 0] ++ Sys2Proof.Machine.leBytes 4 data.length)) ∧
        (∃ x ∈ t.dtp.transfers, x.owner = c.owner ∧ x.isWrite = false ∧ x.data = data ∧ x.done = 0 ∧ x.nextBlock = 0) ∧
        (State.withAnswer { s.begin with recd := { s.recd with lastRead := data } } t).Logged t [])

/-- Closing of entries, the journal, ALERT_N and C2LOSS (R394, R396 to R400). -/
def Obligations.EventsAndAlarms : Prop :=
  ∀ s : Sys2Proof.Machine.State, s.ready →
    (s.ev.openEntries = [] → ∃ t, Sys2Proof.Machine.exec .eventEntryClose s = .next t ∧ s.begin.Logged t []) ∧
    (∀ (e : Sys2Proof.Machine.EventEntry) (rest queue : List Sys2Proof.Machine.EventEntry), s.ev.openEntries = e :: rest →
      queue = (if e.severity < s.u Sys2Proof.Machine.Obj.logMinSeverity ∨ s.b (Sys2Proof.Machine.Obj.strEnable 6) = false then s.ev.logQueue
        else if 256 ≤ s.ev.logQueue.length then (s.ev.logQueue ++ [e]).drop 1 else s.ev.logQueue ++ [e]) →
      ∃ t, Sys2Proof.Machine.exec .eventEntryClose s = .next t ∧ t.time.ticks ≤ max s.time.ticks (e.openedAt + 2500000) ∧
        (s.time.running = true → (∀ x ∈ rest, x.number ≠ e.number) → ∀ y ∈ t.ev.openEntries, y.openedAt ≠ e.openedAt ∨ y.number ≠ e.number) ∧
        (e.journaled = true → s.mramRefusal = Sys2Proof.Machine.Abort.ok → s.ev.journal.length < 1000 → ∀ j ∈ s.ev.journal, j.entry.number = e.number →
          j.bootCount = s.u Sys2Proof.Machine.Obj.bootCount → ∃ k ∈ t.ev.journal, k.entry = e ∧ k.bootCount = j.bootCount) ∧
        State.Logged { s.begin with time := s.ranTo t, ev := { s.ev with openEntries := rest, logQueue := queue } } t []) ∧
    (∀ (h : Sys2Proof.ReqHdr) (v : Sys2Proof.Byte) (c : Sys2Proof.Machine.Caller) (code : Sys2Proof.Machine.Abort), s.takes h 0x1400 0x0F 0x02 [v] c →
      code = (if s.dev.state ≠ .idle then Sys2Proof.Machine.Abort.notAllowedNow else s.mramRefusal) →
      ∃ t, Sys2Proof.Machine.exec (.journalClear h v) s = .next t ∧ t.answered (s.answerFor h Sys2Proof.Machine.opWrite code [0, 0]) ∧
        (s.alarmsNow = s.u Sys2Proof.Machine.Obj.activeAlarms →
          t.ev.journal = (if code = Sys2Proof.Machine.Abort.ok then [] else s.ev.journal)) ∧
        (State.withAnswer s.begin t).Logged t []) ∧
    (s.mramRefusal ≠ Sys2Proof.Machine.Abort.ok → ∃ t, Sys2Proof.Machine.exec .journalResume s = .next t ∧ s.begin.Logged t []) ∧
    (s.mramRefusal = Sys2Proof.Machine.Abort.ok → s.ev.journal.length + s.ev.waiting.length ≤ 1024 →
      s.alarmsNow = s.u Sys2Proof.Machine.Obj.activeAlarms →
      ∃ t, Sys2Proof.Machine.exec .journalResume s = .next t ∧ t.ev.waiting = [] ∧ t.ev.lost = 0 ∧ t.ev.journal = s.ev.journal ++ s.ev.waiting ∧
        (0 < s.ev.lost → s.tells t 0x0E03 0 2 s.ev.lost) ∧
        (s.sized Sys2Proof.Machine.Obj.journalDropped → Sys2Proof.Machine.Store.get t.variant t.mram Sys2Proof.Machine.Obj.journalDropped =
          s.get Sys2Proof.Machine.Obj.journalDropped) ∧
        s.begin.Logged t []) ∧
    (s.dev.booted = false → ∃ t, Sys2Proof.Machine.exec .alertPeriod s = .next t ∧ s.begin.Logged t []) ∧
    (∀ sev since : Nat, s.dev.booted = true → s.alarmsNow = s.u Sys2Proof.Machine.Obj.activeAlarms → s.ev.alertSwitch = none → s.ev.lastSeverity = sev →
      since = s.time.ticks - s.dev.bootTick → s.ev.alertLow = Sys2Proof.Machine.alertPattern sev since →
      ∃ t, Sys2Proof.Machine.exec .alertPeriod s = .next t ∧ t.ev.lastSeverity = sev ∧
        (sev = 4 → t.ev.alertLow = true ∧ t.time = s.time) ∧ (sev < 2 → t.ev.alertLow = false ∧ t.time = s.time) ∧
        (sev = 3 → t.time.ticks ≤ max s.time.ticks (s.dev.bootTick + (since / 12500000 + 1) * 12500000) ∧
          t.ev.alertLow = decide ((t.time.ticks - s.dev.bootTick) % 25000000 < 12500000)) ∧
        (sev = 2 → t.time.ticks ≤ max s.time.ticks (s.dev.bootTick + (since / 125000000 + 1) * 125000000) ∧
          t.ev.alertLow = decide ((t.time.ticks - s.dev.bootTick) % 250000000 < 125000000)) ∧
        State.Logged { s.begin with time := s.ranTo t } t []) ∧
    (∀ sev due : Nat, s.dev.booted = true → s.alarmsNow = s.u Sys2Proof.Machine.Obj.activeAlarms → s.ev.alertSwitch = some (sev, due) →
      s.ev.lastSeverity < 2 ∨ s.ev.lastSeverity = 4 → s.time.ticks < due →
      s.ev.alertLow = Sys2Proof.Machine.alertPattern s.ev.lastSeverity (s.time.ticks - s.dev.bootTick) → s.time.running = true →
      ∃ t, Sys2Proof.Machine.exec .alertPeriod s = .next t ∧ t.time.ticks = due ∧ t.ev.alertSwitch = none ∧ t.ev.lastSeverity = sev ∧
        t.ev.alertLow = Sys2Proof.Machine.alertPattern sev (due - s.dev.bootTick) ∧ State.Logged { s.begin with time := s.ranTo t } t []) ∧
    (s.ev.c2LossAt = none → ∃ t, Sys2Proof.Machine.exec .c2lossAlarmEnd s = .next t ∧ s.begin.Logged t []) ∧
    (∀ a : Nat, s.ev.c2LossAt = some a → ∃ t, Sys2Proof.Machine.exec .c2lossAlarmEnd s = .next t ∧
      t.time.ticks ≤ max s.time.ticks (a + 250000000) ∧ t.ev.c2LossAt = none ∧
      (s.dev.booted = true → (t.u Sys2Proof.Machine.Obj.activeAlarms).testBit 11 = false) ∧
      State.Logged { s.begin with time := s.ranTo t, ev := { s.ev with c2LossAt := none } } t [])

/-- HELLO, HEARTBEAT and TIME (R324, R325, R402, R404, R408, R409, R412). The frames' layouts are the model's (log entry 31). -/
def Obligations.PairLink : Prop :=
  ∀ s : Sys2Proof.Machine.State, s.ready →
    (∀ (f : Sys2Proof.PairFrame) (e : Sys2Proof.Instr), e ∈ [Sys2Proof.Instr.hello f, .heartbeat f, .timeExchange f, .columnFrame f, .loopFrame f,
        .configFrame f, .bulkFrame f, .claim f, .claimAck f, .release f] →
      (s.pair.role = 0 ∨ s.pair.linkUp = false → ∃ t, Sys2Proof.Machine.exec e s = .next t ∧ s.begin.Logged t []) ∧
      (s.pair.role ≠ 0 → s.pair.linkUp = true → f.fcsGood = false →
        ∃ t, Sys2Proof.Machine.exec e s = .next t ∧ s.Counts t Sys2Proof.Machine.Obj.linkErrorCount)) ∧
    (∀ (f : Sys2Proof.PairFrame) (id : Nat) (good : Prop), s.pair.role ≠ 0 → s.pair.linkUp = true → f.fcsGood = true →
      id = Sys2Proof.Machine.numAt 1 2 f.payload →
      (good ↔ Sys2Proof.Machine.numAt 0 1 f.payload + s.pair.role = 3 ∧ id ≠ s.dev.identity ∧
        Sys2Proof.Machine.slice 3 2 f.payload = s.get Sys2Proof.Machine.Obj.partNumber ∧
        Sys2Proof.Machine.slice 5 1 f.payload = s.get Sys2Proof.Machine.Obj.variantCode ∧
        Sys2Proof.Machine.slice 6 1 f.payload = s.get Sys2Proof.Machine.Obj.stepping ∧
        (s.u Sys2Proof.Machine.Obj.partnerIdentity = 0 ∨ s.u Sys2Proof.Machine.Obj.partnerIdentity = id)) →
      (¬ good → ∃ t k, Sys2Proof.Machine.exec (.hello f) s = .next t ∧ t.shows Sys2Proof.Machine.Obj.pairState 4 ∧
        s.tells t 0x0D03 0 3 (Sys2Proof.Config.pairReason k).toNat ∧
        State.Logged { s.begin with pair := { s.begin.pair with phase := 4 } } t [Sys2Proof.Machine.Obj.pairState]) ∧
      (good → s.pair.phase = 2 → ∃ t, Sys2Proof.Machine.exec (.hello f) s = .next t ∧
        State.Logged { s.begin with pair := { s.begin.pair with lastHello := s.time.ticks } } t []) ∧
      (good → s.pair.phase ≠ 2 → ∃ t, Sys2Proof.Machine.exec (.hello f) s = .next t ∧ t.shows Sys2Proof.Machine.Obj.pairState 2 ∧
        t.pair = { s.begin.pair with phase := 2, partnerIdentity := id, lostOnce := false, lastHello := s.time.ticks,
                                     lastHeartbeat := s.time.ticks, missRun := 0 } ∧
        (s.pair.role ≠ 2 → State.Logged { s.begin with pair := t.pair } t [Sys2Proof.Machine.Obj.pairState]) ∧
        (s.pair.role = 2 → s.pair.lostOnce = false ∨ s.time.servo = 0 →
          State.Logged { s.begin with pair := t.pair, time := { s.time with pairSource := true } } t [Sys2Proof.Machine.Obj.pairState]) ∧
        (s.pair.role = 2 → s.pair.lostOnce = true → s.time.servo ≠ 0 → t.time.pairSource = true ∧ t.time.servo = 4 ∧
          t.time.increment = s.heldIncrement ∧ t.shows Sys2Proof.Machine.Obj.servoState 4 ∧
          s.tells t 0x0801 s.time.ptpPort 2 (Sys2Proof.Machine.twosOf 64 s.time.meanDelay)))) ∧
    (s.pair.role = 0 ∨ s.pair.linkUp = false ∨ s.pair.phase = 2 → ∃ t, Sys2Proof.Machine.exec .helloSend s = .next t ∧ s.begin.Logged t []) ∧
    (s.pair.role ≠ 0 → s.pair.linkUp = true → s.pair.phase ≠ 2 → s.pair.outSeq.length = 10 → ∃ t, Sys2Proof.Machine.exec .helloSend s = .next t ∧
      t.time.ticks ≤ max s.time.ticks (s.pair.helloSentAt + 250000) ∧
      t.pair.out = [⟨1, s.pair.outSeq.getD 1 0, [BitVec.ofNat 8 s.pair.role] ++ Sys2Proof.Machine.leBytes 2 s.dev.identity ++
        s.get Sys2Proof.Machine.Obj.partNumber ++ s.get Sys2Proof.Machine.Obj.variantCode ++ s.get Sys2Proof.Machine.Obj.stepping⟩] ∧
      t.pair.outSeq.getD 1 0 = (s.pair.outSeq.getD 1 0 + 1) % 4294967296 ∧
      State.Logged { s.begin with time := s.ranTo t, pair := { s.pair with helloSentAt := t.time.ticks, out := t.pair.out, outSeq := t.pair.outSeq } } t []) ∧
    (∀ f : Sys2Proof.PairFrame, s.pair.role ≠ 0 → s.pair.linkUp = true → f.fcsGood = true → s.sized Sys2Proof.Machine.Obj.partnerState →
      ∃ t, Sys2Proof.Machine.exec (.heartbeat f) s = .next t ∧
        t.shows Sys2Proof.Machine.Obj.partnerState (Sys2Proof.Machine.numAt 0 1 f.payload) ∧
        t.pair.out = (if Sys2Proof.Machine.numAt 0 1 f.payload = 0x50 ∧ s.u Sys2Proof.Machine.Obj.partnerState ≠ 0x50 ∧ s.pair.asserts = true
          then [⟨7, s.pair.outSeq.getD 7 0, State.bulkBody (s.setU Sys2Proof.Machine.Obj.partnerState 0x50)⟩] else []) ∧
        State.Logged { s.begin with pair := { s.pair with
          lastHeartbeat := s.time.ticks, missRun := 0, out := t.pair.out, outSeq := t.pair.outSeq,
          netReleased := if Sys2Proof.Machine.numAt 1 1 f.payload = 0 then s.pair.netReleased else false } } t
          [Sys2Proof.Machine.Obj.partnerState]) ∧
    (s.pair.role = 0 ∨ s.pair.linkUp = false → ∃ t, Sys2Proof.Machine.exec .heartbeatSend s = .next t ∧ s.begin.Logged t []) ∧
    (s.pair.role ≠ 0 → s.pair.linkUp = true → ∃ t, Sys2Proof.Machine.exec .heartbeatSend s = .next t ∧
      t.time.ticks ≤ max s.time.ticks (s.pair.heartbeatSentAt + 2500) ∧
      ((s.pair.checkInAt = none ∨ ∃ c, s.pair.checkInAt = some c ∧ t.time.ticks ≤ c + 2500) →
        t.pair.out = [⟨2, s.pair.outSeq.getD 2 0, [BitVec.ofNat 8 s.dev.state.code, if s.pair.asserts then 1 else 0] ++
          Sys2Proof.Machine.leBytes 4 s.scan.columnNo ++ Sys2Proof.Machine.leBytes 4 s.pair.mirrorSeq⟩]) ∧
      (∀ c, s.pair.checkInAt = some c → c + 2500 < t.time.ticks → t.pair.out = [] ∧ t.pair.outSeq = s.pair.outSeq) ∧
      State.Logged { s.begin with time := s.ranTo t, pair := { s.pair with heartbeatSentAt := t.time.ticks, out := t.pair.out, outSeq := t.pair.outSeq } } t []) ∧
    (s.pair.role = 0 ∨ (s.pair.phase ≠ 2 ∧ s.pair.phase ≠ 3) → ∃ t, Sys2Proof.Machine.exec .heartbeatMiss s = .next t ∧ s.begin.Logged t []) ∧
    (s.pair.role ≠ 0 → s.pair.phase = 2 ∨ s.pair.phase = 3 → ∃ t, Sys2Proof.Machine.exec .heartbeatMiss s = .next t ∧
      t.time.ticks ≤ max s.time.ticks (s.pair.lastHeartbeat + (s.pair.missRun + 1) * 2500 + 500) ∧
      t.shows Sys2Proof.Machine.Obj.heartbeatMissCount (s.u Sys2Proof.Machine.Obj.heartbeatMissCount + 1) ∧
      (s.pair.missRun < 2 ∨ (s.pair.linkUp = false ∧ (s.dev.state ≠ .standby ∨ s.pair.netReleased = false)) →
        State.Logged { s.begin with time := s.ranTo t, pair := { s.begin.pair with missRun := s.pair.missRun + 1 } } t
        [Sys2Proof.Machine.Obj.heartbeatMissCount]) ∧
      (2 ≤ s.pair.missRun → s.pair.linkUp = true → s.dev.state ≠ .standby ∨ s.pair.netReleased = false →
        t.pair = { s.begin.pair with missRun := s.pair.missRun + 1, linkUp := false, phase := 3, synced := false, columns := [], configs := [],
                                     claimSent := false, claimAcked := false } ∧
        t.shows Sys2Proof.Machine.Obj.pairState 3 ∧ (s.pair.phase = 2 → State.tells { s with time := t.time } t 0x0D02 0 3 3) ∧
        (s.pair.role = 2 → s.time.pairSource = true → s.time.servo ≠ 0 → t.time.servo = 3) ∧
        (s.pair.role ≠ 2 ∨ s.time.pairSource = false ∨ s.time.servo = 0 → t.time = s.ranTo t) ∧
        t.dev = s.dev ∧ t.fire = s.fire ∧ t.scan = s.scan ∧ t.loops = s.loops)) ∧
    (∀ f : Sys2Proof.PairFrame, s.pair.linkUp = true → f.fcsGood = true →
      (s.pair.role = 1 → ∃ t, Sys2Proof.Machine.exec (.timeExchange f) s = .next t ∧
        t.shows Sys2Proof.Machine.Obj.pairTimeOffset (Sys2Proof.Machine.numAt 32 4 f.payload) ∧
        s.begin.Logged t [Sys2Proof.Machine.Obj.pairTimeOffset]) ∧
      (s.pair.role = 2 → s.time.pairSource = false → ∃ t, Sys2Proof.Machine.exec (.timeExchange f) s = .next t ∧ s.begin.Logged t []) ∧
      (∀ (t1 t2 t3 t4 o m : Int), s.pair.role = 2 → s.time.pairSource = true →
        t1 = Sys2Proof.Machine.intAt 0 8 f.payload → t2 = Sys2Proof.Machine.intAt 8 8 f.payload →
        t3 = Sys2Proof.Machine.intAt 16 8 f.payload → t4 = Sys2Proof.Machine.intAt 24 8 f.payload →
        o = Int.fdiv ((t2 - t1) - (t4 - t3)) 2 → m = Int.fdiv ((t2 - t1) + (t4 - t3)) 2 → -2147483648 ≤ o → o < 2147483648 →
        32 ≤ f.payload.length → s.knockCalm ((s.delayMeasured m).servoOffset o) →
        ∃ t, Sys2Proof.Machine.exec (.timeExchange f) s = .next t ∧
          t.shows Sys2Proof.Machine.Obj.pairTimeOffset (Sys2Proof.Machine.twosOf 32 o) ∧
          t.time.servo = ((s.delayMeasured m).servoOffset o).time.servo ∧ t.time.meanDelay = ((s.delayMeasured m).servoOffset o).time.meanDelay ∧
          t.time.native = ((s.delayMeasured m).servoOffset o).time.native ∧
          t.time.increment = ((s.delayMeasured m).servoOffset o).time.increment ∧
          t.pair.out = [⟨3, s.pair.outSeq.getD 3 0, f.payload.take 32 ++ Sys2Proof.Machine.leBytes 4 (Sys2Proof.Machine.twosOf 32 o)⟩]))

/-- COLUMN, LOOP, CONFIG and BULK frames (R223, R404 to R406). The frames' layouts are the model's (log entry 31). -/
def Obligations.PairMirror : Prop :=
  ∀ (s : Sys2Proof.Machine.State) (f : Sys2Proof.PairFrame), s.ready → s.pair.role ≠ 0 → s.pair.linkUp = true → f.fcsGood = true →
    (s.dev.state ≠ .standby ∨ s.pair.synced = false →
      ∃ t, Sys2Proof.Machine.exec (.columnFrame f) s = .next t ∧ s.begin.Logged t []) ∧
    (s.dev.state = .standby → s.pair.synced = true → s.stampOfLink f.payload < s.nowStamp →
      ∃ t, Sys2Proof.Machine.exec (.columnFrame f) s = .next t ∧
        t.u Sys2Proof.Machine.Obj.mirrorLag = (if s.nowNs - s.nsAt (s.stampOfLink f.payload) ≤ s.u Sys2Proof.Machine.Obj.mirrorLag
          then s.u Sys2Proof.Machine.Obj.mirrorLag else (s.nowNs - s.nsAt (s.stampOfLink f.payload)) % 4294967296) ∧
        State.Logged { s.begin with pair := { s.begin.pair with mirrorSeq := f.sequence.toNat } } t [Sys2Proof.Machine.Obj.mirrorLag]) ∧
    (s.dev.state = .standby → s.pair.synced = true → s.nowStamp ≤ s.stampOfLink f.payload →
      ∃ t, Sys2Proof.Machine.exec (.columnFrame f) s = .next t ∧
        State.Logged { s.begin with pair := { s.begin.pair with
          mirrorSeq := f.sequence.toNat, columns := s.pair.columns ++ [(s.stampOfLink f.payload, f.payload)] } } t []) ∧
    (3 ≤ Sys2Proof.Machine.numAt 0 1 f.payload → ∃ t, Sys2Proof.Machine.exec (.loopFrame f) s = .next t ∧ s.begin.Logged t []) ∧
    (∀ n, n = Sys2Proof.Machine.numAt 0 1 f.payload → n < 3 → s.pair.mirror.length = 3 →
      ∃ t, Sys2Proof.Machine.exec (.loopFrame f) s = .next t ∧ (t.mirror n).mode = Sys2Proof.Machine.numAt 1 1 f.payload ∧
        (t.mirror n).code = Sys2Proof.Machine.numAt 2 2 f.payload ∧ (t.mirror n).r = Sys2Proof.Machine.numAt 4 4 f.payload ∧
        (t.mirror n).v = Sys2Proof.Machine.numAt 8 4 f.payload ∧ (t.mirror n).a = Sys2Proof.Machine.numAt 12 4 f.payload ∧
        (t.mirror n).asOf = s.time.ticks ∧ (∀ m, m ≠ n → t.mirror m = s.mirror m) ∧
        State.Logged { s.begin with pair := { s.begin.pair with mirror := t.pair.mirror } } t []) ∧
    (∀ id : Nat, id = Sys2Proof.Machine.numAt 12 2 f.payload * 256 + Sys2Proof.Machine.numAt 14 1 f.payload →
      (s.pair.asserts = true ∨ Sys2Proof.Machine.isMirrored id = false →
        ∃ t, Sys2Proof.Machine.exec (.configFrame f) s = .next t ∧ s.begin.Logged t []) ∧
      (s.pair.asserts = false → Sys2Proof.Machine.isMirrored id = true → s.dev.state = .standby → s.nowStamp < s.stampOfLink f.payload →
        ∃ t, Sys2Proof.Machine.exec (.configFrame f) s = .next t ∧
          State.Logged { s.begin with pair := { s.begin.pair with
            configs := s.pair.configs ++ [(s.stampOfLink f.payload, id, f.payload.drop 16)] } } t []) ∧
      (s.pair.asserts = false → Sys2Proof.Machine.isMirrored id = true →
        s.dev.state ≠ .standby ∨ s.stampOfLink f.payload ≤ s.nowStamp →
        ∃ t, Sys2Proof.Machine.exec (.configFrame f) s = .next t ∧ t.get id = f.payload.drop 16 ∧ t.pair = s.begin.pair ∧ t.dev = s.dev ∧
          (Sys2Proof.Machine.quietObj id = true → s.streamsAsSet → t.scan = s.scan ∧ t.time = s.time ∧ t.fire = s.fire ∧
            t.loops = s.loops ∧ ∀ j, j ≠ id → j ∉ Sys2Proof.Machine.logObjects → t.get j = s.get j))) ∧
    (s.pair.asserts = true → ∃ t, Sys2Proof.Machine.exec (.bulkFrame f) s = .next t ∧ s.begin.Logged t []) ∧
    (∀ r : List (Nat × Sys2Proof.Bytes) × Nat, r = Sys2Proof.Machine.bulkObjects f.payload (Sys2Proof.Machine.numAt 0 2 f.payload) 2 →
      s.pair.asserts = false → ∃ t, Sys2Proof.Machine.exec (.bulkFrame f) s = .next t ∧ t.pair.synced = true ∧
        (∀ e ∈ r.1, Sys2Proof.Machine.isMirrored e.1 = true → (∀ e' ∈ r.1, e'.1 = e.1 → e' = e) → t.get e.1 = e.2) ∧
        (∀ id, Sys2Proof.Machine.isMirrored id = true → (∀ e ∈ r.1, e.1 ≠ id) → t.get id = Sys2Proof.Machine.defaultOf s.variant id) ∧
        (∀ n, n < 3 → (t.mirror n).code = Sys2Proof.Machine.numAt (r.2 + 16 * n + 2) 2 f.payload ∧
          (t.mirror n).r = Sys2Proof.Machine.numAt (r.2 + 16 * n + 4) 4 f.payload ∧
          (t.mirror n).v = Sys2Proof.Machine.numAt (r.2 + 16 * n + 8) 4 f.payload ∧
          (t.mirror n).a = Sys2Proof.Machine.numAt (r.2 + 16 * n + 12) 4 f.payload ∧ (t.mirror n).asOf = s.time.ticks) ∧
        t.fire.gov = t.bulkGov f.payload 3 0 (r.2 + 64) ∧ t.dev = s.dev)

/-- CLAIM, CLAIM_ACK, RELEASE, PAIR_OWN, the Rilman link and PARTNER_LOST (R325, R404, R407 to R409, R412). That a refused CLAIM draws no
answer is the model's choice (log entry 31). -/
def Obligations.PairOwnership : Prop :=
  ∀ s : Sys2Proof.Machine.State, s.ready →
    (∀ f : Sys2Proof.PairFrame, s.pair.role ≠ 0 → s.pair.linkUp = true → f.fcsGood = true →
      (s.pair.asserts = true ∨ (s.pair.claimSent = true ∧ s.pair.role = 1) →
        ∃ t, Sys2Proof.Machine.exec (.claim f) s = .next t ∧ s.begin.Logged t []) ∧
      (s.pair.asserts = false → s.pair.claimSent = false ∨ s.pair.role ≠ 1 →
        ∃ t, Sys2Proof.Machine.exec (.claim f) s = .next t ∧ t.pair.out = [⟨8, s.pair.outSeq.getD 8 0, [1]⟩] ∧
          State.Logged { s.begin with pair := { s.pair with claimSent := false, claimAcked := false, out := t.pair.out,
                                                            outSeq := t.pair.outSeq } } t []) ∧
      (∃ t, Sys2Proof.Machine.exec (.claimAck f) s = .next t ∧
        State.Logged { s.begin with pair := { s.begin.pair with claimAcked := s.pair.claimAcked || s.pair.claimSent } } t []) ∧
      (s.pair.netReleased = false ∨ s.dev.state ≠ .standby → ∃ t, Sys2Proof.Machine.exec (.release f) s = .next t ∧
        State.Logged { s.begin with pair := { s.begin.pair with releaseSeen := true } } t [])) ∧
    (s.pair.role = 0 ∨ s.pair.netReleased = false ∨ s.dev.state ≠ .standby →
      ∃ t, Sys2Proof.Machine.exec .pairOwnTimeout s = .next t ∧ s.begin.Logged t []) ∧
    (s.pair.role = 0 ∨ s.pair.asserts = true ∨ s.pair.netReleased = true →
      ∃ t, Sys2Proof.Machine.exec .pairOwnRelease s = .next t ∧ s.begin.Logged t []) ∧
    (s.pair.role ≠ 0 → s.pair.asserts = false → s.pair.netReleased = false →
      s.dev.state ≠ .standby ∨ (s.pair.releaseSeen = false ∧ s.pair.missRun < 3) →
      ∃ t, Sys2Proof.Machine.exec .pairOwnRelease s = .next t ∧
        State.Logged { s.begin with pair := { s.begin.pair with netReleased := true, releasedAt := s.time.ticks } } t []) ∧
    (s.pair.role = 0 ∨ s.pair.linkUp = false → ∃ t, Sys2Proof.Machine.exec .rilmanLinkDown s = .next t ∧ s.begin.Logged t []) ∧
    (∀ phase : Nat, s.pair.role ≠ 0 → s.pair.linkUp = true → phase = (if s.pair.phase = 2 ∨ s.pair.phase = 3 then 3 else 0) →
      ∃ t, Sys2Proof.Machine.exec .rilmanLinkDown s = .next t ∧ t.shows Sys2Proof.Machine.Obj.pairState phase ∧
        t.pair = { s.begin.pair with linkUp := false, phase := phase, synced := false, columns := [], configs := [], claimSent := false,
                                     claimAcked := false } ∧
        (s.pair.phase = 2 → s.tells t 0x0D02 0 3 3) ∧
        (s.pair.role = 2 → s.time.pairSource = true → s.time.servo ≠ 0 → s.time.servo ≠ 3 →
          t.shows Sys2Proof.Machine.Obj.servoState 3 ∧
          State.Logged { s.begin with pair := t.pair, time := { s.time with servo := 3, lockRun := 0, increment := s.heldIncrement } } t
            [Sys2Proof.Machine.Obj.pairState, Sys2Proof.Machine.Obj.servoState]) ∧
        (s.pair.role ≠ 2 ∨ s.time.pairSource = false ∨ s.time.servo = 0 ∨ s.time.servo = 3 →
          State.Logged { s.begin with pair := t.pair } t [Sys2Proof.Machine.Obj.pairState])) ∧
    (s.pair.role = 0 ∨ s.pair.linkUp = true → ∃ t, Sys2Proof.Machine.exec .rilmanLinkUp s = .next t ∧ s.begin.Logged t []) ∧
    (s.pair.role ≠ 0 → s.pair.linkUp = false → ∃ t, Sys2Proof.Machine.exec .rilmanLinkUp s = .next t ∧
      (s.pair.phase ≠ 3 → t.shows Sys2Proof.Machine.Obj.pairState 1) ∧
      (s.pair.phase = 3 → t.get Sys2Proof.Machine.Obj.pairState = s.get Sys2Proof.Machine.Obj.pairState) ∧
      t.pair.out = (if s.pair.asserts = true then [⟨7, s.pair.outSeq.getD 7 0, s.bulkBody⟩] else []) ∧
      State.Logged { s.begin with pair := { s.pair with
        linkUp := true, phase := (if s.pair.phase = 3 then 3 else 1), lastHeartbeat := s.time.ticks, missRun := 0,
        helloSentAt := s.time.ticks, out := t.pair.out, outSeq := t.pair.outSeq } } t [Sys2Proof.Machine.Obj.pairState]) ∧
    (s.pair.role = 0 ∨ s.pair.netReleased = false ∨ (s.pair.phase ≠ 2 ∧ s.pair.phase ≠ 3) →
      ∃ t, Sys2Proof.Machine.exec .partnerLost s = .next t ∧ s.begin.Logged t []) ∧
    (s.pair.role ≠ 0 → s.pair.netReleased = true → s.pair.phase = 2 ∨ s.pair.phase = 3 →
      ∃ t, Sys2Proof.Machine.exec .partnerLost s = .next t ∧
        t.time.ticks ≤ max s.time.ticks (max (max s.pair.lastHello s.pair.lastHeartbeat) s.pair.releasedAt + 250000) ∧
        t.shows Sys2Proof.Machine.Obj.pairState 0 ∧ State.tells { s with time := t.time } t 0x0D04 0 2 0 ∧
        t.pair = { s.begin.pair with phase := 0, lostOnce := true } ∧
        (s.time.pairSource = false → State.Logged { s.begin with time := s.ranTo t, pair := t.pair } t [Sys2Proof.Machine.Obj.pairState]) ∧
        (s.time.pairSource = true → s.u Sys2Proof.Machine.Obj.timeSource = 0 → t.shows Sys2Proof.Machine.Obj.servoState 0 ∧
          State.Logged { s.begin with pair := t.pair, time := { s.ranTo t with pairSource := false, servo := 0, lockRun := 0 } } t
            [Sys2Proof.Machine.Obj.pairState, Sys2Proof.Machine.Obj.servoState]) ∧
        (s.time.pairSource = true → s.u Sys2Proof.Machine.Obj.timeSource ≠ 0 → s.time.servo ≠ 0 →
          t.shows Sys2Proof.Machine.Obj.servoState 4 ∧
          t.shows Sys2Proof.Machine.Obj.holdoverCount (s.u Sys2Proof.Machine.Obj.holdoverCount + 1) ∧
          State.tells { s with time := t.time } t 0x0801 s.time.ptpPort 2 (Sys2Proof.Machine.twosOf 64 s.time.meanDelay) ∧
          t.time = { s.ranTo t with pairSource := false, servo := 4, lockRun := 0, increment := s.heldIncrement, requalQ := [], dev := 0 } ∧
          State.Logged { s.begin with pair := t.pair, time := t.time } t
            [Sys2Proof.Machine.Obj.pairState, Sys2Proof.Machine.Obj.servoState, Sys2Proof.Machine.Obj.holdoverCount]))

/-- Takeover (R409, R410). That a takeover by the third missed heartbeat reports no 0x0D02 is the model's reading (log entry 31). -/
def Obligations.Takeover : Prop :=
  ∀ s : Sys2Proof.Machine.State, s.ready → s.pair.role ≠ 0 → s.dev.state = .standby → s.pair.asserts = false →
    (∀ f : Sys2Proof.PairFrame, s.pair.linkUp = true → f.fcsGood = true → s.pair.netReleased = true →
      ∃ t, Sys2Proof.Machine.exec (.release f) s = .next t ∧ s.TakesOver t 1 ∧ t.time.ticks = s.time.ticks) ∧
    (s.pair.netReleased = false → s.pair.releaseSeen = true →
      ∃ t, Sys2Proof.Machine.exec .pairOwnRelease s = .next t ∧ s.TakesOver t 1 ∧ t.time.ticks = s.time.ticks) ∧
    (s.pair.netReleased = false → s.pair.releaseSeen = false → 3 ≤ s.pair.missRun →
      ∃ t, Sys2Proof.Machine.exec .pairOwnRelease s = .next t ∧ s.TakesOver t 2 ∧ t.time.ticks = s.time.ticks) ∧
    (s.pair.netReleased = true → s.pair.phase = 2 ∨ s.pair.phase = 3 → 2 ≤ s.pair.missRun →
      ∃ t, Sys2Proof.Machine.exec .heartbeatMiss s = .next t ∧ s.TakesOver t 2 ∧ t.pair.linkUp = false ∧
        (s.pair.linkUp = true → t.shows Sys2Proof.Machine.Obj.pairState 3) ∧
        t.shows Sys2Proof.Machine.Obj.heartbeatMissCount (s.u Sys2Proof.Machine.Obj.heartbeatMissCount + 1) ∧
        t.time.ticks ≤ max s.time.ticks (s.pair.lastHeartbeat + (s.pair.missRun + 1) * 2500 + 500)) ∧
    (s.pair.netReleased = true → ∃ t, Sys2Proof.Machine.exec .pairOwnTimeout s = .next t ∧ s.TakesOver t 3 ∧
      t.time.ticks ≤ max s.time.ticks (s.pair.releasedAt + 15000))

/-- RESET_RELEASE, BOOT_COMPLETE and the two references that do not reset (R402, R419 to R421, R423 to R425, R427). -/
def Obligations.Boot : Prop :=
  ∀ s : Sys2Proof.Machine.State, s.ev.safeWanted = none →
    (∀ p : Sys2Proof.BootPins, s.dev.state ≠ .reset ∨ s.dev.porActive = true →
      ∃ t, Sys2Proof.Machine.exec (.resetRelease p) s = .next t ∧ s.begin.Logged t []) ∧
    (∀ (p : Sys2Proof.BootPins) (ready trial sure : Nat → Prop), s.dev.state = .reset → s.dev.porActive = false →
      (∀ k, ready k ↔ (k = 1 ∨ k = 2) ∧ State.candidate { s with live := s.mram } (s.slot k) = true) →
      (∀ k, trial k ↔ ready k ∧ p.bootSafe = false ∧ p.pfailN = true ∧ (s.slot k).state = 1 ∧ (s.slot k).trials = 0) →
      (∀ k, sure k ↔ ready k ∧ (s.slot k).state = 2) →
      ∃ t, Sys2Proof.Machine.exec (.resetRelease p) s = .next t ∧
        t.dev = { s.dev with
          state := .boot, resetNLow := false, nodeId := p.nodeId.toNat, compat := p.compat || t.b Sys2Proof.Machine.Obj.compatMode,
          safeBoot := p.bootSafe, recovery := decide (t.dev.bootSlot = 0), bootSlot := t.dev.bootSlot, pllLock := 0x3F,
          identity := t.u Sys2Proof.Machine.Obj.identityPrefix % 4096 * 16 + p.nodeId.toNat, slotA := t.dev.slotA, slotB := t.dev.slotB } ∧
        t.time = { s.time with running := true } ∧ t.shows Sys2Proof.Machine.Obj.state 0x02 ∧
        t.shows Sys2Proof.Machine.Obj.bootSlot t.dev.bootSlot ∧ t.shows Sys2Proof.Machine.Obj.deviceIdentity t.dev.identity ∧
        (trial 1 → t.dev.bootSlot = 1) ∧ (trial 2 → ¬ trial 1 → t.dev.bootSlot = 2) ∧
        (∀ k, k = t.dev.bootSlot → trial k → (t.slot k).trials = 1 ∧ (t.slot k).state = 1 ∧ (t.slot k).image = (s.slot k).image) ∧
        (¬ trial 1 → ¬ trial 2 → ∀ k j, sure k → k + j = 3 →
          ¬ sure j ∨ (s.slot j).generation < (s.slot k).generation ∨ ((s.slot j).generation = (s.slot k).generation ∧ k = 1) →
          t.dev.bootSlot = k) ∧
        (¬ trial 1 → ¬ trial 2 → ¬ sure 1 → ¬ sure 2 → t.dev.bootSlot = 0) ∧
        (∀ k, k = 1 ∨ k = 2 → (s.slot k).state = 1 → 1 ≤ (s.slot k).trials → (t.slot k).state = 3) ∧
        (∀ k, k = 1 ∨ k = 2 → (s.slot k).state ≠ 1 → t.slot k = s.slot k) ∧
        (∀ id, Sys2Proof.Machine.isStored id = true → id ≠ Sys2Proof.Machine.Obj.bootCount → id ∉ Sys2Proof.Machine.logObjects →
          t.get id = if (p.bootSafe = true ∨ t.dev.bootSlot = 0) ∧ Sys2Proof.Machine.keptStored (t.dev.bootSlot != 0) id = false
            then Sys2Proof.Machine.defaultOf s.variant id else Sys2Proof.Machine.Store.get s.variant s.mram id) ∧
        t.shows Sys2Proof.Machine.Obj.bootCount
          (Sys2Proof.Machine.leVal (Sys2Proof.Machine.Store.get s.variant s.mram Sys2Proof.Machine.Obj.bootCount) + 1) ∧
        (p.safeOffN = true → t.ev.journal = s.ev.journal.filter (fun j => j.crcGood)) ∧
        (p.safeOffN = false → s.fire.safeOffN = true → Sys2Proof.Machine.bitOf t.fire.inhibit 2 = true ∧ 0x0303 ∈ t.ev.fatal) ∧
        t.fire.pfailN = p.pfailN ∧ (p.pfailN = false → Sys2Proof.Machine.bitOf t.fire.inhibit 7 = true)) ∧
    (s.dev.state ≠ .boot → ∃ t, Sys2Proof.Machine.exec .bootComplete s = .next t ∧ s.begin.Logged t []) ∧
    (s.dev.state = .boot → ∃ t, Sys2Proof.Machine.exec .bootComplete s = .next t ∧ t.dev.booted = true ∧ t.dev.bootTick = s.time.ticks ∧
      t.shows Sys2Proof.Machine.Obj.bootTime (s.time.ticks / 250) ∧ t.time.ticks = s.time.ticks ∧
      t.pair.role = s.u Sys2Proof.Machine.Obj.pairRole ∧ t.shows Sys2Proof.Machine.Obj.state t.dev.state.code ∧
      Sys2Proof.Machine.bitOf t.fire.inhibit 0 = true ∧
      (s.u Sys2Proof.Machine.Obj.pairRole = 0 → t.pair.asserts = true ∧ t.shows Sys2Proof.Machine.Obj.owner 1) ∧
      (s.dev.recovery = true → t.dev.state = .update ∧ s.tells t 0x0F03 0 3 (t.dev.slotA.state + 256 * t.dev.slotB.state)) ∧
      (s.dev.recovery = false → s.tells t 0x0F01 0 1 (s.u Sys2Proof.Machine.Obj.bootCount) ∧
        (s.ev.fatal ≠ [] ∨ s.spi.safeLatched = true → t.dev.state = .safe) ∧
        (s.bankAtBoot = none → t.dev.state = .safe ∧ t.shows Sys2Proof.Machine.Obj.activeBank 0 ∧ 0x0702 ∈ t.ev.fatal ∧
          s.tells t 0x0702 0xFFFF 4 0) ∧
        (∀ k b, s.bankAtBoot = some (k, b) → t.shows Sys2Proof.Machine.Obj.activeBank k ∧
          t.shows Sys2Proof.Machine.Obj.activeGeneration b.generation ∧
          (s.ev.fatal = [] → s.spi.safeLatched = false → t.dev.state = .idle))) ∧
      (∀ k, k = s.dev.bootSlot → (s.slot k).state = 1 → k = 1 ∨ k = 2 → (t.slot k).state = 2 ∧ (t.slot k).image = (s.slot k).image ∧
        (s.sized Sys2Proof.Machine.Obj.minSecurityVersion → t.u Sys2Proof.Machine.Obj.minSecurityVersion =
          max (s.u Sys2Proof.Machine.Obj.minSecurityVersion) (s.slot k).image.security))) ∧
    (s.dev.state ≠ .reset → s.merge.ports.length = 2 → ∃ t, Sys2Proof.Machine.exec .ethRefclkLost s = .next t ∧
      t.dev = { s.dev with pllLock := Sys2Proof.Machine.setBit s.dev.pllLock 4 false } ∧ t.pair.linkUp = (s.pair.linkUp && s.pair.role == 0) ∧
      (∀ p, p < 2 → (t.port p).linkUp = false ∧ ((s.port p).linkUp = true → (t.port p).services = [] ∧ (s.dup = false → (t.port p).queue = []) ∧
        t.shows (Sys2Proof.Machine.Obj.portLinkUp p) 0 ∧
        t.shows (Sys2Proof.Machine.Obj.portLinkDownCount p) (s.u (Sys2Proof.Machine.Obj.portLinkDownCount p) + 1) ∧
        s.tells t 0x0901 p 2 0)) ∧
      (s.pair.role ≠ 0 → s.pair.linkUp = true → s.pair.phase = 2 → t.shows Sys2Proof.Machine.Obj.pairState 3 ∧ s.tells t 0x0D02 0 3 3) ∧
      t.fire = s.fire ∧ t.scan = s.scan ∧ t.loops = s.loops ∧ t.recd = s.recd ∧ t.time.ticks = s.time.ticks ∧ t.time.native = s.time.native) ∧
    (∀ e : Sys2Proof.Machine.State, s.dev.state ≠ .reset →
      e = { s with dev := { s.dev with pllLock := Sys2Proof.Machine.setBit s.dev.pllLock 5 false } } →
      (s.u Sys2Proof.Machine.Obj.recState = 0 ∨ s.u Sys2Proof.Machine.Obj.recState = 5 →
        ∃ t, Sys2Proof.Machine.exec .pcieRefclkLost s = .next t ∧ e.begin.Logged t []) ∧
      (s.u Sys2Proof.Machine.Obj.recState ≠ 0 → s.u Sys2Proof.Machine.Obj.recState ≠ 5 → s.recTaken = 0 →
        ∃ t, Sys2Proof.Machine.exec .pcieRefclkLost s = .next t ∧ e.RecFails t 0 ∧ t.fresh = s.fresh ∧ t.time = s.time))

/-- Kind and PayloadSize (R235). RingUsed is the number of segments in the ring. -/
def Obligations.RingLayout : Prop :=
  ∀ (s : Sys2Proof.Machine.State) (h : Sys2Proof.ReqHdr) (c : Sys2Proof.Machine.Caller) (id v : Nat), s.ready → s.dev.recovery = false →
    1 ≤ c.level →
    (id = Sys2Proof.Machine.Obj.kind ∧ v < 3 ∧ (v = 0 → s.u Sys2Proof.Machine.Obj.causeEnable / 256 % 8 = 0)) ∨
      (id = Sys2Proof.Machine.Obj.payloadSize ∧ v < 4) →
    (s.hears h Sys2Proof.Machine.opWrite (Sys2Proof.Machine.writeBody 0x2400 (id % 256) 0x02 [BitVec.ofNat 8 v]) c →
      (s.dev.state = .idle → s.may.ring.length ≠ 0 →
        ∃ t, Sys2Proof.Machine.exec (.write h (Sys2Proof.Machine.writeBody 0x2400 (id % 256) 0x02 [BitVec.ofNat 8 v])) s = .next t ∧
          t.answered (s.answerFor h Sys2Proof.Machine.opWrite 0x0402 []) ∧ (State.withAnswer s.begin t).Logged t []) ∧
      (s.dev.state = .idle → s.may.ring.length = 0 → s.dev.safeBoot = false → s.mramRefusal = Sys2Proof.Machine.Abort.ok →
        ∃ t, Sys2Proof.Machine.exec (.write h (Sys2Proof.Machine.writeBody 0x2400 (id % 256) 0x02 [BitVec.ofNat 8 v])) s = .next t ∧
          t.answered (s.answerFor h Sys2Proof.Machine.opWrite Sys2Proof.Machine.Abort.ok [0, 0]) ∧ t.get id = [BitVec.ofNat 8 v]) ∧
      (s.dev.state ≠ .idle →
        ∃ t, Sys2Proof.Machine.exec (.write h (Sys2Proof.Machine.writeBody 0x2400 (id % 256) 0x02 [BitVec.ofNat 8 v])) s = .next t ∧
          t.answered (s.answerFor h Sys2Proof.Machine.opWrite 0x0401 []) ∧ (State.withAnswer s.begin t).Logged t [])) ∧
    (s.hears h Sys2Proof.Machine.opStage (Sys2Proof.Machine.writeBody 0x2400 (id % 256) 0x02 [BitVec.ofNat 8 v]) c →
      ∃ t, Sys2Proof.Machine.exec (.stage h (Sys2Proof.Machine.writeBody 0x2400 (id % 256) 0x02 [BitVec.ofNat 8 v])) s = .next t ∧
        t.answered (s.answerFor h Sys2Proof.Machine.opStage 0x0401 []) ∧ (State.withAnswer s.begin t).Logged t []) ∧
    s.computed Sys2Proof.Machine.Obj.ringUsed = some (Sys2Proof.Machine.leBytes 4 s.may.ring.length)

/-- The transitions of Table DICT-9, of R63 and of the resets (R416, R420), and no others. -/
def Obligations.OnlyTheseTransitions : Prop :=
  ∀ s t : Sys2Proof.Machine.State, Sys2Proof.Machine.step s = .next t →
    t.dev.state = s.dev.state ∨ t.dev.state ∈ (match s.dev.state with
      | .reset => [Sys2Proof.Machine.DevState.boot]
      | .boot => [.idle, .safe, .update, .reset]
      | .idle => [.armed, .calibrate, .standby, .update, .safe, .reset]
      | .armed => [.scan, .idle, .safe, .reset]
      | .scan => [.hold, .armed, .safe, .reset]
      | .hold => [.scan, .armed, .safe, .reset]
      | .calibrate => [.idle, .safe, .reset]
      | .standby => [.scan, .armed, .idle, .safe, .reset]
      | .safe => [.idle, .reset]
      | .update => [.idle, .safe, .reset])

/-- The object store, live and in MRAM (R43, R46): canonical, and read after write. The representation is the model's (log entry 5). -/
def Obligations.ObjectStore : Prop :=
  ∀ (v : Sys2Proof.Machine.Variant) (st : Sys2Proof.Machine.Store), Sys2Proof.Machine.Store.wf v st →
    (∀ (id : Nat) (bs : Sys2Proof.Bytes), Sys2Proof.Machine.Store.wf v (Sys2Proof.Machine.Store.put v st id bs) ∧
      Sys2Proof.Machine.Store.get v (Sys2Proof.Machine.Store.put v st id bs) id = bs ∧
      ∀ j, j ≠ id → Sys2Proof.Machine.Store.get v (Sys2Proof.Machine.Store.put v st id bs) j = Sys2Proof.Machine.Store.get v st j) ∧
    (∀ keep : Nat × Sys2Proof.Bytes → Bool, Sys2Proof.Machine.Store.wf v (st.filter keep)) ∧
    Sys2Proof.Machine.Store.wf Sys2Proof.Machine.State.reset.variant Sys2Proof.Machine.State.reset.live ∧
    Sys2Proof.Machine.Store.wf Sys2Proof.Machine.State.reset.variant Sys2Proof.Machine.State.reset.mram ∧
    (∀ st' : Sys2Proof.Machine.Store, Sys2Proof.Machine.Store.wf v st' →
      (∀ id, Sys2Proof.Machine.Store.get v st id = Sys2Proof.Machine.Store.get v st' id) → st = st')
end

