-- ==== Sys2Proof/Laws/State.lean ====
section
/-!
SUPPORT. What each named update of the state leaves: one lemma for each field of State that it does not write.
-/

namespace Sys2Proof.Machine

@[simp] theorem State.setPath_pending (s : State) (p : Nat) (x : PathRec) : (s.setPath p x).pending = s.pending := rfl
@[simp] theorem State.setPath_fresh (s : State) (p : Nat) (x : PathRec) : (s.setPath p x).fresh = s.fresh := rfl
@[simp] theorem State.setPath_variant (s : State) (p : Nat) (x : PathRec) : (s.setPath p x).variant = s.variant := rfl
@[simp] theorem State.setPath_live (s : State) (p : Nat) (x : PathRec) : (s.setPath p x).live = s.live := rfl
@[simp] theorem State.setPath_mram (s : State) (p : Nat) (x : PathRec) : (s.setPath p x).mram = s.mram := rfl
@[simp] theorem State.setPath_dev (s : State) (p : Nat) (x : PathRec) : (s.setPath p x).dev = s.dev := rfl
@[simp] theorem State.setPath_time (s : State) (p : Nat) (x : PathRec) : (s.setPath p x).time = s.time := rfl
@[simp] theorem State.setPath_dtp (s : State) (p : Nat) (x : PathRec) : (s.setPath p x).dtp = s.dtp := rfl
@[simp] theorem State.setPath_grp (s : State) (p : Nat) (x : PathRec) : (s.setPath p x).grp = s.grp := rfl
@[simp] theorem State.setPath_spi (s : State) (p : Nat) (x : PathRec) : (s.setPath p x).spi = s.spi := rfl
@[simp] theorem State.setPath_ev (s : State) (p : Nat) (x : PathRec) : (s.setPath p x).ev = s.ev := rfl
@[simp] theorem State.setPath_merge (s : State) (p : Nat) (x : PathRec) : (s.setPath p x).merge = s.merge := rfl
@[simp] theorem State.setPath_pair (s : State) (p : Nat) (x : PathRec) : (s.setPath p x).pair = s.pair := rfl
@[simp] theorem State.setPath_fire (s : State) (p : Nat) (x : PathRec) : (s.setPath p x).fire = s.fire := rfl
@[simp] theorem State.setPath_charge (s : State) (p : Nat) (x : PathRec) : (s.setPath p x).charge = s.charge := rfl
@[simp] theorem State.setPath_loops (s : State) (p : Nat) (x : PathRec) : (s.setPath p x).loops = s.loops := rfl
@[simp] theorem State.setPath_scan (s : State) (p : Nat) (x : PathRec) : (s.setPath p x).scan = s.scan := rfl
@[simp] theorem State.setPath_sense (s : State) (p : Nat) (x : PathRec) : (s.setPath p x).sense = s.sense := rfl
@[simp] theorem State.setPath_may (s : State) (p : Nat) (x : PathRec) : (s.setPath p x).may = s.may := rfl
@[simp] theorem State.setPath_aux (s : State) (p : Nat) (x : PathRec) : (s.setPath p x).aux = s.aux := rfl
@[simp] theorem State.setPath_cal (s : State) (p : Nat) (x : PathRec) : (s.setPath p x).cal = s.cal := rfl
@[simp] theorem State.setPath_therm (s : State) (p : Nat) (x : PathRec) : (s.setPath p x).therm = s.therm := rfl
@[simp] theorem State.setPath_cams (s : State) (p : Nat) (x : PathRec) : (s.setPath p x).cams = s.cams := rfl
@[simp] theorem State.setPath_recd (s : State) (p : Nat) (x : PathRec) : (s.setPath p x).recd = s.recd := rfl

@[simp] theorem State.setCluster_pending (s : State) (p : Nat) (x : Cluster) : (s.setCluster p x).pending = s.pending := rfl
@[simp] theorem State.setCluster_fresh (s : State) (p : Nat) (x : Cluster) : (s.setCluster p x).fresh = s.fresh := rfl
@[simp] theorem State.setCluster_variant (s : State) (p : Nat) (x : Cluster) : (s.setCluster p x).variant = s.variant := rfl
@[simp] theorem State.setCluster_live (s : State) (p : Nat) (x : Cluster) : (s.setCluster p x).live = s.live := rfl
@[simp] theorem State.setCluster_mram (s : State) (p : Nat) (x : Cluster) : (s.setCluster p x).mram = s.mram := rfl
@[simp] theorem State.setCluster_dev (s : State) (p : Nat) (x : Cluster) : (s.setCluster p x).dev = s.dev := rfl
@[simp] theorem State.setCluster_time (s : State) (p : Nat) (x : Cluster) : (s.setCluster p x).time = s.time := rfl
@[simp] theorem State.setCluster_dtp (s : State) (p : Nat) (x : Cluster) : (s.setCluster p x).dtp = s.dtp := rfl
@[simp] theorem State.setCluster_grp (s : State) (p : Nat) (x : Cluster) : (s.setCluster p x).grp = s.grp := rfl
@[simp] theorem State.setCluster_spi (s : State) (p : Nat) (x : Cluster) : (s.setCluster p x).spi = s.spi := rfl
@[simp] theorem State.setCluster_ev (s : State) (p : Nat) (x : Cluster) : (s.setCluster p x).ev = s.ev := rfl
@[simp] theorem State.setCluster_merge (s : State) (p : Nat) (x : Cluster) : (s.setCluster p x).merge = s.merge := rfl
@[simp] theorem State.setCluster_pair (s : State) (p : Nat) (x : Cluster) : (s.setCluster p x).pair = s.pair := rfl
@[simp] theorem State.setCluster_fire (s : State) (p : Nat) (x : Cluster) : (s.setCluster p x).fire = s.fire := rfl
@[simp] theorem State.setCluster_charge (s : State) (p : Nat) (x : Cluster) : (s.setCluster p x).charge = s.charge := rfl
@[simp] theorem State.setCluster_loops (s : State) (p : Nat) (x : Cluster) : (s.setCluster p x).loops = s.loops := rfl
@[simp] theorem State.setCluster_scan (s : State) (p : Nat) (x : Cluster) : (s.setCluster p x).scan = s.scan := rfl
@[simp] theorem State.setCluster_sense (s : State) (p : Nat) (x : Cluster) : (s.setCluster p x).sense = s.sense := rfl
@[simp] theorem State.setCluster_may (s : State) (p : Nat) (x : Cluster) : (s.setCluster p x).may = s.may := rfl
@[simp] theorem State.setCluster_aux (s : State) (p : Nat) (x : Cluster) : (s.setCluster p x).aux = s.aux := rfl
@[simp] theorem State.setCluster_cal (s : State) (p : Nat) (x : Cluster) : (s.setCluster p x).cal = s.cal := rfl
@[simp] theorem State.setCluster_therm (s : State) (p : Nat) (x : Cluster) : (s.setCluster p x).therm = s.therm := rfl
@[simp] theorem State.setCluster_cams (s : State) (p : Nat) (x : Cluster) : (s.setCluster p x).cams = s.cams := rfl
@[simp] theorem State.setCluster_recd (s : State) (p : Nat) (x : Cluster) : (s.setCluster p x).recd = s.recd := rfl

@[simp] theorem State.setMeas_pending (s : State) (p : Nat) (x : PathMeas) : (s.setMeas p x).pending = s.pending := rfl
@[simp] theorem State.setMeas_fresh (s : State) (p : Nat) (x : PathMeas) : (s.setMeas p x).fresh = s.fresh := rfl
@[simp] theorem State.setMeas_variant (s : State) (p : Nat) (x : PathMeas) : (s.setMeas p x).variant = s.variant := rfl
@[simp] theorem State.setMeas_live (s : State) (p : Nat) (x : PathMeas) : (s.setMeas p x).live = s.live := rfl
@[simp] theorem State.setMeas_mram (s : State) (p : Nat) (x : PathMeas) : (s.setMeas p x).mram = s.mram := rfl
@[simp] theorem State.setMeas_dev (s : State) (p : Nat) (x : PathMeas) : (s.setMeas p x).dev = s.dev := rfl
@[simp] theorem State.setMeas_time (s : State) (p : Nat) (x : PathMeas) : (s.setMeas p x).time = s.time := rfl
@[simp] theorem State.setMeas_dtp (s : State) (p : Nat) (x : PathMeas) : (s.setMeas p x).dtp = s.dtp := rfl
@[simp] theorem State.setMeas_grp (s : State) (p : Nat) (x : PathMeas) : (s.setMeas p x).grp = s.grp := rfl
@[simp] theorem State.setMeas_spi (s : State) (p : Nat) (x : PathMeas) : (s.setMeas p x).spi = s.spi := rfl
@[simp] theorem State.setMeas_ev (s : State) (p : Nat) (x : PathMeas) : (s.setMeas p x).ev = s.ev := rfl
@[simp] theorem State.setMeas_merge (s : State) (p : Nat) (x : PathMeas) : (s.setMeas p x).merge = s.merge := rfl
@[simp] theorem State.setMeas_pair (s : State) (p : Nat) (x : PathMeas) : (s.setMeas p x).pair = s.pair := rfl
@[simp] theorem State.setMeas_fire (s : State) (p : Nat) (x : PathMeas) : (s.setMeas p x).fire = s.fire := rfl
@[simp] theorem State.setMeas_charge (s : State) (p : Nat) (x : PathMeas) : (s.setMeas p x).charge = s.charge := rfl
@[simp] theorem State.setMeas_loops (s : State) (p : Nat) (x : PathMeas) : (s.setMeas p x).loops = s.loops := rfl
@[simp] theorem State.setMeas_scan (s : State) (p : Nat) (x : PathMeas) : (s.setMeas p x).scan = s.scan := rfl
@[simp] theorem State.setMeas_sense (s : State) (p : Nat) (x : PathMeas) : (s.setMeas p x).sense = s.sense := rfl
@[simp] theorem State.setMeas_may (s : State) (p : Nat) (x : PathMeas) : (s.setMeas p x).may = s.may := rfl
@[simp] theorem State.setMeas_aux (s : State) (p : Nat) (x : PathMeas) : (s.setMeas p x).aux = s.aux := rfl
@[simp] theorem State.setMeas_cal (s : State) (p : Nat) (x : PathMeas) : (s.setMeas p x).cal = s.cal := rfl
@[simp] theorem State.setMeas_therm (s : State) (p : Nat) (x : PathMeas) : (s.setMeas p x).therm = s.therm := rfl
@[simp] theorem State.setMeas_cams (s : State) (p : Nat) (x : PathMeas) : (s.setMeas p x).cams = s.cams := rfl
@[simp] theorem State.setMeas_recd (s : State) (p : Nat) (x : PathMeas) : (s.setMeas p x).recd = s.recd := rfl

@[simp] theorem State.setPixel_pending (s : State) (p : Nat) (x : Pixel) : (s.setPixel p x).pending = s.pending := rfl
@[simp] theorem State.setPixel_fresh (s : State) (p : Nat) (x : Pixel) : (s.setPixel p x).fresh = s.fresh := rfl
@[simp] theorem State.setPixel_variant (s : State) (p : Nat) (x : Pixel) : (s.setPixel p x).variant = s.variant := rfl
@[simp] theorem State.setPixel_live (s : State) (p : Nat) (x : Pixel) : (s.setPixel p x).live = s.live := rfl
@[simp] theorem State.setPixel_mram (s : State) (p : Nat) (x : Pixel) : (s.setPixel p x).mram = s.mram := rfl
@[simp] theorem State.setPixel_dev (s : State) (p : Nat) (x : Pixel) : (s.setPixel p x).dev = s.dev := rfl
@[simp] theorem State.setPixel_time (s : State) (p : Nat) (x : Pixel) : (s.setPixel p x).time = s.time := rfl
@[simp] theorem State.setPixel_dtp (s : State) (p : Nat) (x : Pixel) : (s.setPixel p x).dtp = s.dtp := rfl
@[simp] theorem State.setPixel_grp (s : State) (p : Nat) (x : Pixel) : (s.setPixel p x).grp = s.grp := rfl
@[simp] theorem State.setPixel_spi (s : State) (p : Nat) (x : Pixel) : (s.setPixel p x).spi = s.spi := rfl
@[simp] theorem State.setPixel_ev (s : State) (p : Nat) (x : Pixel) : (s.setPixel p x).ev = s.ev := rfl
@[simp] theorem State.setPixel_merge (s : State) (p : Nat) (x : Pixel) : (s.setPixel p x).merge = s.merge := rfl
@[simp] theorem State.setPixel_pair (s : State) (p : Nat) (x : Pixel) : (s.setPixel p x).pair = s.pair := rfl
@[simp] theorem State.setPixel_fire (s : State) (p : Nat) (x : Pixel) : (s.setPixel p x).fire = s.fire := rfl
@[simp] theorem State.setPixel_charge (s : State) (p : Nat) (x : Pixel) : (s.setPixel p x).charge = s.charge := rfl
@[simp] theorem State.setPixel_loops (s : State) (p : Nat) (x : Pixel) : (s.setPixel p x).loops = s.loops := rfl
@[simp] theorem State.setPixel_scan (s : State) (p : Nat) (x : Pixel) : (s.setPixel p x).scan = s.scan := rfl
@[simp] theorem State.setPixel_sense (s : State) (p : Nat) (x : Pixel) : (s.setPixel p x).sense = s.sense := rfl
@[simp] theorem State.setPixel_may (s : State) (p : Nat) (x : Pixel) : (s.setPixel p x).may = s.may := rfl
@[simp] theorem State.setPixel_aux (s : State) (p : Nat) (x : Pixel) : (s.setPixel p x).aux = s.aux := rfl
@[simp] theorem State.setPixel_cal (s : State) (p : Nat) (x : Pixel) : (s.setPixel p x).cal = s.cal := rfl
@[simp] theorem State.setPixel_therm (s : State) (p : Nat) (x : Pixel) : (s.setPixel p x).therm = s.therm := rfl
@[simp] theorem State.setPixel_cams (s : State) (p : Nat) (x : Pixel) : (s.setPixel p x).cams = s.cams := rfl
@[simp] theorem State.setPixel_recd (s : State) (p : Nat) (x : Pixel) : (s.setPixel p x).recd = s.recd := rfl

@[simp] theorem State.setMantis_pending (s : State) (p : Nat) (x : Mantis) : (s.setMantis p x).pending = s.pending := rfl
@[simp] theorem State.setMantis_fresh (s : State) (p : Nat) (x : Mantis) : (s.setMantis p x).fresh = s.fresh := rfl
@[simp] theorem State.setMantis_variant (s : State) (p : Nat) (x : Mantis) : (s.setMantis p x).variant = s.variant := rfl
@[simp] theorem State.setMantis_live (s : State) (p : Nat) (x : Mantis) : (s.setMantis p x).live = s.live := rfl
@[simp] theorem State.setMantis_mram (s : State) (p : Nat) (x : Mantis) : (s.setMantis p x).mram = s.mram := rfl
@[simp] theorem State.setMantis_dev (s : State) (p : Nat) (x : Mantis) : (s.setMantis p x).dev = s.dev := rfl
@[simp] theorem State.setMantis_time (s : State) (p : Nat) (x : Mantis) : (s.setMantis p x).time = s.time := rfl
@[simp] theorem State.setMantis_dtp (s : State) (p : Nat) (x : Mantis) : (s.setMantis p x).dtp = s.dtp := rfl
@[simp] theorem State.setMantis_grp (s : State) (p : Nat) (x : Mantis) : (s.setMantis p x).grp = s.grp := rfl
@[simp] theorem State.setMantis_spi (s : State) (p : Nat) (x : Mantis) : (s.setMantis p x).spi = s.spi := rfl
@[simp] theorem State.setMantis_ev (s : State) (p : Nat) (x : Mantis) : (s.setMantis p x).ev = s.ev := rfl
@[simp] theorem State.setMantis_merge (s : State) (p : Nat) (x : Mantis) : (s.setMantis p x).merge = s.merge := rfl
@[simp] theorem State.setMantis_pair (s : State) (p : Nat) (x : Mantis) : (s.setMantis p x).pair = s.pair := rfl
@[simp] theorem State.setMantis_fire (s : State) (p : Nat) (x : Mantis) : (s.setMantis p x).fire = s.fire := rfl
@[simp] theorem State.setMantis_charge (s : State) (p : Nat) (x : Mantis) : (s.setMantis p x).charge = s.charge := rfl
@[simp] theorem State.setMantis_loops (s : State) (p : Nat) (x : Mantis) : (s.setMantis p x).loops = s.loops := rfl
@[simp] theorem State.setMantis_scan (s : State) (p : Nat) (x : Mantis) : (s.setMantis p x).scan = s.scan := rfl
@[simp] theorem State.setMantis_sense (s : State) (p : Nat) (x : Mantis) : (s.setMantis p x).sense = s.sense := rfl
@[simp] theorem State.setMantis_may (s : State) (p : Nat) (x : Mantis) : (s.setMantis p x).may = s.may := rfl
@[simp] theorem State.setMantis_aux (s : State) (p : Nat) (x : Mantis) : (s.setMantis p x).aux = s.aux := rfl
@[simp] theorem State.setMantis_cal (s : State) (p : Nat) (x : Mantis) : (s.setMantis p x).cal = s.cal := rfl
@[simp] theorem State.setMantis_therm (s : State) (p : Nat) (x : Mantis) : (s.setMantis p x).therm = s.therm := rfl
@[simp] theorem State.setMantis_cams (s : State) (p : Nat) (x : Mantis) : (s.setMantis p x).cams = s.cams := rfl
@[simp] theorem State.setMantis_recd (s : State) (p : Nat) (x : Mantis) : (s.setMantis p x).recd = s.recd := rfl

@[simp] theorem State.setBank_pending (s : State) (p : Nat) (x : Bank) : (s.setBank p x).pending = s.pending := rfl
@[simp] theorem State.setBank_fresh (s : State) (p : Nat) (x : Bank) : (s.setBank p x).fresh = s.fresh := rfl
@[simp] theorem State.setBank_variant (s : State) (p : Nat) (x : Bank) : (s.setBank p x).variant = s.variant := rfl
@[simp] theorem State.setBank_live (s : State) (p : Nat) (x : Bank) : (s.setBank p x).live = s.live := rfl
@[simp] theorem State.setBank_mram (s : State) (p : Nat) (x : Bank) : (s.setBank p x).mram = s.mram := rfl
@[simp] theorem State.setBank_dev (s : State) (p : Nat) (x : Bank) : (s.setBank p x).dev = s.dev := rfl
@[simp] theorem State.setBank_time (s : State) (p : Nat) (x : Bank) : (s.setBank p x).time = s.time := rfl
@[simp] theorem State.setBank_dtp (s : State) (p : Nat) (x : Bank) : (s.setBank p x).dtp = s.dtp := rfl
@[simp] theorem State.setBank_grp (s : State) (p : Nat) (x : Bank) : (s.setBank p x).grp = s.grp := rfl
@[simp] theorem State.setBank_spi (s : State) (p : Nat) (x : Bank) : (s.setBank p x).spi = s.spi := rfl
@[simp] theorem State.setBank_ev (s : State) (p : Nat) (x : Bank) : (s.setBank p x).ev = s.ev := rfl
@[simp] theorem State.setBank_merge (s : State) (p : Nat) (x : Bank) : (s.setBank p x).merge = s.merge := rfl
@[simp] theorem State.setBank_pair (s : State) (p : Nat) (x : Bank) : (s.setBank p x).pair = s.pair := rfl
@[simp] theorem State.setBank_array (s : State) (p : Nat) (x : Bank) : (s.setBank p x).array = s.array := rfl
@[simp] theorem State.setBank_charge (s : State) (p : Nat) (x : Bank) : (s.setBank p x).charge = s.charge := rfl
@[simp] theorem State.setBank_loops (s : State) (p : Nat) (x : Bank) : (s.setBank p x).loops = s.loops := rfl
@[simp] theorem State.setBank_scan (s : State) (p : Nat) (x : Bank) : (s.setBank p x).scan = s.scan := rfl
@[simp] theorem State.setBank_sense (s : State) (p : Nat) (x : Bank) : (s.setBank p x).sense = s.sense := rfl
@[simp] theorem State.setBank_may (s : State) (p : Nat) (x : Bank) : (s.setBank p x).may = s.may := rfl
@[simp] theorem State.setBank_aux (s : State) (p : Nat) (x : Bank) : (s.setBank p x).aux = s.aux := rfl
@[simp] theorem State.setBank_cal (s : State) (p : Nat) (x : Bank) : (s.setBank p x).cal = s.cal := rfl
@[simp] theorem State.setBank_therm (s : State) (p : Nat) (x : Bank) : (s.setBank p x).therm = s.therm := rfl
@[simp] theorem State.setBank_cams (s : State) (p : Nat) (x : Bank) : (s.setBank p x).cams = s.cams := rfl
@[simp] theorem State.setBank_recd (s : State) (p : Nat) (x : Bank) : (s.setBank p x).recd = s.recd := rfl

@[simp] theorem State.setEngine_pending (s : State) (p : Nat) (x : MayflyEngine) : (s.setEngine p x).pending = s.pending := rfl
@[simp] theorem State.setEngine_fresh (s : State) (p : Nat) (x : MayflyEngine) : (s.setEngine p x).fresh = s.fresh := rfl
@[simp] theorem State.setEngine_variant (s : State) (p : Nat) (x : MayflyEngine) : (s.setEngine p x).variant = s.variant := rfl
@[simp] theorem State.setEngine_live (s : State) (p : Nat) (x : MayflyEngine) : (s.setEngine p x).live = s.live := rfl
@[simp] theorem State.setEngine_mram (s : State) (p : Nat) (x : MayflyEngine) : (s.setEngine p x).mram = s.mram := rfl
@[simp] theorem State.setEngine_dev (s : State) (p : Nat) (x : MayflyEngine) : (s.setEngine p x).dev = s.dev := rfl
@[simp] theorem State.setEngine_time (s : State) (p : Nat) (x : MayflyEngine) : (s.setEngine p x).time = s.time := rfl
@[simp] theorem State.setEngine_dtp (s : State) (p : Nat) (x : MayflyEngine) : (s.setEngine p x).dtp = s.dtp := rfl
@[simp] theorem State.setEngine_grp (s : State) (p : Nat) (x : MayflyEngine) : (s.setEngine p x).grp = s.grp := rfl
@[simp] theorem State.setEngine_spi (s : State) (p : Nat) (x : MayflyEngine) : (s.setEngine p x).spi = s.spi := rfl
@[simp] theorem State.setEngine_ev (s : State) (p : Nat) (x : MayflyEngine) : (s.setEngine p x).ev = s.ev := rfl
@[simp] theorem State.setEngine_merge (s : State) (p : Nat) (x : MayflyEngine) : (s.setEngine p x).merge = s.merge := rfl
@[simp] theorem State.setEngine_pair (s : State) (p : Nat) (x : MayflyEngine) : (s.setEngine p x).pair = s.pair := rfl
@[simp] theorem State.setEngine_array (s : State) (p : Nat) (x : MayflyEngine) : (s.setEngine p x).array = s.array := rfl
@[simp] theorem State.setEngine_fire (s : State) (p : Nat) (x : MayflyEngine) : (s.setEngine p x).fire = s.fire := rfl
@[simp] theorem State.setEngine_charge (s : State) (p : Nat) (x : MayflyEngine) : (s.setEngine p x).charge = s.charge := rfl
@[simp] theorem State.setEngine_loops (s : State) (p : Nat) (x : MayflyEngine) : (s.setEngine p x).loops = s.loops := rfl
@[simp] theorem State.setEngine_scan (s : State) (p : Nat) (x : MayflyEngine) : (s.setEngine p x).scan = s.scan := rfl
@[simp] theorem State.setEngine_sense (s : State) (p : Nat) (x : MayflyEngine) : (s.setEngine p x).sense = s.sense := rfl
@[simp] theorem State.setEngine_aux (s : State) (p : Nat) (x : MayflyEngine) : (s.setEngine p x).aux = s.aux := rfl
@[simp] theorem State.setEngine_cal (s : State) (p : Nat) (x : MayflyEngine) : (s.setEngine p x).cal = s.cal := rfl
@[simp] theorem State.setEngine_therm (s : State) (p : Nat) (x : MayflyEngine) : (s.setEngine p x).therm = s.therm := rfl
@[simp] theorem State.setEngine_cams (s : State) (p : Nat) (x : MayflyEngine) : (s.setEngine p x).cams = s.cams := rfl
@[simp] theorem State.setEngine_recd (s : State) (p : Nat) (x : MayflyEngine) : (s.setEngine p x).recd = s.recd := rfl

@[simp] theorem State.setLoop_pending (s : State) (p : Nat) (x : Loop) : (s.setLoop p x).pending = s.pending := rfl
@[simp] theorem State.setLoop_fresh (s : State) (p : Nat) (x : Loop) : (s.setLoop p x).fresh = s.fresh := rfl
@[simp] theorem State.setLoop_variant (s : State) (p : Nat) (x : Loop) : (s.setLoop p x).variant = s.variant := rfl
@[simp] theorem State.setLoop_live (s : State) (p : Nat) (x : Loop) : (s.setLoop p x).live = s.live := rfl
@[simp] theorem State.setLoop_mram (s : State) (p : Nat) (x : Loop) : (s.setLoop p x).mram = s.mram := rfl
@[simp] theorem State.setLoop_dev (s : State) (p : Nat) (x : Loop) : (s.setLoop p x).dev = s.dev := rfl
@[simp] theorem State.setLoop_time (s : State) (p : Nat) (x : Loop) : (s.setLoop p x).time = s.time := rfl
@[simp] theorem State.setLoop_dtp (s : State) (p : Nat) (x : Loop) : (s.setLoop p x).dtp = s.dtp := rfl
@[simp] theorem State.setLoop_grp (s : State) (p : Nat) (x : Loop) : (s.setLoop p x).grp = s.grp := rfl
@[simp] theorem State.setLoop_spi (s : State) (p : Nat) (x : Loop) : (s.setLoop p x).spi = s.spi := rfl
@[simp] theorem State.setLoop_ev (s : State) (p : Nat) (x : Loop) : (s.setLoop p x).ev = s.ev := rfl
@[simp] theorem State.setLoop_merge (s : State) (p : Nat) (x : Loop) : (s.setLoop p x).merge = s.merge := rfl
@[simp] theorem State.setLoop_pair (s : State) (p : Nat) (x : Loop) : (s.setLoop p x).pair = s.pair := rfl
@[simp] theorem State.setLoop_array (s : State) (p : Nat) (x : Loop) : (s.setLoop p x).array = s.array := rfl
@[simp] theorem State.setLoop_fire (s : State) (p : Nat) (x : Loop) : (s.setLoop p x).fire = s.fire := rfl
@[simp] theorem State.setLoop_charge (s : State) (p : Nat) (x : Loop) : (s.setLoop p x).charge = s.charge := rfl
@[simp] theorem State.setLoop_scan (s : State) (p : Nat) (x : Loop) : (s.setLoop p x).scan = s.scan := rfl
@[simp] theorem State.setLoop_sense (s : State) (p : Nat) (x : Loop) : (s.setLoop p x).sense = s.sense := rfl
@[simp] theorem State.setLoop_may (s : State) (p : Nat) (x : Loop) : (s.setLoop p x).may = s.may := rfl
@[simp] theorem State.setLoop_aux (s : State) (p : Nat) (x : Loop) : (s.setLoop p x).aux = s.aux := rfl
@[simp] theorem State.setLoop_cal (s : State) (p : Nat) (x : Loop) : (s.setLoop p x).cal = s.cal := rfl
@[simp] theorem State.setLoop_therm (s : State) (p : Nat) (x : Loop) : (s.setLoop p x).therm = s.therm := rfl
@[simp] theorem State.setLoop_cams (s : State) (p : Nat) (x : Loop) : (s.setLoop p x).cams = s.cams := rfl
@[simp] theorem State.setLoop_recd (s : State) (p : Nat) (x : Loop) : (s.setLoop p x).recd = s.recd := rfl

@[simp] theorem State.setConv_pending (s : State) (p : Nat) (x : Converter) : (s.setConv p x).pending = s.pending := rfl
@[simp] theorem State.setConv_fresh (s : State) (p : Nat) (x : Converter) : (s.setConv p x).fresh = s.fresh := rfl
@[simp] theorem State.setConv_variant (s : State) (p : Nat) (x : Converter) : (s.setConv p x).variant = s.variant := rfl
@[simp] theorem State.setConv_live (s : State) (p : Nat) (x : Converter) : (s.setConv p x).live = s.live := rfl
@[simp] theorem State.setConv_mram (s : State) (p : Nat) (x : Converter) : (s.setConv p x).mram = s.mram := rfl
@[simp] theorem State.setConv_dev (s : State) (p : Nat) (x : Converter) : (s.setConv p x).dev = s.dev := rfl
@[simp] theorem State.setConv_time (s : State) (p : Nat) (x : Converter) : (s.setConv p x).time = s.time := rfl
@[simp] theorem State.setConv_dtp (s : State) (p : Nat) (x : Converter) : (s.setConv p x).dtp = s.dtp := rfl
@[simp] theorem State.setConv_grp (s : State) (p : Nat) (x : Converter) : (s.setConv p x).grp = s.grp := rfl
@[simp] theorem State.setConv_spi (s : State) (p : Nat) (x : Converter) : (s.setConv p x).spi = s.spi := rfl
@[simp] theorem State.setConv_ev (s : State) (p : Nat) (x : Converter) : (s.setConv p x).ev = s.ev := rfl
@[simp] theorem State.setConv_merge (s : State) (p : Nat) (x : Converter) : (s.setConv p x).merge = s.merge := rfl
@[simp] theorem State.setConv_pair (s : State) (p : Nat) (x : Converter) : (s.setConv p x).pair = s.pair := rfl
@[simp] theorem State.setConv_array (s : State) (p : Nat) (x : Converter) : (s.setConv p x).array = s.array := rfl
@[simp] theorem State.setConv_fire (s : State) (p : Nat) (x : Converter) : (s.setConv p x).fire = s.fire := rfl
@[simp] theorem State.setConv_charge (s : State) (p : Nat) (x : Converter) : (s.setConv p x).charge = s.charge := rfl
@[simp] theorem State.setConv_loops (s : State) (p : Nat) (x : Converter) : (s.setConv p x).loops = s.loops := rfl
@[simp] theorem State.setConv_scan (s : State) (p : Nat) (x : Converter) : (s.setConv p x).scan = s.scan := rfl
@[simp] theorem State.setConv_may (s : State) (p : Nat) (x : Converter) : (s.setConv p x).may = s.may := rfl
@[simp] theorem State.setConv_aux (s : State) (p : Nat) (x : Converter) : (s.setConv p x).aux = s.aux := rfl
@[simp] theorem State.setConv_cal (s : State) (p : Nat) (x : Converter) : (s.setConv p x).cal = s.cal := rfl
@[simp] theorem State.setConv_therm (s : State) (p : Nat) (x : Converter) : (s.setConv p x).therm = s.therm := rfl
@[simp] theorem State.setConv_cams (s : State) (p : Nat) (x : Converter) : (s.setConv p x).cams = s.cams := rfl
@[simp] theorem State.setConv_recd (s : State) (p : Nat) (x : Converter) : (s.setConv p x).recd = s.recd := rfl

@[simp] theorem State.setAux_pending (s : State) (p : Nat) (x : AuxInput) : (s.setAux p x).pending = s.pending := rfl
@[simp] theorem State.setAux_fresh (s : State) (p : Nat) (x : AuxInput) : (s.setAux p x).fresh = s.fresh := rfl
@[simp] theorem State.setAux_variant (s : State) (p : Nat) (x : AuxInput) : (s.setAux p x).variant = s.variant := rfl
@[simp] theorem State.setAux_live (s : State) (p : Nat) (x : AuxInput) : (s.setAux p x).live = s.live := rfl
@[simp] theorem State.setAux_mram (s : State) (p : Nat) (x : AuxInput) : (s.setAux p x).mram = s.mram := rfl
@[simp] theorem State.setAux_dev (s : State) (p : Nat) (x : AuxInput) : (s.setAux p x).dev = s.dev := rfl
@[simp] theorem State.setAux_time (s : State) (p : Nat) (x : AuxInput) : (s.setAux p x).time = s.time := rfl
@[simp] theorem State.setAux_dtp (s : State) (p : Nat) (x : AuxInput) : (s.setAux p x).dtp = s.dtp := rfl
@[simp] theorem State.setAux_grp (s : State) (p : Nat) (x : AuxInput) : (s.setAux p x).grp = s.grp := rfl
@[simp] theorem State.setAux_spi (s : State) (p : Nat) (x : AuxInput) : (s.setAux p x).spi = s.spi := rfl
@[simp] theorem State.setAux_ev (s : State) (p : Nat) (x : AuxInput) : (s.setAux p x).ev = s.ev := rfl
@[simp] theorem State.setAux_merge (s : State) (p : Nat) (x : AuxInput) : (s.setAux p x).merge = s.merge := rfl
@[simp] theorem State.setAux_pair (s : State) (p : Nat) (x : AuxInput) : (s.setAux p x).pair = s.pair := rfl
@[simp] theorem State.setAux_array (s : State) (p : Nat) (x : AuxInput) : (s.setAux p x).array = s.array := rfl
@[simp] theorem State.setAux_fire (s : State) (p : Nat) (x : AuxInput) : (s.setAux p x).fire = s.fire := rfl
@[simp] theorem State.setAux_charge (s : State) (p : Nat) (x : AuxInput) : (s.setAux p x).charge = s.charge := rfl
@[simp] theorem State.setAux_loops (s : State) (p : Nat) (x : AuxInput) : (s.setAux p x).loops = s.loops := rfl
@[simp] theorem State.setAux_scan (s : State) (p : Nat) (x : AuxInput) : (s.setAux p x).scan = s.scan := rfl
@[simp] theorem State.setAux_sense (s : State) (p : Nat) (x : AuxInput) : (s.setAux p x).sense = s.sense := rfl
@[simp] theorem State.setAux_may (s : State) (p : Nat) (x : AuxInput) : (s.setAux p x).may = s.may := rfl
@[simp] theorem State.setAux_cal (s : State) (p : Nat) (x : AuxInput) : (s.setAux p x).cal = s.cal := rfl
@[simp] theorem State.setAux_therm (s : State) (p : Nat) (x : AuxInput) : (s.setAux p x).therm = s.therm := rfl
@[simp] theorem State.setAux_cams (s : State) (p : Nat) (x : AuxInput) : (s.setAux p x).cams = s.cams := rfl
@[simp] theorem State.setAux_recd (s : State) (p : Nat) (x : AuxInput) : (s.setAux p x).recd = s.recd := rfl

@[simp] theorem State.setCal_pending (s : State) (x : CalState) : (s.setCal x).pending = s.pending := rfl
@[simp] theorem State.setCal_fresh (s : State) (x : CalState) : (s.setCal x).fresh = s.fresh := rfl
@[simp] theorem State.setCal_variant (s : State) (x : CalState) : (s.setCal x).variant = s.variant := rfl
@[simp] theorem State.setCal_live (s : State) (x : CalState) : (s.setCal x).live = s.live := rfl
@[simp] theorem State.setCal_mram (s : State) (x : CalState) : (s.setCal x).mram = s.mram := rfl
@[simp] theorem State.setCal_dev (s : State) (x : CalState) : (s.setCal x).dev = s.dev := rfl
@[simp] theorem State.setCal_time (s : State) (x : CalState) : (s.setCal x).time = s.time := rfl
@[simp] theorem State.setCal_dtp (s : State) (x : CalState) : (s.setCal x).dtp = s.dtp := rfl
@[simp] theorem State.setCal_grp (s : State) (x : CalState) : (s.setCal x).grp = s.grp := rfl
@[simp] theorem State.setCal_spi (s : State) (x : CalState) : (s.setCal x).spi = s.spi := rfl
@[simp] theorem State.setCal_ev (s : State) (x : CalState) : (s.setCal x).ev = s.ev := rfl
@[simp] theorem State.setCal_merge (s : State) (x : CalState) : (s.setCal x).merge = s.merge := rfl
@[simp] theorem State.setCal_pair (s : State) (x : CalState) : (s.setCal x).pair = s.pair := rfl
@[simp] theorem State.setCal_array (s : State) (x : CalState) : (s.setCal x).array = s.array := rfl
@[simp] theorem State.setCal_fire (s : State) (x : CalState) : (s.setCal x).fire = s.fire := rfl
@[simp] theorem State.setCal_charge (s : State) (x : CalState) : (s.setCal x).charge = s.charge := rfl
@[simp] theorem State.setCal_loops (s : State) (x : CalState) : (s.setCal x).loops = s.loops := rfl
@[simp] theorem State.setCal_scan (s : State) (x : CalState) : (s.setCal x).scan = s.scan := rfl
@[simp] theorem State.setCal_sense (s : State) (x : CalState) : (s.setCal x).sense = s.sense := rfl
@[simp] theorem State.setCal_may (s : State) (x : CalState) : (s.setCal x).may = s.may := rfl
@[simp] theorem State.setCal_aux (s : State) (x : CalState) : (s.setCal x).aux = s.aux := rfl
@[simp] theorem State.setCal_therm (s : State) (x : CalState) : (s.setCal x).therm = s.therm := rfl
@[simp] theorem State.setCal_cams (s : State) (x : CalState) : (s.setCal x).cams = s.cams := rfl
@[simp] theorem State.setCal_recd (s : State) (x : CalState) : (s.setCal x).recd = s.recd := rfl

@[simp] theorem State.setRun_pending (s : State) (p : Nat) (x : CalRun) : (s.setRun p x).pending = s.pending := rfl
@[simp] theorem State.setRun_fresh (s : State) (p : Nat) (x : CalRun) : (s.setRun p x).fresh = s.fresh := rfl
@[simp] theorem State.setRun_variant (s : State) (p : Nat) (x : CalRun) : (s.setRun p x).variant = s.variant := rfl
@[simp] theorem State.setRun_live (s : State) (p : Nat) (x : CalRun) : (s.setRun p x).live = s.live := rfl
@[simp] theorem State.setRun_mram (s : State) (p : Nat) (x : CalRun) : (s.setRun p x).mram = s.mram := rfl
@[simp] theorem State.setRun_dev (s : State) (p : Nat) (x : CalRun) : (s.setRun p x).dev = s.dev := rfl
@[simp] theorem State.setRun_time (s : State) (p : Nat) (x : CalRun) : (s.setRun p x).time = s.time := rfl
@[simp] theorem State.setRun_dtp (s : State) (p : Nat) (x : CalRun) : (s.setRun p x).dtp = s.dtp := rfl
@[simp] theorem State.setRun_grp (s : State) (p : Nat) (x : CalRun) : (s.setRun p x).grp = s.grp := rfl
@[simp] theorem State.setRun_spi (s : State) (p : Nat) (x : CalRun) : (s.setRun p x).spi = s.spi := rfl
@[simp] theorem State.setRun_ev (s : State) (p : Nat) (x : CalRun) : (s.setRun p x).ev = s.ev := rfl
@[simp] theorem State.setRun_merge (s : State) (p : Nat) (x : CalRun) : (s.setRun p x).merge = s.merge := rfl
@[simp] theorem State.setRun_pair (s : State) (p : Nat) (x : CalRun) : (s.setRun p x).pair = s.pair := rfl
@[simp] theorem State.setRun_array (s : State) (p : Nat) (x : CalRun) : (s.setRun p x).array = s.array := rfl
@[simp] theorem State.setRun_fire (s : State) (p : Nat) (x : CalRun) : (s.setRun p x).fire = s.fire := rfl
@[simp] theorem State.setRun_charge (s : State) (p : Nat) (x : CalRun) : (s.setRun p x).charge = s.charge := rfl
@[simp] theorem State.setRun_loops (s : State) (p : Nat) (x : CalRun) : (s.setRun p x).loops = s.loops := rfl
@[simp] theorem State.setRun_scan (s : State) (p : Nat) (x : CalRun) : (s.setRun p x).scan = s.scan := rfl
@[simp] theorem State.setRun_sense (s : State) (p : Nat) (x : CalRun) : (s.setRun p x).sense = s.sense := rfl
@[simp] theorem State.setRun_may (s : State) (p : Nat) (x : CalRun) : (s.setRun p x).may = s.may := rfl
@[simp] theorem State.setRun_aux (s : State) (p : Nat) (x : CalRun) : (s.setRun p x).aux = s.aux := rfl
@[simp] theorem State.setRun_therm (s : State) (p : Nat) (x : CalRun) : (s.setRun p x).therm = s.therm := rfl
@[simp] theorem State.setRun_cams (s : State) (p : Nat) (x : CalRun) : (s.setRun p x).cams = s.cams := rfl
@[simp] theorem State.setRun_recd (s : State) (p : Nat) (x : CalRun) : (s.setRun p x).recd = s.recd := rfl

@[simp] theorem State.setCam_pending (s : State) (p : Nat) (x : CamPort) : (s.setCam p x).pending = s.pending := rfl
@[simp] theorem State.setCam_fresh (s : State) (p : Nat) (x : CamPort) : (s.setCam p x).fresh = s.fresh := rfl
@[simp] theorem State.setCam_variant (s : State) (p : Nat) (x : CamPort) : (s.setCam p x).variant = s.variant := rfl
@[simp] theorem State.setCam_live (s : State) (p : Nat) (x : CamPort) : (s.setCam p x).live = s.live := rfl
@[simp] theorem State.setCam_mram (s : State) (p : Nat) (x : CamPort) : (s.setCam p x).mram = s.mram := rfl
@[simp] theorem State.setCam_dev (s : State) (p : Nat) (x : CamPort) : (s.setCam p x).dev = s.dev := rfl
@[simp] theorem State.setCam_time (s : State) (p : Nat) (x : CamPort) : (s.setCam p x).time = s.time := rfl
@[simp] theorem State.setCam_dtp (s : State) (p : Nat) (x : CamPort) : (s.setCam p x).dtp = s.dtp := rfl
@[simp] theorem State.setCam_grp (s : State) (p : Nat) (x : CamPort) : (s.setCam p x).grp = s.grp := rfl
@[simp] theorem State.setCam_spi (s : State) (p : Nat) (x : CamPort) : (s.setCam p x).spi = s.spi := rfl
@[simp] theorem State.setCam_ev (s : State) (p : Nat) (x : CamPort) : (s.setCam p x).ev = s.ev := rfl
@[simp] theorem State.setCam_merge (s : State) (p : Nat) (x : CamPort) : (s.setCam p x).merge = s.merge := rfl
@[simp] theorem State.setCam_pair (s : State) (p : Nat) (x : CamPort) : (s.setCam p x).pair = s.pair := rfl
@[simp] theorem State.setCam_array (s : State) (p : Nat) (x : CamPort) : (s.setCam p x).array = s.array := rfl
@[simp] theorem State.setCam_fire (s : State) (p : Nat) (x : CamPort) : (s.setCam p x).fire = s.fire := rfl
@[simp] theorem State.setCam_charge (s : State) (p : Nat) (x : CamPort) : (s.setCam p x).charge = s.charge := rfl
@[simp] theorem State.setCam_loops (s : State) (p : Nat) (x : CamPort) : (s.setCam p x).loops = s.loops := rfl
@[simp] theorem State.setCam_scan (s : State) (p : Nat) (x : CamPort) : (s.setCam p x).scan = s.scan := rfl
@[simp] theorem State.setCam_sense (s : State) (p : Nat) (x : CamPort) : (s.setCam p x).sense = s.sense := rfl
@[simp] theorem State.setCam_may (s : State) (p : Nat) (x : CamPort) : (s.setCam p x).may = s.may := rfl
@[simp] theorem State.setCam_aux (s : State) (p : Nat) (x : CamPort) : (s.setCam p x).aux = s.aux := rfl
@[simp] theorem State.setCam_cal (s : State) (p : Nat) (x : CamPort) : (s.setCam p x).cal = s.cal := rfl
@[simp] theorem State.setCam_therm (s : State) (p : Nat) (x : CamPort) : (s.setCam p x).therm = s.therm := rfl
@[simp] theorem State.setCam_recd (s : State) (p : Nat) (x : CamPort) : (s.setCam p x).recd = s.recd := rfl

@[simp] theorem State.setStream_pending (s : State) (p : Nat) (x : StreamState) : (s.setStream p x).pending = s.pending := rfl
@[simp] theorem State.setStream_fresh (s : State) (p : Nat) (x : StreamState) : (s.setStream p x).fresh = s.fresh := rfl
@[simp] theorem State.setStream_variant (s : State) (p : Nat) (x : StreamState) : (s.setStream p x).variant = s.variant := rfl
@[simp] theorem State.setStream_live (s : State) (p : Nat) (x : StreamState) : (s.setStream p x).live = s.live := rfl
@[simp] theorem State.setStream_mram (s : State) (p : Nat) (x : StreamState) : (s.setStream p x).mram = s.mram := rfl
@[simp] theorem State.setStream_dev (s : State) (p : Nat) (x : StreamState) : (s.setStream p x).dev = s.dev := rfl
@[simp] theorem State.setStream_time (s : State) (p : Nat) (x : StreamState) : (s.setStream p x).time = s.time := rfl
@[simp] theorem State.setStream_dtp (s : State) (p : Nat) (x : StreamState) : (s.setStream p x).dtp = s.dtp := rfl
@[simp] theorem State.setStream_grp (s : State) (p : Nat) (x : StreamState) : (s.setStream p x).grp = s.grp := rfl
@[simp] theorem State.setStream_spi (s : State) (p : Nat) (x : StreamState) : (s.setStream p x).spi = s.spi := rfl
@[simp] theorem State.setStream_ev (s : State) (p : Nat) (x : StreamState) : (s.setStream p x).ev = s.ev := rfl
@[simp] theorem State.setStream_pair (s : State) (p : Nat) (x : StreamState) : (s.setStream p x).pair = s.pair := rfl
@[simp] theorem State.setStream_array (s : State) (p : Nat) (x : StreamState) : (s.setStream p x).array = s.array := rfl
@[simp] theorem State.setStream_fire (s : State) (p : Nat) (x : StreamState) : (s.setStream p x).fire = s.fire := rfl
@[simp] theorem State.setStream_charge (s : State) (p : Nat) (x : StreamState) : (s.setStream p x).charge = s.charge := rfl
@[simp] theorem State.setStream_loops (s : State) (p : Nat) (x : StreamState) : (s.setStream p x).loops = s.loops := rfl
@[simp] theorem State.setStream_scan (s : State) (p : Nat) (x : StreamState) : (s.setStream p x).scan = s.scan := rfl
@[simp] theorem State.setStream_sense (s : State) (p : Nat) (x : StreamState) : (s.setStream p x).sense = s.sense := rfl
@[simp] theorem State.setStream_may (s : State) (p : Nat) (x : StreamState) : (s.setStream p x).may = s.may := rfl
@[simp] theorem State.setStream_aux (s : State) (p : Nat) (x : StreamState) : (s.setStream p x).aux = s.aux := rfl
@[simp] theorem State.setStream_cal (s : State) (p : Nat) (x : StreamState) : (s.setStream p x).cal = s.cal := rfl
@[simp] theorem State.setStream_therm (s : State) (p : Nat) (x : StreamState) : (s.setStream p x).therm = s.therm := rfl
@[simp] theorem State.setStream_cams (s : State) (p : Nat) (x : StreamState) : (s.setStream p x).cams = s.cams := rfl
@[simp] theorem State.setStream_recd (s : State) (p : Nat) (x : StreamState) : (s.setStream p x).recd = s.recd := rfl

@[simp] theorem State.setPort_pending (s : State) (p : Nat) (x : PortState) : (s.setPort p x).pending = s.pending := rfl
@[simp] theorem State.setPort_fresh (s : State) (p : Nat) (x : PortState) : (s.setPort p x).fresh = s.fresh := rfl
@[simp] theorem State.setPort_variant (s : State) (p : Nat) (x : PortState) : (s.setPort p x).variant = s.variant := rfl
@[simp] theorem State.setPort_live (s : State) (p : Nat) (x : PortState) : (s.setPort p x).live = s.live := rfl
@[simp] theorem State.setPort_mram (s : State) (p : Nat) (x : PortState) : (s.setPort p x).mram = s.mram := rfl
@[simp] theorem State.setPort_dev (s : State) (p : Nat) (x : PortState) : (s.setPort p x).dev = s.dev := rfl
@[simp] theorem State.setPort_time (s : State) (p : Nat) (x : PortState) : (s.setPort p x).time = s.time := rfl
@[simp] theorem State.setPort_dtp (s : State) (p : Nat) (x : PortState) : (s.setPort p x).dtp = s.dtp := rfl
@[simp] theorem State.setPort_grp (s : State) (p : Nat) (x : PortState) : (s.setPort p x).grp = s.grp := rfl
@[simp] theorem State.setPort_spi (s : State) (p : Nat) (x : PortState) : (s.setPort p x).spi = s.spi := rfl
@[simp] theorem State.setPort_ev (s : State) (p : Nat) (x : PortState) : (s.setPort p x).ev = s.ev := rfl
@[simp] theorem State.setPort_pair (s : State) (p : Nat) (x : PortState) : (s.setPort p x).pair = s.pair := rfl
@[simp] theorem State.setPort_array (s : State) (p : Nat) (x : PortState) : (s.setPort p x).array = s.array := rfl
@[simp] theorem State.setPort_fire (s : State) (p : Nat) (x : PortState) : (s.setPort p x).fire = s.fire := rfl
@[simp] theorem State.setPort_charge (s : State) (p : Nat) (x : PortState) : (s.setPort p x).charge = s.charge := rfl
@[simp] theorem State.setPort_loops (s : State) (p : Nat) (x : PortState) : (s.setPort p x).loops = s.loops := rfl
@[simp] theorem State.setPort_scan (s : State) (p : Nat) (x : PortState) : (s.setPort p x).scan = s.scan := rfl
@[simp] theorem State.setPort_sense (s : State) (p : Nat) (x : PortState) : (s.setPort p x).sense = s.sense := rfl
@[simp] theorem State.setPort_may (s : State) (p : Nat) (x : PortState) : (s.setPort p x).may = s.may := rfl
@[simp] theorem State.setPort_aux (s : State) (p : Nat) (x : PortState) : (s.setPort p x).aux = s.aux := rfl
@[simp] theorem State.setPort_cal (s : State) (p : Nat) (x : PortState) : (s.setPort p x).cal = s.cal := rfl
@[simp] theorem State.setPort_therm (s : State) (p : Nat) (x : PortState) : (s.setPort p x).therm = s.therm := rfl
@[simp] theorem State.setPort_cams (s : State) (p : Nat) (x : PortState) : (s.setPort p x).cams = s.cams := rfl
@[simp] theorem State.setPort_recd (s : State) (p : Nat) (x : PortState) : (s.setPort p x).recd = s.recd := rfl

@[simp] theorem State.setSensor_pending (s : State) (p : Nat) (x : Sensor) : (s.setSensor p x).pending = s.pending := rfl
@[simp] theorem State.setSensor_fresh (s : State) (p : Nat) (x : Sensor) : (s.setSensor p x).fresh = s.fresh := rfl
@[simp] theorem State.setSensor_variant (s : State) (p : Nat) (x : Sensor) : (s.setSensor p x).variant = s.variant := rfl
@[simp] theorem State.setSensor_live (s : State) (p : Nat) (x : Sensor) : (s.setSensor p x).live = s.live := rfl
@[simp] theorem State.setSensor_mram (s : State) (p : Nat) (x : Sensor) : (s.setSensor p x).mram = s.mram := rfl
@[simp] theorem State.setSensor_dev (s : State) (p : Nat) (x : Sensor) : (s.setSensor p x).dev = s.dev := rfl
@[simp] theorem State.setSensor_time (s : State) (p : Nat) (x : Sensor) : (s.setSensor p x).time = s.time := rfl
@[simp] theorem State.setSensor_dtp (s : State) (p : Nat) (x : Sensor) : (s.setSensor p x).dtp = s.dtp := rfl
@[simp] theorem State.setSensor_grp (s : State) (p : Nat) (x : Sensor) : (s.setSensor p x).grp = s.grp := rfl
@[simp] theorem State.setSensor_spi (s : State) (p : Nat) (x : Sensor) : (s.setSensor p x).spi = s.spi := rfl
@[simp] theorem State.setSensor_ev (s : State) (p : Nat) (x : Sensor) : (s.setSensor p x).ev = s.ev := rfl
@[simp] theorem State.setSensor_merge (s : State) (p : Nat) (x : Sensor) : (s.setSensor p x).merge = s.merge := rfl
@[simp] theorem State.setSensor_pair (s : State) (p : Nat) (x : Sensor) : (s.setSensor p x).pair = s.pair := rfl
@[simp] theorem State.setSensor_array (s : State) (p : Nat) (x : Sensor) : (s.setSensor p x).array = s.array := rfl
@[simp] theorem State.setSensor_fire (s : State) (p : Nat) (x : Sensor) : (s.setSensor p x).fire = s.fire := rfl
@[simp] theorem State.setSensor_charge (s : State) (p : Nat) (x : Sensor) : (s.setSensor p x).charge = s.charge := rfl
@[simp] theorem State.setSensor_loops (s : State) (p : Nat) (x : Sensor) : (s.setSensor p x).loops = s.loops := rfl
@[simp] theorem State.setSensor_scan (s : State) (p : Nat) (x : Sensor) : (s.setSensor p x).scan = s.scan := rfl
@[simp] theorem State.setSensor_sense (s : State) (p : Nat) (x : Sensor) : (s.setSensor p x).sense = s.sense := rfl
@[simp] theorem State.setSensor_may (s : State) (p : Nat) (x : Sensor) : (s.setSensor p x).may = s.may := rfl
@[simp] theorem State.setSensor_aux (s : State) (p : Nat) (x : Sensor) : (s.setSensor p x).aux = s.aux := rfl
@[simp] theorem State.setSensor_cal (s : State) (p : Nat) (x : Sensor) : (s.setSensor p x).cal = s.cal := rfl
@[simp] theorem State.setSensor_cams (s : State) (p : Nat) (x : Sensor) : (s.setSensor p x).cams = s.cams := rfl
@[simp] theorem State.setSensor_recd (s : State) (p : Nat) (x : Sensor) : (s.setSensor p x).recd = s.recd := rfl

@[simp] theorem State.setThrottle_pending (s : State) (p : Nat) (x : Throttle) : (s.setThrottle p x).pending = s.pending := rfl
@[simp] theorem State.setThrottle_fresh (s : State) (p : Nat) (x : Throttle) : (s.setThrottle p x).fresh = s.fresh := rfl
@[simp] theorem State.setThrottle_variant (s : State) (p : Nat) (x : Throttle) : (s.setThrottle p x).variant = s.variant := rfl
@[simp] theorem State.setThrottle_live (s : State) (p : Nat) (x : Throttle) : (s.setThrottle p x).live = s.live := rfl
@[simp] theorem State.setThrottle_mram (s : State) (p : Nat) (x : Throttle) : (s.setThrottle p x).mram = s.mram := rfl
@[simp] theorem State.setThrottle_dev (s : State) (p : Nat) (x : Throttle) : (s.setThrottle p x).dev = s.dev := rfl
@[simp] theorem State.setThrottle_time (s : State) (p : Nat) (x : Throttle) : (s.setThrottle p x).time = s.time := rfl
@[simp] theorem State.setThrottle_dtp (s : State) (p : Nat) (x : Throttle) : (s.setThrottle p x).dtp = s.dtp := rfl
@[simp] theorem State.setThrottle_grp (s : State) (p : Nat) (x : Throttle) : (s.setThrottle p x).grp = s.grp := rfl
@[simp] theorem State.setThrottle_spi (s : State) (p : Nat) (x : Throttle) : (s.setThrottle p x).spi = s.spi := rfl
@[simp] theorem State.setThrottle_ev (s : State) (p : Nat) (x : Throttle) : (s.setThrottle p x).ev = s.ev := rfl
@[simp] theorem State.setThrottle_merge (s : State) (p : Nat) (x : Throttle) : (s.setThrottle p x).merge = s.merge := rfl
@[simp] theorem State.setThrottle_pair (s : State) (p : Nat) (x : Throttle) : (s.setThrottle p x).pair = s.pair := rfl
@[simp] theorem State.setThrottle_array (s : State) (p : Nat) (x : Throttle) : (s.setThrottle p x).array = s.array := rfl
@[simp] theorem State.setThrottle_fire (s : State) (p : Nat) (x : Throttle) : (s.setThrottle p x).fire = s.fire := rfl
@[simp] theorem State.setThrottle_charge (s : State) (p : Nat) (x : Throttle) : (s.setThrottle p x).charge = s.charge := rfl
@[simp] theorem State.setThrottle_loops (s : State) (p : Nat) (x : Throttle) : (s.setThrottle p x).loops = s.loops := rfl
@[simp] theorem State.setThrottle_scan (s : State) (p : Nat) (x : Throttle) : (s.setThrottle p x).scan = s.scan := rfl
@[simp] theorem State.setThrottle_sense (s : State) (p : Nat) (x : Throttle) : (s.setThrottle p x).sense = s.sense := rfl
@[simp] theorem State.setThrottle_may (s : State) (p : Nat) (x : Throttle) : (s.setThrottle p x).may = s.may := rfl
@[simp] theorem State.setThrottle_aux (s : State) (p : Nat) (x : Throttle) : (s.setThrottle p x).aux = s.aux := rfl
@[simp] theorem State.setThrottle_cal (s : State) (p : Nat) (x : Throttle) : (s.setThrottle p x).cal = s.cal := rfl
@[simp] theorem State.setThrottle_cams (s : State) (p : Nat) (x : Throttle) : (s.setThrottle p x).cams = s.cams := rfl
@[simp] theorem State.setThrottle_recd (s : State) (p : Nat) (x : Throttle) : (s.setThrottle p x).recd = s.recd := rfl

@[simp] theorem State.setLock_pending (s : State) (p : Nat) (x : Bool) : (s.setLock p x).pending = s.pending := rfl
@[simp] theorem State.setLock_fresh (s : State) (p : Nat) (x : Bool) : (s.setLock p x).fresh = s.fresh := rfl
@[simp] theorem State.setLock_variant (s : State) (p : Nat) (x : Bool) : (s.setLock p x).variant = s.variant := rfl
@[simp] theorem State.setLock_live (s : State) (p : Nat) (x : Bool) : (s.setLock p x).live = s.live := rfl
@[simp] theorem State.setLock_mram (s : State) (p : Nat) (x : Bool) : (s.setLock p x).mram = s.mram := rfl
@[simp] theorem State.setLock_time (s : State) (p : Nat) (x : Bool) : (s.setLock p x).time = s.time := rfl
@[simp] theorem State.setLock_dtp (s : State) (p : Nat) (x : Bool) : (s.setLock p x).dtp = s.dtp := rfl
@[simp] theorem State.setLock_grp (s : State) (p : Nat) (x : Bool) : (s.setLock p x).grp = s.grp := rfl
@[simp] theorem State.setLock_spi (s : State) (p : Nat) (x : Bool) : (s.setLock p x).spi = s.spi := rfl
@[simp] theorem State.setLock_ev (s : State) (p : Nat) (x : Bool) : (s.setLock p x).ev = s.ev := rfl
@[simp] theorem State.setLock_merge (s : State) (p : Nat) (x : Bool) : (s.setLock p x).merge = s.merge := rfl
@[simp] theorem State.setLock_pair (s : State) (p : Nat) (x : Bool) : (s.setLock p x).pair = s.pair := rfl
@[simp] theorem State.setLock_array (s : State) (p : Nat) (x : Bool) : (s.setLock p x).array = s.array := rfl
@[simp] theorem State.setLock_fire (s : State) (p : Nat) (x : Bool) : (s.setLock p x).fire = s.fire := rfl
@[simp] theorem State.setLock_charge (s : State) (p : Nat) (x : Bool) : (s.setLock p x).charge = s.charge := rfl
@[simp] theorem State.setLock_loops (s : State) (p : Nat) (x : Bool) : (s.setLock p x).loops = s.loops := rfl
@[simp] theorem State.setLock_scan (s : State) (p : Nat) (x : Bool) : (s.setLock p x).scan = s.scan := rfl
@[simp] theorem State.setLock_sense (s : State) (p : Nat) (x : Bool) : (s.setLock p x).sense = s.sense := rfl
@[simp] theorem State.setLock_may (s : State) (p : Nat) (x : Bool) : (s.setLock p x).may = s.may := rfl
@[simp] theorem State.setLock_aux (s : State) (p : Nat) (x : Bool) : (s.setLock p x).aux = s.aux := rfl
@[simp] theorem State.setLock_cal (s : State) (p : Nat) (x : Bool) : (s.setLock p x).cal = s.cal := rfl
@[simp] theorem State.setLock_therm (s : State) (p : Nat) (x : Bool) : (s.setLock p x).therm = s.therm := rfl
@[simp] theorem State.setLock_cams (s : State) (p : Nat) (x : Bool) : (s.setLock p x).cams = s.cams := rfl
@[simp] theorem State.setLock_recd (s : State) (p : Nat) (x : Bool) : (s.setLock p x).recd = s.recd := rfl

@[simp] theorem State.setTransfer_pending (s : State) (p : Caller) (x : Option Transfer) : (s.setTransfer p x).pending = s.pending := rfl
@[simp] theorem State.setTransfer_fresh (s : State) (p : Caller) (x : Option Transfer) : (s.setTransfer p x).fresh = s.fresh := rfl
@[simp] theorem State.setTransfer_variant (s : State) (p : Caller) (x : Option Transfer) : (s.setTransfer p x).variant = s.variant := rfl
@[simp] theorem State.setTransfer_live (s : State) (p : Caller) (x : Option Transfer) : (s.setTransfer p x).live = s.live := rfl
@[simp] theorem State.setTransfer_mram (s : State) (p : Caller) (x : Option Transfer) : (s.setTransfer p x).mram = s.mram := rfl
@[simp] theorem State.setTransfer_dev (s : State) (p : Caller) (x : Option Transfer) : (s.setTransfer p x).dev = s.dev := rfl
@[simp] theorem State.setTransfer_time (s : State) (p : Caller) (x : Option Transfer) : (s.setTransfer p x).time = s.time := rfl
@[simp] theorem State.setTransfer_grp (s : State) (p : Caller) (x : Option Transfer) : (s.setTransfer p x).grp = s.grp := rfl
@[simp] theorem State.setTransfer_spi (s : State) (p : Caller) (x : Option Transfer) : (s.setTransfer p x).spi = s.spi := rfl
@[simp] theorem State.setTransfer_ev (s : State) (p : Caller) (x : Option Transfer) : (s.setTransfer p x).ev = s.ev := rfl
@[simp] theorem State.setTransfer_merge (s : State) (p : Caller) (x : Option Transfer) : (s.setTransfer p x).merge = s.merge := rfl
@[simp] theorem State.setTransfer_pair (s : State) (p : Caller) (x : Option Transfer) : (s.setTransfer p x).pair = s.pair := rfl
@[simp] theorem State.setTransfer_array (s : State) (p : Caller) (x : Option Transfer) : (s.setTransfer p x).array = s.array := rfl
@[simp] theorem State.setTransfer_fire (s : State) (p : Caller) (x : Option Transfer) : (s.setTransfer p x).fire = s.fire := rfl
@[simp] theorem State.setTransfer_charge (s : State) (p : Caller) (x : Option Transfer) : (s.setTransfer p x).charge = s.charge := rfl
@[simp] theorem State.setTransfer_loops (s : State) (p : Caller) (x : Option Transfer) : (s.setTransfer p x).loops = s.loops := rfl
@[simp] theorem State.setTransfer_scan (s : State) (p : Caller) (x : Option Transfer) : (s.setTransfer p x).scan = s.scan := rfl
@[simp] theorem State.setTransfer_sense (s : State) (p : Caller) (x : Option Transfer) : (s.setTransfer p x).sense = s.sense := rfl
@[simp] theorem State.setTransfer_may (s : State) (p : Caller) (x : Option Transfer) : (s.setTransfer p x).may = s.may := rfl
@[simp] theorem State.setTransfer_aux (s : State) (p : Caller) (x : Option Transfer) : (s.setTransfer p x).aux = s.aux := rfl
@[simp] theorem State.setTransfer_cal (s : State) (p : Caller) (x : Option Transfer) : (s.setTransfer p x).cal = s.cal := rfl
@[simp] theorem State.setTransfer_therm (s : State) (p : Caller) (x : Option Transfer) : (s.setTransfer p x).therm = s.therm := rfl
@[simp] theorem State.setTransfer_cams (s : State) (p : Caller) (x : Option Transfer) : (s.setTransfer p x).cams = s.cams := rfl
@[simp] theorem State.setTransfer_recd (s : State) (p : Caller) (x : Option Transfer) : (s.setTransfer p x).recd = s.recd := rfl

@[simp] theorem State.elapse_pending (s : State) (x : Nat) : (s.elapse x).pending = s.pending := rfl
@[simp] theorem State.elapse_fresh (s : State) (x : Nat) : (s.elapse x).fresh = s.fresh := rfl
@[simp] theorem State.elapse_variant (s : State) (x : Nat) : (s.elapse x).variant = s.variant := rfl
@[simp] theorem State.elapse_live (s : State) (x : Nat) : (s.elapse x).live = s.live := rfl
@[simp] theorem State.elapse_mram (s : State) (x : Nat) : (s.elapse x).mram = s.mram := rfl
@[simp] theorem State.elapse_dev (s : State) (x : Nat) : (s.elapse x).dev = s.dev := rfl
@[simp] theorem State.elapse_dtp (s : State) (x : Nat) : (s.elapse x).dtp = s.dtp := rfl
@[simp] theorem State.elapse_grp (s : State) (x : Nat) : (s.elapse x).grp = s.grp := rfl
@[simp] theorem State.elapse_spi (s : State) (x : Nat) : (s.elapse x).spi = s.spi := rfl
@[simp] theorem State.elapse_ev (s : State) (x : Nat) : (s.elapse x).ev = s.ev := rfl
@[simp] theorem State.elapse_merge (s : State) (x : Nat) : (s.elapse x).merge = s.merge := rfl
@[simp] theorem State.elapse_pair (s : State) (x : Nat) : (s.elapse x).pair = s.pair := rfl
@[simp] theorem State.elapse_array (s : State) (x : Nat) : (s.elapse x).array = s.array := rfl
@[simp] theorem State.elapse_fire (s : State) (x : Nat) : (s.elapse x).fire = s.fire := rfl
@[simp] theorem State.elapse_charge (s : State) (x : Nat) : (s.elapse x).charge = s.charge := rfl
@[simp] theorem State.elapse_loops (s : State) (x : Nat) : (s.elapse x).loops = s.loops := rfl
@[simp] theorem State.elapse_scan (s : State) (x : Nat) : (s.elapse x).scan = s.scan := rfl
@[simp] theorem State.elapse_sense (s : State) (x : Nat) : (s.elapse x).sense = s.sense := rfl
@[simp] theorem State.elapse_may (s : State) (x : Nat) : (s.elapse x).may = s.may := rfl
@[simp] theorem State.elapse_aux (s : State) (x : Nat) : (s.elapse x).aux = s.aux := rfl
@[simp] theorem State.elapse_cal (s : State) (x : Nat) : (s.elapse x).cal = s.cal := rfl
@[simp] theorem State.elapse_therm (s : State) (x : Nat) : (s.elapse x).therm = s.therm := rfl
@[simp] theorem State.elapse_cams (s : State) (x : Nat) : (s.elapse x).cams = s.cams := rfl
@[simp] theorem State.elapse_recd (s : State) (x : Nat) : (s.elapse x).recd = s.recd := rfl

@[simp] theorem State.begin_pending (s : State) : (s.begin).pending = s.pending := rfl
@[simp] theorem State.begin_fresh (s : State) : (s.begin).fresh = s.fresh := rfl
@[simp] theorem State.begin_variant (s : State) : (s.begin).variant = s.variant := rfl
@[simp] theorem State.begin_live (s : State) : (s.begin).live = s.live := rfl
@[simp] theorem State.begin_mram (s : State) : (s.begin).mram = s.mram := rfl
@[simp] theorem State.begin_dev (s : State) : (s.begin).dev = s.dev := rfl
@[simp] theorem State.begin_time (s : State) : (s.begin).time = s.time := rfl
@[simp] theorem State.begin_grp (s : State) : (s.begin).grp = s.grp := rfl
@[simp] theorem State.begin_spi (s : State) : (s.begin).spi = s.spi := rfl
@[simp] theorem State.begin_ev (s : State) : (s.begin).ev = s.ev := rfl
@[simp] theorem State.begin_merge (s : State) : (s.begin).merge = s.merge := rfl
@[simp] theorem State.begin_array (s : State) : (s.begin).array = s.array := rfl
@[simp] theorem State.begin_fire (s : State) : (s.begin).fire = s.fire := rfl
@[simp] theorem State.begin_charge (s : State) : (s.begin).charge = s.charge := rfl
@[simp] theorem State.begin_loops (s : State) : (s.begin).loops = s.loops := rfl
@[simp] theorem State.begin_scan (s : State) : (s.begin).scan = s.scan := rfl
@[simp] theorem State.begin_sense (s : State) : (s.begin).sense = s.sense := rfl
@[simp] theorem State.begin_may (s : State) : (s.begin).may = s.may := rfl
@[simp] theorem State.begin_aux (s : State) : (s.begin).aux = s.aux := rfl
@[simp] theorem State.begin_cal (s : State) : (s.begin).cal = s.cal := rfl
@[simp] theorem State.begin_therm (s : State) : (s.begin).therm = s.therm := rfl
@[simp] theorem State.begin_cams (s : State) : (s.begin).cams = s.cams := rfl
@[simp] theorem State.begin_recd (s : State) : (s.begin).recd = s.recd := rfl

end Sys2Proof.Machine
end

