-- ==== Sys2Proof/Laws/Ops.lean ====
section
/-!
SUPPORT. What the shared operations do: objects and their stores, time, free values, records and events. Each operation has one lemma that
says which fields it may write, and from it one lemma for each field that it leaves.
-/

namespace Sys2Proof.Machine

/-! ### Tables by rising key -/

theorem tabPut_find_self {α : Type} (t : List (Nat × α)) (k : Nat) (x : α) :
    (tabPut t k x).find? (fun e => e.1 == k) = some (k, x) := by
  induction t with
  | nil => simp [tabPut]
  | cons e t ih =>
    obtain ⟨k', y⟩ := e
    simp only [tabPut]
    split
    · simp
    · split
      · simp
      · rename_i h1 h2
        have : (k' == k) = false := by simp; omega
        simp [List.find?, this, ih]

theorem tabPut_find_ne {α : Type} (t : List (Nat × α)) (k j : Nat) (x : α) (h : j ≠ k) :
    (tabPut t k x).find? (fun e => e.1 == j) = t.find? (fun e => e.1 == j) := by
  induction t with
  | nil => simp [tabPut, Ne.symm h]
  | cons e t ih =>
    obtain ⟨k', y⟩ := e
    have hk : (k == j) = false := by simp; omega
    simp only [tabPut]
    split
    · simp [List.find?, hk]
    · split
      · rename_i h1 h2
        have : (k' == j) = false := by simp; omega
        simp [List.find?, hk, this]
      · simp [List.find?, ih]

theorem tabDel_find_self {α : Type} (t : List (Nat × α)) (k : Nat) :
    (tabDel t k).find? (fun e => e.1 == k) = none := by
  simp [tabDel, List.find?_eq_none]

theorem tabDel_find_ne {α : Type} (t : List (Nat × α)) (k j : Nat) (h : j ≠ k) :
    (tabDel t k).find? (fun e => e.1 == j) = t.find? (fun e => e.1 == j) := by
  induction t with
  | nil => rfl
  | cons e t ih =>
    obtain ⟨k', y⟩ := e
    have ih' : (List.filter (fun e => e.1 != k) t).find? (fun e => e.1 == j) = t.find? (fun e => e.1 == j) := ih
    by_cases hk : k' = k
    · have : (k' == j) = false := by simp; omega
      have hj : (k == j) = false := by simp; omega
      subst hk
      simp only [tabDel, List.filter, bne_self_eq_false, List.find?, hj]
      exact ih'
    · simp only [tabDel, List.filter]
      have hb : (k' != k) = true := by simpa using hk
      simp only [hb, List.find?, ih']

/-! ### Objects -/

theorem Store.get_put_self (v : Variant) (st : Store) (id : Nat) (bs : Bytes) : Store.get v (Store.put v st id bs) id = bs := by
  unfold Store.put Store.get
  by_cases h : bs = defaultOf v id
  · rw [if_pos h, tabDel_find_self]; exact h.symm
  · rw [if_neg h, tabPut_find_self]

theorem Store.get_put_ne (v : Variant) (st : Store) (id j : Nat) (bs : Bytes) (h : j ≠ id) :
    Store.get v (Store.put v st id bs) j = Store.get v st j := by
  unfold Store.put Store.get
  by_cases hd : bs = defaultOf v id
  · rw [if_pos hd, tabDel_find_ne _ _ _ h]
  · rw [if_neg hd, tabPut_find_ne _ _ _ _ h]

@[simp] theorem State.get_put_self (s : State) (id : Nat) (bs : Bytes) : (s.put id bs).get id = bs := Store.get_put_self _ _ _ _

theorem State.get_put_ne (s : State) (id j : Nat) (bs : Bytes) (h : j ≠ id) : (s.put id bs).get j = s.get j :=
  Store.get_put_ne _ _ _ _ _ h

theorem State.get_setU_ne (s : State) (id j n : Nat) (h : j ≠ id) : (s.setU id n).get j = s.get j := s.get_put_ne id j _ h

theorem State.get_setI_ne (s : State) (id j : Nat) (n : Int) (h : j ≠ id) : (s.setI id n).get j = s.get j := s.get_put_ne id j _ h

theorem State.get_setB_ne (s : State) (id j : Nat) (b : Bool) (h : j ≠ id) : (s.setB id b).get j = s.get j := s.get_put_ne id j _ h

theorem State.get_bump_ne (s : State) (id j n : Nat) (h : j ≠ id) : (s.bump id n).get j = s.get j := by
  unfold State.bump
  split
  · rfl
  · exact s.get_setU_ne id j _ h

theorem State.get_persist (s : State) (id j : Nat) : (s.persist id).get j = s.get j := rfl

/-- What is read of an object depends on the live store and the variant alone. -/
theorem State.get_congr (s t : State) (hv : t.variant = s.variant) (hl : t.live = s.live) (id : Nat) : t.get id = s.get id := by
  simp [State.get, hv, hl]

theorem leVal_leBytes (n v : Nat) : leVal (leBytes n v) = v % 256 ^ n := by
  induction n generalizing v with
  | zero => simp [leBytes, leVal, Nat.mod_one]
  | succ n ih =>
    simp only [leBytes, leVal, ih, BitVec.toNat_ofNat]
    have h : v % 256 % 2 ^ 8 = v % 256 := by omega
    rw [h, Nat.pow_succ, Nat.mul_comm (256 ^ n) 256, Nat.mod_mul]

theorem leBytes_length (n v : Nat) : (leBytes n v).length = n := by
  induction n generalizing v with
  | zero => rfl
  | succ n ih => simp [leBytes, ih]

/-- A number put into an object reads back modulo the object's size. -/
theorem State.u_setU_self (s : State) (id n : Nat) : (s.setU id n).u id = n % 256 ^ objSize id := by
  unfold State.u State.setU
  rw [State.get_put_self, leVal_leBytes]

/-- put writes only live. -/
theorem State.put_shape (s : State) (id : Nat) (bs : Bytes) : ∃ live', s.put id bs = { s with live := live' } :=
  ⟨_, rfl⟩

@[simp] theorem State.put_pending (s : State) (id : Nat) (bs : Bytes) : (s.put id bs).pending = s.pending := by
  obtain ⟨_, h⟩ := s.put_shape id bs
  rw [h]
@[simp] theorem State.put_fresh (s : State) (id : Nat) (bs : Bytes) : (s.put id bs).fresh = s.fresh := by
  obtain ⟨_, h⟩ := s.put_shape id bs
  rw [h]
@[simp] theorem State.put_variant (s : State) (id : Nat) (bs : Bytes) : (s.put id bs).variant = s.variant := by
  obtain ⟨_, h⟩ := s.put_shape id bs
  rw [h]
@[simp] theorem State.put_mram (s : State) (id : Nat) (bs : Bytes) : (s.put id bs).mram = s.mram := by
  obtain ⟨_, h⟩ := s.put_shape id bs
  rw [h]
@[simp] theorem State.put_dev (s : State) (id : Nat) (bs : Bytes) : (s.put id bs).dev = s.dev := by
  obtain ⟨_, h⟩ := s.put_shape id bs
  rw [h]
@[simp] theorem State.put_time (s : State) (id : Nat) (bs : Bytes) : (s.put id bs).time = s.time := by
  obtain ⟨_, h⟩ := s.put_shape id bs
  rw [h]
@[simp] theorem State.put_dtp (s : State) (id : Nat) (bs : Bytes) : (s.put id bs).dtp = s.dtp := by
  obtain ⟨_, h⟩ := s.put_shape id bs
  rw [h]
@[simp] theorem State.put_grp (s : State) (id : Nat) (bs : Bytes) : (s.put id bs).grp = s.grp := by
  obtain ⟨_, h⟩ := s.put_shape id bs
  rw [h]
@[simp] theorem State.put_spi (s : State) (id : Nat) (bs : Bytes) : (s.put id bs).spi = s.spi := by
  obtain ⟨_, h⟩ := s.put_shape id bs
  rw [h]
@[simp] theorem State.put_ev (s : State) (id : Nat) (bs : Bytes) : (s.put id bs).ev = s.ev := by
  obtain ⟨_, h⟩ := s.put_shape id bs
  rw [h]
@[simp] theorem State.put_merge (s : State) (id : Nat) (bs : Bytes) : (s.put id bs).merge = s.merge := by
  obtain ⟨_, h⟩ := s.put_shape id bs
  rw [h]
@[simp] theorem State.put_pair (s : State) (id : Nat) (bs : Bytes) : (s.put id bs).pair = s.pair := by
  obtain ⟨_, h⟩ := s.put_shape id bs
  rw [h]
@[simp] theorem State.put_array (s : State) (id : Nat) (bs : Bytes) : (s.put id bs).array = s.array := by
  obtain ⟨_, h⟩ := s.put_shape id bs
  rw [h]
@[simp] theorem State.put_fire (s : State) (id : Nat) (bs : Bytes) : (s.put id bs).fire = s.fire := by
  obtain ⟨_, h⟩ := s.put_shape id bs
  rw [h]
@[simp] theorem State.put_charge (s : State) (id : Nat) (bs : Bytes) : (s.put id bs).charge = s.charge := by
  obtain ⟨_, h⟩ := s.put_shape id bs
  rw [h]
@[simp] theorem State.put_loops (s : State) (id : Nat) (bs : Bytes) : (s.put id bs).loops = s.loops := by
  obtain ⟨_, h⟩ := s.put_shape id bs
  rw [h]
@[simp] theorem State.put_scan (s : State) (id : Nat) (bs : Bytes) : (s.put id bs).scan = s.scan := by
  obtain ⟨_, h⟩ := s.put_shape id bs
  rw [h]
@[simp] theorem State.put_sense (s : State) (id : Nat) (bs : Bytes) : (s.put id bs).sense = s.sense := by
  obtain ⟨_, h⟩ := s.put_shape id bs
  rw [h]
@[simp] theorem State.put_may (s : State) (id : Nat) (bs : Bytes) : (s.put id bs).may = s.may := by
  obtain ⟨_, h⟩ := s.put_shape id bs
  rw [h]
@[simp] theorem State.put_aux (s : State) (id : Nat) (bs : Bytes) : (s.put id bs).aux = s.aux := by
  obtain ⟨_, h⟩ := s.put_shape id bs
  rw [h]
@[simp] theorem State.put_cal (s : State) (id : Nat) (bs : Bytes) : (s.put id bs).cal = s.cal := by
  obtain ⟨_, h⟩ := s.put_shape id bs
  rw [h]
@[simp] theorem State.put_therm (s : State) (id : Nat) (bs : Bytes) : (s.put id bs).therm = s.therm := by
  obtain ⟨_, h⟩ := s.put_shape id bs
  rw [h]
@[simp] theorem State.put_cams (s : State) (id : Nat) (bs : Bytes) : (s.put id bs).cams = s.cams := by
  obtain ⟨_, h⟩ := s.put_shape id bs
  rw [h]
@[simp] theorem State.put_recd (s : State) (id : Nat) (bs : Bytes) : (s.put id bs).recd = s.recd := by
  obtain ⟨_, h⟩ := s.put_shape id bs
  rw [h]

/-- setU writes only live. -/
theorem State.setU_shape (s : State) (id n : Nat) : ∃ live', s.setU id n = { s with live := live' } :=
  ⟨_, rfl⟩

@[simp] theorem State.setU_pending (s : State) (id n : Nat) : (s.setU id n).pending = s.pending := by
  obtain ⟨_, h⟩ := s.setU_shape id n
  rw [h]
@[simp] theorem State.setU_fresh (s : State) (id n : Nat) : (s.setU id n).fresh = s.fresh := by
  obtain ⟨_, h⟩ := s.setU_shape id n
  rw [h]
@[simp] theorem State.setU_variant (s : State) (id n : Nat) : (s.setU id n).variant = s.variant := by
  obtain ⟨_, h⟩ := s.setU_shape id n
  rw [h]
@[simp] theorem State.setU_mram (s : State) (id n : Nat) : (s.setU id n).mram = s.mram := by
  obtain ⟨_, h⟩ := s.setU_shape id n
  rw [h]
@[simp] theorem State.setU_dev (s : State) (id n : Nat) : (s.setU id n).dev = s.dev := by
  obtain ⟨_, h⟩ := s.setU_shape id n
  rw [h]
@[simp] theorem State.setU_time (s : State) (id n : Nat) : (s.setU id n).time = s.time := by
  obtain ⟨_, h⟩ := s.setU_shape id n
  rw [h]
@[simp] theorem State.setU_dtp (s : State) (id n : Nat) : (s.setU id n).dtp = s.dtp := by
  obtain ⟨_, h⟩ := s.setU_shape id n
  rw [h]
@[simp] theorem State.setU_grp (s : State) (id n : Nat) : (s.setU id n).grp = s.grp := by
  obtain ⟨_, h⟩ := s.setU_shape id n
  rw [h]
@[simp] theorem State.setU_spi (s : State) (id n : Nat) : (s.setU id n).spi = s.spi := by
  obtain ⟨_, h⟩ := s.setU_shape id n
  rw [h]
@[simp] theorem State.setU_ev (s : State) (id n : Nat) : (s.setU id n).ev = s.ev := by
  obtain ⟨_, h⟩ := s.setU_shape id n
  rw [h]
@[simp] theorem State.setU_merge (s : State) (id n : Nat) : (s.setU id n).merge = s.merge := by
  obtain ⟨_, h⟩ := s.setU_shape id n
  rw [h]
@[simp] theorem State.setU_pair (s : State) (id n : Nat) : (s.setU id n).pair = s.pair := by
  obtain ⟨_, h⟩ := s.setU_shape id n
  rw [h]
@[simp] theorem State.setU_array (s : State) (id n : Nat) : (s.setU id n).array = s.array := by
  obtain ⟨_, h⟩ := s.setU_shape id n
  rw [h]
@[simp] theorem State.setU_fire (s : State) (id n : Nat) : (s.setU id n).fire = s.fire := by
  obtain ⟨_, h⟩ := s.setU_shape id n
  rw [h]
@[simp] theorem State.setU_charge (s : State) (id n : Nat) : (s.setU id n).charge = s.charge := by
  obtain ⟨_, h⟩ := s.setU_shape id n
  rw [h]
@[simp] theorem State.setU_loops (s : State) (id n : Nat) : (s.setU id n).loops = s.loops := by
  obtain ⟨_, h⟩ := s.setU_shape id n
  rw [h]
@[simp] theorem State.setU_scan (s : State) (id n : Nat) : (s.setU id n).scan = s.scan := by
  obtain ⟨_, h⟩ := s.setU_shape id n
  rw [h]
@[simp] theorem State.setU_sense (s : State) (id n : Nat) : (s.setU id n).sense = s.sense := by
  obtain ⟨_, h⟩ := s.setU_shape id n
  rw [h]
@[simp] theorem State.setU_may (s : State) (id n : Nat) : (s.setU id n).may = s.may := by
  obtain ⟨_, h⟩ := s.setU_shape id n
  rw [h]
@[simp] theorem State.setU_aux (s : State) (id n : Nat) : (s.setU id n).aux = s.aux := by
  obtain ⟨_, h⟩ := s.setU_shape id n
  rw [h]
@[simp] theorem State.setU_cal (s : State) (id n : Nat) : (s.setU id n).cal = s.cal := by
  obtain ⟨_, h⟩ := s.setU_shape id n
  rw [h]
@[simp] theorem State.setU_therm (s : State) (id n : Nat) : (s.setU id n).therm = s.therm := by
  obtain ⟨_, h⟩ := s.setU_shape id n
  rw [h]
@[simp] theorem State.setU_cams (s : State) (id n : Nat) : (s.setU id n).cams = s.cams := by
  obtain ⟨_, h⟩ := s.setU_shape id n
  rw [h]
@[simp] theorem State.setU_recd (s : State) (id n : Nat) : (s.setU id n).recd = s.recd := by
  obtain ⟨_, h⟩ := s.setU_shape id n
  rw [h]

/-- setI writes only live. -/
theorem State.setI_shape (s : State) (id : Nat) (n : Int) : ∃ live', s.setI id n = { s with live := live' } :=
  ⟨_, rfl⟩

@[simp] theorem State.setI_pending (s : State) (id : Nat) (n : Int) : (s.setI id n).pending = s.pending := by
  obtain ⟨_, h⟩ := s.setI_shape id n
  rw [h]
@[simp] theorem State.setI_fresh (s : State) (id : Nat) (n : Int) : (s.setI id n).fresh = s.fresh := by
  obtain ⟨_, h⟩ := s.setI_shape id n
  rw [h]
@[simp] theorem State.setI_variant (s : State) (id : Nat) (n : Int) : (s.setI id n).variant = s.variant := by
  obtain ⟨_, h⟩ := s.setI_shape id n
  rw [h]
@[simp] theorem State.setI_mram (s : State) (id : Nat) (n : Int) : (s.setI id n).mram = s.mram := by
  obtain ⟨_, h⟩ := s.setI_shape id n
  rw [h]
@[simp] theorem State.setI_dev (s : State) (id : Nat) (n : Int) : (s.setI id n).dev = s.dev := by
  obtain ⟨_, h⟩ := s.setI_shape id n
  rw [h]
@[simp] theorem State.setI_time (s : State) (id : Nat) (n : Int) : (s.setI id n).time = s.time := by
  obtain ⟨_, h⟩ := s.setI_shape id n
  rw [h]
@[simp] theorem State.setI_dtp (s : State) (id : Nat) (n : Int) : (s.setI id n).dtp = s.dtp := by
  obtain ⟨_, h⟩ := s.setI_shape id n
  rw [h]
@[simp] theorem State.setI_grp (s : State) (id : Nat) (n : Int) : (s.setI id n).grp = s.grp := by
  obtain ⟨_, h⟩ := s.setI_shape id n
  rw [h]
@[simp] theorem State.setI_spi (s : State) (id : Nat) (n : Int) : (s.setI id n).spi = s.spi := by
  obtain ⟨_, h⟩ := s.setI_shape id n
  rw [h]
@[simp] theorem State.setI_ev (s : State) (id : Nat) (n : Int) : (s.setI id n).ev = s.ev := by
  obtain ⟨_, h⟩ := s.setI_shape id n
  rw [h]
@[simp] theorem State.setI_merge (s : State) (id : Nat) (n : Int) : (s.setI id n).merge = s.merge := by
  obtain ⟨_, h⟩ := s.setI_shape id n
  rw [h]
@[simp] theorem State.setI_pair (s : State) (id : Nat) (n : Int) : (s.setI id n).pair = s.pair := by
  obtain ⟨_, h⟩ := s.setI_shape id n
  rw [h]
@[simp] theorem State.setI_array (s : State) (id : Nat) (n : Int) : (s.setI id n).array = s.array := by
  obtain ⟨_, h⟩ := s.setI_shape id n
  rw [h]
@[simp] theorem State.setI_fire (s : State) (id : Nat) (n : Int) : (s.setI id n).fire = s.fire := by
  obtain ⟨_, h⟩ := s.setI_shape id n
  rw [h]
@[simp] theorem State.setI_charge (s : State) (id : Nat) (n : Int) : (s.setI id n).charge = s.charge := by
  obtain ⟨_, h⟩ := s.setI_shape id n
  rw [h]
@[simp] theorem State.setI_loops (s : State) (id : Nat) (n : Int) : (s.setI id n).loops = s.loops := by
  obtain ⟨_, h⟩ := s.setI_shape id n
  rw [h]
@[simp] theorem State.setI_scan (s : State) (id : Nat) (n : Int) : (s.setI id n).scan = s.scan := by
  obtain ⟨_, h⟩ := s.setI_shape id n
  rw [h]
@[simp] theorem State.setI_sense (s : State) (id : Nat) (n : Int) : (s.setI id n).sense = s.sense := by
  obtain ⟨_, h⟩ := s.setI_shape id n
  rw [h]
@[simp] theorem State.setI_may (s : State) (id : Nat) (n : Int) : (s.setI id n).may = s.may := by
  obtain ⟨_, h⟩ := s.setI_shape id n
  rw [h]
@[simp] theorem State.setI_aux (s : State) (id : Nat) (n : Int) : (s.setI id n).aux = s.aux := by
  obtain ⟨_, h⟩ := s.setI_shape id n
  rw [h]
@[simp] theorem State.setI_cal (s : State) (id : Nat) (n : Int) : (s.setI id n).cal = s.cal := by
  obtain ⟨_, h⟩ := s.setI_shape id n
  rw [h]
@[simp] theorem State.setI_therm (s : State) (id : Nat) (n : Int) : (s.setI id n).therm = s.therm := by
  obtain ⟨_, h⟩ := s.setI_shape id n
  rw [h]
@[simp] theorem State.setI_cams (s : State) (id : Nat) (n : Int) : (s.setI id n).cams = s.cams := by
  obtain ⟨_, h⟩ := s.setI_shape id n
  rw [h]
@[simp] theorem State.setI_recd (s : State) (id : Nat) (n : Int) : (s.setI id n).recd = s.recd := by
  obtain ⟨_, h⟩ := s.setI_shape id n
  rw [h]

/-- setB writes only live. -/
theorem State.setB_shape (s : State) (id : Nat) (b : Bool) : ∃ live', s.setB id b = { s with live := live' } :=
  ⟨_, rfl⟩

@[simp] theorem State.setB_pending (s : State) (id : Nat) (b : Bool) : (s.setB id b).pending = s.pending := by
  obtain ⟨_, h⟩ := s.setB_shape id b
  rw [h]
@[simp] theorem State.setB_fresh (s : State) (id : Nat) (b : Bool) : (s.setB id b).fresh = s.fresh := by
  obtain ⟨_, h⟩ := s.setB_shape id b
  rw [h]
@[simp] theorem State.setB_variant (s : State) (id : Nat) (b : Bool) : (s.setB id b).variant = s.variant := by
  obtain ⟨_, h⟩ := s.setB_shape id b
  rw [h]
@[simp] theorem State.setB_mram (s : State) (id : Nat) (b : Bool) : (s.setB id b).mram = s.mram := by
  obtain ⟨_, h⟩ := s.setB_shape id b
  rw [h]
@[simp] theorem State.setB_dev (s : State) (id : Nat) (b : Bool) : (s.setB id b).dev = s.dev := by
  obtain ⟨_, h⟩ := s.setB_shape id b
  rw [h]
@[simp] theorem State.setB_time (s : State) (id : Nat) (b : Bool) : (s.setB id b).time = s.time := by
  obtain ⟨_, h⟩ := s.setB_shape id b
  rw [h]
@[simp] theorem State.setB_dtp (s : State) (id : Nat) (b : Bool) : (s.setB id b).dtp = s.dtp := by
  obtain ⟨_, h⟩ := s.setB_shape id b
  rw [h]
@[simp] theorem State.setB_grp (s : State) (id : Nat) (b : Bool) : (s.setB id b).grp = s.grp := by
  obtain ⟨_, h⟩ := s.setB_shape id b
  rw [h]
@[simp] theorem State.setB_spi (s : State) (id : Nat) (b : Bool) : (s.setB id b).spi = s.spi := by
  obtain ⟨_, h⟩ := s.setB_shape id b
  rw [h]
@[simp] theorem State.setB_ev (s : State) (id : Nat) (b : Bool) : (s.setB id b).ev = s.ev := by
  obtain ⟨_, h⟩ := s.setB_shape id b
  rw [h]
@[simp] theorem State.setB_merge (s : State) (id : Nat) (b : Bool) : (s.setB id b).merge = s.merge := by
  obtain ⟨_, h⟩ := s.setB_shape id b
  rw [h]
@[simp] theorem State.setB_pair (s : State) (id : Nat) (b : Bool) : (s.setB id b).pair = s.pair := by
  obtain ⟨_, h⟩ := s.setB_shape id b
  rw [h]
@[simp] theorem State.setB_array (s : State) (id : Nat) (b : Bool) : (s.setB id b).array = s.array := by
  obtain ⟨_, h⟩ := s.setB_shape id b
  rw [h]
@[simp] theorem State.setB_fire (s : State) (id : Nat) (b : Bool) : (s.setB id b).fire = s.fire := by
  obtain ⟨_, h⟩ := s.setB_shape id b
  rw [h]
@[simp] theorem State.setB_charge (s : State) (id : Nat) (b : Bool) : (s.setB id b).charge = s.charge := by
  obtain ⟨_, h⟩ := s.setB_shape id b
  rw [h]
@[simp] theorem State.setB_loops (s : State) (id : Nat) (b : Bool) : (s.setB id b).loops = s.loops := by
  obtain ⟨_, h⟩ := s.setB_shape id b
  rw [h]
@[simp] theorem State.setB_scan (s : State) (id : Nat) (b : Bool) : (s.setB id b).scan = s.scan := by
  obtain ⟨_, h⟩ := s.setB_shape id b
  rw [h]
@[simp] theorem State.setB_sense (s : State) (id : Nat) (b : Bool) : (s.setB id b).sense = s.sense := by
  obtain ⟨_, h⟩ := s.setB_shape id b
  rw [h]
@[simp] theorem State.setB_may (s : State) (id : Nat) (b : Bool) : (s.setB id b).may = s.may := by
  obtain ⟨_, h⟩ := s.setB_shape id b
  rw [h]
@[simp] theorem State.setB_aux (s : State) (id : Nat) (b : Bool) : (s.setB id b).aux = s.aux := by
  obtain ⟨_, h⟩ := s.setB_shape id b
  rw [h]
@[simp] theorem State.setB_cal (s : State) (id : Nat) (b : Bool) : (s.setB id b).cal = s.cal := by
  obtain ⟨_, h⟩ := s.setB_shape id b
  rw [h]
@[simp] theorem State.setB_therm (s : State) (id : Nat) (b : Bool) : (s.setB id b).therm = s.therm := by
  obtain ⟨_, h⟩ := s.setB_shape id b
  rw [h]
@[simp] theorem State.setB_cams (s : State) (id : Nat) (b : Bool) : (s.setB id b).cams = s.cams := by
  obtain ⟨_, h⟩ := s.setB_shape id b
  rw [h]
@[simp] theorem State.setB_recd (s : State) (id : Nat) (b : Bool) : (s.setB id b).recd = s.recd := by
  obtain ⟨_, h⟩ := s.setB_shape id b
  rw [h]

/-- bump writes only live. -/
theorem State.bump_shape (s : State) (id n : Nat) : ∃ live', s.bump id n = { s with live := live' } := by
  unfold State.bump
  split
  · exact ⟨_, rfl⟩
  · exact ⟨_, rfl⟩

@[simp] theorem State.bump_pending (s : State) (id n : Nat) : (s.bump id n).pending = s.pending := by
  obtain ⟨_, h⟩ := s.bump_shape id n
  rw [h]
@[simp] theorem State.bump_fresh (s : State) (id n : Nat) : (s.bump id n).fresh = s.fresh := by
  obtain ⟨_, h⟩ := s.bump_shape id n
  rw [h]
@[simp] theorem State.bump_variant (s : State) (id n : Nat) : (s.bump id n).variant = s.variant := by
  obtain ⟨_, h⟩ := s.bump_shape id n
  rw [h]
@[simp] theorem State.bump_mram (s : State) (id n : Nat) : (s.bump id n).mram = s.mram := by
  obtain ⟨_, h⟩ := s.bump_shape id n
  rw [h]
@[simp] theorem State.bump_dev (s : State) (id n : Nat) : (s.bump id n).dev = s.dev := by
  obtain ⟨_, h⟩ := s.bump_shape id n
  rw [h]
@[simp] theorem State.bump_time (s : State) (id n : Nat) : (s.bump id n).time = s.time := by
  obtain ⟨_, h⟩ := s.bump_shape id n
  rw [h]
@[simp] theorem State.bump_dtp (s : State) (id n : Nat) : (s.bump id n).dtp = s.dtp := by
  obtain ⟨_, h⟩ := s.bump_shape id n
  rw [h]
@[simp] theorem State.bump_grp (s : State) (id n : Nat) : (s.bump id n).grp = s.grp := by
  obtain ⟨_, h⟩ := s.bump_shape id n
  rw [h]
@[simp] theorem State.bump_spi (s : State) (id n : Nat) : (s.bump id n).spi = s.spi := by
  obtain ⟨_, h⟩ := s.bump_shape id n
  rw [h]
@[simp] theorem State.bump_ev (s : State) (id n : Nat) : (s.bump id n).ev = s.ev := by
  obtain ⟨_, h⟩ := s.bump_shape id n
  rw [h]
@[simp] theorem State.bump_merge (s : State) (id n : Nat) : (s.bump id n).merge = s.merge := by
  obtain ⟨_, h⟩ := s.bump_shape id n
  rw [h]
@[simp] theorem State.bump_pair (s : State) (id n : Nat) : (s.bump id n).pair = s.pair := by
  obtain ⟨_, h⟩ := s.bump_shape id n
  rw [h]
@[simp] theorem State.bump_array (s : State) (id n : Nat) : (s.bump id n).array = s.array := by
  obtain ⟨_, h⟩ := s.bump_shape id n
  rw [h]
@[simp] theorem State.bump_fire (s : State) (id n : Nat) : (s.bump id n).fire = s.fire := by
  obtain ⟨_, h⟩ := s.bump_shape id n
  rw [h]
@[simp] theorem State.bump_charge (s : State) (id n : Nat) : (s.bump id n).charge = s.charge := by
  obtain ⟨_, h⟩ := s.bump_shape id n
  rw [h]
@[simp] theorem State.bump_loops (s : State) (id n : Nat) : (s.bump id n).loops = s.loops := by
  obtain ⟨_, h⟩ := s.bump_shape id n
  rw [h]
@[simp] theorem State.bump_scan (s : State) (id n : Nat) : (s.bump id n).scan = s.scan := by
  obtain ⟨_, h⟩ := s.bump_shape id n
  rw [h]
@[simp] theorem State.bump_sense (s : State) (id n : Nat) : (s.bump id n).sense = s.sense := by
  obtain ⟨_, h⟩ := s.bump_shape id n
  rw [h]
@[simp] theorem State.bump_may (s : State) (id n : Nat) : (s.bump id n).may = s.may := by
  obtain ⟨_, h⟩ := s.bump_shape id n
  rw [h]
@[simp] theorem State.bump_aux (s : State) (id n : Nat) : (s.bump id n).aux = s.aux := by
  obtain ⟨_, h⟩ := s.bump_shape id n
  rw [h]
@[simp] theorem State.bump_cal (s : State) (id n : Nat) : (s.bump id n).cal = s.cal := by
  obtain ⟨_, h⟩ := s.bump_shape id n
  rw [h]
@[simp] theorem State.bump_therm (s : State) (id n : Nat) : (s.bump id n).therm = s.therm := by
  obtain ⟨_, h⟩ := s.bump_shape id n
  rw [h]
@[simp] theorem State.bump_cams (s : State) (id n : Nat) : (s.bump id n).cams = s.cams := by
  obtain ⟨_, h⟩ := s.bump_shape id n
  rw [h]
@[simp] theorem State.bump_recd (s : State) (id n : Nat) : (s.bump id n).recd = s.recd := by
  obtain ⟨_, h⟩ := s.bump_shape id n
  rw [h]

/-- setWord writes only live. -/
theorem State.setWord_shape (s : State) (id w off n : Nat) : ∃ live', s.setWord id w off n = { s with live := live' } :=
  ⟨_, rfl⟩

@[simp] theorem State.setWord_pending (s : State) (id w off n : Nat) : (s.setWord id w off n).pending = s.pending := by
  obtain ⟨_, h⟩ := s.setWord_shape id w off n
  rw [h]
@[simp] theorem State.setWord_fresh (s : State) (id w off n : Nat) : (s.setWord id w off n).fresh = s.fresh := by
  obtain ⟨_, h⟩ := s.setWord_shape id w off n
  rw [h]
@[simp] theorem State.setWord_variant (s : State) (id w off n : Nat) : (s.setWord id w off n).variant = s.variant := by
  obtain ⟨_, h⟩ := s.setWord_shape id w off n
  rw [h]
@[simp] theorem State.setWord_mram (s : State) (id w off n : Nat) : (s.setWord id w off n).mram = s.mram := by
  obtain ⟨_, h⟩ := s.setWord_shape id w off n
  rw [h]
@[simp] theorem State.setWord_dev (s : State) (id w off n : Nat) : (s.setWord id w off n).dev = s.dev := by
  obtain ⟨_, h⟩ := s.setWord_shape id w off n
  rw [h]
@[simp] theorem State.setWord_time (s : State) (id w off n : Nat) : (s.setWord id w off n).time = s.time := by
  obtain ⟨_, h⟩ := s.setWord_shape id w off n
  rw [h]
@[simp] theorem State.setWord_dtp (s : State) (id w off n : Nat) : (s.setWord id w off n).dtp = s.dtp := by
  obtain ⟨_, h⟩ := s.setWord_shape id w off n
  rw [h]
@[simp] theorem State.setWord_grp (s : State) (id w off n : Nat) : (s.setWord id w off n).grp = s.grp := by
  obtain ⟨_, h⟩ := s.setWord_shape id w off n
  rw [h]
@[simp] theorem State.setWord_spi (s : State) (id w off n : Nat) : (s.setWord id w off n).spi = s.spi := by
  obtain ⟨_, h⟩ := s.setWord_shape id w off n
  rw [h]
@[simp] theorem State.setWord_ev (s : State) (id w off n : Nat) : (s.setWord id w off n).ev = s.ev := by
  obtain ⟨_, h⟩ := s.setWord_shape id w off n
  rw [h]
@[simp] theorem State.setWord_merge (s : State) (id w off n : Nat) : (s.setWord id w off n).merge = s.merge := by
  obtain ⟨_, h⟩ := s.setWord_shape id w off n
  rw [h]
@[simp] theorem State.setWord_pair (s : State) (id w off n : Nat) : (s.setWord id w off n).pair = s.pair := by
  obtain ⟨_, h⟩ := s.setWord_shape id w off n
  rw [h]
@[simp] theorem State.setWord_array (s : State) (id w off n : Nat) : (s.setWord id w off n).array = s.array := by
  obtain ⟨_, h⟩ := s.setWord_shape id w off n
  rw [h]
@[simp] theorem State.setWord_fire (s : State) (id w off n : Nat) : (s.setWord id w off n).fire = s.fire := by
  obtain ⟨_, h⟩ := s.setWord_shape id w off n
  rw [h]
@[simp] theorem State.setWord_charge (s : State) (id w off n : Nat) : (s.setWord id w off n).charge = s.charge := by
  obtain ⟨_, h⟩ := s.setWord_shape id w off n
  rw [h]
@[simp] theorem State.setWord_loops (s : State) (id w off n : Nat) : (s.setWord id w off n).loops = s.loops := by
  obtain ⟨_, h⟩ := s.setWord_shape id w off n
  rw [h]
@[simp] theorem State.setWord_scan (s : State) (id w off n : Nat) : (s.setWord id w off n).scan = s.scan := by
  obtain ⟨_, h⟩ := s.setWord_shape id w off n
  rw [h]
@[simp] theorem State.setWord_sense (s : State) (id w off n : Nat) : (s.setWord id w off n).sense = s.sense := by
  obtain ⟨_, h⟩ := s.setWord_shape id w off n
  rw [h]
@[simp] theorem State.setWord_may (s : State) (id w off n : Nat) : (s.setWord id w off n).may = s.may := by
  obtain ⟨_, h⟩ := s.setWord_shape id w off n
  rw [h]
@[simp] theorem State.setWord_aux (s : State) (id w off n : Nat) : (s.setWord id w off n).aux = s.aux := by
  obtain ⟨_, h⟩ := s.setWord_shape id w off n
  rw [h]
@[simp] theorem State.setWord_cal (s : State) (id w off n : Nat) : (s.setWord id w off n).cal = s.cal := by
  obtain ⟨_, h⟩ := s.setWord_shape id w off n
  rw [h]
@[simp] theorem State.setWord_therm (s : State) (id w off n : Nat) : (s.setWord id w off n).therm = s.therm := by
  obtain ⟨_, h⟩ := s.setWord_shape id w off n
  rw [h]
@[simp] theorem State.setWord_cams (s : State) (id w off n : Nat) : (s.setWord id w off n).cams = s.cams := by
  obtain ⟨_, h⟩ := s.setWord_shape id w off n
  rw [h]
@[simp] theorem State.setWord_recd (s : State) (id w off n : Nat) : (s.setWord id w off n).recd = s.recd := by
  obtain ⟨_, h⟩ := s.setWord_shape id w off n
  rw [h]

/-- bumpWord writes only live. -/
theorem State.bumpWord_shape (s : State) (id w off n : Nat) : ∃ live', s.bumpWord id w off n = { s with live := live' } := by
  unfold State.bumpWord
  split
  · exact ⟨_, rfl⟩
  · exact ⟨_, rfl⟩

@[simp] theorem State.bumpWord_pending (s : State) (id w off n : Nat) : (s.bumpWord id w off n).pending = s.pending := by
  obtain ⟨_, h⟩ := s.bumpWord_shape id w off n
  rw [h]
@[simp] theorem State.bumpWord_fresh (s : State) (id w off n : Nat) : (s.bumpWord id w off n).fresh = s.fresh := by
  obtain ⟨_, h⟩ := s.bumpWord_shape id w off n
  rw [h]
@[simp] theorem State.bumpWord_variant (s : State) (id w off n : Nat) : (s.bumpWord id w off n).variant = s.variant := by
  obtain ⟨_, h⟩ := s.bumpWord_shape id w off n
  rw [h]
@[simp] theorem State.bumpWord_mram (s : State) (id w off n : Nat) : (s.bumpWord id w off n).mram = s.mram := by
  obtain ⟨_, h⟩ := s.bumpWord_shape id w off n
  rw [h]
@[simp] theorem State.bumpWord_dev (s : State) (id w off n : Nat) : (s.bumpWord id w off n).dev = s.dev := by
  obtain ⟨_, h⟩ := s.bumpWord_shape id w off n
  rw [h]
@[simp] theorem State.bumpWord_time (s : State) (id w off n : Nat) : (s.bumpWord id w off n).time = s.time := by
  obtain ⟨_, h⟩ := s.bumpWord_shape id w off n
  rw [h]
@[simp] theorem State.bumpWord_dtp (s : State) (id w off n : Nat) : (s.bumpWord id w off n).dtp = s.dtp := by
  obtain ⟨_, h⟩ := s.bumpWord_shape id w off n
  rw [h]
@[simp] theorem State.bumpWord_grp (s : State) (id w off n : Nat) : (s.bumpWord id w off n).grp = s.grp := by
  obtain ⟨_, h⟩ := s.bumpWord_shape id w off n
  rw [h]
@[simp] theorem State.bumpWord_spi (s : State) (id w off n : Nat) : (s.bumpWord id w off n).spi = s.spi := by
  obtain ⟨_, h⟩ := s.bumpWord_shape id w off n
  rw [h]
@[simp] theorem State.bumpWord_ev (s : State) (id w off n : Nat) : (s.bumpWord id w off n).ev = s.ev := by
  obtain ⟨_, h⟩ := s.bumpWord_shape id w off n
  rw [h]
@[simp] theorem State.bumpWord_merge (s : State) (id w off n : Nat) : (s.bumpWord id w off n).merge = s.merge := by
  obtain ⟨_, h⟩ := s.bumpWord_shape id w off n
  rw [h]
@[simp] theorem State.bumpWord_pair (s : State) (id w off n : Nat) : (s.bumpWord id w off n).pair = s.pair := by
  obtain ⟨_, h⟩ := s.bumpWord_shape id w off n
  rw [h]
@[simp] theorem State.bumpWord_array (s : State) (id w off n : Nat) : (s.bumpWord id w off n).array = s.array := by
  obtain ⟨_, h⟩ := s.bumpWord_shape id w off n
  rw [h]
@[simp] theorem State.bumpWord_fire (s : State) (id w off n : Nat) : (s.bumpWord id w off n).fire = s.fire := by
  obtain ⟨_, h⟩ := s.bumpWord_shape id w off n
  rw [h]
@[simp] theorem State.bumpWord_charge (s : State) (id w off n : Nat) : (s.bumpWord id w off n).charge = s.charge := by
  obtain ⟨_, h⟩ := s.bumpWord_shape id w off n
  rw [h]
@[simp] theorem State.bumpWord_loops (s : State) (id w off n : Nat) : (s.bumpWord id w off n).loops = s.loops := by
  obtain ⟨_, h⟩ := s.bumpWord_shape id w off n
  rw [h]
@[simp] theorem State.bumpWord_scan (s : State) (id w off n : Nat) : (s.bumpWord id w off n).scan = s.scan := by
  obtain ⟨_, h⟩ := s.bumpWord_shape id w off n
  rw [h]
@[simp] theorem State.bumpWord_sense (s : State) (id w off n : Nat) : (s.bumpWord id w off n).sense = s.sense := by
  obtain ⟨_, h⟩ := s.bumpWord_shape id w off n
  rw [h]
@[simp] theorem State.bumpWord_may (s : State) (id w off n : Nat) : (s.bumpWord id w off n).may = s.may := by
  obtain ⟨_, h⟩ := s.bumpWord_shape id w off n
  rw [h]
@[simp] theorem State.bumpWord_aux (s : State) (id w off n : Nat) : (s.bumpWord id w off n).aux = s.aux := by
  obtain ⟨_, h⟩ := s.bumpWord_shape id w off n
  rw [h]
@[simp] theorem State.bumpWord_cal (s : State) (id w off n : Nat) : (s.bumpWord id w off n).cal = s.cal := by
  obtain ⟨_, h⟩ := s.bumpWord_shape id w off n
  rw [h]
@[simp] theorem State.bumpWord_therm (s : State) (id w off n : Nat) : (s.bumpWord id w off n).therm = s.therm := by
  obtain ⟨_, h⟩ := s.bumpWord_shape id w off n
  rw [h]
@[simp] theorem State.bumpWord_cams (s : State) (id w off n : Nat) : (s.bumpWord id w off n).cams = s.cams := by
  obtain ⟨_, h⟩ := s.bumpWord_shape id w off n
  rw [h]
@[simp] theorem State.bumpWord_recd (s : State) (id w off n : Nat) : (s.bumpWord id w off n).recd = s.recd := by
  obtain ⟨_, h⟩ := s.bumpWord_shape id w off n
  rw [h]

/-- persist writes only mram. -/
theorem State.persist_shape (s : State) (id : Nat) : ∃ mram', s.persist id = { s with mram := mram' } :=
  ⟨_, rfl⟩

@[simp] theorem State.persist_pending (s : State) (id : Nat) : (s.persist id).pending = s.pending := by
  obtain ⟨_, h⟩ := s.persist_shape id
  rw [h]
@[simp] theorem State.persist_fresh (s : State) (id : Nat) : (s.persist id).fresh = s.fresh := by
  obtain ⟨_, h⟩ := s.persist_shape id
  rw [h]
@[simp] theorem State.persist_variant (s : State) (id : Nat) : (s.persist id).variant = s.variant := by
  obtain ⟨_, h⟩ := s.persist_shape id
  rw [h]
@[simp] theorem State.persist_live (s : State) (id : Nat) : (s.persist id).live = s.live := by
  obtain ⟨_, h⟩ := s.persist_shape id
  rw [h]
@[simp] theorem State.persist_dev (s : State) (id : Nat) : (s.persist id).dev = s.dev := by
  obtain ⟨_, h⟩ := s.persist_shape id
  rw [h]
@[simp] theorem State.persist_time (s : State) (id : Nat) : (s.persist id).time = s.time := by
  obtain ⟨_, h⟩ := s.persist_shape id
  rw [h]
@[simp] theorem State.persist_dtp (s : State) (id : Nat) : (s.persist id).dtp = s.dtp := by
  obtain ⟨_, h⟩ := s.persist_shape id
  rw [h]
@[simp] theorem State.persist_grp (s : State) (id : Nat) : (s.persist id).grp = s.grp := by
  obtain ⟨_, h⟩ := s.persist_shape id
  rw [h]
@[simp] theorem State.persist_spi (s : State) (id : Nat) : (s.persist id).spi = s.spi := by
  obtain ⟨_, h⟩ := s.persist_shape id
  rw [h]
@[simp] theorem State.persist_ev (s : State) (id : Nat) : (s.persist id).ev = s.ev := by
  obtain ⟨_, h⟩ := s.persist_shape id
  rw [h]
@[simp] theorem State.persist_merge (s : State) (id : Nat) : (s.persist id).merge = s.merge := by
  obtain ⟨_, h⟩ := s.persist_shape id
  rw [h]
@[simp] theorem State.persist_pair (s : State) (id : Nat) : (s.persist id).pair = s.pair := by
  obtain ⟨_, h⟩ := s.persist_shape id
  rw [h]
@[simp] theorem State.persist_array (s : State) (id : Nat) : (s.persist id).array = s.array := by
  obtain ⟨_, h⟩ := s.persist_shape id
  rw [h]
@[simp] theorem State.persist_fire (s : State) (id : Nat) : (s.persist id).fire = s.fire := by
  obtain ⟨_, h⟩ := s.persist_shape id
  rw [h]
@[simp] theorem State.persist_charge (s : State) (id : Nat) : (s.persist id).charge = s.charge := by
  obtain ⟨_, h⟩ := s.persist_shape id
  rw [h]
@[simp] theorem State.persist_loops (s : State) (id : Nat) : (s.persist id).loops = s.loops := by
  obtain ⟨_, h⟩ := s.persist_shape id
  rw [h]
@[simp] theorem State.persist_scan (s : State) (id : Nat) : (s.persist id).scan = s.scan := by
  obtain ⟨_, h⟩ := s.persist_shape id
  rw [h]
@[simp] theorem State.persist_sense (s : State) (id : Nat) : (s.persist id).sense = s.sense := by
  obtain ⟨_, h⟩ := s.persist_shape id
  rw [h]
@[simp] theorem State.persist_may (s : State) (id : Nat) : (s.persist id).may = s.may := by
  obtain ⟨_, h⟩ := s.persist_shape id
  rw [h]
@[simp] theorem State.persist_aux (s : State) (id : Nat) : (s.persist id).aux = s.aux := by
  obtain ⟨_, h⟩ := s.persist_shape id
  rw [h]
@[simp] theorem State.persist_cal (s : State) (id : Nat) : (s.persist id).cal = s.cal := by
  obtain ⟨_, h⟩ := s.persist_shape id
  rw [h]
@[simp] theorem State.persist_therm (s : State) (id : Nat) : (s.persist id).therm = s.therm := by
  obtain ⟨_, h⟩ := s.persist_shape id
  rw [h]
@[simp] theorem State.persist_cams (s : State) (id : Nat) : (s.persist id).cams = s.cams := by
  obtain ⟨_, h⟩ := s.persist_shape id
  rw [h]
@[simp] theorem State.persist_recd (s : State) (id : Nat) : (s.persist id).recd = s.recd := by
  obtain ⟨_, h⟩ := s.persist_shape id
  rw [h]

/-- setStored writes only live, mram. -/
theorem State.setStored_shape (s : State) (id n : Nat) : ∃ live' mram', s.setStored id n = { s with live := live', mram := mram' } :=
  ⟨_, _, rfl⟩

@[simp] theorem State.setStored_pending (s : State) (id n : Nat) : (s.setStored id n).pending = s.pending := by
  obtain ⟨_, _, h⟩ := s.setStored_shape id n
  rw [h]
@[simp] theorem State.setStored_fresh (s : State) (id n : Nat) : (s.setStored id n).fresh = s.fresh := by
  obtain ⟨_, _, h⟩ := s.setStored_shape id n
  rw [h]
@[simp] theorem State.setStored_variant (s : State) (id n : Nat) : (s.setStored id n).variant = s.variant := by
  obtain ⟨_, _, h⟩ := s.setStored_shape id n
  rw [h]
@[simp] theorem State.setStored_dev (s : State) (id n : Nat) : (s.setStored id n).dev = s.dev := by
  obtain ⟨_, _, h⟩ := s.setStored_shape id n
  rw [h]
@[simp] theorem State.setStored_time (s : State) (id n : Nat) : (s.setStored id n).time = s.time := by
  obtain ⟨_, _, h⟩ := s.setStored_shape id n
  rw [h]
@[simp] theorem State.setStored_dtp (s : State) (id n : Nat) : (s.setStored id n).dtp = s.dtp := by
  obtain ⟨_, _, h⟩ := s.setStored_shape id n
  rw [h]
@[simp] theorem State.setStored_grp (s : State) (id n : Nat) : (s.setStored id n).grp = s.grp := by
  obtain ⟨_, _, h⟩ := s.setStored_shape id n
  rw [h]
@[simp] theorem State.setStored_spi (s : State) (id n : Nat) : (s.setStored id n).spi = s.spi := by
  obtain ⟨_, _, h⟩ := s.setStored_shape id n
  rw [h]
@[simp] theorem State.setStored_ev (s : State) (id n : Nat) : (s.setStored id n).ev = s.ev := by
  obtain ⟨_, _, h⟩ := s.setStored_shape id n
  rw [h]
@[simp] theorem State.setStored_merge (s : State) (id n : Nat) : (s.setStored id n).merge = s.merge := by
  obtain ⟨_, _, h⟩ := s.setStored_shape id n
  rw [h]
@[simp] theorem State.setStored_pair (s : State) (id n : Nat) : (s.setStored id n).pair = s.pair := by
  obtain ⟨_, _, h⟩ := s.setStored_shape id n
  rw [h]
@[simp] theorem State.setStored_array (s : State) (id n : Nat) : (s.setStored id n).array = s.array := by
  obtain ⟨_, _, h⟩ := s.setStored_shape id n
  rw [h]
@[simp] theorem State.setStored_fire (s : State) (id n : Nat) : (s.setStored id n).fire = s.fire := by
  obtain ⟨_, _, h⟩ := s.setStored_shape id n
  rw [h]
@[simp] theorem State.setStored_charge (s : State) (id n : Nat) : (s.setStored id n).charge = s.charge := by
  obtain ⟨_, _, h⟩ := s.setStored_shape id n
  rw [h]
@[simp] theorem State.setStored_loops (s : State) (id n : Nat) : (s.setStored id n).loops = s.loops := by
  obtain ⟨_, _, h⟩ := s.setStored_shape id n
  rw [h]
@[simp] theorem State.setStored_scan (s : State) (id n : Nat) : (s.setStored id n).scan = s.scan := by
  obtain ⟨_, _, h⟩ := s.setStored_shape id n
  rw [h]
@[simp] theorem State.setStored_sense (s : State) (id n : Nat) : (s.setStored id n).sense = s.sense := by
  obtain ⟨_, _, h⟩ := s.setStored_shape id n
  rw [h]
@[simp] theorem State.setStored_may (s : State) (id n : Nat) : (s.setStored id n).may = s.may := by
  obtain ⟨_, _, h⟩ := s.setStored_shape id n
  rw [h]
@[simp] theorem State.setStored_aux (s : State) (id n : Nat) : (s.setStored id n).aux = s.aux := by
  obtain ⟨_, _, h⟩ := s.setStored_shape id n
  rw [h]
@[simp] theorem State.setStored_cal (s : State) (id n : Nat) : (s.setStored id n).cal = s.cal := by
  obtain ⟨_, _, h⟩ := s.setStored_shape id n
  rw [h]
@[simp] theorem State.setStored_therm (s : State) (id n : Nat) : (s.setStored id n).therm = s.therm := by
  obtain ⟨_, _, h⟩ := s.setStored_shape id n
  rw [h]
@[simp] theorem State.setStored_cams (s : State) (id n : Nat) : (s.setStored id n).cams = s.cams := by
  obtain ⟨_, _, h⟩ := s.setStored_shape id n
  rw [h]
@[simp] theorem State.setStored_recd (s : State) (id n : Nat) : (s.setStored id n).recd = s.recd := by
  obtain ⟨_, _, h⟩ := s.setStored_shape id n
  rw [h]

/-- runTo writes only time. -/
theorem State.runTo_shape (s : State) (n : Nat) : ∃ time', s.runTo n = { s with time := time' } := by
  unfold State.runTo
  split
  · exact ⟨_, rfl⟩
  · exact ⟨_, rfl⟩

@[simp] theorem State.runTo_pending (s : State) (n : Nat) : (s.runTo n).pending = s.pending := by
  obtain ⟨_, h⟩ := s.runTo_shape n
  rw [h]
@[simp] theorem State.runTo_fresh (s : State) (n : Nat) : (s.runTo n).fresh = s.fresh := by
  obtain ⟨_, h⟩ := s.runTo_shape n
  rw [h]
@[simp] theorem State.runTo_variant (s : State) (n : Nat) : (s.runTo n).variant = s.variant := by
  obtain ⟨_, h⟩ := s.runTo_shape n
  rw [h]
@[simp] theorem State.runTo_live (s : State) (n : Nat) : (s.runTo n).live = s.live := by
  obtain ⟨_, h⟩ := s.runTo_shape n
  rw [h]
@[simp] theorem State.runTo_mram (s : State) (n : Nat) : (s.runTo n).mram = s.mram := by
  obtain ⟨_, h⟩ := s.runTo_shape n
  rw [h]
@[simp] theorem State.runTo_dev (s : State) (n : Nat) : (s.runTo n).dev = s.dev := by
  obtain ⟨_, h⟩ := s.runTo_shape n
  rw [h]
@[simp] theorem State.runTo_dtp (s : State) (n : Nat) : (s.runTo n).dtp = s.dtp := by
  obtain ⟨_, h⟩ := s.runTo_shape n
  rw [h]
@[simp] theorem State.runTo_grp (s : State) (n : Nat) : (s.runTo n).grp = s.grp := by
  obtain ⟨_, h⟩ := s.runTo_shape n
  rw [h]
@[simp] theorem State.runTo_spi (s : State) (n : Nat) : (s.runTo n).spi = s.spi := by
  obtain ⟨_, h⟩ := s.runTo_shape n
  rw [h]
@[simp] theorem State.runTo_ev (s : State) (n : Nat) : (s.runTo n).ev = s.ev := by
  obtain ⟨_, h⟩ := s.runTo_shape n
  rw [h]
@[simp] theorem State.runTo_merge (s : State) (n : Nat) : (s.runTo n).merge = s.merge := by
  obtain ⟨_, h⟩ := s.runTo_shape n
  rw [h]
@[simp] theorem State.runTo_pair (s : State) (n : Nat) : (s.runTo n).pair = s.pair := by
  obtain ⟨_, h⟩ := s.runTo_shape n
  rw [h]
@[simp] theorem State.runTo_array (s : State) (n : Nat) : (s.runTo n).array = s.array := by
  obtain ⟨_, h⟩ := s.runTo_shape n
  rw [h]
@[simp] theorem State.runTo_fire (s : State) (n : Nat) : (s.runTo n).fire = s.fire := by
  obtain ⟨_, h⟩ := s.runTo_shape n
  rw [h]
@[simp] theorem State.runTo_charge (s : State) (n : Nat) : (s.runTo n).charge = s.charge := by
  obtain ⟨_, h⟩ := s.runTo_shape n
  rw [h]
@[simp] theorem State.runTo_loops (s : State) (n : Nat) : (s.runTo n).loops = s.loops := by
  obtain ⟨_, h⟩ := s.runTo_shape n
  rw [h]
@[simp] theorem State.runTo_scan (s : State) (n : Nat) : (s.runTo n).scan = s.scan := by
  obtain ⟨_, h⟩ := s.runTo_shape n
  rw [h]
@[simp] theorem State.runTo_sense (s : State) (n : Nat) : (s.runTo n).sense = s.sense := by
  obtain ⟨_, h⟩ := s.runTo_shape n
  rw [h]
@[simp] theorem State.runTo_may (s : State) (n : Nat) : (s.runTo n).may = s.may := by
  obtain ⟨_, h⟩ := s.runTo_shape n
  rw [h]
@[simp] theorem State.runTo_aux (s : State) (n : Nat) : (s.runTo n).aux = s.aux := by
  obtain ⟨_, h⟩ := s.runTo_shape n
  rw [h]
@[simp] theorem State.runTo_cal (s : State) (n : Nat) : (s.runTo n).cal = s.cal := by
  obtain ⟨_, h⟩ := s.runTo_shape n
  rw [h]
@[simp] theorem State.runTo_therm (s : State) (n : Nat) : (s.runTo n).therm = s.therm := by
  obtain ⟨_, h⟩ := s.runTo_shape n
  rw [h]
@[simp] theorem State.runTo_cams (s : State) (n : Nat) : (s.runTo n).cams = s.cams := by
  obtain ⟨_, h⟩ := s.runTo_shape n
  rw [h]
@[simp] theorem State.runTo_recd (s : State) (n : Nat) : (s.runTo n).recd = s.recd := by
  obtain ⟨_, h⟩ := s.runTo_shape n
  rw [h]

/-- runToStamp writes only time. -/
theorem State.runToStamp_shape (s : State) (n : Nat) : ∃ time', s.runToStamp n = { s with time := time' } :=
  s.runTo_shape (n / 320)

@[simp] theorem State.runToStamp_pending (s : State) (n : Nat) : (s.runToStamp n).pending = s.pending := by
  obtain ⟨_, h⟩ := s.runToStamp_shape n
  rw [h]
@[simp] theorem State.runToStamp_fresh (s : State) (n : Nat) : (s.runToStamp n).fresh = s.fresh := by
  obtain ⟨_, h⟩ := s.runToStamp_shape n
  rw [h]
@[simp] theorem State.runToStamp_variant (s : State) (n : Nat) : (s.runToStamp n).variant = s.variant := by
  obtain ⟨_, h⟩ := s.runToStamp_shape n
  rw [h]
@[simp] theorem State.runToStamp_live (s : State) (n : Nat) : (s.runToStamp n).live = s.live := by
  obtain ⟨_, h⟩ := s.runToStamp_shape n
  rw [h]
@[simp] theorem State.runToStamp_mram (s : State) (n : Nat) : (s.runToStamp n).mram = s.mram := by
  obtain ⟨_, h⟩ := s.runToStamp_shape n
  rw [h]
@[simp] theorem State.runToStamp_dev (s : State) (n : Nat) : (s.runToStamp n).dev = s.dev := by
  obtain ⟨_, h⟩ := s.runToStamp_shape n
  rw [h]
@[simp] theorem State.runToStamp_dtp (s : State) (n : Nat) : (s.runToStamp n).dtp = s.dtp := by
  obtain ⟨_, h⟩ := s.runToStamp_shape n
  rw [h]
@[simp] theorem State.runToStamp_grp (s : State) (n : Nat) : (s.runToStamp n).grp = s.grp := by
  obtain ⟨_, h⟩ := s.runToStamp_shape n
  rw [h]
@[simp] theorem State.runToStamp_spi (s : State) (n : Nat) : (s.runToStamp n).spi = s.spi := by
  obtain ⟨_, h⟩ := s.runToStamp_shape n
  rw [h]
@[simp] theorem State.runToStamp_ev (s : State) (n : Nat) : (s.runToStamp n).ev = s.ev := by
  obtain ⟨_, h⟩ := s.runToStamp_shape n
  rw [h]
@[simp] theorem State.runToStamp_merge (s : State) (n : Nat) : (s.runToStamp n).merge = s.merge := by
  obtain ⟨_, h⟩ := s.runToStamp_shape n
  rw [h]
@[simp] theorem State.runToStamp_pair (s : State) (n : Nat) : (s.runToStamp n).pair = s.pair := by
  obtain ⟨_, h⟩ := s.runToStamp_shape n
  rw [h]
@[simp] theorem State.runToStamp_array (s : State) (n : Nat) : (s.runToStamp n).array = s.array := by
  obtain ⟨_, h⟩ := s.runToStamp_shape n
  rw [h]
@[simp] theorem State.runToStamp_fire (s : State) (n : Nat) : (s.runToStamp n).fire = s.fire := by
  obtain ⟨_, h⟩ := s.runToStamp_shape n
  rw [h]
@[simp] theorem State.runToStamp_charge (s : State) (n : Nat) : (s.runToStamp n).charge = s.charge := by
  obtain ⟨_, h⟩ := s.runToStamp_shape n
  rw [h]
@[simp] theorem State.runToStamp_loops (s : State) (n : Nat) : (s.runToStamp n).loops = s.loops := by
  obtain ⟨_, h⟩ := s.runToStamp_shape n
  rw [h]
@[simp] theorem State.runToStamp_scan (s : State) (n : Nat) : (s.runToStamp n).scan = s.scan := by
  obtain ⟨_, h⟩ := s.runToStamp_shape n
  rw [h]
@[simp] theorem State.runToStamp_sense (s : State) (n : Nat) : (s.runToStamp n).sense = s.sense := by
  obtain ⟨_, h⟩ := s.runToStamp_shape n
  rw [h]
@[simp] theorem State.runToStamp_may (s : State) (n : Nat) : (s.runToStamp n).may = s.may := by
  obtain ⟨_, h⟩ := s.runToStamp_shape n
  rw [h]
@[simp] theorem State.runToStamp_aux (s : State) (n : Nat) : (s.runToStamp n).aux = s.aux := by
  obtain ⟨_, h⟩ := s.runToStamp_shape n
  rw [h]
@[simp] theorem State.runToStamp_cal (s : State) (n : Nat) : (s.runToStamp n).cal = s.cal := by
  obtain ⟨_, h⟩ := s.runToStamp_shape n
  rw [h]
@[simp] theorem State.runToStamp_therm (s : State) (n : Nat) : (s.runToStamp n).therm = s.therm := by
  obtain ⟨_, h⟩ := s.runToStamp_shape n
  rw [h]
@[simp] theorem State.runToStamp_cams (s : State) (n : Nat) : (s.runToStamp n).cams = s.cams := by
  obtain ⟨_, h⟩ := s.runToStamp_shape n
  rw [h]
@[simp] theorem State.runToStamp_recd (s : State) (n : Nat) : (s.runToStamp n).recd = s.recd := by
  obtain ⟨_, h⟩ := s.runToStamp_shape n
  rw [h]

/-- form writes only merge. -/
theorem State.form_shape (s : State) (a b c d e f : Nat) (x : Bytes) (g : Nat) : ∃ merge', s.form a b c d e f x g = { s with merge := merge' } := by
  unfold State.form
  split
  · exact ⟨_, rfl⟩
  · exact ⟨_, rfl⟩

@[simp] theorem State.form_pending (s : State) (a b c d e f : Nat) (x : Bytes) (g : Nat) : (s.form a b c d e f x g).pending = s.pending := by
  obtain ⟨_, h⟩ := s.form_shape a b c d e f x g
  rw [h]
@[simp] theorem State.form_fresh (s : State) (a b c d e f : Nat) (x : Bytes) (g : Nat) : (s.form a b c d e f x g).fresh = s.fresh := by
  obtain ⟨_, h⟩ := s.form_shape a b c d e f x g
  rw [h]
@[simp] theorem State.form_variant (s : State) (a b c d e f : Nat) (x : Bytes) (g : Nat) : (s.form a b c d e f x g).variant = s.variant := by
  obtain ⟨_, h⟩ := s.form_shape a b c d e f x g
  rw [h]
@[simp] theorem State.form_live (s : State) (a b c d e f : Nat) (x : Bytes) (g : Nat) : (s.form a b c d e f x g).live = s.live := by
  obtain ⟨_, h⟩ := s.form_shape a b c d e f x g
  rw [h]
@[simp] theorem State.form_mram (s : State) (a b c d e f : Nat) (x : Bytes) (g : Nat) : (s.form a b c d e f x g).mram = s.mram := by
  obtain ⟨_, h⟩ := s.form_shape a b c d e f x g
  rw [h]
@[simp] theorem State.form_dev (s : State) (a b c d e f : Nat) (x : Bytes) (g : Nat) : (s.form a b c d e f x g).dev = s.dev := by
  obtain ⟨_, h⟩ := s.form_shape a b c d e f x g
  rw [h]
@[simp] theorem State.form_time (s : State) (a b c d e f : Nat) (x : Bytes) (g : Nat) : (s.form a b c d e f x g).time = s.time := by
  obtain ⟨_, h⟩ := s.form_shape a b c d e f x g
  rw [h]
@[simp] theorem State.form_dtp (s : State) (a b c d e f : Nat) (x : Bytes) (g : Nat) : (s.form a b c d e f x g).dtp = s.dtp := by
  obtain ⟨_, h⟩ := s.form_shape a b c d e f x g
  rw [h]
@[simp] theorem State.form_grp (s : State) (a b c d e f : Nat) (x : Bytes) (g : Nat) : (s.form a b c d e f x g).grp = s.grp := by
  obtain ⟨_, h⟩ := s.form_shape a b c d e f x g
  rw [h]
@[simp] theorem State.form_spi (s : State) (a b c d e f : Nat) (x : Bytes) (g : Nat) : (s.form a b c d e f x g).spi = s.spi := by
  obtain ⟨_, h⟩ := s.form_shape a b c d e f x g
  rw [h]
@[simp] theorem State.form_ev (s : State) (a b c d e f : Nat) (x : Bytes) (g : Nat) : (s.form a b c d e f x g).ev = s.ev := by
  obtain ⟨_, h⟩ := s.form_shape a b c d e f x g
  rw [h]
@[simp] theorem State.form_pair (s : State) (a b c d e f : Nat) (x : Bytes) (g : Nat) : (s.form a b c d e f x g).pair = s.pair := by
  obtain ⟨_, h⟩ := s.form_shape a b c d e f x g
  rw [h]
@[simp] theorem State.form_array (s : State) (a b c d e f : Nat) (x : Bytes) (g : Nat) : (s.form a b c d e f x g).array = s.array := by
  obtain ⟨_, h⟩ := s.form_shape a b c d e f x g
  rw [h]
@[simp] theorem State.form_fire (s : State) (a b c d e f : Nat) (x : Bytes) (g : Nat) : (s.form a b c d e f x g).fire = s.fire := by
  obtain ⟨_, h⟩ := s.form_shape a b c d e f x g
  rw [h]
@[simp] theorem State.form_charge (s : State) (a b c d e f : Nat) (x : Bytes) (g : Nat) : (s.form a b c d e f x g).charge = s.charge := by
  obtain ⟨_, h⟩ := s.form_shape a b c d e f x g
  rw [h]
@[simp] theorem State.form_loops (s : State) (a b c d e f : Nat) (x : Bytes) (g : Nat) : (s.form a b c d e f x g).loops = s.loops := by
  obtain ⟨_, h⟩ := s.form_shape a b c d e f x g
  rw [h]
@[simp] theorem State.form_scan (s : State) (a b c d e f : Nat) (x : Bytes) (g : Nat) : (s.form a b c d e f x g).scan = s.scan := by
  obtain ⟨_, h⟩ := s.form_shape a b c d e f x g
  rw [h]
@[simp] theorem State.form_sense (s : State) (a b c d e f : Nat) (x : Bytes) (g : Nat) : (s.form a b c d e f x g).sense = s.sense := by
  obtain ⟨_, h⟩ := s.form_shape a b c d e f x g
  rw [h]
@[simp] theorem State.form_may (s : State) (a b c d e f : Nat) (x : Bytes) (g : Nat) : (s.form a b c d e f x g).may = s.may := by
  obtain ⟨_, h⟩ := s.form_shape a b c d e f x g
  rw [h]
@[simp] theorem State.form_aux (s : State) (a b c d e f : Nat) (x : Bytes) (g : Nat) : (s.form a b c d e f x g).aux = s.aux := by
  obtain ⟨_, h⟩ := s.form_shape a b c d e f x g
  rw [h]
@[simp] theorem State.form_cal (s : State) (a b c d e f : Nat) (x : Bytes) (g : Nat) : (s.form a b c d e f x g).cal = s.cal := by
  obtain ⟨_, h⟩ := s.form_shape a b c d e f x g
  rw [h]
@[simp] theorem State.form_therm (s : State) (a b c d e f : Nat) (x : Bytes) (g : Nat) : (s.form a b c d e f x g).therm = s.therm := by
  obtain ⟨_, h⟩ := s.form_shape a b c d e f x g
  rw [h]
@[simp] theorem State.form_cams (s : State) (a b c d e f : Nat) (x : Bytes) (g : Nat) : (s.form a b c d e f x g).cams = s.cams := by
  obtain ⟨_, h⟩ := s.form_shape a b c d e f x g
  rw [h]
@[simp] theorem State.form_recd (s : State) (a b c d e f : Nat) (x : Bytes) (g : Nat) : (s.form a b c d e f x g).recd = s.recd := by
  obtain ⟨_, h⟩ := s.form_shape a b c d e f x g
  rw [h]

/-- formState writes only merge. -/
theorem State.formState_shape (s : State) (k : Nat) (x : Bytes) : ∃ merge', s.formState k x = { s with merge := merge' } :=
  s.form_shape _ _ _ _ _ _ _ _

@[simp] theorem State.formState_pending (s : State) (k : Nat) (x : Bytes) : (s.formState k x).pending = s.pending := by
  obtain ⟨_, h⟩ := s.formState_shape k x
  rw [h]
@[simp] theorem State.formState_fresh (s : State) (k : Nat) (x : Bytes) : (s.formState k x).fresh = s.fresh := by
  obtain ⟨_, h⟩ := s.formState_shape k x
  rw [h]
@[simp] theorem State.formState_variant (s : State) (k : Nat) (x : Bytes) : (s.formState k x).variant = s.variant := by
  obtain ⟨_, h⟩ := s.formState_shape k x
  rw [h]
@[simp] theorem State.formState_live (s : State) (k : Nat) (x : Bytes) : (s.formState k x).live = s.live := by
  obtain ⟨_, h⟩ := s.formState_shape k x
  rw [h]
@[simp] theorem State.formState_mram (s : State) (k : Nat) (x : Bytes) : (s.formState k x).mram = s.mram := by
  obtain ⟨_, h⟩ := s.formState_shape k x
  rw [h]
@[simp] theorem State.formState_dev (s : State) (k : Nat) (x : Bytes) : (s.formState k x).dev = s.dev := by
  obtain ⟨_, h⟩ := s.formState_shape k x
  rw [h]
@[simp] theorem State.formState_time (s : State) (k : Nat) (x : Bytes) : (s.formState k x).time = s.time := by
  obtain ⟨_, h⟩ := s.formState_shape k x
  rw [h]
@[simp] theorem State.formState_dtp (s : State) (k : Nat) (x : Bytes) : (s.formState k x).dtp = s.dtp := by
  obtain ⟨_, h⟩ := s.formState_shape k x
  rw [h]
@[simp] theorem State.formState_grp (s : State) (k : Nat) (x : Bytes) : (s.formState k x).grp = s.grp := by
  obtain ⟨_, h⟩ := s.formState_shape k x
  rw [h]
@[simp] theorem State.formState_spi (s : State) (k : Nat) (x : Bytes) : (s.formState k x).spi = s.spi := by
  obtain ⟨_, h⟩ := s.formState_shape k x
  rw [h]
@[simp] theorem State.formState_ev (s : State) (k : Nat) (x : Bytes) : (s.formState k x).ev = s.ev := by
  obtain ⟨_, h⟩ := s.formState_shape k x
  rw [h]
@[simp] theorem State.formState_pair (s : State) (k : Nat) (x : Bytes) : (s.formState k x).pair = s.pair := by
  obtain ⟨_, h⟩ := s.formState_shape k x
  rw [h]
@[simp] theorem State.formState_array (s : State) (k : Nat) (x : Bytes) : (s.formState k x).array = s.array := by
  obtain ⟨_, h⟩ := s.formState_shape k x
  rw [h]
@[simp] theorem State.formState_fire (s : State) (k : Nat) (x : Bytes) : (s.formState k x).fire = s.fire := by
  obtain ⟨_, h⟩ := s.formState_shape k x
  rw [h]
@[simp] theorem State.formState_charge (s : State) (k : Nat) (x : Bytes) : (s.formState k x).charge = s.charge := by
  obtain ⟨_, h⟩ := s.formState_shape k x
  rw [h]
@[simp] theorem State.formState_loops (s : State) (k : Nat) (x : Bytes) : (s.formState k x).loops = s.loops := by
  obtain ⟨_, h⟩ := s.formState_shape k x
  rw [h]
@[simp] theorem State.formState_scan (s : State) (k : Nat) (x : Bytes) : (s.formState k x).scan = s.scan := by
  obtain ⟨_, h⟩ := s.formState_shape k x
  rw [h]
@[simp] theorem State.formState_sense (s : State) (k : Nat) (x : Bytes) : (s.formState k x).sense = s.sense := by
  obtain ⟨_, h⟩ := s.formState_shape k x
  rw [h]
@[simp] theorem State.formState_may (s : State) (k : Nat) (x : Bytes) : (s.formState k x).may = s.may := by
  obtain ⟨_, h⟩ := s.formState_shape k x
  rw [h]
@[simp] theorem State.formState_aux (s : State) (k : Nat) (x : Bytes) : (s.formState k x).aux = s.aux := by
  obtain ⟨_, h⟩ := s.formState_shape k x
  rw [h]
@[simp] theorem State.formState_cal (s : State) (k : Nat) (x : Bytes) : (s.formState k x).cal = s.cal := by
  obtain ⟨_, h⟩ := s.formState_shape k x
  rw [h]
@[simp] theorem State.formState_therm (s : State) (k : Nat) (x : Bytes) : (s.formState k x).therm = s.therm := by
  obtain ⟨_, h⟩ := s.formState_shape k x
  rw [h]
@[simp] theorem State.formState_cams (s : State) (k : Nat) (x : Bytes) : (s.formState k x).cams = s.cams := by
  obtain ⟨_, h⟩ := s.formState_shape k x
  rw [h]
@[simp] theorem State.formState_recd (s : State) (k : Nat) (x : Bytes) : (s.formState k x).recd = s.recd := by
  obtain ⟨_, h⟩ := s.formState_shape k x
  rw [h]

/-- episodeAdd writes only merge. -/
theorem State.episodeAdd_shape (s : State) (a b c d e : Nat) : ∃ merge', s.episodeAdd a b c d e = { s with merge := merge' } :=
  ⟨_, rfl⟩

@[simp] theorem State.episodeAdd_pending (s : State) (a b c d e : Nat) : (s.episodeAdd a b c d e).pending = s.pending := by
  obtain ⟨_, h⟩ := s.episodeAdd_shape a b c d e
  rw [h]
@[simp] theorem State.episodeAdd_fresh (s : State) (a b c d e : Nat) : (s.episodeAdd a b c d e).fresh = s.fresh := by
  obtain ⟨_, h⟩ := s.episodeAdd_shape a b c d e
  rw [h]
@[simp] theorem State.episodeAdd_variant (s : State) (a b c d e : Nat) : (s.episodeAdd a b c d e).variant = s.variant := by
  obtain ⟨_, h⟩ := s.episodeAdd_shape a b c d e
  rw [h]
@[simp] theorem State.episodeAdd_live (s : State) (a b c d e : Nat) : (s.episodeAdd a b c d e).live = s.live := by
  obtain ⟨_, h⟩ := s.episodeAdd_shape a b c d e
  rw [h]
@[simp] theorem State.episodeAdd_mram (s : State) (a b c d e : Nat) : (s.episodeAdd a b c d e).mram = s.mram := by
  obtain ⟨_, h⟩ := s.episodeAdd_shape a b c d e
  rw [h]
@[simp] theorem State.episodeAdd_dev (s : State) (a b c d e : Nat) : (s.episodeAdd a b c d e).dev = s.dev := by
  obtain ⟨_, h⟩ := s.episodeAdd_shape a b c d e
  rw [h]
@[simp] theorem State.episodeAdd_time (s : State) (a b c d e : Nat) : (s.episodeAdd a b c d e).time = s.time := by
  obtain ⟨_, h⟩ := s.episodeAdd_shape a b c d e
  rw [h]
@[simp] theorem State.episodeAdd_dtp (s : State) (a b c d e : Nat) : (s.episodeAdd a b c d e).dtp = s.dtp := by
  obtain ⟨_, h⟩ := s.episodeAdd_shape a b c d e
  rw [h]
@[simp] theorem State.episodeAdd_grp (s : State) (a b c d e : Nat) : (s.episodeAdd a b c d e).grp = s.grp := by
  obtain ⟨_, h⟩ := s.episodeAdd_shape a b c d e
  rw [h]
@[simp] theorem State.episodeAdd_spi (s : State) (a b c d e : Nat) : (s.episodeAdd a b c d e).spi = s.spi := by
  obtain ⟨_, h⟩ := s.episodeAdd_shape a b c d e
  rw [h]
@[simp] theorem State.episodeAdd_ev (s : State) (a b c d e : Nat) : (s.episodeAdd a b c d e).ev = s.ev := by
  obtain ⟨_, h⟩ := s.episodeAdd_shape a b c d e
  rw [h]
@[simp] theorem State.episodeAdd_pair (s : State) (a b c d e : Nat) : (s.episodeAdd a b c d e).pair = s.pair := by
  obtain ⟨_, h⟩ := s.episodeAdd_shape a b c d e
  rw [h]
@[simp] theorem State.episodeAdd_array (s : State) (a b c d e : Nat) : (s.episodeAdd a b c d e).array = s.array := by
  obtain ⟨_, h⟩ := s.episodeAdd_shape a b c d e
  rw [h]
@[simp] theorem State.episodeAdd_fire (s : State) (a b c d e : Nat) : (s.episodeAdd a b c d e).fire = s.fire := by
  obtain ⟨_, h⟩ := s.episodeAdd_shape a b c d e
  rw [h]
@[simp] theorem State.episodeAdd_charge (s : State) (a b c d e : Nat) : (s.episodeAdd a b c d e).charge = s.charge := by
  obtain ⟨_, h⟩ := s.episodeAdd_shape a b c d e
  rw [h]
@[simp] theorem State.episodeAdd_loops (s : State) (a b c d e : Nat) : (s.episodeAdd a b c d e).loops = s.loops := by
  obtain ⟨_, h⟩ := s.episodeAdd_shape a b c d e
  rw [h]
@[simp] theorem State.episodeAdd_scan (s : State) (a b c d e : Nat) : (s.episodeAdd a b c d e).scan = s.scan := by
  obtain ⟨_, h⟩ := s.episodeAdd_shape a b c d e
  rw [h]
@[simp] theorem State.episodeAdd_sense (s : State) (a b c d e : Nat) : (s.episodeAdd a b c d e).sense = s.sense := by
  obtain ⟨_, h⟩ := s.episodeAdd_shape a b c d e
  rw [h]
@[simp] theorem State.episodeAdd_may (s : State) (a b c d e : Nat) : (s.episodeAdd a b c d e).may = s.may := by
  obtain ⟨_, h⟩ := s.episodeAdd_shape a b c d e
  rw [h]
@[simp] theorem State.episodeAdd_aux (s : State) (a b c d e : Nat) : (s.episodeAdd a b c d e).aux = s.aux := by
  obtain ⟨_, h⟩ := s.episodeAdd_shape a b c d e
  rw [h]
@[simp] theorem State.episodeAdd_cal (s : State) (a b c d e : Nat) : (s.episodeAdd a b c d e).cal = s.cal := by
  obtain ⟨_, h⟩ := s.episodeAdd_shape a b c d e
  rw [h]
@[simp] theorem State.episodeAdd_therm (s : State) (a b c d e : Nat) : (s.episodeAdd a b c d e).therm = s.therm := by
  obtain ⟨_, h⟩ := s.episodeAdd_shape a b c d e
  rw [h]
@[simp] theorem State.episodeAdd_cams (s : State) (a b c d e : Nat) : (s.episodeAdd a b c d e).cams = s.cams := by
  obtain ⟨_, h⟩ := s.episodeAdd_shape a b c d e
  rw [h]
@[simp] theorem State.episodeAdd_recd (s : State) (a b c d e : Nat) : (s.episodeAdd a b c d e).recd = s.recd := by
  obtain ⟨_, h⟩ := s.episodeAdd_shape a b c d e
  rw [h]

/-- formMarker writes only live, merge. -/
theorem State.formMarker_shape (s : State) (e : Episode) : ∃ live' merge', s.formMarker e = { s with live := live', merge := merge' } := by
  unfold State.formMarker
  dsimp only
  split
  · exact ⟨_, _, rfl⟩
  · obtain ⟨m, hm⟩ := s.form_shape e.stream 0x07 0 1 0 e.firstNs e.body 0
    rw [hm]
    generalize hu : State.bump _ _ _ = u
    obtain ⟨l, hl⟩ := State.bump_shape (_ : State) Obj.lossMarkerCount 1
    rw [← hu, hl]
    exact ⟨_, _, rfl⟩

@[simp] theorem State.formMarker_pending (s : State) (e : Episode) : (s.formMarker e).pending = s.pending := by
  obtain ⟨_, _, h⟩ := s.formMarker_shape e
  rw [h]
@[simp] theorem State.formMarker_fresh (s : State) (e : Episode) : (s.formMarker e).fresh = s.fresh := by
  obtain ⟨_, _, h⟩ := s.formMarker_shape e
  rw [h]
@[simp] theorem State.formMarker_variant (s : State) (e : Episode) : (s.formMarker e).variant = s.variant := by
  obtain ⟨_, _, h⟩ := s.formMarker_shape e
  rw [h]
@[simp] theorem State.formMarker_mram (s : State) (e : Episode) : (s.formMarker e).mram = s.mram := by
  obtain ⟨_, _, h⟩ := s.formMarker_shape e
  rw [h]
@[simp] theorem State.formMarker_dev (s : State) (e : Episode) : (s.formMarker e).dev = s.dev := by
  obtain ⟨_, _, h⟩ := s.formMarker_shape e
  rw [h]
@[simp] theorem State.formMarker_time (s : State) (e : Episode) : (s.formMarker e).time = s.time := by
  obtain ⟨_, _, h⟩ := s.formMarker_shape e
  rw [h]
@[simp] theorem State.formMarker_dtp (s : State) (e : Episode) : (s.formMarker e).dtp = s.dtp := by
  obtain ⟨_, _, h⟩ := s.formMarker_shape e
  rw [h]
@[simp] theorem State.formMarker_grp (s : State) (e : Episode) : (s.formMarker e).grp = s.grp := by
  obtain ⟨_, _, h⟩ := s.formMarker_shape e
  rw [h]
@[simp] theorem State.formMarker_spi (s : State) (e : Episode) : (s.formMarker e).spi = s.spi := by
  obtain ⟨_, _, h⟩ := s.formMarker_shape e
  rw [h]
@[simp] theorem State.formMarker_ev (s : State) (e : Episode) : (s.formMarker e).ev = s.ev := by
  obtain ⟨_, _, h⟩ := s.formMarker_shape e
  rw [h]
@[simp] theorem State.formMarker_pair (s : State) (e : Episode) : (s.formMarker e).pair = s.pair := by
  obtain ⟨_, _, h⟩ := s.formMarker_shape e
  rw [h]
@[simp] theorem State.formMarker_array (s : State) (e : Episode) : (s.formMarker e).array = s.array := by
  obtain ⟨_, _, h⟩ := s.formMarker_shape e
  rw [h]
@[simp] theorem State.formMarker_fire (s : State) (e : Episode) : (s.formMarker e).fire = s.fire := by
  obtain ⟨_, _, h⟩ := s.formMarker_shape e
  rw [h]
@[simp] theorem State.formMarker_charge (s : State) (e : Episode) : (s.formMarker e).charge = s.charge := by
  obtain ⟨_, _, h⟩ := s.formMarker_shape e
  rw [h]
@[simp] theorem State.formMarker_loops (s : State) (e : Episode) : (s.formMarker e).loops = s.loops := by
  obtain ⟨_, _, h⟩ := s.formMarker_shape e
  rw [h]
@[simp] theorem State.formMarker_scan (s : State) (e : Episode) : (s.formMarker e).scan = s.scan := by
  obtain ⟨_, _, h⟩ := s.formMarker_shape e
  rw [h]
@[simp] theorem State.formMarker_sense (s : State) (e : Episode) : (s.formMarker e).sense = s.sense := by
  obtain ⟨_, _, h⟩ := s.formMarker_shape e
  rw [h]
@[simp] theorem State.formMarker_may (s : State) (e : Episode) : (s.formMarker e).may = s.may := by
  obtain ⟨_, _, h⟩ := s.formMarker_shape e
  rw [h]
@[simp] theorem State.formMarker_aux (s : State) (e : Episode) : (s.formMarker e).aux = s.aux := by
  obtain ⟨_, _, h⟩ := s.formMarker_shape e
  rw [h]
@[simp] theorem State.formMarker_cal (s : State) (e : Episode) : (s.formMarker e).cal = s.cal := by
  obtain ⟨_, _, h⟩ := s.formMarker_shape e
  rw [h]
@[simp] theorem State.formMarker_therm (s : State) (e : Episode) : (s.formMarker e).therm = s.therm := by
  obtain ⟨_, _, h⟩ := s.formMarker_shape e
  rw [h]
@[simp] theorem State.formMarker_cams (s : State) (e : Episode) : (s.formMarker e).cams = s.cams := by
  obtain ⟨_, _, h⟩ := s.formMarker_shape e
  rw [h]
@[simp] theorem State.formMarker_recd (s : State) (e : Episode) : (s.formMarker e).recd = s.recd := by
  obtain ⟨_, _, h⟩ := s.formMarker_shape e
  rw [h]

/-- dropJournal writes only live, mram. -/
theorem State.dropJournal_shape (s : State) (n : Nat) : ∃ live' mram', s.dropJournal n = { s with live := live', mram := mram' } := by
  unfold State.dropJournal
  split
  · exact ⟨_, _, rfl⟩
  · obtain ⟨l, hl⟩ := s.bump_shape Obj.journalDropped n
    rw [hl]
    dsimp only
    split
    · exact ⟨_, _, rfl⟩
    · exact ⟨_, _, rfl⟩

@[simp] theorem State.dropJournal_pending (s : State) (n : Nat) : (s.dropJournal n).pending = s.pending := by
  obtain ⟨_, _, h⟩ := s.dropJournal_shape n
  rw [h]
@[simp] theorem State.dropJournal_fresh (s : State) (n : Nat) : (s.dropJournal n).fresh = s.fresh := by
  obtain ⟨_, _, h⟩ := s.dropJournal_shape n
  rw [h]
@[simp] theorem State.dropJournal_variant (s : State) (n : Nat) : (s.dropJournal n).variant = s.variant := by
  obtain ⟨_, _, h⟩ := s.dropJournal_shape n
  rw [h]
@[simp] theorem State.dropJournal_dev (s : State) (n : Nat) : (s.dropJournal n).dev = s.dev := by
  obtain ⟨_, _, h⟩ := s.dropJournal_shape n
  rw [h]
@[simp] theorem State.dropJournal_time (s : State) (n : Nat) : (s.dropJournal n).time = s.time := by
  obtain ⟨_, _, h⟩ := s.dropJournal_shape n
  rw [h]
@[simp] theorem State.dropJournal_dtp (s : State) (n : Nat) : (s.dropJournal n).dtp = s.dtp := by
  obtain ⟨_, _, h⟩ := s.dropJournal_shape n
  rw [h]
@[simp] theorem State.dropJournal_grp (s : State) (n : Nat) : (s.dropJournal n).grp = s.grp := by
  obtain ⟨_, _, h⟩ := s.dropJournal_shape n
  rw [h]
@[simp] theorem State.dropJournal_spi (s : State) (n : Nat) : (s.dropJournal n).spi = s.spi := by
  obtain ⟨_, _, h⟩ := s.dropJournal_shape n
  rw [h]
@[simp] theorem State.dropJournal_ev (s : State) (n : Nat) : (s.dropJournal n).ev = s.ev := by
  obtain ⟨_, _, h⟩ := s.dropJournal_shape n
  rw [h]
@[simp] theorem State.dropJournal_merge (s : State) (n : Nat) : (s.dropJournal n).merge = s.merge := by
  obtain ⟨_, _, h⟩ := s.dropJournal_shape n
  rw [h]
@[simp] theorem State.dropJournal_pair (s : State) (n : Nat) : (s.dropJournal n).pair = s.pair := by
  obtain ⟨_, _, h⟩ := s.dropJournal_shape n
  rw [h]
@[simp] theorem State.dropJournal_array (s : State) (n : Nat) : (s.dropJournal n).array = s.array := by
  obtain ⟨_, _, h⟩ := s.dropJournal_shape n
  rw [h]
@[simp] theorem State.dropJournal_fire (s : State) (n : Nat) : (s.dropJournal n).fire = s.fire := by
  obtain ⟨_, _, h⟩ := s.dropJournal_shape n
  rw [h]
@[simp] theorem State.dropJournal_charge (s : State) (n : Nat) : (s.dropJournal n).charge = s.charge := by
  obtain ⟨_, _, h⟩ := s.dropJournal_shape n
  rw [h]
@[simp] theorem State.dropJournal_loops (s : State) (n : Nat) : (s.dropJournal n).loops = s.loops := by
  obtain ⟨_, _, h⟩ := s.dropJournal_shape n
  rw [h]
@[simp] theorem State.dropJournal_scan (s : State) (n : Nat) : (s.dropJournal n).scan = s.scan := by
  obtain ⟨_, _, h⟩ := s.dropJournal_shape n
  rw [h]
@[simp] theorem State.dropJournal_sense (s : State) (n : Nat) : (s.dropJournal n).sense = s.sense := by
  obtain ⟨_, _, h⟩ := s.dropJournal_shape n
  rw [h]
@[simp] theorem State.dropJournal_may (s : State) (n : Nat) : (s.dropJournal n).may = s.may := by
  obtain ⟨_, _, h⟩ := s.dropJournal_shape n
  rw [h]
@[simp] theorem State.dropJournal_aux (s : State) (n : Nat) : (s.dropJournal n).aux = s.aux := by
  obtain ⟨_, _, h⟩ := s.dropJournal_shape n
  rw [h]
@[simp] theorem State.dropJournal_cal (s : State) (n : Nat) : (s.dropJournal n).cal = s.cal := by
  obtain ⟨_, _, h⟩ := s.dropJournal_shape n
  rw [h]
@[simp] theorem State.dropJournal_therm (s : State) (n : Nat) : (s.dropJournal n).therm = s.therm := by
  obtain ⟨_, _, h⟩ := s.dropJournal_shape n
  rw [h]
@[simp] theorem State.dropJournal_cams (s : State) (n : Nat) : (s.dropJournal n).cams = s.cams := by
  obtain ⟨_, _, h⟩ := s.dropJournal_shape n
  rw [h]
@[simp] theorem State.dropJournal_recd (s : State) (n : Nat) : (s.dropJournal n).recd = s.recd := by
  obtain ⟨_, _, h⟩ := s.dropJournal_shape n
  rw [h]

/-- journalAdd writes only live, mram, ev. -/
theorem State.journalAdd_shape (s : State) (e : EventEntry) : ∃ live' mram' ev', s.journalAdd e = { s with live := live', mram := mram', ev := ev' } := by
  unfold State.journalAdd
  dsimp only
  split
  · rw [(State.dropJournal_shape _ _).choose_spec.choose_spec]
    exact ⟨_, _, _, rfl⟩
  · split
    · exact ⟨_, _, _, rfl⟩
    · rw [(State.dropJournal_shape _ _).choose_spec.choose_spec]
      exact ⟨_, _, _, rfl⟩

@[simp] theorem State.journalAdd_pending (s : State) (e : EventEntry) : (s.journalAdd e).pending = s.pending := by
  obtain ⟨_, _, _, h⟩ := s.journalAdd_shape e
  rw [h]
@[simp] theorem State.journalAdd_fresh (s : State) (e : EventEntry) : (s.journalAdd e).fresh = s.fresh := by
  obtain ⟨_, _, _, h⟩ := s.journalAdd_shape e
  rw [h]
@[simp] theorem State.journalAdd_variant (s : State) (e : EventEntry) : (s.journalAdd e).variant = s.variant := by
  obtain ⟨_, _, _, h⟩ := s.journalAdd_shape e
  rw [h]
@[simp] theorem State.journalAdd_dev (s : State) (e : EventEntry) : (s.journalAdd e).dev = s.dev := by
  obtain ⟨_, _, _, h⟩ := s.journalAdd_shape e
  rw [h]
@[simp] theorem State.journalAdd_time (s : State) (e : EventEntry) : (s.journalAdd e).time = s.time := by
  obtain ⟨_, _, _, h⟩ := s.journalAdd_shape e
  rw [h]
@[simp] theorem State.journalAdd_dtp (s : State) (e : EventEntry) : (s.journalAdd e).dtp = s.dtp := by
  obtain ⟨_, _, _, h⟩ := s.journalAdd_shape e
  rw [h]
@[simp] theorem State.journalAdd_grp (s : State) (e : EventEntry) : (s.journalAdd e).grp = s.grp := by
  obtain ⟨_, _, _, h⟩ := s.journalAdd_shape e
  rw [h]
@[simp] theorem State.journalAdd_spi (s : State) (e : EventEntry) : (s.journalAdd e).spi = s.spi := by
  obtain ⟨_, _, _, h⟩ := s.journalAdd_shape e
  rw [h]
@[simp] theorem State.journalAdd_merge (s : State) (e : EventEntry) : (s.journalAdd e).merge = s.merge := by
  obtain ⟨_, _, _, h⟩ := s.journalAdd_shape e
  rw [h]
@[simp] theorem State.journalAdd_pair (s : State) (e : EventEntry) : (s.journalAdd e).pair = s.pair := by
  obtain ⟨_, _, _, h⟩ := s.journalAdd_shape e
  rw [h]
@[simp] theorem State.journalAdd_array (s : State) (e : EventEntry) : (s.journalAdd e).array = s.array := by
  obtain ⟨_, _, _, h⟩ := s.journalAdd_shape e
  rw [h]
@[simp] theorem State.journalAdd_fire (s : State) (e : EventEntry) : (s.journalAdd e).fire = s.fire := by
  obtain ⟨_, _, _, h⟩ := s.journalAdd_shape e
  rw [h]
@[simp] theorem State.journalAdd_charge (s : State) (e : EventEntry) : (s.journalAdd e).charge = s.charge := by
  obtain ⟨_, _, _, h⟩ := s.journalAdd_shape e
  rw [h]
@[simp] theorem State.journalAdd_loops (s : State) (e : EventEntry) : (s.journalAdd e).loops = s.loops := by
  obtain ⟨_, _, _, h⟩ := s.journalAdd_shape e
  rw [h]
@[simp] theorem State.journalAdd_scan (s : State) (e : EventEntry) : (s.journalAdd e).scan = s.scan := by
  obtain ⟨_, _, _, h⟩ := s.journalAdd_shape e
  rw [h]
@[simp] theorem State.journalAdd_sense (s : State) (e : EventEntry) : (s.journalAdd e).sense = s.sense := by
  obtain ⟨_, _, _, h⟩ := s.journalAdd_shape e
  rw [h]
@[simp] theorem State.journalAdd_may (s : State) (e : EventEntry) : (s.journalAdd e).may = s.may := by
  obtain ⟨_, _, _, h⟩ := s.journalAdd_shape e
  rw [h]
@[simp] theorem State.journalAdd_aux (s : State) (e : EventEntry) : (s.journalAdd e).aux = s.aux := by
  obtain ⟨_, _, _, h⟩ := s.journalAdd_shape e
  rw [h]
@[simp] theorem State.journalAdd_cal (s : State) (e : EventEntry) : (s.journalAdd e).cal = s.cal := by
  obtain ⟨_, _, _, h⟩ := s.journalAdd_shape e
  rw [h]
@[simp] theorem State.journalAdd_therm (s : State) (e : EventEntry) : (s.journalAdd e).therm = s.therm := by
  obtain ⟨_, _, _, h⟩ := s.journalAdd_shape e
  rw [h]
@[simp] theorem State.journalAdd_cams (s : State) (e : EventEntry) : (s.journalAdd e).cams = s.cams := by
  obtain ⟨_, _, _, h⟩ := s.journalAdd_shape e
  rw [h]
@[simp] theorem State.journalAdd_recd (s : State) (e : EventEntry) : (s.journalAdd e).recd = s.recd := by
  obtain ⟨_, _, _, h⟩ := s.journalAdd_shape e
  rw [h]

/-- openEntry writes only live, mram, ev. -/
theorem State.openEntry_shape (s : State) (a b c d : Nat) (e : Bool) (f : Nat) : ∃ live' mram' ev', s.openEntry a b c d e f = { s with live := live', mram := mram', ev := ev' } := by
  unfold State.openEntry
  dsimp only
  split
  · rw [(State.journalAdd_shape _ _).choose_spec.choose_spec.choose_spec]
    exact ⟨_, _, _, rfl⟩
  · exact ⟨_, _, _, rfl⟩

@[simp] theorem State.openEntry_pending (s : State) (a b c d : Nat) (e : Bool) (f : Nat) : (s.openEntry a b c d e f).pending = s.pending := by
  obtain ⟨_, _, _, h⟩ := s.openEntry_shape a b c d e f
  rw [h]
@[simp] theorem State.openEntry_fresh (s : State) (a b c d : Nat) (e : Bool) (f : Nat) : (s.openEntry a b c d e f).fresh = s.fresh := by
  obtain ⟨_, _, _, h⟩ := s.openEntry_shape a b c d e f
  rw [h]
@[simp] theorem State.openEntry_variant (s : State) (a b c d : Nat) (e : Bool) (f : Nat) : (s.openEntry a b c d e f).variant = s.variant := by
  obtain ⟨_, _, _, h⟩ := s.openEntry_shape a b c d e f
  rw [h]
@[simp] theorem State.openEntry_dev (s : State) (a b c d : Nat) (e : Bool) (f : Nat) : (s.openEntry a b c d e f).dev = s.dev := by
  obtain ⟨_, _, _, h⟩ := s.openEntry_shape a b c d e f
  rw [h]
@[simp] theorem State.openEntry_time (s : State) (a b c d : Nat) (e : Bool) (f : Nat) : (s.openEntry a b c d e f).time = s.time := by
  obtain ⟨_, _, _, h⟩ := s.openEntry_shape a b c d e f
  rw [h]
@[simp] theorem State.openEntry_dtp (s : State) (a b c d : Nat) (e : Bool) (f : Nat) : (s.openEntry a b c d e f).dtp = s.dtp := by
  obtain ⟨_, _, _, h⟩ := s.openEntry_shape a b c d e f
  rw [h]
@[simp] theorem State.openEntry_grp (s : State) (a b c d : Nat) (e : Bool) (f : Nat) : (s.openEntry a b c d e f).grp = s.grp := by
  obtain ⟨_, _, _, h⟩ := s.openEntry_shape a b c d e f
  rw [h]
@[simp] theorem State.openEntry_spi (s : State) (a b c d : Nat) (e : Bool) (f : Nat) : (s.openEntry a b c d e f).spi = s.spi := by
  obtain ⟨_, _, _, h⟩ := s.openEntry_shape a b c d e f
  rw [h]
@[simp] theorem State.openEntry_merge (s : State) (a b c d : Nat) (e : Bool) (f : Nat) : (s.openEntry a b c d e f).merge = s.merge := by
  obtain ⟨_, _, _, h⟩ := s.openEntry_shape a b c d e f
  rw [h]
@[simp] theorem State.openEntry_pair (s : State) (a b c d : Nat) (e : Bool) (f : Nat) : (s.openEntry a b c d e f).pair = s.pair := by
  obtain ⟨_, _, _, h⟩ := s.openEntry_shape a b c d e f
  rw [h]
@[simp] theorem State.openEntry_array (s : State) (a b c d : Nat) (e : Bool) (f : Nat) : (s.openEntry a b c d e f).array = s.array := by
  obtain ⟨_, _, _, h⟩ := s.openEntry_shape a b c d e f
  rw [h]
@[simp] theorem State.openEntry_fire (s : State) (a b c d : Nat) (e : Bool) (f : Nat) : (s.openEntry a b c d e f).fire = s.fire := by
  obtain ⟨_, _, _, h⟩ := s.openEntry_shape a b c d e f
  rw [h]
@[simp] theorem State.openEntry_charge (s : State) (a b c d : Nat) (e : Bool) (f : Nat) : (s.openEntry a b c d e f).charge = s.charge := by
  obtain ⟨_, _, _, h⟩ := s.openEntry_shape a b c d e f
  rw [h]
@[simp] theorem State.openEntry_loops (s : State) (a b c d : Nat) (e : Bool) (f : Nat) : (s.openEntry a b c d e f).loops = s.loops := by
  obtain ⟨_, _, _, h⟩ := s.openEntry_shape a b c d e f
  rw [h]
@[simp] theorem State.openEntry_scan (s : State) (a b c d : Nat) (e : Bool) (f : Nat) : (s.openEntry a b c d e f).scan = s.scan := by
  obtain ⟨_, _, _, h⟩ := s.openEntry_shape a b c d e f
  rw [h]
@[simp] theorem State.openEntry_sense (s : State) (a b c d : Nat) (e : Bool) (f : Nat) : (s.openEntry a b c d e f).sense = s.sense := by
  obtain ⟨_, _, _, h⟩ := s.openEntry_shape a b c d e f
  rw [h]
@[simp] theorem State.openEntry_may (s : State) (a b c d : Nat) (e : Bool) (f : Nat) : (s.openEntry a b c d e f).may = s.may := by
  obtain ⟨_, _, _, h⟩ := s.openEntry_shape a b c d e f
  rw [h]
@[simp] theorem State.openEntry_aux (s : State) (a b c d : Nat) (e : Bool) (f : Nat) : (s.openEntry a b c d e f).aux = s.aux := by
  obtain ⟨_, _, _, h⟩ := s.openEntry_shape a b c d e f
  rw [h]
@[simp] theorem State.openEntry_cal (s : State) (a b c d : Nat) (e : Bool) (f : Nat) : (s.openEntry a b c d e f).cal = s.cal := by
  obtain ⟨_, _, _, h⟩ := s.openEntry_shape a b c d e f
  rw [h]
@[simp] theorem State.openEntry_therm (s : State) (a b c d : Nat) (e : Bool) (f : Nat) : (s.openEntry a b c d e f).therm = s.therm := by
  obtain ⟨_, _, _, h⟩ := s.openEntry_shape a b c d e f
  rw [h]
@[simp] theorem State.openEntry_cams (s : State) (a b c d : Nat) (e : Bool) (f : Nat) : (s.openEntry a b c d e f).cams = s.cams := by
  obtain ⟨_, _, _, h⟩ := s.openEntry_shape a b c d e f
  rw [h]
@[simp] theorem State.openEntry_recd (s : State) (a b c d : Nat) (e : Bool) (f : Nat) : (s.openEntry a b c d e f).recd = s.recd := by
  obtain ⟨_, _, _, h⟩ := s.openEntry_shape a b c d e f
  rw [h]

/-- eventEnter writes only live, mram, ev. -/
theorem State.eventEnter_shape (s : State) (a b c d : Nat) (e : Bool) : ∃ live' mram' ev', s.eventEnter a b c d e = { s with live := live', mram := mram', ev := ev' } := by
  unfold State.eventEnter
  split
  · exact ⟨_, _, _, rfl⟩
  · split
    · exact ⟨_, _, _, rfl⟩
    · dsimp only
      split
      · rw [(State.openEntry_shape _ _ _ _ _ _ _).choose_spec.choose_spec.choose_spec]
        exact ⟨_, _, _, rfl⟩
      · exact ⟨_, _, _, rfl⟩

@[simp] theorem State.eventEnter_pending (s : State) (a b c d : Nat) (e : Bool) : (s.eventEnter a b c d e).pending = s.pending := by
  obtain ⟨_, _, _, h⟩ := s.eventEnter_shape a b c d e
  rw [h]
@[simp] theorem State.eventEnter_fresh (s : State) (a b c d : Nat) (e : Bool) : (s.eventEnter a b c d e).fresh = s.fresh := by
  obtain ⟨_, _, _, h⟩ := s.eventEnter_shape a b c d e
  rw [h]
@[simp] theorem State.eventEnter_variant (s : State) (a b c d : Nat) (e : Bool) : (s.eventEnter a b c d e).variant = s.variant := by
  obtain ⟨_, _, _, h⟩ := s.eventEnter_shape a b c d e
  rw [h]
@[simp] theorem State.eventEnter_dev (s : State) (a b c d : Nat) (e : Bool) : (s.eventEnter a b c d e).dev = s.dev := by
  obtain ⟨_, _, _, h⟩ := s.eventEnter_shape a b c d e
  rw [h]
@[simp] theorem State.eventEnter_time (s : State) (a b c d : Nat) (e : Bool) : (s.eventEnter a b c d e).time = s.time := by
  obtain ⟨_, _, _, h⟩ := s.eventEnter_shape a b c d e
  rw [h]
@[simp] theorem State.eventEnter_dtp (s : State) (a b c d : Nat) (e : Bool) : (s.eventEnter a b c d e).dtp = s.dtp := by
  obtain ⟨_, _, _, h⟩ := s.eventEnter_shape a b c d e
  rw [h]
@[simp] theorem State.eventEnter_grp (s : State) (a b c d : Nat) (e : Bool) : (s.eventEnter a b c d e).grp = s.grp := by
  obtain ⟨_, _, _, h⟩ := s.eventEnter_shape a b c d e
  rw [h]
@[simp] theorem State.eventEnter_spi (s : State) (a b c d : Nat) (e : Bool) : (s.eventEnter a b c d e).spi = s.spi := by
  obtain ⟨_, _, _, h⟩ := s.eventEnter_shape a b c d e
  rw [h]
@[simp] theorem State.eventEnter_merge (s : State) (a b c d : Nat) (e : Bool) : (s.eventEnter a b c d e).merge = s.merge := by
  obtain ⟨_, _, _, h⟩ := s.eventEnter_shape a b c d e
  rw [h]
@[simp] theorem State.eventEnter_pair (s : State) (a b c d : Nat) (e : Bool) : (s.eventEnter a b c d e).pair = s.pair := by
  obtain ⟨_, _, _, h⟩ := s.eventEnter_shape a b c d e
  rw [h]
@[simp] theorem State.eventEnter_array (s : State) (a b c d : Nat) (e : Bool) : (s.eventEnter a b c d e).array = s.array := by
  obtain ⟨_, _, _, h⟩ := s.eventEnter_shape a b c d e
  rw [h]
@[simp] theorem State.eventEnter_fire (s : State) (a b c d : Nat) (e : Bool) : (s.eventEnter a b c d e).fire = s.fire := by
  obtain ⟨_, _, _, h⟩ := s.eventEnter_shape a b c d e
  rw [h]
@[simp] theorem State.eventEnter_charge (s : State) (a b c d : Nat) (e : Bool) : (s.eventEnter a b c d e).charge = s.charge := by
  obtain ⟨_, _, _, h⟩ := s.eventEnter_shape a b c d e
  rw [h]
@[simp] theorem State.eventEnter_loops (s : State) (a b c d : Nat) (e : Bool) : (s.eventEnter a b c d e).loops = s.loops := by
  obtain ⟨_, _, _, h⟩ := s.eventEnter_shape a b c d e
  rw [h]
@[simp] theorem State.eventEnter_scan (s : State) (a b c d : Nat) (e : Bool) : (s.eventEnter a b c d e).scan = s.scan := by
  obtain ⟨_, _, _, h⟩ := s.eventEnter_shape a b c d e
  rw [h]
@[simp] theorem State.eventEnter_sense (s : State) (a b c d : Nat) (e : Bool) : (s.eventEnter a b c d e).sense = s.sense := by
  obtain ⟨_, _, _, h⟩ := s.eventEnter_shape a b c d e
  rw [h]
@[simp] theorem State.eventEnter_may (s : State) (a b c d : Nat) (e : Bool) : (s.eventEnter a b c d e).may = s.may := by
  obtain ⟨_, _, _, h⟩ := s.eventEnter_shape a b c d e
  rw [h]
@[simp] theorem State.eventEnter_aux (s : State) (a b c d : Nat) (e : Bool) : (s.eventEnter a b c d e).aux = s.aux := by
  obtain ⟨_, _, _, h⟩ := s.eventEnter_shape a b c d e
  rw [h]
@[simp] theorem State.eventEnter_cal (s : State) (a b c d : Nat) (e : Bool) : (s.eventEnter a b c d e).cal = s.cal := by
  obtain ⟨_, _, _, h⟩ := s.eventEnter_shape a b c d e
  rw [h]
@[simp] theorem State.eventEnter_therm (s : State) (a b c d : Nat) (e : Bool) : (s.eventEnter a b c d e).therm = s.therm := by
  obtain ⟨_, _, _, h⟩ := s.eventEnter_shape a b c d e
  rw [h]
@[simp] theorem State.eventEnter_cams (s : State) (a b c d : Nat) (e : Bool) : (s.eventEnter a b c d e).cams = s.cams := by
  obtain ⟨_, _, _, h⟩ := s.eventEnter_shape a b c d e
  rw [h]
@[simp] theorem State.eventEnter_recd (s : State) (a b c d : Nat) (e : Bool) : (s.eventEnter a b c d e).recd = s.recd := by
  obtain ⟨_, _, _, h⟩ := s.eventEnter_shape a b c d e
  rw [h]

/-- raise writes only live, mram, ev. -/
theorem State.raise_shape (s : State) (a b c d : Nat) : ∃ live' mram' ev', s.raise a b c d = { s with live := live', mram := mram', ev := ev' } := by
  unfold State.raise
  rw [(State.eventEnter_shape _ _ _ _ _ _).choose_spec.choose_spec.choose_spec]
  exact ⟨_, _, _, rfl⟩

@[simp] theorem State.raise_pending (s : State) (a b c d : Nat) : (s.raise a b c d).pending = s.pending := by
  obtain ⟨_, _, _, h⟩ := s.raise_shape a b c d
  rw [h]
@[simp] theorem State.raise_fresh (s : State) (a b c d : Nat) : (s.raise a b c d).fresh = s.fresh := by
  obtain ⟨_, _, _, h⟩ := s.raise_shape a b c d
  rw [h]
@[simp] theorem State.raise_variant (s : State) (a b c d : Nat) : (s.raise a b c d).variant = s.variant := by
  obtain ⟨_, _, _, h⟩ := s.raise_shape a b c d
  rw [h]
@[simp] theorem State.raise_dev (s : State) (a b c d : Nat) : (s.raise a b c d).dev = s.dev := by
  obtain ⟨_, _, _, h⟩ := s.raise_shape a b c d
  rw [h]
@[simp] theorem State.raise_time (s : State) (a b c d : Nat) : (s.raise a b c d).time = s.time := by
  obtain ⟨_, _, _, h⟩ := s.raise_shape a b c d
  rw [h]
@[simp] theorem State.raise_dtp (s : State) (a b c d : Nat) : (s.raise a b c d).dtp = s.dtp := by
  obtain ⟨_, _, _, h⟩ := s.raise_shape a b c d
  rw [h]
@[simp] theorem State.raise_grp (s : State) (a b c d : Nat) : (s.raise a b c d).grp = s.grp := by
  obtain ⟨_, _, _, h⟩ := s.raise_shape a b c d
  rw [h]
@[simp] theorem State.raise_spi (s : State) (a b c d : Nat) : (s.raise a b c d).spi = s.spi := by
  obtain ⟨_, _, _, h⟩ := s.raise_shape a b c d
  rw [h]
@[simp] theorem State.raise_merge (s : State) (a b c d : Nat) : (s.raise a b c d).merge = s.merge := by
  obtain ⟨_, _, _, h⟩ := s.raise_shape a b c d
  rw [h]
@[simp] theorem State.raise_pair (s : State) (a b c d : Nat) : (s.raise a b c d).pair = s.pair := by
  obtain ⟨_, _, _, h⟩ := s.raise_shape a b c d
  rw [h]
@[simp] theorem State.raise_array (s : State) (a b c d : Nat) : (s.raise a b c d).array = s.array := by
  obtain ⟨_, _, _, h⟩ := s.raise_shape a b c d
  rw [h]
@[simp] theorem State.raise_fire (s : State) (a b c d : Nat) : (s.raise a b c d).fire = s.fire := by
  obtain ⟨_, _, _, h⟩ := s.raise_shape a b c d
  rw [h]
@[simp] theorem State.raise_charge (s : State) (a b c d : Nat) : (s.raise a b c d).charge = s.charge := by
  obtain ⟨_, _, _, h⟩ := s.raise_shape a b c d
  rw [h]
@[simp] theorem State.raise_loops (s : State) (a b c d : Nat) : (s.raise a b c d).loops = s.loops := by
  obtain ⟨_, _, _, h⟩ := s.raise_shape a b c d
  rw [h]
@[simp] theorem State.raise_scan (s : State) (a b c d : Nat) : (s.raise a b c d).scan = s.scan := by
  obtain ⟨_, _, _, h⟩ := s.raise_shape a b c d
  rw [h]
@[simp] theorem State.raise_sense (s : State) (a b c d : Nat) : (s.raise a b c d).sense = s.sense := by
  obtain ⟨_, _, _, h⟩ := s.raise_shape a b c d
  rw [h]
@[simp] theorem State.raise_may (s : State) (a b c d : Nat) : (s.raise a b c d).may = s.may := by
  obtain ⟨_, _, _, h⟩ := s.raise_shape a b c d
  rw [h]
@[simp] theorem State.raise_aux (s : State) (a b c d : Nat) : (s.raise a b c d).aux = s.aux := by
  obtain ⟨_, _, _, h⟩ := s.raise_shape a b c d
  rw [h]
@[simp] theorem State.raise_cal (s : State) (a b c d : Nat) : (s.raise a b c d).cal = s.cal := by
  obtain ⟨_, _, _, h⟩ := s.raise_shape a b c d
  rw [h]
@[simp] theorem State.raise_therm (s : State) (a b c d : Nat) : (s.raise a b c d).therm = s.therm := by
  obtain ⟨_, _, _, h⟩ := s.raise_shape a b c d
  rw [h]
@[simp] theorem State.raise_cams (s : State) (a b c d : Nat) : (s.raise a b c d).cams = s.cams := by
  obtain ⟨_, _, _, h⟩ := s.raise_shape a b c d
  rw [h]
@[simp] theorem State.raise_recd (s : State) (a b c d : Nat) : (s.raise a b c d).recd = s.recd := by
  obtain ⟨_, _, _, h⟩ := s.raise_shape a b c d
  rw [h]

/-- fatal writes only live, mram, ev. -/
theorem State.fatal_shape (s : State) (a b c : Nat) : ∃ live' mram' ev', s.fatal a b c = { s with live := live', mram := mram', ev := ev' } := by
  unfold State.fatal
  rw [(State.raise_shape _ _ _ _ _).choose_spec.choose_spec.choose_spec]
  exact ⟨_, _, _, rfl⟩

@[simp] theorem State.fatal_pending (s : State) (a b c : Nat) : (s.fatal a b c).pending = s.pending := by
  obtain ⟨_, _, _, h⟩ := s.fatal_shape a b c
  rw [h]
@[simp] theorem State.fatal_fresh (s : State) (a b c : Nat) : (s.fatal a b c).fresh = s.fresh := by
  obtain ⟨_, _, _, h⟩ := s.fatal_shape a b c
  rw [h]
@[simp] theorem State.fatal_variant (s : State) (a b c : Nat) : (s.fatal a b c).variant = s.variant := by
  obtain ⟨_, _, _, h⟩ := s.fatal_shape a b c
  rw [h]
@[simp] theorem State.fatal_dev (s : State) (a b c : Nat) : (s.fatal a b c).dev = s.dev := by
  obtain ⟨_, _, _, h⟩ := s.fatal_shape a b c
  rw [h]
@[simp] theorem State.fatal_time (s : State) (a b c : Nat) : (s.fatal a b c).time = s.time := by
  obtain ⟨_, _, _, h⟩ := s.fatal_shape a b c
  rw [h]
@[simp] theorem State.fatal_dtp (s : State) (a b c : Nat) : (s.fatal a b c).dtp = s.dtp := by
  obtain ⟨_, _, _, h⟩ := s.fatal_shape a b c
  rw [h]
@[simp] theorem State.fatal_grp (s : State) (a b c : Nat) : (s.fatal a b c).grp = s.grp := by
  obtain ⟨_, _, _, h⟩ := s.fatal_shape a b c
  rw [h]
@[simp] theorem State.fatal_spi (s : State) (a b c : Nat) : (s.fatal a b c).spi = s.spi := by
  obtain ⟨_, _, _, h⟩ := s.fatal_shape a b c
  rw [h]
@[simp] theorem State.fatal_merge (s : State) (a b c : Nat) : (s.fatal a b c).merge = s.merge := by
  obtain ⟨_, _, _, h⟩ := s.fatal_shape a b c
  rw [h]
@[simp] theorem State.fatal_pair (s : State) (a b c : Nat) : (s.fatal a b c).pair = s.pair := by
  obtain ⟨_, _, _, h⟩ := s.fatal_shape a b c
  rw [h]
@[simp] theorem State.fatal_array (s : State) (a b c : Nat) : (s.fatal a b c).array = s.array := by
  obtain ⟨_, _, _, h⟩ := s.fatal_shape a b c
  rw [h]
@[simp] theorem State.fatal_fire (s : State) (a b c : Nat) : (s.fatal a b c).fire = s.fire := by
  obtain ⟨_, _, _, h⟩ := s.fatal_shape a b c
  rw [h]
@[simp] theorem State.fatal_charge (s : State) (a b c : Nat) : (s.fatal a b c).charge = s.charge := by
  obtain ⟨_, _, _, h⟩ := s.fatal_shape a b c
  rw [h]
@[simp] theorem State.fatal_loops (s : State) (a b c : Nat) : (s.fatal a b c).loops = s.loops := by
  obtain ⟨_, _, _, h⟩ := s.fatal_shape a b c
  rw [h]
@[simp] theorem State.fatal_scan (s : State) (a b c : Nat) : (s.fatal a b c).scan = s.scan := by
  obtain ⟨_, _, _, h⟩ := s.fatal_shape a b c
  rw [h]
@[simp] theorem State.fatal_sense (s : State) (a b c : Nat) : (s.fatal a b c).sense = s.sense := by
  obtain ⟨_, _, _, h⟩ := s.fatal_shape a b c
  rw [h]
@[simp] theorem State.fatal_may (s : State) (a b c : Nat) : (s.fatal a b c).may = s.may := by
  obtain ⟨_, _, _, h⟩ := s.fatal_shape a b c
  rw [h]
@[simp] theorem State.fatal_aux (s : State) (a b c : Nat) : (s.fatal a b c).aux = s.aux := by
  obtain ⟨_, _, _, h⟩ := s.fatal_shape a b c
  rw [h]
@[simp] theorem State.fatal_cal (s : State) (a b c : Nat) : (s.fatal a b c).cal = s.cal := by
  obtain ⟨_, _, _, h⟩ := s.fatal_shape a b c
  rw [h]
@[simp] theorem State.fatal_therm (s : State) (a b c : Nat) : (s.fatal a b c).therm = s.therm := by
  obtain ⟨_, _, _, h⟩ := s.fatal_shape a b c
  rw [h]
@[simp] theorem State.fatal_cams (s : State) (a b c : Nat) : (s.fatal a b c).cams = s.cams := by
  obtain ⟨_, _, _, h⟩ := s.fatal_shape a b c
  rw [h]
@[simp] theorem State.fatal_recd (s : State) (a b c : Nat) : (s.fatal a b c).recd = s.recd := by
  obtain ⟨_, _, _, h⟩ := s.fatal_shape a b c
  rw [h]

/-- pairSend writes only pair. -/
theorem State.pairSend_shape (s : State) (k : Nat) (x : Bytes) : ∃ pair', s.pairSend k x = { s with pair := pair' } := by
  unfold State.pairSend
  split
  · exact ⟨_, rfl⟩
  · exact ⟨_, rfl⟩

@[simp] theorem State.pairSend_pending (s : State) (k : Nat) (x : Bytes) : (s.pairSend k x).pending = s.pending := by
  obtain ⟨_, h⟩ := s.pairSend_shape k x
  rw [h]
@[simp] theorem State.pairSend_fresh (s : State) (k : Nat) (x : Bytes) : (s.pairSend k x).fresh = s.fresh := by
  obtain ⟨_, h⟩ := s.pairSend_shape k x
  rw [h]
@[simp] theorem State.pairSend_variant (s : State) (k : Nat) (x : Bytes) : (s.pairSend k x).variant = s.variant := by
  obtain ⟨_, h⟩ := s.pairSend_shape k x
  rw [h]
@[simp] theorem State.pairSend_live (s : State) (k : Nat) (x : Bytes) : (s.pairSend k x).live = s.live := by
  obtain ⟨_, h⟩ := s.pairSend_shape k x
  rw [h]
@[simp] theorem State.pairSend_mram (s : State) (k : Nat) (x : Bytes) : (s.pairSend k x).mram = s.mram := by
  obtain ⟨_, h⟩ := s.pairSend_shape k x
  rw [h]
@[simp] theorem State.pairSend_dev (s : State) (k : Nat) (x : Bytes) : (s.pairSend k x).dev = s.dev := by
  obtain ⟨_, h⟩ := s.pairSend_shape k x
  rw [h]
@[simp] theorem State.pairSend_time (s : State) (k : Nat) (x : Bytes) : (s.pairSend k x).time = s.time := by
  obtain ⟨_, h⟩ := s.pairSend_shape k x
  rw [h]
@[simp] theorem State.pairSend_dtp (s : State) (k : Nat) (x : Bytes) : (s.pairSend k x).dtp = s.dtp := by
  obtain ⟨_, h⟩ := s.pairSend_shape k x
  rw [h]
@[simp] theorem State.pairSend_grp (s : State) (k : Nat) (x : Bytes) : (s.pairSend k x).grp = s.grp := by
  obtain ⟨_, h⟩ := s.pairSend_shape k x
  rw [h]
@[simp] theorem State.pairSend_spi (s : State) (k : Nat) (x : Bytes) : (s.pairSend k x).spi = s.spi := by
  obtain ⟨_, h⟩ := s.pairSend_shape k x
  rw [h]
@[simp] theorem State.pairSend_ev (s : State) (k : Nat) (x : Bytes) : (s.pairSend k x).ev = s.ev := by
  obtain ⟨_, h⟩ := s.pairSend_shape k x
  rw [h]
@[simp] theorem State.pairSend_merge (s : State) (k : Nat) (x : Bytes) : (s.pairSend k x).merge = s.merge := by
  obtain ⟨_, h⟩ := s.pairSend_shape k x
  rw [h]
@[simp] theorem State.pairSend_array (s : State) (k : Nat) (x : Bytes) : (s.pairSend k x).array = s.array := by
  obtain ⟨_, h⟩ := s.pairSend_shape k x
  rw [h]
@[simp] theorem State.pairSend_fire (s : State) (k : Nat) (x : Bytes) : (s.pairSend k x).fire = s.fire := by
  obtain ⟨_, h⟩ := s.pairSend_shape k x
  rw [h]
@[simp] theorem State.pairSend_charge (s : State) (k : Nat) (x : Bytes) : (s.pairSend k x).charge = s.charge := by
  obtain ⟨_, h⟩ := s.pairSend_shape k x
  rw [h]
@[simp] theorem State.pairSend_loops (s : State) (k : Nat) (x : Bytes) : (s.pairSend k x).loops = s.loops := by
  obtain ⟨_, h⟩ := s.pairSend_shape k x
  rw [h]
@[simp] theorem State.pairSend_scan (s : State) (k : Nat) (x : Bytes) : (s.pairSend k x).scan = s.scan := by
  obtain ⟨_, h⟩ := s.pairSend_shape k x
  rw [h]
@[simp] theorem State.pairSend_sense (s : State) (k : Nat) (x : Bytes) : (s.pairSend k x).sense = s.sense := by
  obtain ⟨_, h⟩ := s.pairSend_shape k x
  rw [h]
@[simp] theorem State.pairSend_may (s : State) (k : Nat) (x : Bytes) : (s.pairSend k x).may = s.may := by
  obtain ⟨_, h⟩ := s.pairSend_shape k x
  rw [h]
@[simp] theorem State.pairSend_aux (s : State) (k : Nat) (x : Bytes) : (s.pairSend k x).aux = s.aux := by
  obtain ⟨_, h⟩ := s.pairSend_shape k x
  rw [h]
@[simp] theorem State.pairSend_cal (s : State) (k : Nat) (x : Bytes) : (s.pairSend k x).cal = s.cal := by
  obtain ⟨_, h⟩ := s.pairSend_shape k x
  rw [h]
@[simp] theorem State.pairSend_therm (s : State) (k : Nat) (x : Bytes) : (s.pairSend k x).therm = s.therm := by
  obtain ⟨_, h⟩ := s.pairSend_shape k x
  rw [h]
@[simp] theorem State.pairSend_cams (s : State) (k : Nat) (x : Bytes) : (s.pairSend k x).cams = s.cams := by
  obtain ⟨_, h⟩ := s.pairSend_shape k x
  rw [h]
@[simp] theorem State.pairSend_recd (s : State) (k : Nat) (x : Bytes) : (s.pairSend k x).recd = s.recd := by
  obtain ⟨_, h⟩ := s.pairSend_shape k x
  rw [h]

/-- alarmEnd writes only live, mram, ev. -/
theorem State.alarmEnd_shape (s : State) (k : Nat) : ∃ live' mram' ev', s.alarmEnd k = { s with live := live', mram := mram', ev := ev' } := by
  unfold State.alarmEnd
  split
  · exact ⟨_, _, _, rfl⟩
  · rw [(State.eventEnter_shape _ _ _ _ _ _).choose_spec.choose_spec.choose_spec]
    exact ⟨_, _, _, rfl⟩

@[simp] theorem State.alarmEnd_pending (s : State) (k : Nat) : (s.alarmEnd k).pending = s.pending := by
  obtain ⟨_, _, _, h⟩ := s.alarmEnd_shape k
  rw [h]
@[simp] theorem State.alarmEnd_fresh (s : State) (k : Nat) : (s.alarmEnd k).fresh = s.fresh := by
  obtain ⟨_, _, _, h⟩ := s.alarmEnd_shape k
  rw [h]
@[simp] theorem State.alarmEnd_variant (s : State) (k : Nat) : (s.alarmEnd k).variant = s.variant := by
  obtain ⟨_, _, _, h⟩ := s.alarmEnd_shape k
  rw [h]
@[simp] theorem State.alarmEnd_dev (s : State) (k : Nat) : (s.alarmEnd k).dev = s.dev := by
  obtain ⟨_, _, _, h⟩ := s.alarmEnd_shape k
  rw [h]
@[simp] theorem State.alarmEnd_time (s : State) (k : Nat) : (s.alarmEnd k).time = s.time := by
  obtain ⟨_, _, _, h⟩ := s.alarmEnd_shape k
  rw [h]
@[simp] theorem State.alarmEnd_dtp (s : State) (k : Nat) : (s.alarmEnd k).dtp = s.dtp := by
  obtain ⟨_, _, _, h⟩ := s.alarmEnd_shape k
  rw [h]
@[simp] theorem State.alarmEnd_grp (s : State) (k : Nat) : (s.alarmEnd k).grp = s.grp := by
  obtain ⟨_, _, _, h⟩ := s.alarmEnd_shape k
  rw [h]
@[simp] theorem State.alarmEnd_spi (s : State) (k : Nat) : (s.alarmEnd k).spi = s.spi := by
  obtain ⟨_, _, _, h⟩ := s.alarmEnd_shape k
  rw [h]
@[simp] theorem State.alarmEnd_merge (s : State) (k : Nat) : (s.alarmEnd k).merge = s.merge := by
  obtain ⟨_, _, _, h⟩ := s.alarmEnd_shape k
  rw [h]
@[simp] theorem State.alarmEnd_pair (s : State) (k : Nat) : (s.alarmEnd k).pair = s.pair := by
  obtain ⟨_, _, _, h⟩ := s.alarmEnd_shape k
  rw [h]
@[simp] theorem State.alarmEnd_array (s : State) (k : Nat) : (s.alarmEnd k).array = s.array := by
  obtain ⟨_, _, _, h⟩ := s.alarmEnd_shape k
  rw [h]
@[simp] theorem State.alarmEnd_fire (s : State) (k : Nat) : (s.alarmEnd k).fire = s.fire := by
  obtain ⟨_, _, _, h⟩ := s.alarmEnd_shape k
  rw [h]
@[simp] theorem State.alarmEnd_charge (s : State) (k : Nat) : (s.alarmEnd k).charge = s.charge := by
  obtain ⟨_, _, _, h⟩ := s.alarmEnd_shape k
  rw [h]
@[simp] theorem State.alarmEnd_loops (s : State) (k : Nat) : (s.alarmEnd k).loops = s.loops := by
  obtain ⟨_, _, _, h⟩ := s.alarmEnd_shape k
  rw [h]
@[simp] theorem State.alarmEnd_scan (s : State) (k : Nat) : (s.alarmEnd k).scan = s.scan := by
  obtain ⟨_, _, _, h⟩ := s.alarmEnd_shape k
  rw [h]
@[simp] theorem State.alarmEnd_sense (s : State) (k : Nat) : (s.alarmEnd k).sense = s.sense := by
  obtain ⟨_, _, _, h⟩ := s.alarmEnd_shape k
  rw [h]
@[simp] theorem State.alarmEnd_may (s : State) (k : Nat) : (s.alarmEnd k).may = s.may := by
  obtain ⟨_, _, _, h⟩ := s.alarmEnd_shape k
  rw [h]
@[simp] theorem State.alarmEnd_aux (s : State) (k : Nat) : (s.alarmEnd k).aux = s.aux := by
  obtain ⟨_, _, _, h⟩ := s.alarmEnd_shape k
  rw [h]
@[simp] theorem State.alarmEnd_cal (s : State) (k : Nat) : (s.alarmEnd k).cal = s.cal := by
  obtain ⟨_, _, _, h⟩ := s.alarmEnd_shape k
  rw [h]
@[simp] theorem State.alarmEnd_therm (s : State) (k : Nat) : (s.alarmEnd k).therm = s.therm := by
  obtain ⟨_, _, _, h⟩ := s.alarmEnd_shape k
  rw [h]
@[simp] theorem State.alarmEnd_cams (s : State) (k : Nat) : (s.alarmEnd k).cams = s.cams := by
  obtain ⟨_, _, _, h⟩ := s.alarmEnd_shape k
  rw [h]
@[simp] theorem State.alarmEnd_recd (s : State) (k : Nat) : (s.alarmEnd k).recd = s.recd := by
  obtain ⟨_, _, _, h⟩ := s.alarmEnd_shape k
  rw [h]

/-- alarmStart writes only ev. -/
theorem State.alarmStart_shape (s : State) (k : Nat) : ∃ ev', s.alarmStart k = { s with ev := ev' } := by
  unfold State.alarmStart
  split
  · exact ⟨_, rfl⟩
  · exact ⟨_, rfl⟩

@[simp] theorem State.alarmStart_pending (s : State) (k : Nat) : (s.alarmStart k).pending = s.pending := by
  obtain ⟨_, h⟩ := s.alarmStart_shape k
  rw [h]
@[simp] theorem State.alarmStart_fresh (s : State) (k : Nat) : (s.alarmStart k).fresh = s.fresh := by
  obtain ⟨_, h⟩ := s.alarmStart_shape k
  rw [h]
@[simp] theorem State.alarmStart_variant (s : State) (k : Nat) : (s.alarmStart k).variant = s.variant := by
  obtain ⟨_, h⟩ := s.alarmStart_shape k
  rw [h]
@[simp] theorem State.alarmStart_live (s : State) (k : Nat) : (s.alarmStart k).live = s.live := by
  obtain ⟨_, h⟩ := s.alarmStart_shape k
  rw [h]
@[simp] theorem State.alarmStart_mram (s : State) (k : Nat) : (s.alarmStart k).mram = s.mram := by
  obtain ⟨_, h⟩ := s.alarmStart_shape k
  rw [h]
@[simp] theorem State.alarmStart_dev (s : State) (k : Nat) : (s.alarmStart k).dev = s.dev := by
  obtain ⟨_, h⟩ := s.alarmStart_shape k
  rw [h]
@[simp] theorem State.alarmStart_time (s : State) (k : Nat) : (s.alarmStart k).time = s.time := by
  obtain ⟨_, h⟩ := s.alarmStart_shape k
  rw [h]
@[simp] theorem State.alarmStart_dtp (s : State) (k : Nat) : (s.alarmStart k).dtp = s.dtp := by
  obtain ⟨_, h⟩ := s.alarmStart_shape k
  rw [h]
@[simp] theorem State.alarmStart_grp (s : State) (k : Nat) : (s.alarmStart k).grp = s.grp := by
  obtain ⟨_, h⟩ := s.alarmStart_shape k
  rw [h]
@[simp] theorem State.alarmStart_spi (s : State) (k : Nat) : (s.alarmStart k).spi = s.spi := by
  obtain ⟨_, h⟩ := s.alarmStart_shape k
  rw [h]
@[simp] theorem State.alarmStart_merge (s : State) (k : Nat) : (s.alarmStart k).merge = s.merge := by
  obtain ⟨_, h⟩ := s.alarmStart_shape k
  rw [h]
@[simp] theorem State.alarmStart_pair (s : State) (k : Nat) : (s.alarmStart k).pair = s.pair := by
  obtain ⟨_, h⟩ := s.alarmStart_shape k
  rw [h]
@[simp] theorem State.alarmStart_array (s : State) (k : Nat) : (s.alarmStart k).array = s.array := by
  obtain ⟨_, h⟩ := s.alarmStart_shape k
  rw [h]
@[simp] theorem State.alarmStart_fire (s : State) (k : Nat) : (s.alarmStart k).fire = s.fire := by
  obtain ⟨_, h⟩ := s.alarmStart_shape k
  rw [h]
@[simp] theorem State.alarmStart_charge (s : State) (k : Nat) : (s.alarmStart k).charge = s.charge := by
  obtain ⟨_, h⟩ := s.alarmStart_shape k
  rw [h]
@[simp] theorem State.alarmStart_loops (s : State) (k : Nat) : (s.alarmStart k).loops = s.loops := by
  obtain ⟨_, h⟩ := s.alarmStart_shape k
  rw [h]
@[simp] theorem State.alarmStart_scan (s : State) (k : Nat) : (s.alarmStart k).scan = s.scan := by
  obtain ⟨_, h⟩ := s.alarmStart_shape k
  rw [h]
@[simp] theorem State.alarmStart_sense (s : State) (k : Nat) : (s.alarmStart k).sense = s.sense := by
  obtain ⟨_, h⟩ := s.alarmStart_shape k
  rw [h]
@[simp] theorem State.alarmStart_may (s : State) (k : Nat) : (s.alarmStart k).may = s.may := by
  obtain ⟨_, h⟩ := s.alarmStart_shape k
  rw [h]
@[simp] theorem State.alarmStart_aux (s : State) (k : Nat) : (s.alarmStart k).aux = s.aux := by
  obtain ⟨_, h⟩ := s.alarmStart_shape k
  rw [h]
@[simp] theorem State.alarmStart_cal (s : State) (k : Nat) : (s.alarmStart k).cal = s.cal := by
  obtain ⟨_, h⟩ := s.alarmStart_shape k
  rw [h]
@[simp] theorem State.alarmStart_therm (s : State) (k : Nat) : (s.alarmStart k).therm = s.therm := by
  obtain ⟨_, h⟩ := s.alarmStart_shape k
  rw [h]
@[simp] theorem State.alarmStart_cams (s : State) (k : Nat) : (s.alarmStart k).cams = s.cams := by
  obtain ⟨_, h⟩ := s.alarmStart_shape k
  rw [h]
@[simp] theorem State.alarmStart_recd (s : State) (k : Nat) : (s.alarmStart k).recd = s.recd := by
  obtain ⟨_, h⟩ := s.alarmStart_shape k
  rw [h]

/-- alertChange writes only ev. -/
theorem State.alertChange_shape (s : State) (k : Nat) : ∃ ev', s.alertChange k = { s with ev := ev' } := by
  unfold State.alertChange
  dsimp only
  split
  · exact ⟨_, rfl⟩
  · split
    · exact ⟨_, rfl⟩
    · exact ⟨_, rfl⟩

@[simp] theorem State.alertChange_pending (s : State) (k : Nat) : (s.alertChange k).pending = s.pending := by
  obtain ⟨_, h⟩ := s.alertChange_shape k
  rw [h]
@[simp] theorem State.alertChange_fresh (s : State) (k : Nat) : (s.alertChange k).fresh = s.fresh := by
  obtain ⟨_, h⟩ := s.alertChange_shape k
  rw [h]
@[simp] theorem State.alertChange_variant (s : State) (k : Nat) : (s.alertChange k).variant = s.variant := by
  obtain ⟨_, h⟩ := s.alertChange_shape k
  rw [h]
@[simp] theorem State.alertChange_live (s : State) (k : Nat) : (s.alertChange k).live = s.live := by
  obtain ⟨_, h⟩ := s.alertChange_shape k
  rw [h]
@[simp] theorem State.alertChange_mram (s : State) (k : Nat) : (s.alertChange k).mram = s.mram := by
  obtain ⟨_, h⟩ := s.alertChange_shape k
  rw [h]
@[simp] theorem State.alertChange_dev (s : State) (k : Nat) : (s.alertChange k).dev = s.dev := by
  obtain ⟨_, h⟩ := s.alertChange_shape k
  rw [h]
@[simp] theorem State.alertChange_time (s : State) (k : Nat) : (s.alertChange k).time = s.time := by
  obtain ⟨_, h⟩ := s.alertChange_shape k
  rw [h]
@[simp] theorem State.alertChange_dtp (s : State) (k : Nat) : (s.alertChange k).dtp = s.dtp := by
  obtain ⟨_, h⟩ := s.alertChange_shape k
  rw [h]
@[simp] theorem State.alertChange_grp (s : State) (k : Nat) : (s.alertChange k).grp = s.grp := by
  obtain ⟨_, h⟩ := s.alertChange_shape k
  rw [h]
@[simp] theorem State.alertChange_spi (s : State) (k : Nat) : (s.alertChange k).spi = s.spi := by
  obtain ⟨_, h⟩ := s.alertChange_shape k
  rw [h]
@[simp] theorem State.alertChange_merge (s : State) (k : Nat) : (s.alertChange k).merge = s.merge := by
  obtain ⟨_, h⟩ := s.alertChange_shape k
  rw [h]
@[simp] theorem State.alertChange_pair (s : State) (k : Nat) : (s.alertChange k).pair = s.pair := by
  obtain ⟨_, h⟩ := s.alertChange_shape k
  rw [h]
@[simp] theorem State.alertChange_array (s : State) (k : Nat) : (s.alertChange k).array = s.array := by
  obtain ⟨_, h⟩ := s.alertChange_shape k
  rw [h]
@[simp] theorem State.alertChange_fire (s : State) (k : Nat) : (s.alertChange k).fire = s.fire := by
  obtain ⟨_, h⟩ := s.alertChange_shape k
  rw [h]
@[simp] theorem State.alertChange_charge (s : State) (k : Nat) : (s.alertChange k).charge = s.charge := by
  obtain ⟨_, h⟩ := s.alertChange_shape k
  rw [h]
@[simp] theorem State.alertChange_loops (s : State) (k : Nat) : (s.alertChange k).loops = s.loops := by
  obtain ⟨_, h⟩ := s.alertChange_shape k
  rw [h]
@[simp] theorem State.alertChange_scan (s : State) (k : Nat) : (s.alertChange k).scan = s.scan := by
  obtain ⟨_, h⟩ := s.alertChange_shape k
  rw [h]
@[simp] theorem State.alertChange_sense (s : State) (k : Nat) : (s.alertChange k).sense = s.sense := by
  obtain ⟨_, h⟩ := s.alertChange_shape k
  rw [h]
@[simp] theorem State.alertChange_may (s : State) (k : Nat) : (s.alertChange k).may = s.may := by
  obtain ⟨_, h⟩ := s.alertChange_shape k
  rw [h]
@[simp] theorem State.alertChange_aux (s : State) (k : Nat) : (s.alertChange k).aux = s.aux := by
  obtain ⟨_, h⟩ := s.alertChange_shape k
  rw [h]
@[simp] theorem State.alertChange_cal (s : State) (k : Nat) : (s.alertChange k).cal = s.cal := by
  obtain ⟨_, h⟩ := s.alertChange_shape k
  rw [h]
@[simp] theorem State.alertChange_therm (s : State) (k : Nat) : (s.alertChange k).therm = s.therm := by
  obtain ⟨_, h⟩ := s.alertChange_shape k
  rw [h]
@[simp] theorem State.alertChange_cams (s : State) (k : Nat) : (s.alertChange k).cams = s.cams := by
  obtain ⟨_, h⟩ := s.alertChange_shape k
  rw [h]
@[simp] theorem State.alertChange_recd (s : State) (k : Nat) : (s.alertChange k).recd = s.recd := by
  obtain ⟨_, h⟩ := s.alertChange_shape k
  rw [h]

/-- alertSwitchDue writes only ev. -/
theorem State.alertSwitchDue_shape (s : State) : ∃ ev', s.alertSwitchDue = { s with ev := ev' } := by
  unfold State.alertSwitchDue
  split
  · split
    · exact ⟨_, rfl⟩
    · exact ⟨_, rfl⟩
  · exact ⟨_, rfl⟩

@[simp] theorem State.alertSwitchDue_pending (s : State) : (s.alertSwitchDue).pending = s.pending := by
  obtain ⟨_, h⟩ := s.alertSwitchDue_shape
  rw [h]
@[simp] theorem State.alertSwitchDue_fresh (s : State) : (s.alertSwitchDue).fresh = s.fresh := by
  obtain ⟨_, h⟩ := s.alertSwitchDue_shape
  rw [h]
@[simp] theorem State.alertSwitchDue_variant (s : State) : (s.alertSwitchDue).variant = s.variant := by
  obtain ⟨_, h⟩ := s.alertSwitchDue_shape
  rw [h]
@[simp] theorem State.alertSwitchDue_live (s : State) : (s.alertSwitchDue).live = s.live := by
  obtain ⟨_, h⟩ := s.alertSwitchDue_shape
  rw [h]
@[simp] theorem State.alertSwitchDue_mram (s : State) : (s.alertSwitchDue).mram = s.mram := by
  obtain ⟨_, h⟩ := s.alertSwitchDue_shape
  rw [h]
@[simp] theorem State.alertSwitchDue_dev (s : State) : (s.alertSwitchDue).dev = s.dev := by
  obtain ⟨_, h⟩ := s.alertSwitchDue_shape
  rw [h]
@[simp] theorem State.alertSwitchDue_time (s : State) : (s.alertSwitchDue).time = s.time := by
  obtain ⟨_, h⟩ := s.alertSwitchDue_shape
  rw [h]
@[simp] theorem State.alertSwitchDue_dtp (s : State) : (s.alertSwitchDue).dtp = s.dtp := by
  obtain ⟨_, h⟩ := s.alertSwitchDue_shape
  rw [h]
@[simp] theorem State.alertSwitchDue_grp (s : State) : (s.alertSwitchDue).grp = s.grp := by
  obtain ⟨_, h⟩ := s.alertSwitchDue_shape
  rw [h]
@[simp] theorem State.alertSwitchDue_spi (s : State) : (s.alertSwitchDue).spi = s.spi := by
  obtain ⟨_, h⟩ := s.alertSwitchDue_shape
  rw [h]
@[simp] theorem State.alertSwitchDue_merge (s : State) : (s.alertSwitchDue).merge = s.merge := by
  obtain ⟨_, h⟩ := s.alertSwitchDue_shape
  rw [h]
@[simp] theorem State.alertSwitchDue_pair (s : State) : (s.alertSwitchDue).pair = s.pair := by
  obtain ⟨_, h⟩ := s.alertSwitchDue_shape
  rw [h]
@[simp] theorem State.alertSwitchDue_array (s : State) : (s.alertSwitchDue).array = s.array := by
  obtain ⟨_, h⟩ := s.alertSwitchDue_shape
  rw [h]
@[simp] theorem State.alertSwitchDue_fire (s : State) : (s.alertSwitchDue).fire = s.fire := by
  obtain ⟨_, h⟩ := s.alertSwitchDue_shape
  rw [h]
@[simp] theorem State.alertSwitchDue_charge (s : State) : (s.alertSwitchDue).charge = s.charge := by
  obtain ⟨_, h⟩ := s.alertSwitchDue_shape
  rw [h]
@[simp] theorem State.alertSwitchDue_loops (s : State) : (s.alertSwitchDue).loops = s.loops := by
  obtain ⟨_, h⟩ := s.alertSwitchDue_shape
  rw [h]
@[simp] theorem State.alertSwitchDue_scan (s : State) : (s.alertSwitchDue).scan = s.scan := by
  obtain ⟨_, h⟩ := s.alertSwitchDue_shape
  rw [h]
@[simp] theorem State.alertSwitchDue_sense (s : State) : (s.alertSwitchDue).sense = s.sense := by
  obtain ⟨_, h⟩ := s.alertSwitchDue_shape
  rw [h]
@[simp] theorem State.alertSwitchDue_may (s : State) : (s.alertSwitchDue).may = s.may := by
  obtain ⟨_, h⟩ := s.alertSwitchDue_shape
  rw [h]
@[simp] theorem State.alertSwitchDue_aux (s : State) : (s.alertSwitchDue).aux = s.aux := by
  obtain ⟨_, h⟩ := s.alertSwitchDue_shape
  rw [h]
@[simp] theorem State.alertSwitchDue_cal (s : State) : (s.alertSwitchDue).cal = s.cal := by
  obtain ⟨_, h⟩ := s.alertSwitchDue_shape
  rw [h]
@[simp] theorem State.alertSwitchDue_therm (s : State) : (s.alertSwitchDue).therm = s.therm := by
  obtain ⟨_, h⟩ := s.alertSwitchDue_shape
  rw [h]
@[simp] theorem State.alertSwitchDue_cams (s : State) : (s.alertSwitchDue).cams = s.cams := by
  obtain ⟨_, h⟩ := s.alertSwitchDue_shape
  rw [h]
@[simp] theorem State.alertSwitchDue_recd (s : State) : (s.alertSwitchDue).recd = s.recd := by
  obtain ⟨_, h⟩ := s.alertSwitchDue_shape
  rw [h]

/-- The alarms' fold writes the stores and the event log only. -/
theorem State.alarmFold_shape (f : State → Nat → State) (hf : ∀ s k, ∃ live' mram' ev', f s k = { s with live := live', mram := mram', ev := ev' })
    (ks : List Nat) (s : State) : ∃ live' mram' ev', ks.foldl f s = { s with live := live', mram := mram', ev := ev' } := by
  induction ks generalizing s with
  | nil => exact ⟨_, _, _, rfl⟩
  | cons k ks ih =>
    obtain ⟨a, b, c, h⟩ := hf s k
    obtain ⟨a', b', c', h'⟩ := ih (f s k)
    refine ⟨a', b', c', ?_⟩
    rw [List.foldl_cons, h', h]

/-- refreshAlarms writes the stores, the event log and the merge only. -/
theorem State.refreshAlarms_shape (s : State) :
    ∃ live' mram' ev' merge', s.refreshAlarms = { s with live := live', mram := mram', ev := ev', merge := merge' } := by
  unfold State.refreshAlarms
  split
  · exact ⟨_, _, _, _, rfl⟩
  · dsimp only
    split
    · exact ⟨_, _, _, _, rfl⟩
    · obtain ⟨a, b, c, hu'⟩ := State.alarmFold_shape (State.alarmTurn (s.u Obj.activeAlarms) s.alarmsNow)
        (fun t k => by
          unfold State.alarmTurn
          split
          · exact t.alarmEnd_shape k
          · split
            · obtain ⟨e, he⟩ := t.alarmStart_shape k
              exact ⟨_, _, e, he⟩
            · exact ⟨_, _, _, rfl⟩) (List.range 16) s
      rw [hu']
      obtain ⟨l1, h1⟩ := State.setU_shape { s with live := a, mram := b, ev := c } Obj.activeAlarms s.alarmsNow
      rw [h1]
      obtain ⟨l2, h2⟩ := State.setU_shape { s with live := l1, mram := b, ev := c } Obj.highestSeverity (highestOf s.alarmsNow)
      rw [h2]
      generalize State.alarmRecord _ = body
      obtain ⟨m, hm⟩ := State.formState_shape { s with live := l2, mram := b, ev := c } 4 body
      rw [hm]
      split
      · exact ⟨_, _, _, _, rfl⟩
      · obtain ⟨e, he⟩ := State.alertChange_shape { s with live := l2, mram := b, ev := c, merge := m } (highestOf s.alarmsNow)
        rw [he]
        exact ⟨_, _, _, _, rfl⟩

@[simp] theorem State.refreshAlarms_pending (s : State) : (s.refreshAlarms).pending = s.pending := by
  obtain ⟨_, _, _, _, h⟩ := s.refreshAlarms_shape
  rw [h]
@[simp] theorem State.refreshAlarms_fresh (s : State) : (s.refreshAlarms).fresh = s.fresh := by
  obtain ⟨_, _, _, _, h⟩ := s.refreshAlarms_shape
  rw [h]
@[simp] theorem State.refreshAlarms_variant (s : State) : (s.refreshAlarms).variant = s.variant := by
  obtain ⟨_, _, _, _, h⟩ := s.refreshAlarms_shape
  rw [h]
@[simp] theorem State.refreshAlarms_dev (s : State) : (s.refreshAlarms).dev = s.dev := by
  obtain ⟨_, _, _, _, h⟩ := s.refreshAlarms_shape
  rw [h]
@[simp] theorem State.refreshAlarms_time (s : State) : (s.refreshAlarms).time = s.time := by
  obtain ⟨_, _, _, _, h⟩ := s.refreshAlarms_shape
  rw [h]
@[simp] theorem State.refreshAlarms_dtp (s : State) : (s.refreshAlarms).dtp = s.dtp := by
  obtain ⟨_, _, _, _, h⟩ := s.refreshAlarms_shape
  rw [h]
@[simp] theorem State.refreshAlarms_grp (s : State) : (s.refreshAlarms).grp = s.grp := by
  obtain ⟨_, _, _, _, h⟩ := s.refreshAlarms_shape
  rw [h]
@[simp] theorem State.refreshAlarms_spi (s : State) : (s.refreshAlarms).spi = s.spi := by
  obtain ⟨_, _, _, _, h⟩ := s.refreshAlarms_shape
  rw [h]
@[simp] theorem State.refreshAlarms_pair (s : State) : (s.refreshAlarms).pair = s.pair := by
  obtain ⟨_, _, _, _, h⟩ := s.refreshAlarms_shape
  rw [h]
@[simp] theorem State.refreshAlarms_array (s : State) : (s.refreshAlarms).array = s.array := by
  obtain ⟨_, _, _, _, h⟩ := s.refreshAlarms_shape
  rw [h]
@[simp] theorem State.refreshAlarms_fire (s : State) : (s.refreshAlarms).fire = s.fire := by
  obtain ⟨_, _, _, _, h⟩ := s.refreshAlarms_shape
  rw [h]
@[simp] theorem State.refreshAlarms_charge (s : State) : (s.refreshAlarms).charge = s.charge := by
  obtain ⟨_, _, _, _, h⟩ := s.refreshAlarms_shape
  rw [h]
@[simp] theorem State.refreshAlarms_loops (s : State) : (s.refreshAlarms).loops = s.loops := by
  obtain ⟨_, _, _, _, h⟩ := s.refreshAlarms_shape
  rw [h]
@[simp] theorem State.refreshAlarms_scan (s : State) : (s.refreshAlarms).scan = s.scan := by
  obtain ⟨_, _, _, _, h⟩ := s.refreshAlarms_shape
  rw [h]
@[simp] theorem State.refreshAlarms_sense (s : State) : (s.refreshAlarms).sense = s.sense := by
  obtain ⟨_, _, _, _, h⟩ := s.refreshAlarms_shape
  rw [h]
@[simp] theorem State.refreshAlarms_may (s : State) : (s.refreshAlarms).may = s.may := by
  obtain ⟨_, _, _, _, h⟩ := s.refreshAlarms_shape
  rw [h]
@[simp] theorem State.refreshAlarms_aux (s : State) : (s.refreshAlarms).aux = s.aux := by
  obtain ⟨_, _, _, _, h⟩ := s.refreshAlarms_shape
  rw [h]
@[simp] theorem State.refreshAlarms_cal (s : State) : (s.refreshAlarms).cal = s.cal := by
  obtain ⟨_, _, _, _, h⟩ := s.refreshAlarms_shape
  rw [h]
@[simp] theorem State.refreshAlarms_therm (s : State) : (s.refreshAlarms).therm = s.therm := by
  obtain ⟨_, _, _, _, h⟩ := s.refreshAlarms_shape
  rw [h]
@[simp] theorem State.refreshAlarms_cams (s : State) : (s.refreshAlarms).cams = s.cams := by
  obtain ⟨_, _, _, _, h⟩ := s.refreshAlarms_shape
  rw [h]
@[simp] theorem State.refreshAlarms_recd (s : State) : (s.refreshAlarms).recd = s.recd := by
  obtain ⟨_, _, _, _, h⟩ := s.refreshAlarms_shape
  rw [h]

/-- closeGroup writes only merge. -/
theorem State.closeGroup_shape (s : State) : ∃ merge', s.closeGroup = { s with merge := merge' } := by
  unfold State.closeGroup
  split
  · exact ⟨_, rfl⟩
  · exact ⟨_, rfl⟩

@[simp] theorem State.closeGroup_pending (s : State) : (s.closeGroup).pending = s.pending := by
  obtain ⟨_, h⟩ := s.closeGroup_shape
  rw [h]
@[simp] theorem State.closeGroup_fresh (s : State) : (s.closeGroup).fresh = s.fresh := by
  obtain ⟨_, h⟩ := s.closeGroup_shape
  rw [h]
@[simp] theorem State.closeGroup_variant (s : State) : (s.closeGroup).variant = s.variant := by
  obtain ⟨_, h⟩ := s.closeGroup_shape
  rw [h]
@[simp] theorem State.closeGroup_live (s : State) : (s.closeGroup).live = s.live := by
  obtain ⟨_, h⟩ := s.closeGroup_shape
  rw [h]
@[simp] theorem State.closeGroup_mram (s : State) : (s.closeGroup).mram = s.mram := by
  obtain ⟨_, h⟩ := s.closeGroup_shape
  rw [h]
@[simp] theorem State.closeGroup_dev (s : State) : (s.closeGroup).dev = s.dev := by
  obtain ⟨_, h⟩ := s.closeGroup_shape
  rw [h]
@[simp] theorem State.closeGroup_time (s : State) : (s.closeGroup).time = s.time := by
  obtain ⟨_, h⟩ := s.closeGroup_shape
  rw [h]
@[simp] theorem State.closeGroup_dtp (s : State) : (s.closeGroup).dtp = s.dtp := by
  obtain ⟨_, h⟩ := s.closeGroup_shape
  rw [h]
@[simp] theorem State.closeGroup_grp (s : State) : (s.closeGroup).grp = s.grp := by
  obtain ⟨_, h⟩ := s.closeGroup_shape
  rw [h]
@[simp] theorem State.closeGroup_spi (s : State) : (s.closeGroup).spi = s.spi := by
  obtain ⟨_, h⟩ := s.closeGroup_shape
  rw [h]
@[simp] theorem State.closeGroup_ev (s : State) : (s.closeGroup).ev = s.ev := by
  obtain ⟨_, h⟩ := s.closeGroup_shape
  rw [h]
@[simp] theorem State.closeGroup_pair (s : State) : (s.closeGroup).pair = s.pair := by
  obtain ⟨_, h⟩ := s.closeGroup_shape
  rw [h]
@[simp] theorem State.closeGroup_array (s : State) : (s.closeGroup).array = s.array := by
  obtain ⟨_, h⟩ := s.closeGroup_shape
  rw [h]
@[simp] theorem State.closeGroup_fire (s : State) : (s.closeGroup).fire = s.fire := by
  obtain ⟨_, h⟩ := s.closeGroup_shape
  rw [h]
@[simp] theorem State.closeGroup_charge (s : State) : (s.closeGroup).charge = s.charge := by
  obtain ⟨_, h⟩ := s.closeGroup_shape
  rw [h]
@[simp] theorem State.closeGroup_loops (s : State) : (s.closeGroup).loops = s.loops := by
  obtain ⟨_, h⟩ := s.closeGroup_shape
  rw [h]
@[simp] theorem State.closeGroup_scan (s : State) : (s.closeGroup).scan = s.scan := by
  obtain ⟨_, h⟩ := s.closeGroup_shape
  rw [h]
@[simp] theorem State.closeGroup_sense (s : State) : (s.closeGroup).sense = s.sense := by
  obtain ⟨_, h⟩ := s.closeGroup_shape
  rw [h]
@[simp] theorem State.closeGroup_may (s : State) : (s.closeGroup).may = s.may := by
  obtain ⟨_, h⟩ := s.closeGroup_shape
  rw [h]
@[simp] theorem State.closeGroup_aux (s : State) : (s.closeGroup).aux = s.aux := by
  obtain ⟨_, h⟩ := s.closeGroup_shape
  rw [h]
@[simp] theorem State.closeGroup_cal (s : State) : (s.closeGroup).cal = s.cal := by
  obtain ⟨_, h⟩ := s.closeGroup_shape
  rw [h]
@[simp] theorem State.closeGroup_therm (s : State) : (s.closeGroup).therm = s.therm := by
  obtain ⟨_, h⟩ := s.closeGroup_shape
  rw [h]
@[simp] theorem State.closeGroup_cams (s : State) : (s.closeGroup).cams = s.cams := by
  obtain ⟨_, h⟩ := s.closeGroup_shape
  rw [h]
@[simp] theorem State.closeGroup_recd (s : State) : (s.closeGroup).recd = s.recd := by
  obtain ⟨_, h⟩ := s.closeGroup_shape
  rw [h]

/-- wantBank writes only cal. -/
theorem State.wantBank_shape (s : State) (k : Nat) : ∃ cal', s.wantBank k = { s with cal := cal' } := by
  unfold State.wantBank
  split
  · exact ⟨_, rfl⟩
  · exact ⟨_, rfl⟩

@[simp] theorem State.wantBank_pending (s : State) (k : Nat) : (s.wantBank k).pending = s.pending := by
  obtain ⟨_, h⟩ := s.wantBank_shape k
  rw [h]
@[simp] theorem State.wantBank_fresh (s : State) (k : Nat) : (s.wantBank k).fresh = s.fresh := by
  obtain ⟨_, h⟩ := s.wantBank_shape k
  rw [h]
@[simp] theorem State.wantBank_variant (s : State) (k : Nat) : (s.wantBank k).variant = s.variant := by
  obtain ⟨_, h⟩ := s.wantBank_shape k
  rw [h]
@[simp] theorem State.wantBank_live (s : State) (k : Nat) : (s.wantBank k).live = s.live := by
  obtain ⟨_, h⟩ := s.wantBank_shape k
  rw [h]
@[simp] theorem State.wantBank_mram (s : State) (k : Nat) : (s.wantBank k).mram = s.mram := by
  obtain ⟨_, h⟩ := s.wantBank_shape k
  rw [h]
@[simp] theorem State.wantBank_dev (s : State) (k : Nat) : (s.wantBank k).dev = s.dev := by
  obtain ⟨_, h⟩ := s.wantBank_shape k
  rw [h]
@[simp] theorem State.wantBank_time (s : State) (k : Nat) : (s.wantBank k).time = s.time := by
  obtain ⟨_, h⟩ := s.wantBank_shape k
  rw [h]
@[simp] theorem State.wantBank_dtp (s : State) (k : Nat) : (s.wantBank k).dtp = s.dtp := by
  obtain ⟨_, h⟩ := s.wantBank_shape k
  rw [h]
@[simp] theorem State.wantBank_grp (s : State) (k : Nat) : (s.wantBank k).grp = s.grp := by
  obtain ⟨_, h⟩ := s.wantBank_shape k
  rw [h]
@[simp] theorem State.wantBank_spi (s : State) (k : Nat) : (s.wantBank k).spi = s.spi := by
  obtain ⟨_, h⟩ := s.wantBank_shape k
  rw [h]
@[simp] theorem State.wantBank_ev (s : State) (k : Nat) : (s.wantBank k).ev = s.ev := by
  obtain ⟨_, h⟩ := s.wantBank_shape k
  rw [h]
@[simp] theorem State.wantBank_merge (s : State) (k : Nat) : (s.wantBank k).merge = s.merge := by
  obtain ⟨_, h⟩ := s.wantBank_shape k
  rw [h]
@[simp] theorem State.wantBank_pair (s : State) (k : Nat) : (s.wantBank k).pair = s.pair := by
  obtain ⟨_, h⟩ := s.wantBank_shape k
  rw [h]
@[simp] theorem State.wantBank_array (s : State) (k : Nat) : (s.wantBank k).array = s.array := by
  obtain ⟨_, h⟩ := s.wantBank_shape k
  rw [h]
@[simp] theorem State.wantBank_fire (s : State) (k : Nat) : (s.wantBank k).fire = s.fire := by
  obtain ⟨_, h⟩ := s.wantBank_shape k
  rw [h]
@[simp] theorem State.wantBank_charge (s : State) (k : Nat) : (s.wantBank k).charge = s.charge := by
  obtain ⟨_, h⟩ := s.wantBank_shape k
  rw [h]
@[simp] theorem State.wantBank_loops (s : State) (k : Nat) : (s.wantBank k).loops = s.loops := by
  obtain ⟨_, h⟩ := s.wantBank_shape k
  rw [h]
@[simp] theorem State.wantBank_scan (s : State) (k : Nat) : (s.wantBank k).scan = s.scan := by
  obtain ⟨_, h⟩ := s.wantBank_shape k
  rw [h]
@[simp] theorem State.wantBank_sense (s : State) (k : Nat) : (s.wantBank k).sense = s.sense := by
  obtain ⟨_, h⟩ := s.wantBank_shape k
  rw [h]
@[simp] theorem State.wantBank_may (s : State) (k : Nat) : (s.wantBank k).may = s.may := by
  obtain ⟨_, h⟩ := s.wantBank_shape k
  rw [h]
@[simp] theorem State.wantBank_aux (s : State) (k : Nat) : (s.wantBank k).aux = s.aux := by
  obtain ⟨_, h⟩ := s.wantBank_shape k
  rw [h]
@[simp] theorem State.wantBank_therm (s : State) (k : Nat) : (s.wantBank k).therm = s.therm := by
  obtain ⟨_, h⟩ := s.wantBank_shape k
  rw [h]
@[simp] theorem State.wantBank_cams (s : State) (k : Nat) : (s.wantBank k).cams = s.cams := by
  obtain ⟨_, h⟩ := s.wantBank_shape k
  rw [h]
@[simp] theorem State.wantBank_recd (s : State) (k : Nat) : (s.wantBank k).recd = s.recd := by
  obtain ⟨_, h⟩ := s.wantBank_shape k
  rw [h]

end Sys2Proof.Machine
end

