-- ==== Sys2Proof/Laws/Logged.lean ====
section
/-!
SUPPORT. What the event log, the records and the end of a command leave alone: each shared operation that writes them is Logged, Logged
steps compose, and a command whose effect is known ends in that effect but for the log.
-/

namespace Sys2Proof.Machine

/-! ### Logged as a relation -/

theorem State.Logged.refl (e : State) (ids : List Nat) : e.Logged e ids :=
  ⟨rfl, fun _ _ _ => rfl, fun _ _ => rfl, rfl, fun x hx => ⟨x, hx, rfl, rfl, rfl, rfl, rfl⟩⟩

theorem State.Logged.trans {a b c : State} {i j k : List Nat} (h1 : a.Logged b i) (h2 : b.Logged c j)
    (hi : ∀ x ∈ i, x ∈ k) (hj : ∀ x ∈ j, x ∈ k) : a.Logged c k := by
  refine ⟨?_, ?_, ?_, ?_, ?_⟩
  · have h := congrArg (fun (b : State) =>
      { b with live := c.live, mram := c.mram, ev := c.ev, merge := { b.merge with formed := c.merge.formed, group := c.merge.group },
               cal := { b.cal with wanted := c.cal.wanted }, array := { b.array with rolesDirty := c.array.rolesDirty } }) h1.rest
    exact h2.rest.trans h
  · intro id h hk
    rw [h2.objects id h (fun x => hk (hj id x)), h1.objects id h (fun x => hk (hi id x))]
  · intro id h
    rw [h2.stored id h, h1.stored id h]
  · rw [h2.calm, h1.calm]
  · intro x hx
    obtain ⟨y, hy, a1, a2, a3, a4, a5⟩ := h1.entries x hx
    obtain ⟨z, hz, b1, b2, b3, b4, b5⟩ := h2.entries y hy
    exact ⟨z, hz, b1.trans a1, b2.trans a2, b3.trans a3, b4.trans a4, b5.trans a5⟩

theorem State.Logged.more {a b : State} {i k : List Nat} (h : a.Logged b i) (hi : ∀ x ∈ i, x ∈ k) : a.Logged b k :=
  h.trans (State.Logged.refl b k) hi (fun _ h => h)

theorem State.Logged.andThen {a b c : State} {k : List Nat} (h1 : a.Logged b k) (h2 : b.Logged c []) : a.Logged c k :=
  h1.trans h2 (fun _ h => h) (fun _ h => by cases h)

/-- Objects that lie outside the log's and the list read as expected. -/
theorem State.Logged.u_eq {e t : State} {ids : List Nat} (h : e.Logged t ids) (id : Nat) (h1 : id ∉ logObjects) (h2 : id ∉ ids) :
    t.u id = e.u id := by
  unfold State.u
  rw [h.objects id h1 h2]

theorem State.Logged.safe {e t : State} {ids : List Nat} (h : e.Logged t ids) : t.ev.safeWanted = e.ev.safeWanted :=
  congrArg (fun x => x.1) h.calm

/-! ### Writes of objects -/

theorem State.logged_put (s : State) (id : Nat) (bs : Bytes) (ids : List Nat) (h : id ∈ logObjects ∨ id ∈ ids) :
    s.Logged (s.put id bs) ids := by
  refine ⟨rfl, ?_, fun _ _ => rfl, rfl, fun x hx => ⟨x, hx, rfl, rfl, rfl, rfl, rfl⟩⟩
  intro j h1 h2
  apply State.get_put_ne
  rintro rfl
  rcases h with h | h
  · exact h1 h
  · exact h2 h

theorem State.logged_setU (s : State) (id n : Nat) (ids : List Nat) (h : id ∈ logObjects ∨ id ∈ ids) :
    s.Logged (s.setU id n) ids := s.logged_put id _ ids h

theorem State.logged_setI (s : State) (id : Nat) (n : Int) (ids : List Nat) (h : id ∈ logObjects ∨ id ∈ ids) :
    s.Logged (s.setI id n) ids := s.logged_put id _ ids h

theorem State.logged_setB (s : State) (id : Nat) (b : Bool) (ids : List Nat) (h : id ∈ logObjects ∨ id ∈ ids) :
    s.Logged (s.setB id b) ids := s.logged_put id _ ids h

theorem State.logged_bump (s : State) (id n : Nat) (ids : List Nat) (h : id ∈ logObjects ∨ id ∈ ids) :
    s.Logged (s.bump id n) ids := by
  unfold State.bump
  split
  · exact State.Logged.refl _ _
  · exact s.logged_setU id _ ids h

/-! ### Events -/

theorem State.logged_dropJournal (s : State) (n : Nat) : s.Logged (s.dropJournal n) [] := by
  unfold State.dropJournal
  split
  · exact State.Logged.refl _ _
  · have h1 : s.Logged (s.bump Obj.journalDropped n) [] := s.logged_bump _ _ _ (Or.inl (by decide))
    dsimp only
    split
    · refine h1.andThen ⟨rfl, fun _ _ _ => rfl, ?_, rfl, fun x hx => ⟨x, hx, rfl, rfl, rfl, rfl, rfl⟩⟩
      intro id h
      exact Store.get_put_ne _ _ _ _ _ h
    · exact h1

/-- A change of the event log that keeps its open entries and adds no Fatal event. -/
theorem State.logged_ev (s : State) (ev' : EventState) (hc : ev'.still = s.ev.still)
    (he : ∀ x ∈ s.ev.openEntries, ∃ y ∈ ev'.openEntries,
      y.number = x.number ∧ y.code = x.code ∧ y.source = x.source ∧ y.data = x.data ∧ y.cleared = x.cleared) :
    s.Logged { s with ev := ev' } [] :=
  ⟨rfl, fun _ _ _ => rfl, fun _ _ => rfl, hc, he⟩

theorem EventState.repeatOpen_entries (ev : EventState) (n : Nat) : ∀ x ∈ ev.openEntries, ∃ y ∈ (ev.repeatOpen n).openEntries,
    y.number = x.number ∧ y.code = x.code ∧ y.source = x.source ∧ y.data = x.data ∧ y.cleared = x.cleared := by
  intro x hx
  refine ⟨_, List.mem_map_of_mem hx, ?_⟩
  split <;> exact ⟨rfl, rfl, rfl, rfl, rfl⟩

theorem EventState.ringPut_open (ev : EventState) (e : EventEntry) :
    (ev.ringPut e).openEntries = ev.openEntries ∧ (ev.ringPut e).still = ev.still := by
  unfold EventState.ringPut
  split
  · exact ⟨rfl, rfl⟩
  · split <;> exact ⟨rfl, rfl⟩

theorem State.logged_journalAdd (s : State) (e : EventEntry) : s.Logged (s.journalAdd e) [] := by
  have same : ∀ x ∈ s.ev.openEntries, ∃ y ∈ s.ev.openEntries,
    y.number = x.number ∧ y.code = x.code ∧ y.source = x.source ∧ y.data = x.data ∧ y.cleared = x.cleared :=
    fun x hx => ⟨x, hx, rfl, rfl, rfl, rfl, rfl⟩
  unfold State.journalAdd
  dsimp only
  split
  · refine State.Logged.andThen ?_ (State.logged_dropJournal _ _)
    exact s.logged_ev _ rfl same
  · split
    · exact s.logged_ev _ rfl same
    · refine State.Logged.andThen ?_ (State.logged_dropJournal _ _)
      exact s.logged_ev _ rfl same

theorem State.logged_openEntry (s : State) (a b c d : Nat) (e : Bool) (f : Nat) : s.Logged (s.openEntry a b c d e f) [] := by
  unfold State.openEntry
  generalize hx : EventEntry.mk _ _ _ _ _ _ _ _ _ _ _ _ = x
  dsimp only
  have h1 : s.Logged { s with ev := { s.ev.ringPut x with opened := s.ev.opened + 1, openEntries := s.ev.openEntries ++ [x] } } [] := by
    refine s.logged_ev _ (EventState.ringPut_open _ _).2 ?_
    intro y hy
    exact ⟨y, List.mem_append_left _ hy, rfl, rfl, rfl, rfl, rfl⟩
  have h2 := h1.andThen (State.logged_setU _ Obj.eventHead x.number [] (Or.inl (by decide)))
  split
  · exact (h2.andThen (State.logged_setU _ Obj.lastFaultCode _ [] (Or.inl (by decide)))).andThen (State.logged_journalAdd _ _)
  · exact h2

/-- An open entry keeps its key through a Logged step. -/
theorem State.Logged.hasKey {e t : State} {ids : List Nat} (h : e.Logged t ids) {a b d : Nat} {c : Bool}
    (hx : ∃ x ∈ e.ev.openEntries, x.hasKey a b d c = true) : ∃ y ∈ t.ev.openEntries, y.hasKey a b d c = true := by
  obtain ⟨x, hx, hk⟩ := hx
  obtain ⟨z, hz, _, h2, h3, h4, h5⟩ := h.entries x hx
  refine ⟨z, hz, ?_⟩
  unfold EventEntry.hasKey at *
  rw [h2, h3, h4, h5]
  exact hk

theorem State.openEntry_has (s : State) (a b c d : Nat) (e : Bool) (f : Nat) :
    ∃ y ∈ (s.openEntry a b c d e f).ev.openEntries, y.hasKey a b d e = true := by
  unfold State.openEntry
  dsimp only
  split
  · refine State.Logged.hasKey (State.logged_journalAdd _ _) ?_
    refine State.Logged.hasKey (State.logged_setU _ Obj.lastFaultCode _ [] (Or.inl (by decide))) ?_
    refine State.Logged.hasKey (State.logged_setU _ Obj.eventHead _ [] (Or.inl (by decide))) ?_
    exact ⟨_, List.mem_append_right _ (List.mem_singleton.mpr rfl), by simp [EventEntry.hasKey]⟩
  · refine State.Logged.hasKey (State.logged_setU _ Obj.eventHead _ [] (Or.inl (by decide))) ?_
    exact ⟨_, List.mem_append_right _ (List.mem_singleton.mpr rfl), by simp [EventEntry.hasKey]⟩

theorem State.logged_eventEnter (s : State) (a b c d : Nat) (e : Bool) : s.Logged (s.eventEnter a b c d e) [] := by
  have same : ∀ x ∈ s.ev.openEntries, ∃ y ∈ s.ev.openEntries,
    y.number = x.number ∧ y.code = x.code ∧ y.source = x.source ∧ y.data = x.data ∧ y.cleared = x.cleared :=
    fun x hx => ⟨x, hx, rfl, rfl, rfl, rfl, rfl⟩
  unfold State.eventEnter
  split
  · exact State.Logged.refl _ _
  · split
    · exact s.logged_ev _ rfl (s.ev.repeatOpen_entries _)
    · dsimp only
      split
      · refine State.Logged.andThen ?_ (State.logged_openEntry _ _ _ _ _ _ _)
        exact s.logged_ev _ rfl same
      · exact s.logged_ev _ rfl same

theorem State.logged_noteAlarm (s : State) (a b c d : Nat) : s.Logged { s with ev := s.ev.noteAlarm a b c d } [] :=
  s.logged_ev _ rfl (fun x hx => ⟨x, hx, rfl, rfl, rfl, rfl, rfl⟩)

/-- An event raised changes nothing but the log. -/
theorem State.logged_raise (s : State) (a b c d : Nat) : s.Logged (s.raise a b c d) [] :=
  (s.logged_noteAlarm a b c d).andThen (State.logged_eventEnter _ _ _ _ _ _)

/-- An event raised is told. -/
theorem State.tells_raise (s : State) (code source sev data : Nat) : s.tells (s.raise code source sev data) code source sev data := by
  unfold State.tells
  by_cases h1 : sev < s.u Obj.ringMinSeverity
  · exact Or.inl h1
  by_cases h2 : (s.bucketOf code source data false).tokens < tickHz ∧ sev ≠ 4
  · exact Or.inr (Or.inl h2)
  refine Or.inr (Or.inr ?_)
  have hb : State.bucketOf { s with ev := s.ev.noteAlarm code source sev data } code source data false = s.bucketOf code source data false := rfl
  have hr : State.u { s with ev := s.ev.noteAlarm code source sev data } Obj.ringMinSeverity = s.u Obj.ringMinSeverity := rfl
  unfold State.raise State.eventEnter
  rw [hr, if_neg h1]
  split
  · rename_i x hx
    have hk := List.find?_some hx
    have hm := List.mem_of_find?_eq_some hx
    obtain ⟨y, hy, _, h3, h4, h5, h6⟩ := (s.ev.noteAlarm code source sev data).repeatOpen_entries x.number x hm
    refine ⟨y, hy, ?_⟩
    simp only [Bool.and_eq_true] at hk
    unfold EventEntry.hasKey at *
    rw [h3, h4, h5, h6]
    exact hk.1
  · dsimp only
    rw [hb]
    have : (s.bucketOf code source data false).tokens ≥ tickHz ∨ sev = 4 := by omega
    rw [if_pos this]
    exact State.openEntry_has _ _ _ _ _ _ _

/-- What has been told stays told. -/
theorem State.tells_logged {s t t' : State} {ids : List Nat} {a b c d : Nat} (h : s.tells t a b c d) (hl : t.Logged t' ids) : s.tells t' a b c d := by
  rcases h with h | h | ⟨y, hy, hk⟩
  · exact Or.inl h
  · exact Or.inr (Or.inl h)
  · obtain ⟨z, hz, _, h2, h3, h4, h5⟩ := hl.entries y hy
    refine Or.inr (Or.inr ⟨z, hz, ?_⟩)
    unfold EventEntry.hasKey at *
    rw [h2, h3, h4, h5]
    exact hk

/-! ### Records -/

theorem State.logged_form (s : State) (a b c d e f : Nat) (x : Bytes) (g : Nat) : s.Logged (s.form a b c d e f x g) [] := by
  unfold State.form
  split
  · exact ⟨rfl, fun _ _ _ => rfl, fun _ _ => rfl, rfl, fun x hx => ⟨x, hx, rfl, rfl, rfl, rfl, rfl⟩⟩
  · exact State.Logged.refl _ _

theorem State.logged_formState (s : State) (k : Nat) (x : Bytes) : s.Logged (s.formState k x) [] := s.logged_form _ _ _ _ _ _ _ _

theorem State.logged_closeGroup (s : State) : s.Logged s.closeGroup [] := by
  unfold State.closeGroup
  split
  · exact ⟨rfl, fun _ _ _ => rfl, fun _ _ => rfl, rfl, fun x hx => ⟨x, hx, rfl, rfl, rfl, rfl, rfl⟩⟩
  · exact State.Logged.refl _ _

theorem State.logged_wantBank (s : State) (k : Nat) : s.Logged (s.wantBank k) [] := by
  unfold State.wantBank
  split
  · exact State.Logged.refl _ _
  · exact ⟨rfl, fun _ _ _ => rfl, fun _ _ => rfl, rfl, fun x hx => ⟨x, hx, rfl, rfl, rfl, rfl, rfl⟩⟩

/-! ### Alarms -/

theorem State.logged_alarmEnd (s : State) (k : Nat) : s.Logged (s.alarmEnd k) [] := by
  unfold State.alarmEnd
  split
  · exact State.Logged.refl _ _
  · refine State.Logged.andThen ?_ (State.logged_eventEnter _ _ _ _ _ _)
    exact s.logged_ev _ rfl (fun x hx => ⟨x, hx, rfl, rfl, rfl, rfl, rfl⟩)

theorem State.logged_alarmStart (s : State) (k : Nat) : s.Logged (s.alarmStart k) [] := by
  unfold State.alarmStart
  split
  · exact State.Logged.refl _ _
  · exact s.logged_ev _ rfl (fun x hx => ⟨x, hx, rfl, rfl, rfl, rfl, rfl⟩)

theorem State.logged_alertChange (s : State) (k : Nat) : s.Logged (s.alertChange k) [] := by
  have same : ∀ x ∈ s.ev.openEntries, ∃ y ∈ s.ev.openEntries,
    y.number = x.number ∧ y.code = x.code ∧ y.source = x.source ∧ y.data = x.data ∧ y.cleared = x.cleared :=
    fun x hx => ⟨x, hx, rfl, rfl, rfl, rfl, rfl⟩
  unfold State.alertChange
  dsimp only
  split
  · exact s.logged_ev _ rfl same
  · split
    · exact s.logged_ev _ rfl same
    · exact s.logged_ev _ rfl same

theorem State.logged_alarmTurn (old now : Nat) (s : State) (k : Nat) : s.Logged (State.alarmTurn old now s k) [] := by
  unfold State.alarmTurn
  split
  · exact s.logged_alarmEnd k
  · split
    · exact s.logged_alarmStart k
    · exact State.Logged.refl _ _

/-- A fold of Logged steps is Logged. -/
theorem State.logged_foldl {α : Type} (f : State → α → State) (ids : List Nat) (hf : ∀ (s : State) (x : α), s.Logged (f s x) ids) (xs : List α) (s : State) :
    s.Logged (xs.foldl f s) ids := by
  induction xs generalizing s with
  | nil => exact State.Logged.refl _ _
  | cons x xs ih => exact (hf s x).trans (ih (f s x)) (fun _ h => h) (fun _ h => h)

theorem State.logged_refreshAlarms (s : State) : s.Logged s.refreshAlarms [] := by
  unfold State.refreshAlarms
  split
  · exact State.Logged.refl _ _
  · dsimp only
    split
    · exact State.Logged.refl _ _
    · have h := ((State.logged_foldl (State.alarmTurn (s.u Obj.activeAlarms) s.alarmsNow) [] (State.logged_alarmTurn _ _) (List.range 16) s).andThen
        (State.logged_setU _ Obj.activeAlarms s.alarmsNow [] (Or.inl (by decide)))).andThen
        (State.logged_setU _ Obj.highestSeverity (highestOf s.alarmsNow) [] (Or.inl (by decide)))
      split
      · exact h.andThen (State.logged_formState _ _ _)
      · exact (h.andThen (State.logged_formState _ _ _)).andThen (State.logged_alertChange _ _)

/-! ### The end of a command -/

/-- With no Fatal event, the end of a command changes nothing but the log. -/
theorem State.logged_settle (s : State) (h : s.ev.safeWanted = none) : s.Logged s.settle [] := by
  unfold State.settle
  have h0 : s.safeIfWanted = s := by unfold State.safeIfWanted; rw [h]
  rw [h0]
  have h1 : s.Logged (if s.array.rolesDirty then ({ s with array := { s.array with rolesDirty := false } }).wantBank 7 else s) [] := by
    split
    · refine State.Logged.andThen ?_ (State.logged_wantBank _ _)
      exact ⟨rfl, fun _ _ _ => rfl, fun _ _ => rfl, rfl, fun x hx => ⟨x, hx, rfl, rfl, rfl, rfl, rfl⟩⟩
    · exact State.Logged.refl _ _
  exact (h1.andThen (State.logged_refreshAlarms _)).andThen (State.logged_closeGroup _)

/-- The queue put back. -/
theorem State.Logged.queue {e t : State} {ids : List Nat} (h : e.Logged t ids) (q : List Instr) :
    State.Logged { e with pending := q } { t with pending := q } ids := by
  refine ⟨?_, h.objects, h.stored, h.calm, h.entries⟩
  exact congrArg (fun (t : State) => { t with pending := q }) h.rest

/-- A command that raises no Fatal event ends in its effect but for the log. -/
theorem State.does_logged (s : State) (f : State → State) (h : (f s.begin).ev.safeWanted = none) :
    ∃ t, s.does f = .next t ∧ State.Logged { f s.begin with pending := s.pending } t [] :=
  ⟨_, rfl, (State.logged_settle _ h).queue _⟩

theorem State.awake_logged (s : State) (f : State → State) (hr : s.dev.state ≠ .reset) (h : (f s.begin).ev.safeWanted = none) :
    ∃ t, s.awake f = .next t ∧ State.Logged { f s.begin with pending := s.pending } t [] := by
  have hg : ∀ g : State → State, g s.begin = f s.begin →
      ∃ t, s.does g = .next t ∧ State.Logged { f s.begin with pending := s.pending } t [] := by
    intro g hg
    rw [← hg]
    exact s.does_logged g (by rw [hg]; exact h)
  exact hg _ (if_neg hr)

/-- A command whose effect is Logged from an expected state ends Logged from it. -/
theorem State.awake_ends (s : State) (f : State → State) (e : State) (ids : List Nat) (hr : s.ready)
    (he : e.ev.safeWanted = none) (hq : e.pending = s.pending) (h : e.Logged (f s.begin) ids) :
    ∃ t, s.awake f = .next t ∧ e.Logged t ids := by
  obtain ⟨t, ht, hl⟩ := s.awake_logged f hr.1 (by rw [h.safe, he])
  refine ⟨t, ht, ?_⟩
  have h2 := (h.queue s.pending).andThen hl
  rw [← hq] at h2
  exact h2

end Sys2Proof.Machine
end

