-- ==== Sys2Proof/Laws/Core.lean ====
section
/-!
SUPPORT. What every operation of the units leaves: the queue of commands, the variant, the device state, the STATE inhibit of firing and
the wish of a Fatal event for SAFE. One lemma for each operation, in the order of the machine's files; the operations that enter a state,
reset the device or raise a Fatal event are in Laws/Shut.
-/

namespace Sys2Proof.Machine

/-- What the operations of the units leave: the queue, the variant, the device state, the STATE inhibit and, where `full`, the wish of a Fatal
event for SAFE. -/
def State.core (s : State) (full : Bool) : List Instr × Variant × DevState × Option Nat × Bool :=
  (s.pending, s.variant, s.dev.state, if full then s.ev.safeWanted else none, bitOf s.fire.inhibit 0)

variable {full : Bool}

@[simp] theorem State.core_upd (b : State) (fresh live mram d time dtp grp spi e merge pair array fi charge loops scan sense may aux cal therm cams recd)
    (hd : d.state = b.dev.state) (he : full = true → EventState.safeWanted e = b.ev.safeWanted)
    (hf : bitOf (FireState.inhibit fi) 0 = bitOf b.fire.inhibit 0) :
    (State.mk b.pending fresh b.variant live mram d time dtp grp spi e merge pair array fi charge loops scan sense may aux cal therm cams recd).core full
      = b.core full := by
  cases full
  · simp [State.core, hd, hf]
  · simp [State.core, hd, he rfl, hf]

@[simp] theorem State.core_ite (c : Prop) [Decidable c] (a b : State) : (if c then a else b).core full = if c then a.core full else b.core full := by
  split <;> rfl

theorem State.core_let (v : State) (f : State → State) (k) (hv : v.core full = k) (hf : ∀ x : State, x.core full = k → (f x).core full = k) :
    (f v).core full = k := hf v hv

theorem State.core_foldl {α : Type} (f : State → α → State) (xs : List α) (s : State) (hf : ∀ (t : State) (x : α), (f t x).core full = t.core full) :
    (xs.foldl f s).core full = s.core full := by
  induction xs generalizing s with
  | nil => rfl
  | cons x xs ih => rw [List.foldl_cons, ih, hf]

@[simp] theorem EventState.ringPut_safe (ev : EventState) (e : EventEntry) : (ev.ringPut e).safeWanted = ev.safeWanted :=
  congrArg (fun x => x.1) (EventState.ringPut_open ev e).2
@[simp] theorem EventState.noteAlarm_safe (ev : EventState) (a b c d : Nat) : (ev.noteAlarm a b c d).safeWanted = ev.safeWanted := by
  unfold EventState.noteAlarm
  exact congrArg id rfl
@[simp] theorem EventState.repeatOpen_safe (ev : EventState) (n : Nat) : (ev.repeatOpen n).safeWanted = ev.safeWanted := by
  unfold EventState.repeatOpen
  exact congrArg id rfl
@[simp] theorem EventState.bucketPut_safe (ev : EventState) (b : Bucket) : (ev.bucketPut b).safeWanted = ev.safeWanted := by
  unfold EventState.bucketPut
  exact congrArg id rfl
@[simp] theorem EventState.journalRewrite_safe (ev : EventState) (n : Nat) (b : EventEntry) : (ev.journalRewrite n b).safeWanted = ev.safeWanted := by
  unfold EventState.journalRewrite
  exact congrArg id rfl

@[simp] theorem core_fst_ite {α β : Type} (c : Prop) [Decidable c] (a b : α × β) : (if c then a else b).1 = if c then a.1 else b.1 := by
  split <;> rfl
@[simp] theorem core_snd_ite {α β : Type} (c : Prop) [Decidable c] (a b : α × β) : (if c then a else b).2 = if c then a.2 else b.2 := by
  split <;> rfl
@[simp] theorem core_reply_ite (c : Prop) [Decidable c] (a b : Reply) : (if c then a else b).st = if c then a.st else b.st := by
  split <;> rfl

theorem bitOf_setBit_zero (v k : Nat) (b : Bool) (h : k ≠ 0) : bitOf (setBit v k b) 0 = bitOf v 0 := by
  obtain ⟨m, rfl⟩ : ∃ m, k = m + 1 := ⟨k - 1, by omega⟩
  have he : 2 ^ (m + 1) = 2 * 2 ^ m := by rw [Nat.pow_succ, Nat.mul_comm]
  unfold setBit bitOf
  cases b
  · simp only [Bool.false_eq_true, if_false, Nat.testBit_zero, decide_eq_decide]
    split
    · rename_i ht
      have := Nat.ge_two_pow_of_testBit ht
      omega
    · omega
  · simp only [if_true, Nat.testBit_or, Nat.testBit_two_pow]
    simp

@[simp] theorem inhScanValid_ne : inhScanValid ≠ 0 := by decide
@[simp] theorem inhSafeOff_ne : inhSafeOff ≠ 0 := by decide
@[simp] theorem inhStall_ne : inhStall ≠ 0 := by decide
@[simp] theorem inhCharge_ne : inhCharge ≠ 0 := by decide
@[simp] theorem inhBoardTemp_ne : inhBoardTemp ≠ 0 := by decide
@[simp] theorem inhSupply_ne : inhSupply ≠ 0 := by decide
@[simp] theorem inhPfail_ne : inhPfail ≠ 0 := by decide

@[simp] theorem State.put_core (s : State) (id : Nat) (bs : Bytes) : (State.put s id bs).core full = s.core full := by
  rfl

@[simp] theorem State.setU_core (s : State) (id n : Nat) : (State.setU s id n).core full = s.core full := by
  rfl

@[simp] theorem State.setI_core (s : State) (id : Nat) (n : Int) : (State.setI s id n).core full = s.core full := by
  rfl

@[simp] theorem State.setB_core (s : State) (id : Nat) (b : Bool) : (State.setB s id b).core full = s.core full := by
  rfl

@[simp] theorem State.bump_core (s : State) (id n : Nat) : (State.bump s id n).core full = s.core full := by
  unfold State.bump
  simp

@[simp] theorem State.setWord_core (s : State) (id w off n : Nat) : (State.setWord s id w off n).core full = s.core full := by
  rfl

@[simp] theorem State.bumpWord_core (s : State) (id w off n : Nat) : (State.bumpWord s id w off n).core full = s.core full := by
  unfold State.bumpWord
  simp

@[simp] theorem State.persist_core (s : State) (id : Nat) : (State.persist s id).core full = s.core full := by
  rfl

@[simp] theorem State.setStored_core (s : State) (id n : Nat) : (State.setStored s id n).core full = s.core full := by
  rfl

@[simp] theorem State.elapse_core (s : State) (n : Nat) : (State.elapse s n).core full = s.core full := by
  rfl

@[simp] theorem State.runTo_core (s : State) (tick : Nat) : (State.runTo s tick).core full = s.core full := by
  unfold State.runTo
  simp

@[simp] theorem State.runToStamp_core (s : State) (t : Stamp) : (State.runToStamp s t).core full = s.core full := by
  unfold State.runToStamp
  simp

@[simp] theorem State.draw_core (s : State) : (State.draw s).2.core full = s.core full := by
  rfl

@[simp] theorem State.form_core (s : State) (stream rtype cls source order stamp : Nat) (body : Bytes) (tag : Nat) : (State.form s stream rtype cls source order stamp body tag).core full = s.core full := by
  unfold State.form
  simp

@[simp] theorem State.formState_core (s : State) (kind : Nat) (data : Bytes) : (State.formState s kind data).core full = s.core full := by
  unfold State.formState
  simp

@[simp] theorem State.dropJournal_core (s : State) (n : Nat) : (State.dropJournal s n).core full = s.core full := by
  unfold State.dropJournal
  simp

@[simp] theorem State.journalAdd_core (s : State) (e : EventEntry) : (State.journalAdd s e).core full = s.core full := by
  unfold State.journalAdd
  simp

@[simp] theorem State.openEntry_core (s : State) (code source sev data : Nat) (cleared : Bool) (suppressed : Nat) : (State.openEntry s code source sev data cleared suppressed).core full = s.core full := by
  unfold State.openEntry
  simp

@[simp] theorem State.eventEnter_core (s : State) (code source sev data : Nat) (cleared : Bool) : (State.eventEnter s code source sev data cleared).core full = s.core full := by
  unfold State.eventEnter
  (repeat' split) <;> simp

@[simp] theorem State.raise_core (s : State) (code source sev data : Nat) : (State.raise s code source sev data).core full = s.core full := by
  unfold State.raise
  simp

@[simp] theorem State.episodeAdd_core (s : State) (stream cls reason port seq : Nat) : (State.episodeAdd s stream cls reason port seq).core full = s.core full := by
  rfl

@[simp] theorem State.formMarker_core (s : State) (e : Episode) : (State.formMarker s e).core full = s.core full := by
  unfold State.formMarker
  simp

@[simp] theorem State.pairSend_core (s : State) (kind : Nat) (payload : Bytes) : (State.pairSend s kind payload).core full = s.core full := by
  unfold State.pairSend
  simp

@[simp] theorem State.setPath_core (s : State) (p : Nat) (x : PathRec) : (State.setPath s p x).core full = s.core full := by
  rfl

@[simp] theorem State.setCluster_core (s : State) (k : Nat) (c : Cluster) : (State.setCluster s k c).core full = s.core full := by
  rfl

@[simp] theorem State.setRole_core (s : State) (p role : Nat) : (State.setRole s p role).core full = s.core full := by
  rfl

@[simp] theorem State.setMeas_core (s : State) (p : Nat) (m : PathMeas) : (State.setMeas s p m).core full = s.core full := by
  rfl

@[simp] theorem State.setPixel_core (s : State) (ch : Nat) (x : Pixel) : (State.setPixel s ch x).core full = s.core full := by
  rfl

@[simp] theorem State.setBank_core (s : State) (b : Nat) (x : Bank) : (State.setBank s b x).core full = s.core full := by
  rfl

@[simp] theorem State.tdcEdge_core (s : State) (ch p : Nat) (t : Stamp) (code : Nat) : (State.tdcEdge s ch p t code).1.core full = s.core full := by
  unfold State.tdcEdge
  simp

@[simp] theorem State.spadFire_core (s : State) (ch : Nat) (t : Stamp) (code : Nat) : (State.spadFire s ch t code).1.core full = s.core full := by
  unfold State.spadFire
  dsimp only
  (repeat' split) <;> simp

@[simp] theorem State.recordFault_core (s : State) (p code serving : Nat) : (State.recordFault s p code serving).core full = s.core full := by
  unfold State.recordFault
  simp

@[simp] theorem State.addCause_core (s : State) (k : Nat) (c : CrossCause) : (State.addCause s k c).core full = s.core full := by
  unfold State.addCause
  simp

@[simp] theorem State.channelPathFault_core (s : State) (ch code : Nat) : (State.channelPathFault s ch code).core full = s.core full := by
  unfold State.channelPathFault
  dsimp only
  (repeat' split) <;> simp

@[simp] theorem State.pathFault_core (s : State) (p code : Nat) : (State.pathFault s p code).core full = s.core full := by
  unfold State.pathFault
  (repeat' split) <;> simp

@[simp] theorem State.eccError_core (s : State) (p : Nat) (uncorrectable : Bool) : (State.eccError s p uncorrectable).core full = s.core full := by
  unfold State.eccError
  simp

@[simp] theorem State.overrunFault_core (s : State) (p : Nat) : (State.overrunFault s p).core full = s.core full := by
  unfold State.overrunFault
  simp

@[simp] theorem State.stuckFault_core (s : State) (ch : Nat) : (State.stuckFault s ch).core full = s.core full := by
  unfold State.stuckFault
  simp

@[simp] theorem State.route_core (s : State) (ch : Nat) (t : Stamp) : (State.route s ch t).core full = s.core full := by
  rfl

@[simp] theorem State.crossbar_core (s : State) (k : Nat) (c : CrossCause) (t : Stamp) : (State.crossbar s k c t).core full = s.core full := by
  unfold State.crossbar
  dsimp only
  (repeat' split) <;> simp

@[simp] theorem State.crossbarAtBoundary_core (s : State) (b : Stamp) : (State.crossbarAtBoundary s b).core full = s.core full := by
  unfold State.crossbarAtBoundary
  refine State.core_foldl _ _ _ (fun t x => ?_)
  first | rfl | (simp; done) | ((repeat' split) <;> first | rfl | (simp; done) | (dsimp only; simp; done))

@[simp] theorem State.crossbarAtSlot_core (s : State) (t : Stamp) (long : Bool) : (State.crossbarAtSlot s t long).core full = s.core full := by
  unfold State.crossbarAtSlot
  refine State.core_foldl _ _ _ (fun t x => ?_)
  split
  · simp
  · split <;> simp
  · rfl
@[simp] theorem State.settleEnd_core (s : State) (k : Nat) : (State.settleEnd s k).core full = s.core full := by
  unfold State.settleEnd
  simp

@[simp] theorem State.replaceRequest_core (s : State) (ch v : Nat) : (State.replaceRequest s ch v).2.core full = s.core full := by
  unfold State.replaceRequest
  simp

@[simp] theorem State.restoreRequest_core (s : State) (p v : Nat) : (State.restoreRequest s p v).2.core full = s.core full := by
  unfold State.restoreRequest
  simp

@[simp] theorem State.channelBoundary_core (s : State) (a : AdaptSet) (b interval : Nat) (newInterval : Bool) (ch : Nat) : (State.channelBoundary s a b interval newInterval ch).1.core full = s.core full := by
  unfold State.channelBoundary
  split <;> simp

@[simp] theorem State.channelsBoundary_core (s : State) (b interval : Nat) (newInterval : Bool) : (State.channelsBoundary s b interval newInterval).1.core full = s.core full := by
  unfold State.channelsBoundary
  dsimp only
  suffices h : ∀ (chs : List Nat) (acc : State × List Nat), (chs.foldl (fun (acc : State × List Nat) ch =>
      let r := acc.1.channelBoundary s.adaptSet b interval newInterval ch
      (r.1, if r.2 then acc.2 ++ [ch] else acc.2)) acc).1.core full = acc.1.core full from h _ _
  intro chs
  induction chs with
  | nil => intro acc; rfl
  | cons ch chs ih =>
    intro acc
    rw [List.foldl_cons, ih]
    simp
@[simp] theorem State.miss_core (s : State) (cause reason : Nat) : (State.miss s cause reason).core full = s.core full := by
  rfl

@[simp] theorem State.missMask_core (s : State) (mask reason : Nat) : (State.missMask s mask reason).core full = s.core full := by
  unfold State.missMask
  refine State.core_foldl _ _ _ (fun t x => ?_)
  first | rfl | (simp; done) | ((repeat' split) <;> first | rfl | (simp; done) | (dsimp only; simp; done))

@[simp] theorem State.ringEnter_core (s : State) (i : TrigInfo) (deadTime : Nat) (truncated : Bool) (payload : Bytes) : (State.ringEnter s i deadTime truncated payload).core full = s.core full := by
  unfold State.ringEnter
  dsimp only
  (repeat' split) <;> simp

@[simp] theorem State.ringFree_core (s : State) : (State.ringFree s).core full = s.core full := by
  rfl

@[simp] theorem State.streamDone_core (s : State) (number : Nat) : (State.streamDone s number).core full = s.core full := by
  rfl

@[simp] theorem State.recDone_core (s : State) (number : Nat) : (State.recDone s number).core full = s.core full := by
  rfl

@[simp] theorem State.setEngine_core (s : State) (e : Nat) (x : MayflyEngine) : (State.setEngine s e x).core full = s.core full := by
  rfl

@[simp] theorem State.closeCapture_core (s : State) (e : Nat) (t : Stamp) (short : Bool) : (State.closeCapture s e t short).core full = s.core full := by
  unfold State.closeCapture
  dsimp only
  (repeat' split) <;> simp

@[simp] theorem State.engineTrigger_core (s : State) (e ch : Nat) (i : TrigInfo) : (State.engineTrigger s e ch i).core full = s.core full := by
  unfold State.engineTrigger
  dsimp only
  (repeat' split) <;> simp

@[simp] theorem State.mayConv_core (s : State) (ch : Nat) (td : Stamp) : (State.mayConv s ch td).core full = s.core full := by
  unfold State.mayConv
  dsimp only
  refine (State.core_foldl _ _ _ (fun t x => ?_)).trans ?_
  all_goals first | rfl | (simp; done) | ((repeat' split) <;> first | rfl | (simp; done) | (dsimp only; simp; done))

@[simp] theorem State.segmentClose_core (s : State) (e : Nat) : (State.segmentClose s e).core full = s.core full := by
  unfold State.segmentClose
  split <;> simp

@[simp] theorem State.engineRearm_core (s : State) (e : Nat) : (State.engineRearm s e).core full = s.core full := by
  unfold State.engineRearm
  dsimp only
  (repeat' split) <;> simp

@[simp] theorem State.closeCaptures_core (s : State) (p : Nat → Capture → Bool) : (State.closeCaptures s p).core full = s.core full := by
  unfold State.closeCaptures
  refine State.core_foldl _ _ _ (fun t x => ?_)
  first | rfl | (simp; done) | ((repeat' split) <;> first | rfl | (simp; done) | (dsimp only; simp; done))

@[simp] theorem State.binTrigger_core (s : State) (ch interval : Nat) (i : TrigInfo) : (State.binTrigger s ch interval i).core full = s.core full := by
  unfold State.binTrigger
  split <;> simp

@[simp] theorem State.mayTrigger_core (s : State) (cause source : Nat) (t : Stamp) : (State.mayTrigger s cause source t).core full = s.core full := by
  unfold State.mayTrigger
  dsimp only
  repeat' (first | rfl | (simp; done) | split | (refine (State.core_foldl _ _ _ (fun _ _ => ?_)).trans ?_) | simp)

@[simp] theorem State.louvreTrigger_core (s : State) (ch interval : Nat) (t : Stamp) : (State.louvreTrigger s ch interval t).core full = s.core full := by
  unfold State.louvreTrigger
  simp

@[simp] theorem State.mantisTrigger_core (s : State) (b interval : Nat) (q : Stamp) : (State.mantisTrigger s b interval q).core full = s.core full := by
  unfold State.mantisTrigger
  dsimp only
  repeat' (first | rfl | (simp; done) | split | (refine (State.core_foldl _ _ _ (fun _ _ => ?_)).trans ?_) | simp)

@[simp] theorem State.timeTriggerMatch_core (s : State) : (State.timeTriggerMatch s).core full = s.core full := by
  unfold State.timeTriggerMatch
  simp

@[simp] theorem State.binNoData_core (s : State) (p : BinTrigger → Bool) : (State.binNoData s p).core full = s.core full := by
  unfold State.binNoData
  refine State.core_foldl _ _ _ (fun t x => ?_)
  first | rfl | (simp; done) | ((repeat' split) <;> first | rfl | (simp; done) | (dsimp only; simp; done))

@[simp] theorem State.under_core (s : State) (i : Nat) : (State.under s i).core full = s.core full := by
  unfold State.under
  split <;> simp

@[simp] theorem State.withBuf_core (s : State) (p i : Nat) (f : HistBuf → HistBuf) : (State.withBuf s p i f).core full = s.core full := by
  rfl

@[simp] theorem State.setMantis_core (s : State) (b : Nat) (x : Mantis) : (State.setMantis s b x).core full = s.core full := by
  rfl

@[simp] theorem State.mantisUpdate_core (s : State) (b columnNo : Nat) : (State.mantisUpdate s b columnNo).1.core full = s.core full := by
  unfold State.mantisUpdate
  dsimp only
  (repeat' split) <;> simp

@[simp] theorem State.addBlind_core (s : State) (p td te : Nat) : (State.addBlind s p td te).core full = s.core full := by
  unfold State.addBlind
  refine State.core_foldl _ _ _ (fun t x => ?_)
  first | rfl | (simp; done) | ((repeat' split) <;> first | rfl | (simp; done) | (dsimp only; simp; done))

@[simp] theorem State.assignShot_core (s : State) (p : Nat) (c : Conv) (j : Shot) (foreign : Bool) : (State.assignShot s p c j foreign).core full = s.core full := by
  unfold State.assignShot
  simp

@[simp] theorem State.detectionAssign_core (s : State) (p : Nat) : (State.detectionAssign s p).core full = s.core full := by
  unfold State.detectionAssign
  dsimp only
  repeat' (first | rfl | (simp; done) | split | (refine (State.core_foldl _ _ _ (fun _ _ => ?_)).trans ?_) | simp)

@[simp] theorem State.shutterOpen_core (s : State) (p slot : Nat) : (State.shutterOpen s p slot).core full = s.core full := by
  unfold State.shutterOpen
  dsimp only
  (repeat' split) <;> simp

@[simp] theorem State.shutterClose_core (s : State) (p slot : Nat) : (State.shutterClose s p slot).core full = s.core full := by
  unfold State.shutterClose
  dsimp only
  (repeat' split) <;> simp

@[simp] theorem State.zoomPlacement_core (s : State) (p : Nat) : (State.zoomPlacement s p).core full = s.core full := by
  unfold State.zoomPlacement
  dsimp only
  (repeat' split) <;> simp

@[simp] theorem State.bufferRelease_core (s : State) (p : Nat) : (State.bufferRelease s p).core full = s.core full := by
  unfold State.bufferRelease
  dsimp only
  (repeat' split) <;> simp

@[simp] theorem State.zeroTake_core (s : State) (p ch : Nat) (ps : List Peak) : (State.zeroTake s p ch ps).core full = s.core full := by
  unfold State.zeroTake
  dsimp only
  (repeat' split) <;> simp

@[simp] theorem State.binSegment_core (s : State) (p : Nat) (b : HistBuf) (ps : List Peak) (i : TrigInfo) : (State.binSegment s p b ps i).core full = s.core full := by
  unfold State.binSegment
  simp

@[simp] theorem State.zoomTrigger_core (s : State) (p : Nat) (b : HistBuf) (ps : List Peak) : (State.zoomTrigger s p b ps).core full = s.core full := by
  unfold State.zoomTrigger
  dsimp only
  (repeat' split) <;> simp

@[simp] theorem State.extractDone_core (s : State) (p : Nat) : (State.extractDone s p).core full = s.core full := by
  unfold State.extractDone
  dsimp only
  (repeat' split) <;> simp

@[simp] theorem State.columnPacketForm_core (s : State) : (State.columnPacketForm s).core full = s.core full := by
  unfold State.columnPacketForm
  split
  · rfl
  · dsimp only
    split
    · rfl
    · rw [State.binNoData_core]
      refine (State.core_upd (hd := rfl) (he := fun _ => rfl) (hf := rfl) ..).trans ?_
      refine (State.core_foldl _ _ _ (fun t b => ?_)).trans ?_
      · split
        · rfl
        · simp
      · split
        · rfl
        · refine State.core_foldl _ _ _ (fun t h => ?_)
          refine State.core_foldl _ _ _ (fun t k => ?_)
          split
          · rfl
          · simp
@[simp] theorem State.touchNotes_core (s : State) : (State.touchNotes s).core full = s.core full := by
  rfl

@[simp] theorem State.cutPulses_core (s : State) : (State.cutPulses s).core full = s.core full := by
  rfl

@[simp] theorem State.inhibitOn_core (s : State) (bit : Nat) (h : bit ≠ 0) : (State.inhibitOn s bit).core full = s.core full := by
  unfold State.inhibitOn
  split
  · rfl
  · rw [State.touchNotes_core, State.cutPulses_core]
    refine State.core_upd (b := s) (hd := rfl) (he := fun _ => rfl) (hf := ?_) ..
    exact bitOf_setBit_zero s.fire.inhibit bit true h


@[simp] theorem State.inhibitOff_core (s : State) (bit : Nat) (h : bit ≠ 0) : (State.inhibitOff s bit).core full = s.core full := by
  refine State.core_upd (b := s) (hd := rfl) (he := fun _ => rfl) (hf := ?_) ..
  exact bitOf_setBit_zero s.fire.inhibit bit false h


@[simp] theorem State.inhibitRelease_core (s : State) : (State.inhibitRelease s).core full = s.core full := by
  unfold State.inhibitRelease
  simp

@[simp] theorem State.fireflyResolve_core (s : State) (bd : Stamp) (p : Int) (newInterval : Bool) : (State.fireflyResolve s bd p newInterval).core full = s.core full := by
  unfold State.fireflyResolve
  dsimp only
  refine (State.core_foldl _ _ _ (fun t x => ?_)).trans ?_
  all_goals first | rfl | (simp; done) | ((repeat' split) <;> first | rfl | (simp; done) | (dsimp only; simp; done))

@[simp] theorem State.loadGenerators_core (s : State) : (State.loadGenerators s).core full = s.core full := by
  unfold State.loadGenerators
  refine State.core_foldl _ _ _ (fun t x => ?_)
  first | rfl | (simp; done) | ((repeat' split) <;> first | rfl | (simp; done) | (dsimp only; simp; done))

@[simp] theorem State.stopEngines_core (s : State) : (State.stopEngines s).core full = s.core full := by
  rfl

@[simp] theorem State.fillSeen_core (s : State) (w b acc : Nat) : (State.fillSeen s w b acc).core full = s.core full := by
  unfold State.fillSeen
  simp

@[simp] theorem State.govCharge_core (s : State) (b d : Nat) : (State.govCharge s b d).core full = s.core full := by
  unfold State.govCharge
  refine State.core_foldl _ _ _ (fun t x => ?_)
  first | rfl | (simp; done) | ((repeat' split) <;> first | rfl | (simp; done) | (dsimp only; simp; done))

@[simp] theorem State.govBoundary_core (s : State) (w : Nat) : (State.govBoundary s w).core full = s.core full := by
  unfold State.govBoundary
  split <;> simp

@[simp] theorem State.slotEnqueue_core (s : State) (b : Nat) : (State.slotEnqueue s b).core full = s.core full := by
  unfold State.slotEnqueue
  extract_lets x i x1 edge limit own told drop period s1 _ s2 f s0 s3 q s4
  split
  · rfl
  · have hd : ∀ t : State, (drop t).core full = t.core full := by intro t; unfold drop; simp
    split
    · exact hd s
    · split
      · simp
      · split
        · rw [State.setBank_core]
          refine (State.core_upd (b := s1) (hd := rfl) (he := fun _ => rfl) (hf := rfl) ..).trans ?_
          unfold s1
          simp
        · split
          · simp
          · have e0 : s0.core full = s.core full := by unfold s0; split <;> simp
            split
            · rw [hd, e0]
            · refine Eq.trans (b := s4.core full) ?_ ?_
              · exact State.core_upd (b := s4) (hd := rfl) (he := fun _ => rfl) (hf := rfl) ..
              unfold s4
              rw [State.setBank_core]
              unfold s3
              split
              · rw [State.govCharge_core, e0]
              · exact e0
@[simp] theorem State.fireEdge_core (s : State) (b : Nat) : (State.fireEdge s b).core full = s.core full := by
  unfold State.fireEdge
  dsimp only
  (repeat' split) <;> simp

@[simp] theorem State.opticalStart_core (s : State) (n : Nat) (a : Stamp) : (State.opticalStart s n a).core full = s.core full := by
  unfold State.opticalStart
  dsimp only
  (repeat' split) <;> simp

@[simp] theorem State.startWindowExpiry_core (s : State) (b slot : Nat) : (State.startWindowExpiry s b slot).core full = s.core full := by
  unfold State.startWindowExpiry
  dsimp only
  (repeat' split) <;> simp

@[simp] theorem State.scanValidFall_core (s : State) : (State.scanValidFall s).core full = s.core full := by
  unfold State.scanValidFall
  simp

@[simp] theorem State.scanValidRise_core (s : State) : (State.scanValidRise s).core full = s.core full := by
  unfold State.scanValidRise
  simp

@[simp] theorem State.scanvalidClear_core (s : State) : (State.scanvalidClear s).core full = s.core full := by
  unfold State.scanvalidClear
  simp

@[simp] theorem State.pfailClear_core (s : State) : (State.pfailClear s).core full = s.core full := by
  unfold State.pfailClear
  simp

@[simp] theorem State.gdrvLow_core (s : State) : (State.gdrvLow s).core full = s.core full := by
  rfl

@[simp] theorem State.gdrvStart_core (s : State) : (State.gdrvStart s).core full = s.core full := by
  unfold State.gdrvStart
  simp

@[simp] theorem State.setpointUpdate_core (s : State) (columnNo : Nat) : (State.setpointUpdate s columnNo).core full = s.core full := by
  unfold State.setpointUpdate
  simp

@[simp] theorem State.derateUpdate_core (s : State) : (State.derateUpdate s).core full = s.core full := by
  rfl

@[simp] theorem State.headroomHold_core (s : State) (b : Nat) : (State.headroomHold s b).core full = s.core full := by
  unfold State.headroomHold
  dsimp only
  split
  · rfl
  · split
    · rfl
    · refine (State.core_upd (hd := rfl) (he := fun _ => rfl) (hf := rfl) ..).trans ?_
      simp
@[simp] theorem State.headroomResult_core (s : State) (b v code : Nat) : (State.headroomResult s b v code).core full = s.core full := by
  rfl

@[simp] theorem State.vchgResult_core (s : State) (code : Nat) : (State.vchgResult s code).core full = s.core full := by
  rfl

@[simp] theorem State.dischargeTimeout_core (s : State) : (State.dischargeTimeout s).core full = s.core full := by
  unfold State.dischargeTimeout
  split <;> simp

@[simp] theorem State.csCycle_core (s : State) (byLimit : Bool) : (State.csCycle s byLimit).core full = s.core full := by
  unfold State.csCycle
  simp

@[simp] theorem State.chainInput_core (s : State) (n : Nat) (x : Int) (fill ovr : Bool) (t : Stamp) : (State.chainInput s n x fill ovr t).core full = s.core full := by
  unfold State.chainInput
  dsimp only
  (repeat' split) <;> simp

@[simp] theorem State.countSource_core (s : State) (src : Nat) : (State.countSource s src).core full = s.core full := by
  rfl

@[simp] theorem State.storeResult_core (s : State) (src : Nat) (code : Int) (ovr : Bool) : (State.storeResult s src code ovr).core full = s.core full := by
  unfold State.storeResult
  simp

@[simp] theorem State.setConv_core (s : State) (c : Nat) (x : Converter) : (State.setConv s c x).core full = s.core full := by
  rfl

@[simp] theorem State.countDiscard_core (s : State) (c : Nat) : (State.countDiscard s c).core full = s.core full := by
  rfl

@[simp] theorem State.wantDiscard_core (s : State) (c : Nat) (ovr : Bool) : (State.wantDiscard s c ovr).core full = s.core full := by
  unfold State.wantDiscard
  simp

@[simp] theorem State.syncCause_core (s : State) (mask : Nat) : (State.syncCause s mask).core full = s.core full := by
  unfold State.syncCause
  refine State.core_foldl _ _ _ (fun t x => ?_)
  first | rfl | (simp; done) | ((repeat' split) <;> first | rfl | (simp; done) | (dsimp only; simp; done))

@[simp] theorem State.syncReset_core (s : State) (c : Nat) : (State.syncReset s c).core full = s.core full := by
  unfold State.syncReset
  dsimp only
  (repeat' split) <;> simp

@[simp] theorem State.conversionSlot_core (s0 : State) (c : Nat) (x : Sample) : (State.conversionSlot s0 c x).core full = s0.core full := by
  unfold State.conversionSlot
  dsimp only
  (repeat' split) <;> simp

@[simp] theorem State.chainSync_core (s : State) (v : Nat) : (State.chainSync s v).2.core full = s.core full := by
  unfold State.chainSync
  simp

@[simp] theorem State.wcRearm_core (s : State) (n : Nat) : (State.wcRearm s n).core full = s.core full := by
  rfl

@[simp] theorem State.setLoop_core (s : State) (n : Nat) (l : Loop) : (State.setLoop s n l).core full = s.core full := by
  rfl

@[simp] theorem State.setMode_core (s : State) (n : Nat) (m : LoopMode) : (State.setMode s n m).core full = s.core full := by
  unfold State.setMode
  simp

@[simp] theorem State.biasUpdate_core (s : State) : (State.biasUpdate s).core full = s.core full := by
  unfold State.biasUpdate
  dsimp only
  repeat' (first | rfl | (simp; done) | split | (refine (State.core_foldl _ _ _ (fun _ _ => ?_)).trans ?_) | simp)

@[simp] theorem State.scanValidDrive_core (s : State) : (State.scanValidDrive s).core full = s.core full := by
  unfold State.scanValidDrive
  simp

@[simp] theorem State.chargeInhibit_core (s : State) : (State.chargeInhibit s).core full = s.core full := by
  unfold State.chargeInhibit
  simp

@[simp] theorem State.codeOf_core (s : State) (u lo hi : Fl) : (State.codeOf s u lo hi).2.core full = s.core full := by
  unfold State.codeOf
  split <;> simp

@[simp] theorem State.hingeIn_core (s : State) (n : Nat) (ok : Bool) (t : Stamp) : (State.hingeIn s n ok t).core full = s.core full := by
  unfold State.hingeIn
  simp

@[simp] theorem State.loopsFollow_core (s : State) (kept : Bool) : (State.loopsFollow s kept).core full = s.core full := by
  unfold State.loopsFollow
  extract_lets ms enters s0 s1 m0 _ s2
  have e0 : s0.core full = s.core full := by unfold s0; split <;> simp
  have e1 : s1.core full = s.core full := (State.core_foldl _ _ _ (fun t k => State.setMode_core t _ _)).trans e0
  have e2 : s2.core full = s.core full := by
    unfold s2
    split
    · exact e1
    · exact (State.core_upd (b := s1) (hd := rfl) (he := fun _ => rfl) (hf := rfl) ..).trans e1
  rw [State.chargeInhibit_core, State.scanValidDrive_core, e2]
@[simp] theorem State.trackEdge_core (s : State) (input : Nat) (t : Stamp) (blind : Bool) : (State.trackEdge s input t blind).core full = s.core full := by
  unfold State.trackEdge
  dsimp only
  (repeat' split) <;> simp

@[simp] theorem State.converterSlot_core (s : State) (c : Nat) (x : Sample) : (State.converterSlot s c x).core full = s.core full := by
  unfold State.converterSlot
  simp

@[simp] theorem State.transomSlot_core (s : State) : (State.transomSlot s).core full = s.core full := by
  unfold State.transomSlot
  split <;> simp

@[simp] theorem State.clearSums_core (s : State) : (State.clearSums s).core full = s.core full := by
  rfl

@[simp] theorem State.openColumn_core (s : State) (b : Bdy) : (State.openColumn s b).1.core full = s.core full := by
  unfold State.openColumn
  simp

@[simp] theorem State.mantisAll_core (s : State) (interval : Nat) : (State.mantisAll s interval).core full = s.core full := by
  unfold State.mantisAll
  dsimp only
  refine (State.core_foldl _ _ _ (fun t x => ?_)).trans ?_
  all_goals first | rfl | (simp; done) | ((repeat' split) <;> first | rfl | (simp; done) | (dsimp only; simp; done))

@[simp] theorem State.unitsAtBoundary_core (s : State) (b : Bdy) : (State.unitsAtBoundary s b).core full = s.core full := by
  unfold State.unitsAtBoundary
  extract_lets was old s0 span fresh c s1 s2 s3
  have e0 : s0.core full = s.core full := by unfold s0; split <;> simp
  have e1 : s1.core full = s.core full := by
    unfold s1 c
    split
    · rw [State.mantisAll_core]
      refine (State.core_foldl _ _ _ (fun t ch => ?_)).trans ?_
      · simp
      · rw [State.channelsBoundary_core, e0]
    · rw [State.channelsBoundary_core, e0]
  have e3 : s3.core full = s.core full := by
    unfold s3
    split
    · rw [State.inhibitRelease_core, State.crossbarAtBoundary_core, e1]
    · rw [State.crossbarAtBoundary_core, e1]
  have e4 := State.openColumn_core (full := full) s3 b
  generalize s3.openColumn b = r at e4 ⊢
  obtain ⟨s4, n⟩ := r
  dsimp only at e4 ⊢
  split
  · rw [State.fireflyResolve_core, State.derateUpdate_core, State.setpointUpdate_core, e4, e3]
  · rw [State.derateUpdate_core, State.setpointUpdate_core, e4, e3]
@[simp] theorem State.service_core (s : State) (port level : Nat) (frame : Bytes) : (State.service s port level frame).core full = s.core full := by
  unfold State.service
  simp

@[simp] theorem State.ptpSend_core (s : State) (port : Nat) (event : Bool) (msg : Bytes) : (State.ptpSend s port event msg).core full = s.core full := by
  unfold State.ptpSend
  simp

@[simp] theorem State.arpSend_core (s : State) (port dst op tmac tip : Nat) : (State.arpSend s port dst op tmac tip).core full = s.core full := by
  unfold State.arpSend
  simp

@[simp] theorem State.arpGratuitous_core (s : State) (port : Nat) : (State.arpGratuitous s port).core full = s.core full := by
  unfold State.arpGratuitous
  simp

@[simp] theorem State.arpAsk_core (s : State) (port ip : Nat) : (State.arpAsk s port ip).core full = s.core full := by
  unfold State.arpAsk
  simp

@[simp] theorem State.igmpReport_core (s : State) (port group : Nat) : (State.igmpReport s port group).core full = s.core full := by
  unfold State.igmpReport
  simp

@[simp] theorem State.igmpReports_core (s : State) (port : Nat) : (State.igmpReports s port).core full = s.core full := by
  unfold State.igmpReports
  refine State.core_foldl _ _ _ (fun t x => ?_)
  first | rfl | (simp; done) | ((repeat' split) <;> first | rfl | (simp; done) | (dsimp only; simp; done))

@[simp] theorem State.dhcpSend_core (s : State) (kind : Nat) (ask server : Option Nat) (unicast : Bool) : (State.dhcpSend s kind ask server unicast).core full = s.core full := by
  unfold State.dhcpSend
  split <;> simp

@[simp] theorem State.setServo_core (s : State) (k : Nat) : (State.setServo s k).core full = s.core full := by
  rfl

@[simp] theorem State.enterAcquire_core (s : State) : (State.enterAcquire s).core full = s.core full := by
  rfl

@[simp] theorem State.enterHoldover_core (s : State) : (State.enterHoldover s).core full = s.core full := by
  rfl

@[simp] theorem State.enterRequalify_core (s : State) (data : Nat) : (State.enterRequalify s data).core full = s.core full := by
  unfold State.enterRequalify
  simp

@[simp] theorem State.anchorAll_core (s : State) (native : Nat) (step : Option Int) : (State.anchorAll s native step).core full = s.core full := by
  unfold State.anchorAll
  refine State.core_foldl _ _ _ (fun t x => ?_)
  first | rfl | (simp; done) | ((repeat' split) <;> first | rfl | (simp; done) | (dsimp only; simp; done))

@[simp] theorem State.anchorInstant_core (s : State) : (State.anchorInstant s).core full = s.core full := by
  unfold State.anchorInstant
  simp

@[simp] theorem State.moveTimes_core (s : State) (amount : Int) : (State.moveTimes s amount).core full = s.core full := by
  rfl

@[simp] theorem State.launchLate_core (s : State) (port cls : Nat) : (State.launchLate s port cls).core full = s.core full := by
  rfl

@[simp] theorem State.launchesPassed_core (s : State) (old : Nat) : (State.launchesPassed s old).core full = s.core full := by
  unfold State.launchesPassed
  dsimp only
  repeat' (first | rfl | (simp; done) | split | (refine (State.core_foldl _ _ _ (fun _ _ => ?_)).trans ?_) | simp)

@[simp] theorem State.stepTime_core (s : State) (amount : Int) : (State.stepTime s amount).core full = s.core full := by
  unfold State.stepTime
  simp

@[simp] theorem State.applyOffset_core (s : State) (o : Int) : (State.applyOffset s o).core full = s.core full := by
  unfold State.applyOffset
  simp

@[simp] theorem State.servoOffset_core (s : State) (o : Int) : (State.servoOffset s o).core full = s.core full := by
  unfold State.servoOffset
  (repeat' split) <;> simp

@[simp] theorem State.setDelays_core (s : State) (xs : List Int) : (State.setDelays s xs).core full = s.core full := by
  rfl

@[simp] theorem State.delayMeasured_core (s : State) (m : Int) : (State.delayMeasured s m).core full = s.core full := by
  unfold State.delayMeasured
  simp

@[simp] theorem State.timeSet_core (s : State) (sec ns : Nat) : (State.timeSet s sec ns).2.core full = s.core full := by
  unfold State.timeSet
  simp

@[simp] theorem State.timeAdjust_core (s : State) (d : Int) : (State.timeAdjust s d).2.core full = s.core full := by
  unfold State.timeAdjust
  simp

@[simp] theorem State.incrementSet_core (s : State) (v : Nat) : (State.incrementSet s v).2.core full = s.core full := by
  unfold State.incrementSet
  simp

@[simp] theorem State.ptpIgnore_core (s : State) : (State.ptpIgnore s).core full = s.core full := by
  rfl

@[simp] theorem State.ptpAnnounce_core (s : State) (m : PtpAnnounceMsg) : (State.ptpAnnounce s m).core full = s.core full := by
  unfold State.ptpAnnounce
  (repeat' split) <;> simp

@[simp] theorem State.ptpSync_core (s : State) (m : PtpSyncMsg) : (State.ptpSync s m).core full = s.core full := by
  unfold State.ptpSync
  simp

@[simp] theorem State.ptpDelayReqSend_core (s : State) : (State.ptpDelayReqSend s).core full = s.core full := by
  unfold State.ptpDelayReqSend
  simp

@[simp] theorem State.ptpDelay_core (s : State) (m : PtpDelayMsg) : (State.ptpDelay s m).core full = s.core full := by
  unfold State.ptpDelay
  simp

@[simp] theorem State.ptpPdelayReq_core (s : State) (m : PtpPdelayReqMsg) : (State.ptpPdelayReq s m).core full = s.core full := by
  unfold State.ptpPdelayReq
  simp

@[simp] theorem State.ptpLost_core (s : State) : (State.ptpLost s).core full = s.core full := by
  unfold State.ptpLost
  simp

@[simp] theorem State.ptpSourceLost_core (s : State) : (State.ptpSourceLost s).core full = s.core full := by
  unfold State.ptpSourceLost
  split <;> simp

@[simp] theorem State.ppsEdge_core (s : State) (native : Nat) : (State.ppsEdge s native).core full = s.core full := by
  unfold State.ppsEdge
  simp

@[simp] theorem State.ppsInEdge_core (s : State) (t : Stamp) : (State.ppsInEdge s t).core full = s.core full := by
  unfold State.ppsInEdge
  simp

@[simp] theorem State.ppsSourceLost_core (s : State) : (State.ppsSourceLost s).core full = s.core full := by
  unfold State.ppsSourceLost
  split <;> simp

@[simp] theorem State.ppsOutRise_core (s : State) : (State.ppsOutRise s).core full = s.core full := by
  unfold State.ppsOutRise
  simp

@[simp] theorem State.ppsOutFall_core (s : State) : (State.ppsOutFall s).core full = s.core full := by
  unfold State.ppsOutFall
  simp

@[simp] theorem State.setAux_core (s : State) (n : Nat) (x : AuxInput) : (State.setAux s n x).core full = s.core full := by
  rfl

@[simp] theorem State.intervalResult_core (s : State) (start : Stamp) (lsb : Int) (blind : Bool) : (State.intervalResult s start lsb blind).core full = s.core full := by
  rfl

@[simp] theorem State.intervalDecide_core (s : State) : (State.intervalDecide s).core full = s.core full := by
  unfold State.intervalDecide
  dsimp only
  (repeat' split) <;> simp

@[simp] theorem State.unpairedStop_core (s : State) : (State.unpairedStop s).core full = s.core full := by
  unfold State.unpairedStop
  split <;> simp

@[simp] theorem State.intervalNoStop_core (s : State) : (State.intervalNoStop s).core full = s.core full := by
  unfold State.intervalNoStop
  (repeat' split) <;> simp

@[simp] theorem State.intervalEdge_core (s : State) (n : Nat) (rising : Bool) (stamp : Option Stamp) : (State.intervalEdge s n rising stamp).core full = s.core full := by
  unfold State.intervalEdge
  (repeat' split) <;> simp

@[simp] theorem State.intervalClear_core (s : State) : (State.intervalClear s).core full = s.core full := by
  rfl

@[simp] theorem State.gateTurn_core (s : State) (n startNs : Nat) : (State.gateTurn s n startNs).core full = s.core full := by
  rfl

@[simp] theorem State.freqGateEnd_core (s : State) (n : Nat) : (State.freqGateEnd s n).core full = s.core full := by
  unfold State.freqGateEnd
  simp

@[simp] theorem State.freqEdge_core (s : State) (n : Nat) (ns : Nat) (stamp : Option Stamp) : (State.freqEdge s n ns stamp).core full = s.core full := by
  unfold State.freqEdge
  dsimp only
  (repeat' split) <;> simp

@[simp] theorem State.scaleGate_core (s : State) (present : Bool) (offsetPpb : Int) (stored : Option Int) : (State.scaleGate s present offsetPpb stored).core full = s.core full := by
  rfl

@[simp] theorem State.freqFitDone_core (s : State) (n : Nat) (stored : Option Int) : (State.freqFitDone s n stored).core full = s.core full := by
  unfold State.freqFitDone
  dsimp only
  (repeat' split) <;> simp

@[simp] theorem State.auxEdge_core (s : State) (n : Nat) (rising : Bool) (t : Stamp) (code : Nat) : (State.auxEdge s n rising t code).core full = s.core full := by
  unfold State.auxEdge
  dsimp only
  (repeat' split) <;> simp

@[simp] theorem State.setCal_core (s : State) (c : CalState) : (State.setCal s c).core full = s.core full := by
  rfl

@[simp] theorem State.makeDue_core (s : State) (r : Nat) : (State.makeDue s r).core full = s.core full := by
  unfold State.makeDue
  simp

@[simp] theorem State.calRequest_core (s : State) (mask : Nat) : (State.calRequest s mask).2.core full = s.core full := by
  unfold State.calRequest
  repeat' (first | rfl | (simp; done) | split | (refine (State.core_foldl _ _ _ (fun _ _ => ?_)).trans ?_) | simp)

@[simp] theorem State.regionRunStart_core (s : State) (r : Nat) : (State.regionRunStart s r).core full = s.core full := by
  unfold State.regionRunStart
  simp

@[simp] theorem State.setRun_core (s : State) (p : Nat) (x : CalRun) : (State.setRun s p x).core full = s.core full := by
  rfl

@[simp] theorem State.dropRun_core (s : State) (p : Nat) : (State.dropRun s p).core full = s.core full := by
  rfl

@[simp] theorem State.calBegin_core (s : State) : (State.calBegin s).core full = s.core full := by
  unfold State.calBegin
  refine State.core_foldl _ _ _ (fun t x => ?_)
  first | rfl | (simp; done) | ((repeat' split) <;> first | rfl | (simp; done) | (dsimp only; simp; done))

@[simp] theorem State.regionFinish_core (s : State) (r : Nat) : (State.regionFinish s r).core full = s.core full := by
  unfold State.regionFinish
  simp

@[simp] theorem State.calNext_core (s : State) (p : Nat) : (State.calNext s p).core full = s.core full := by
  unfold State.calNext
  simp

@[simp] theorem State.wantBank_core (s : State) (cause : Nat) : (State.wantBank s cause).core full = s.core full := by
  unfold State.wantBank
  simp

@[simp] theorem State.applyResult_core (s : State) (r : CalResult) : (State.applyResult s r).core full = s.core full := by
  unfold State.applyResult
  simp

@[simp] theorem State.installBank_core (s : State) (b : CalBank) : (State.installBank s b).core full = s.core full := by
  rfl

@[simp] theorem State.bankWrite_core (s : State) : (State.bankWrite s).core full = s.core full := by
  unfold State.bankWrite
  split <;> simp

@[simp] theorem State.resultsStored_core (s : State) : (State.resultsStored s).core full = s.core full := by
  unfold State.resultsStored
  refine State.core_foldl _ _ _ (fun t x => ?_)
  first | rfl | (simp; done) | ((repeat' split) <;> first | rfl | (simp; done) | (dsimp only; simp; done))

@[simp] theorem State.bankWriteDone_core (s : State) (ok : Bool) : (State.bankWriteDone s ok).core full = s.core full := by
  unfold State.bankWriteDone
  split <;> simp

@[simp] theorem State.loadBank_core (s : State) (b : CalBank) : (State.loadBank s b).core full = s.core full := by
  unfold State.loadBank
  dsimp only
  repeat' (first | rfl | (simp; done) | split | (refine (State.core_foldl _ _ _ (fun _ _ => ?_)).trans ?_) | simp)

@[simp] theorem State.calBankImport_core (s : State) (bs : Bytes) : (State.calBankImport s bs).2.core full = s.core full := by
  unfold State.calBankImport
  simp

@[simp] theorem State.runFailed_core (s : State) (p : Nat) (x : CalRun) : (State.runFailed s p x).core full = s.core full := by
  unfold State.runFailed
  simp

@[simp] theorem State.passComplete_core (s : State) (p : Nat) (counts : List Nat) : (State.passComplete s p counts).core full = s.core full := by
  unfold State.passComplete
  dsimp only
  (repeat' split) <;> simp

@[simp] theorem State.deferTimeout_core (s : State) (p : Nat) : (State.deferTimeout s p).core full = s.core full := by
  unfold State.deferTimeout
  split <;> simp

@[simp] theorem State.calAtSlot_core (s : State) (t : Stamp) (long : Bool) : (State.calAtSlot s t long).core full = s.core full := by
  unfold State.calAtSlot
  dsimp only
  repeat' (first | rfl | (simp; done) | split | (refine (State.core_foldl _ _ _ (fun _ _ => ?_)).trans ?_) | simp)

@[simp] theorem State.standinReturn_core (s : State) (k : Nat) : (State.standinReturn s k).core full = s.core full := by
  unfold State.standinReturn
  split <;> simp

@[simp] theorem State.calHalt_core (s : State) : (State.calHalt s).core full = s.core full := by
  unfold State.calHalt
  refine State.core_foldl _ _ _ (fun t x => ?_)
  first | rfl | (simp; done) | ((repeat' split) <;> first | rfl | (simp; done) | (dsimp only; simp; done))

@[simp] theorem State.inputInterval_core (s : State) : (State.inputInterval s).core full = s.core full := by
  unfold State.inputInterval
  split <;> simp

@[simp] theorem State.inputTempDue_core (s : State) : (State.inputTempDue s).core full = s.core full := by
  rfl

@[simp] theorem State.fullCalStart_core (s : State) : (State.fullCalStart s).core full = s.core full := by
  unfold State.fullCalStart
  simp

@[simp] theorem State.fullCalDrop_core (s : State) : (State.fullCalDrop s).core full = s.core full := by
  rfl

@[simp] theorem State.fullCalDone_core (s : State) : (State.fullCalDone s).core full = s.core full := by
  unfold State.fullCalDone
  dsimp only
  split
  · simp
  · refine (State.core_foldl _ _ _ (fun t p => ?_)).trans ?_
    · split
      · simp
      · split <;> simp
    · refine (State.core_upd (hd := rfl) (he := fun _ => rfl) (hf := rfl) ..).trans ?_
      simp only [State.fullCalDrop_core, State.setU_core, State.put_core, State.installBank_core, State.setCal_core]
      refine (State.core_foldl _ _ _ (fun t p => ?_)).trans ?_
      · simp
      · simp
@[simp] theorem State.zeroHand_core (s : State) (pos : Nat) : (State.zeroHand s pos).core full = s.core full := by
  unfold State.zeroHand
  refine State.core_foldl _ _ _ (fun t x => ?_)
  first | rfl | (simp; done) | ((repeat' split) <;> first | rfl | (simp; done) | (dsimp only; simp; done))

@[simp] theorem State.zeroAbort_core (s : State) : (State.zeroAbort s).core full = s.core full := by
  unfold State.zeroAbort
  simp

@[simp] theorem State.zeroRun_core (s : State) (v : Nat) : (State.zeroRun s v).2.core full = s.core full := by
  unfold State.zeroRun
  split
  · simp
  · split
    · rfl
    · split
      · rfl
      · dsimp only
        split
        · rw [State.zeroHand_core, State.put_core, State.setU_core, State.setCal_core]
        · rw [State.put_core, State.setU_core, State.setCal_core]
@[simp] theorem State.zeroRunDone_core (s : State) : (State.zeroRunDone s).core full = s.core full := by
  unfold State.zeroRunDone
  dsimp only
  repeat' (first | rfl | (simp; done) | split | (refine (State.core_foldl _ _ _ (fun _ _ => ?_)).trans ?_) | simp)

@[simp] theorem State.zeroApply_core (s : State) (v : Nat) : (State.zeroApply s v).2.core full = s.core full := by
  unfold State.zeroApply
  split
  · rfl
  · split
    · rfl
    · split
      · rfl
      · dsimp only
        rw [State.wantBank_core]
        refine State.core_foldl _ _ _ (fun t key => ?_)
        split
        · split
          · exact State.setWord_core _ _ _ _ _
          · exact State.setI_core _ _ _
        · exact State.setWord_core _ _ _ _ _
@[simp] theorem State.setSensor_core (s : State) (k : Nat) (x : Sensor) : (State.setSensor s k x).core full = s.core full := by
  rfl

@[simp] theorem State.report_core (s : State) (k : Nat) (t : Int) : (State.report s k t).core full = s.core full := by
  unfold State.report
  simp

@[simp] theorem State.throttleSeen_core (s : State) : (State.throttleSeen s).core full = s.core full := by
  rfl

@[simp] theorem State.throttleApply_core (s : State) : (State.throttleApply s).core full = s.core full := by
  rfl

@[simp] theorem State.setStep_core (s : State) (k n : Nat) : (State.setStep s k n).core full = s.core full := by
  unfold State.setStep
  dsimp only
  repeat' (first | rfl | (simp; done) | split | (refine (State.core_foldl _ _ _ (fun _ _ => ?_)).trans ?_) | simp)

@[simp] theorem State.setThrottle_core (s : State) (k : Nat) (x : Throttle) : (State.setThrottle s k x).core full = s.core full := by
  rfl

@[simp] theorem State.rise_core (s : State) (k : Nat) : (State.rise s k).core full = s.core full := by
  unfold State.rise
  simp

@[simp] theorem State.coolFollow_core (s : State) : (State.coolFollow s).core full = s.core full := by
  unfold State.coolFollow
  simp

@[simp] theorem State.tjsafeRelease_core (s : State) : (State.tjsafeRelease s).core full = s.core full := by
  unfold State.tjsafeRelease
  split <;> simp

@[simp] theorem State.regionRateStep_core (s : State) (r : Nat) (t : Int) : (State.regionRateStep s r t).core full = s.core full := by
  unfold State.regionRateStep
  dsimp only
  (repeat' split) <;> simp

@[simp] theorem State.boardRise_core (s : State) : (State.boardRise s).core full = s.core full := by
  unfold State.boardRise
  split <;> simp

@[simp] theorem State.logicFollow_core (s : State) : (State.logicFollow s).core full = s.core full := by
  unfold State.logicFollow
  simp

@[simp] theorem State.bandFollow_core (s : State) (r : Nat) (t : Int) (plain : Bool) : (State.bandFollow s r t plain).core full = s.core full := by
  unfold State.bandFollow
  simp

@[simp] theorem State.demandServed_core (s : State) (c src : Nat) (code : Int) (ovr : Bool) : (State.demandServed s c src code ovr).core full = s.core full := by
  unfold State.demandServed
  dsimp only
  (repeat' split) <;> simp

@[simp] theorem State.demand_core (s : State) (rank : Nat) (ks : List Nat) : (State.demand s rank ks).core full = s.core full := by
  unfold State.demand
  refine State.core_foldl _ _ _ (fun t x => ?_)
  first | rfl | (simp; done) | ((repeat' split) <;> first | rfl | (simp; done) | (dsimp only; simp; done))

@[simp] theorem State.tempDemandWrite_core (s : State) (mask : Nat) : (State.tempDemandWrite s mask).2.core full = s.core full := by
  unfold State.tempDemandWrite
  simp

@[simp] theorem State.housekeepDemand_core (s : State) : (State.housekeepDemand s).core full = s.core full := by
  unfold State.housekeepDemand
  simp

@[simp] theorem State.thermalDemand_core (s : State) (c : Nat) : (State.thermalDemand s c).core full = s.core full := by
  unfold State.thermalDemand
  simp

@[simp] theorem State.throttleDwell_core (s : State) (k : Nat) : (State.throttleDwell s k).core full = s.core full := by
  unfold State.throttleDwell
  (repeat' split) <;> simp

@[simp] theorem State.throttleRelease_core (s : State) (k : Nat) : (State.throttleRelease s k).core full = s.core full := by
  unfold State.throttleRelease
  split <;> simp

@[simp] theorem State.setStream_core (s : State) (k : Nat) (x : StreamState) : (State.setStream s k x).core full = s.core full := by
  rfl

@[simp] theorem State.setPort_core (s : State) (p : Nat) (x : PortState) : (State.setPort s p x).core full = s.core full := by
  rfl

@[simp] theorem State.resolve_core (s : State) (port ip : Nat) : (State.resolve s port ip).core full = s.core full := by
  unfold State.resolve
  simp

@[simp] theorem State.resolveStream_core (s : State) (k : Nat) : (State.resolveStream s k).core full = s.core full := by
  unfold State.resolveStream
  split <;> simp

@[simp] theorem State.setIpNow_core (s : State) (ip : Nat) : (State.setIpNow s ip).core full = s.core full := by
  unfold State.setIpNow
  simp

@[simp] theorem State.countClass_core (s : State) (p c k : Nat) : (State.countClass s p c k).core full = s.core full := by
  unfold State.countClass
  simp

@[simp] theorem State.recordDone_core (s : State) (stream tag : Nat) : (State.recordDone s stream tag).core full = s.core full := by
  unfold State.recordDone
  simp

@[simp] theorem State.refuse_core (s : State) (port : Nat) (q : Queued) (reason : Nat) : (State.refuse s port q reason).core full = s.core full := by
  unfold State.refuse
  simp

@[simp] theorem State.liftBar_core (s : State) (p : Nat) : (State.liftBar s p).core full = s.core full := by
  unfold State.liftBar
  simp

@[simp] theorem State.refuseAll_core (s : State) (p reason : Nat) (pick : Queued → Bool) : (State.refuseAll s p reason pick).core full = s.core full := by
  unfold State.refuseAll
  refine State.core_foldl _ _ _ (fun t x => ?_)
  first | rfl | (simp; done) | ((repeat' split) <;> first | rfl | (simp; done) | (dsimp only; simp; done))

@[simp] theorem State.enqueue_core (s : State) (p : Nat) (q : Queued) : (State.enqueue s p q).core full = s.core full := by
  unfold State.enqueue
  simp

@[simp] theorem State.stampLate_core (s : State) (k : Nat) : (State.stampLate s k).core full = s.core full := by
  unfold State.stampLate
  refine State.core_foldl _ _ _ (fun t x => ?_)
  first | rfl | (simp; done) | ((repeat' split) <;> first | rfl | (simp; done) | (dsimp only; simp; done))

theorem State.makeRoom_core (s : State) (p need n : Nat) : (s.makeRoom p need n).core full = s.core full := by
  induction n generalizing s with
  | zero => rfl
  | succ n ih =>
    unfold State.makeRoom
    extract_lets x
    split
    · rfl
    · split
      · rfl
      · rw [ih, State.refuseAll_core]

@[simp] theorem State.takeRecord_core (s : State) (d : Draft) (seq ordinal : Nat) : (State.takeRecord s d seq ordinal).core full = s.core full := by
  unfold State.takeRecord
  extract_lets st p delay launch late q s0 s1 broken s2 s3
  have e1 : s1.core full = s.core full := by
    unfold s1 s0
    split
    · rw [State.stampLate_core, State.setStream_core, State.countClass_core]
    · rw [State.countClass_core]
  have e2 : s2.core full = s.core full := by
    unfold s2
    split
    · rw [State.makeRoom_core, e1]
    · exact e1
  have e3 : s3.core full = s.core full := by unfold s3; rw [State.enqueue_core, e2]
  split
  · rw [State.refuse_core, e1]
  · split
    · rw [State.refuse_core, e1]
    · split
      · rw [State.refuse_core, e2]
      · split
        · exact e3
        · split
          · rw [State.launchLate_core, State.launchLate_core, e3]
          · rw [State.launchLate_core, e3]

@[simp] theorem State.takeSeq_core (s : State) (k : Nat) : (State.takeSeq s k).2.core full = s.core full := by
  rfl

@[simp] theorem State.enterBatch_core (s : State) (ds : List Draft) : (State.enterBatch s ds).core full = s.core full := by
  unfold State.enterBatch
  refine State.core_foldl _ _ _ (fun t x => ?_)
  first | rfl | (simp; done) | ((repeat' split) <;> first | rfl | (simp; done) | (dsimp only; simp; done))

@[simp] theorem State.mergeEntry_core (s : State) : (State.mergeEntry s).core full = s.core full := by
  unfold State.mergeEntry
  split <;> simp

@[simp] theorem State.heldTaken_core (s : State) (k tag : Nat) : (State.heldTaken s k tag).core full = s.core full := by
  unfold State.heldTaken
  simp

@[simp] theorem State.holdingOffer_core (s : State) (k : Nat) : (State.holdingOffer s k).core full = s.core full := by
  unfold State.holdingOffer
  split <;> simp

@[simp] theorem State.markersAtStart_core (s : State) (k p : Nat) : (State.markersAtStart s k p).core full = s.core full := by
  unfold State.markersAtStart
  refine State.core_foldl _ _ _ (fun t x => ?_)
  first | rfl | (simp; done) | ((repeat' split) <;> first | rfl | (simp; done) | (dsimp only; simp; done))

@[simp] theorem State.startRecord_core (s : State) (p : Nat) (q : Queued) : (State.startRecord s p q).core full = s.core full := by
  unfold State.startRecord
  simp

@[simp] theorem State.startService_core (s : State) (p : Nat) (f : ServiceFrame) : (State.startService s p f).core full = s.core full := by
  rfl

@[simp] theorem State.frameTxStart_core (s : State) (p : Nat) : (State.frameTxStart s p).core full = s.core full := by
  unfold State.frameTxStart
  dsimp only
  (repeat' split) <;> simp

@[simp] theorem State.launchTime_core (s : State) (p cls : Nat) : (State.launchTime s p cls).core full = s.core full := by
  unfold State.launchTime
  split <;> simp

@[simp] theorem State.classMaxWaitDue_core (s : State) (p cls : Nat) : (State.classMaxWaitDue s p cls).core full = s.core full := by
  unfold State.classMaxWaitDue
  dsimp only
  (repeat' split) <;> simp

@[simp] theorem State.lossMarkerForm_core (s : State) (k : Nat) : (State.lossMarkerForm s k).core full = s.core full := by
  unfold State.lossMarkerForm
  dsimp only
  repeat' (first | rfl | (simp; done) | split | (refine (State.core_foldl _ _ _ (fun _ _ => ?_)).trans ?_) | simp)

@[simp] theorem State.moveStreams_core (s : State) (src dst : Nat) (pick : Nat → Bool) : (State.moveStreams s src dst pick).core full = s.core full := by
  unfold State.moveStreams
  dsimp only
  repeat' (first | rfl | (simp; done) | split | (refine (State.core_foldl _ _ _ (fun _ _ => ?_)).trans ?_) | simp)

@[simp] theorem State.dropSentOnce_core (s : State) : (State.dropSentOnce s).core full = s.core full := by
  unfold State.dropSentOnce
  dsimp only
  repeat' (first | rfl | (simp; done) | split | (refine (State.core_foldl _ _ _ (fun _ _ => ?_)).trans ?_) | simp)

@[simp] theorem State.failover_core (s : State) (p : Nat) : (State.failover s p).core full = s.core full := by
  unfold State.failover
  simp

@[simp] theorem State.ptpFollow_core (s : State) (p : Nat) : (State.ptpFollow s p).core full = s.core full := by
  unfold State.ptpFollow
  split
  · rfl
  · rfl

@[simp] theorem State.linkDown_core (s : State) (p : Nat) : (State.linkDown s p).core full = s.core full := by
  unfold State.linkDown
  simp

@[simp] theorem State.dhcpDiscover_core (s : State) (phase : Nat) : (State.dhcpDiscover s phase).core full = s.core full := by
  unfold State.dhcpDiscover
  simp

@[simp] theorem State.linkUp_core (s : State) (p : Nat) : (State.linkUp s p).core full = s.core full := by
  unfold State.linkUp
  simp

@[simp] theorem State.failbackDue_core (s : State) (p : Nat) : (State.failbackDue s p).core full = s.core full := by
  unfold State.failbackDue
  simp

@[simp] theorem State.refreshAddress_core (s : State) : (State.refreshAddress s).core full = s.core full := by
  unfold State.refreshAddress
  simp

@[simp] theorem State.dhcpOffered_core (s : State) (m : DhcpMsg) : (State.dhcpOffered s m).core full = s.core full := by
  unfold State.dhcpOffered
  simp

@[simp] theorem State.dhcpAcked_core (s : State) (m : DhcpMsg) : (State.dhcpAcked s m).core full = s.core full := by
  unfold State.dhcpAcked
  simp

@[simp] theorem State.refuseNoAddress_core (s : State) : (State.refuseNoAddress s).core full = s.core full := by
  unfold State.refuseNoAddress
  refine State.core_foldl _ _ _ (fun t x => ?_)
  first | rfl | (simp; done) | ((repeat' split) <;> first | rfl | (simp; done) | (dsimp only; simp; done))

@[simp] theorem State.dhcpNaked_core (s : State) (m : DhcpMsg) : (State.dhcpNaked s m).core full = s.core full := by
  unfold State.dhcpNaked
  simp

@[simp] theorem State.runToLease_core (s : State) (num : Nat) : (State.runToLease s num).core full = s.core full := by
  unfold State.runToLease
  simp

@[simp] theorem State.dhcpRenewDue_core (s : State) : (State.dhcpRenewDue s).core full = s.core full := by
  unfold State.dhcpRenewDue
  simp

@[simp] theorem State.dhcpRebindDue_core (s : State) : (State.dhcpRebindDue s).core full = s.core full := by
  unfold State.dhcpRebindDue
  simp

@[simp] theorem State.dhcpExpire_core (s : State) : (State.dhcpExpire s).core full = s.core full := by
  unfold State.dhcpExpire
  simp

@[simp] theorem State.arpAsked_core (s : State) (p mac ip target : Nat) : (State.arpAsked s p mac ip target).core full = s.core full := by
  unfold State.arpAsked
  simp

@[simp] theorem State.arpAnswered_core (s : State) (p mac ip : Nat) : (State.arpAnswered s p mac ip).core full = s.core full := by
  unfold State.arpAnswered
  simp

@[simp] theorem State.arpRefreshDue_core (s : State) : (State.arpRefreshDue s).core full = s.core full := by
  unfold State.arpRefreshDue
  dsimp only
  repeat' (first | rfl | (simp; done) | split | (refine (State.core_foldl _ _ _ (fun _ _ => ?_)).trans ?_) | simp)

@[simp] theorem State.icmpEchoed_core (s : State) (p mac ip : Nat) (payload : Bytes) : (State.icmpEchoed s p mac ip payload).core full = s.core full := by
  unfold State.icmpEchoed
  simp

@[simp] theorem State.igmpQueried_core (s : State) (p group : Nat) : (State.igmpQueried s p group).core full = s.core full := by
  unfold State.igmpQueried
  simp

@[simp] theorem State.enableStream_core (s : State) (k : Nat) : (State.enableStream s k).core full = s.core full := by
  unfold State.enableStream
  simp

@[simp] theorem State.disableStream_core (s : State) (k : Nat) : (State.disableStream s k).core full = s.core full := by
  rfl

@[simp] theorem State.refreshStreams_core (s : State) : (State.refreshStreams s).core full = s.core full := by
  unfold State.refreshStreams
  split
  · rfl
  · refine State.core_foldl _ _ _ (fun t k => ?_)
    extract_lets want s1 s2
    split
    · refine (State.core_upd (b := s2) (hd := rfl) (he := fun _ => rfl) (hf := rfl) ..).trans ?_
      unfold s2 s1
      rw [State.form_core, State.enableStream_core]
    · split
      · rw [State.disableStream_core]
      · rfl
@[simp] theorem State.refreshCarriers_core (s : State) (k : Nat) : (State.refreshCarriers s k).core full = s.core full := by
  unfold State.refreshCarriers
  simp

@[simp] theorem State.closeGroup_core (s : State) : (State.closeGroup s).core full = s.core full := by
  unfold State.closeGroup
  simp

@[simp] theorem State.setCam_core (s : State) (p : Nat) (x : CamPort) : (State.setCam s p x).core full = s.core full := by
  rfl

@[simp] theorem State.camDrop_core (s : State) (p reason number : Nat) : (State.camDrop s p reason number).core full = s.core full := by
  unfold State.camDrop
  simp

@[simp] theorem State.camTrigTime_core (s : State) (p ns : Nat) : (State.camTrigTime s p ns).2.core full = s.core full := by
  unfold State.camTrigTime
  simp

@[simp] theorem State.camColumn_core (s : State) (j : Nat) (reverse : Bool) (frame ns : Nat) : (State.camColumn s j reverse frame ns).core full = s.core full := by
  unfold State.camColumn
  refine State.core_foldl _ _ _ (fun t x => ?_)
  first | rfl | (simp; done) | ((repeat' split) <;> first | rfl | (simp; done) | (dsimp only; simp; done))

@[simp] theorem State.camLaunch_core (s : State) (p : Nat) : (State.camLaunch s p).core full = s.core full := by
  unfold State.camLaunch
  (repeat' split) <;> simp

@[simp] theorem State.camTrigEnd_core (s : State) (p : Nat) : (State.camTrigEnd s p).core full = s.core full := by
  unfold State.camTrigEnd
  simp

@[simp] theorem State.camNoFrame_core (s : State) (p : Nat) (w : CamTrigger) : (State.camNoFrame s p w).core full = s.core full := by
  unfold State.camNoFrame
  simp

@[simp] theorem State.camNoFrameDue_core (s : State) (p : Nat) : (State.camNoFrameDue s p).core full = s.core full := by
  unfold State.camNoFrameDue
  split <;> simp

@[simp] theorem State.camFinish_core (s : State) (p : Nat) (f : CamFrame) : (State.camFinish s p f).core full = s.core full := by
  unfold State.camFinish
  simp

@[simp] theorem State.camTrailerForm_core (s : State) (p : Nat) : (State.camTrailerForm s p).core full = s.core full := by
  unfold State.camTrailerForm
  split <;> simp

@[simp] theorem State.camMalformed_core (s : State) (p k n : Nat) : (State.camMalformed s p k n).core full = s.core full := by
  unfold State.camMalformed
  simp

@[simp] theorem State.camStartFrame_core (s : State) (p : Nat) (w : CamTrigger) (t : Stamp) : (State.camStartFrame s p w t).core full = s.core full := by
  unfold State.camStartFrame
  simp

@[simp] theorem State.camVsync_core (s : State) (p : Nat) (t : Stamp) : (State.camVsync s p t).core full = s.core full := by
  unfold State.camVsync
  dsimp only
  (repeat' split) <;> simp

@[simp] theorem State.camLine_core (s : State) (p : Nat) (pixels : List Nat) (syncErrors : Nat) : (State.camLine s p pixels syncErrors).core full = s.core full := by
  unfold State.camLine
  dsimp only
  (repeat' split) <;> simp

@[simp] theorem State.camPipelineLine_core (s : State) : (State.camPipelineLine s).core full = s.core full := by
  unfold State.camPipelineLine
  dsimp only
  (repeat' split) <;> simp

@[simp] theorem State.camEnd_core (s : State) (p : Nat) (t : Stamp) (byTimeout : Bool) : (State.camEnd s p t byTimeout).core full = s.core full := by
  unfold State.camEnd
  dsimp only
  (repeat' split) <;> simp

@[simp] theorem State.camFrameEnd_core (s : State) (p : Nat) (t : Stamp) : (State.camFrameEnd s p t).core full = s.core full := by
  unfold State.camFrameEnd
  simp

@[simp] theorem State.camFrameTimeout_core (s : State) (p : Nat) : (State.camFrameTimeout s p).core full = s.core full := by
  unfold State.camFrameTimeout
  split <;> simp

@[simp] theorem State.camRefresh_core (s old : State) (p : Nat) : (State.camRefresh s old p).core full = s.core full := by
  unfold State.camRefresh
  simp

@[simp] theorem State.setRecState_core (s : State) (k : Nat) : (State.setRecState s k).core full = s.core full := by
  rfl

@[simp] theorem State.headAdvance_core (s : State) : (State.headAdvance s).core full = s.core full := by
  unfold State.headAdvance
  simp

theorem State.recoverForward_core (s : State) (extents : List (Nat × Bytes)) (n : Nat) : (s.recoverForward extents n).core full = s.core full := by
  induction n generalizing s with
  | zero => rfl
  | succ n ih =>
    unfold State.recoverForward
    split
    · rfl
    · split
      · dsimp only
        rw [ih]
        simp
      · rfl

@[simp] theorem State.recRecover_core (s : State) (a b : Bytes) (extents : List (Nat × Bytes)) : (State.recRecover s a b extents).core full = s.core full := by
  unfold State.recRecover
  generalize (match s.superGood a, s.superGood b with
    | true, true => some (if numAt 8 8 a ≥ numAt 8 8 b then a else b)
    | true, false => some a
    | false, true => some b
    | false, false => none) = pick
  dsimp only
  split
  · simp
  · rw [State.recoverForward_core]
    simp


@[simp] theorem State.recIssue_core (s : State) (kind lba : Nat) (data : Bytes) (segments : Nat) : (State.recIssue s kind lba data segments).core full = s.core full := by
  rfl

@[simp] theorem State.superUpdate_core (s : State) : (State.superUpdate s).core full = s.core full := by
  unfold State.superUpdate
  simp

@[simp] theorem State.recIndex_core (s : State) : (State.recIndex s).core full = s.core full := by
  unfold State.recIndex
  split <;> simp

theorem State.recDrain_core (s : State) (n : Nat) : (s.recDrain n).core full = s.core full := by
  induction n generalizing s with
  | zero => rfl
  | succ n ih =>
    unfold State.recDrain
    split
    · rfl
    · rename_i x _
      dsimp only
      generalize (if (!x.closing) = true then _ else _ : Nat) = goal
      split
      · rfl
      · rw [ih]
        refine (State.core_upd (hd := rfl) (he := fun _ => rfl) (hf := rfl) ..).trans ?_
        simp

@[simp] theorem State.recPump_core (s : State) : (State.recPump s).core full = s.core full := by
  unfold State.recPump
  rw [State.recIndex_core, State.recDrain_core]


@[simp] theorem State.recClose_core (s : State) (early : Bool) : (State.recClose s early).core full = s.core full := by
  unfold State.recClose
  split <;> simp

@[simp] theorem State.recAppend_core (s : State) (type segNo : Nat) (body : Bytes) : (State.recAppend s type segNo body).core full = s.core full := by
  unfold State.recAppend
  split <;> simp

@[simp] theorem State.recEpoch_core (s : State) : (State.recEpoch s).core full = s.core full := by
  unfold State.recEpoch
  simp

@[simp] theorem State.recOpenAt_core (s : State) (extent : Nat) : (State.recOpenAt s extent).core full = s.core full := by
  rfl

@[simp] theorem State.recOpen_core (s : State) : (State.recOpen s).core full = s.core full := by
  unfold State.recOpen
  simp

@[simp] theorem State.recFinish_core (s : State) (n : Nat) : (State.recFinish s n).core full = s.core full := by
  unfold State.recFinish
  refine State.core_foldl _ _ _ (fun t x => ?_)
  first | rfl | (simp; done) | ((repeat' split) <;> first | rfl | (simp; done) | (dsimp only; simp; done))

@[simp] theorem State.recUnrecorded_core (s : State) (n : Nat) : (State.recUnrecorded s n).core full = s.core full := by
  unfold State.recUnrecorded
  simp

theorem State.recAppendAll_core (s : State) (xs : List (Nat × Nat × Bytes)) : (s.recAppendAll xs).core full = s.core full := by
  induction xs generalizing s with
  | nil => rfl
  | cons x xs ih =>
    obtain ⟨type, segNo, body⟩ := x
    unfold State.recAppendAll
    split
    · rfl
    · split
      · simp
      · dsimp only
        rw [ih]
        split
        · refine (State.core_upd (hd := rfl) (he := fun _ => rfl) (hf := rfl) ..).trans ?_
          simp
        · split
          · refine (State.core_upd (hd := rfl) (he := fun _ => rfl) (hf := rfl) ..).trans ?_
            simp
          · simp

@[simp] theorem State.recTake_core (s : State) : (State.recTake s).core full = s.core full := by
  unfold State.recTake
  split
  · rfl
  · split
    · rfl
    · split
      · simp
      · dsimp only
        split
        · simp
        · split
          · simp
          · rw [State.recPump_core, State.recAppendAll_core, State.recOpen_core]


@[simp] theorem State.recFaultNow_core (s : State) (status : Nat) : (State.recFaultNow s status).core full = s.core full := by
  unfold State.recFaultNow
  simp

@[simp] theorem State.recError_core (s : State) (c : NvmeCmd) : (State.recError s c).core full = s.core full := by
  unfold State.recError
  simp

@[simp] theorem State.recSuperDue_core (s : State) : (State.recSuperDue s).core full = s.core full := by
  unfold State.recSuperDue
  simp

@[simp] theorem State.recPowerFlush_core (s : State) : (State.recPowerFlush s).core full = s.core full := by
  unfold State.recPowerFlush
  simp

@[simp] theorem State.recWritten_core (s : State) (c : NvmeCmd) : (State.recWritten s c).core full = s.core full := by
  unfold State.recWritten
  simp

@[simp] theorem State.recWriteComplete_core (s : State) (ok : Bool) : (State.recWriteComplete s ok).core full = s.core full := by
  unfold State.recWriteComplete
  split <;> simp

@[simp] theorem State.recFlushComplete_core (s : State) (ok : Bool) : (State.recFlushComplete s ok).core full = s.core full := by
  unfold State.recFlushComplete
  split <;> simp

@[simp] theorem State.recSuperPeriod_core (s : State) : (State.recSuperPeriod s).core full = s.core full := by
  unfold State.recSuperPeriod
  simp

@[simp] theorem State.recCmdTimeout_core (s : State) : (State.recCmdTimeout s).core full = s.core full := by
  unfold State.recCmdTimeout
  split <;> simp

@[simp] theorem State.recLinkLoss_core (s : State) : (State.recLinkLoss s).core full = s.core full := by
  unfold State.recLinkLoss
  simp

@[simp] theorem State.recSmart_core (s : State) (page : Bytes) : (State.recSmart s page).core full = s.core full := by
  unfold State.recSmart
  simp

@[simp] theorem State.recBegin_core (s : State) : (State.recBegin s).core full = s.core full := by
  rfl

@[simp] theorem State.recPerst_core (s : State) : (State.recPerst s).core full = s.core full := by
  unfold State.recPerst
  simp

@[simp] theorem State.recInitDone_core (s : State) (r : RecInit) : (State.recInitDone s r).core full = s.core full := by
  unfold State.recInitDone
  simp

@[simp] theorem State.recStartCmd_core (s : State) : (State.recStartCmd s).2.core full = s.core full := by
  unfold State.recStartCmd
  simp

@[simp] theorem State.recStopCmd_core (s : State) : (State.recStopCmd s).2.core full = s.core full := by
  unfold State.recStopCmd
  simp

@[simp] theorem State.recSyncCmd_core (s : State) : (State.recSyncCmd s).2.core full = s.core full := by
  unfold State.recSyncCmd
  simp

@[simp] theorem State.recReinitCmd_core (s : State) : (State.recReinitCmd s).2.core full = s.core full := by
  unfold State.recReinitCmd
  simp

@[simp] theorem State.recCommand_core (s : State) (v : Nat) : (State.recCommand s v).2.core full = s.core full := by
  unfold State.recCommand
  simp

@[simp] theorem State.recFormatCmd_core (s : State) (v : Nat) : (State.recFormatCmd s v).2.core full = s.core full := by
  unfold State.recFormatCmd
  simp

@[simp] theorem State.recAutoStart_core (s : State) : (State.recAutoStart s).core full = s.core full := by
  unfold State.recAutoStart
  simp

@[simp] theorem State.recPfail_core (s : State) : (State.recPfail s).core full = s.core full := by
  unfold State.recPfail
  simp

@[simp] theorem State.recPfailEnd_core (s : State) : (State.recPfailEnd s).core full = s.core full := by
  unfold State.recPfailEnd
  simp

@[simp] theorem State.alarmEnd_core (s : State) (bit : Nat) : (State.alarmEnd s bit).core full = s.core full := by
  unfold State.alarmEnd
  split <;> simp

@[simp] theorem State.alarmStart_core (s : State) (bit : Nat) : (State.alarmStart s bit).core full = s.core full := by
  unfold State.alarmStart
  split <;> simp

@[simp] theorem State.alertChange_core (s : State) (sev : Nat) : (State.alertChange s sev).core full = s.core full := by
  unfold State.alertChange
  simp

@[simp] theorem State.alertSwitchDue_core (s : State) : (State.alertSwitchDue s).core full = s.core full := by
  unfold State.alertSwitchDue
  split <;> simp

@[simp] theorem State.alertPeriod_core (s : State) : (State.alertPeriod s).core full = s.core full := by
  unfold State.alertPeriod
  split
  · rfl
  · extract_lets s1 level _ half edge due
    have e1 : s1.core full = s.core full := State.alertSwitchDue_core s
    split
    · exact (State.core_upd (b := s1) (hd := rfl) (he := fun _ => rfl) (hf := rfl) ..).trans e1
    · generalize due = d
      cases d with
      | none => exact e1
      | some t =>
        refine (State.core_upd (b := (s1.runTo t).alertSwitchDue) (hd := rfl) (he := fun _ => rfl) (hf := rfl) ..).trans ?_
        rw [State.alertSwitchDue_core, State.runTo_core, e1]
@[simp] theorem State.alarmTurn_core (old now : Nat) (s : State) (k : Nat) : (State.alarmTurn old now s k).core full = s.core full := by
  unfold State.alarmTurn
  simp

@[simp] theorem State.refreshAlarms_core (s : State) : (State.refreshAlarms s).core full = s.core full := by
  unfold State.refreshAlarms
  split
  · rfl
  · extract_lets old now s1 was sev s2 s3
    have e1 : s1.core full = s.core full := State.core_foldl _ _ _ (fun t k => State.alarmTurn_core _ _ t k)
    have e3 : s3.core full = s.core full := by
      unfold s3 s2
      rw [State.formState_core, State.setU_core, State.setU_core, e1]
    split
    · rfl
    · split
      · exact e3
      · rw [State.alertChange_core, e3]
@[simp] theorem State.logOffer_core (s : State) (e : EventEntry) : (State.logOffer s e).core full = s.core full := by
  unfold State.logOffer
  simp

@[simp] theorem State.entryClose_core (s : State) : (State.entryClose s).core full = s.core full := by
  unfold State.entryClose
  split <;> simp

@[simp] theorem State.journalResume_core (s : State) : (State.journalResume s).core full = s.core full := by
  unfold State.journalResume
  dsimp only
  repeat' (first | rfl | (simp; done) | split | (refine (State.core_foldl _ _ _ (fun _ _ => ?_)).trans ?_) | simp)

@[simp] theorem State.journalPfail_core (s : State) : (State.journalPfail s).core full = s.core full := by
  unfold State.journalPfail
  simp

@[simp] theorem State.journalClearCmd_core (s : State) : (State.journalClearCmd s).2.core full = s.core full := by
  unfold State.journalClearCmd
  simp

@[simp] theorem State.journalSeen_core (s : State) : (State.journalSeen s).core full = s.core full := by
  rfl

@[simp] theorem State.c2LossEnd_core (s : State) : (State.c2LossEnd s).core full = s.core full := by
  unfold State.c2LossEnd
  split <;> simp

@[simp] theorem State.sendAnswer_core (s : State) (a : Answer) : (State.sendAnswer s a).core full = s.core full := by
  unfold State.sendAnswer
  split <;> simp

@[simp] theorem State.knockReport_core (s : State) (k : PendingKnock) (code objects appliedNs : Nat) : (State.knockReport s k code objects appliedNs).core full = s.core full := by
  unfold State.knockReport
  simp

@[simp] theorem State.knockRefused_core (s : State) (k : PendingKnock) (code : Nat) : (State.knockRefused s k code).core full = s.core full := by
  unfold State.knockRefused
  simp

@[simp] theorem State.knockCancel_core (s : State) : (State.knockCancel s).core full = s.core full := by
  unfold State.knockCancel
  split <;> simp

@[simp] theorem State.pairAssert_core (s : State) : (State.pairAssert s).core full = s.core full := by
  rfl

@[simp] theorem State.pairDrop_core (s : State) : (State.pairDrop s).core full = s.core full := by
  rfl

@[simp] theorem State.pairRelease_core (s : State) : (State.pairRelease s).core full = s.core full := by
  unfold State.pairRelease
  simp

@[simp] theorem State.leaveState_core (s : State) (new : DevState) : (State.leaveState s new).core full = s.core full := by
  unfold State.leaveState
  simp

@[simp] theorem State.setPhase_core (s : State) (k : Nat) : (State.setPhase s k).core full = s.core full := by
  rfl

theorem State.pairTake_core (s : State) (f : PairFrame) (k : State → State) (hk : ∀ t : State, (k t).core full = t.core full) :
    (State.pairTake s f k).core full = s.core full := by
  unfold State.pairTake
  split
  · rfl
  · split
    · exact hk s
    · simp


@[simp] theorem State.pairFormed_core (s : State) (id : Nat) : (State.pairFormed s id).core full = s.core full := by
  unfold State.pairFormed
  simp

@[simp] theorem State.hello_core (s : State) (f : PairFrame) : (State.hello s f).core full = s.core full := by
  unfold State.hello
  refine State.pairTake_core _ _ _ (fun t => ?_)
  dsimp only
  (repeat' split) <;> simp
@[simp] theorem State.helloSend_core (s : State) : (State.helloSend s).core full = s.core full := by
  unfold State.helloSend
  simp

@[simp] theorem State.loadMirror_core (s : State) : (State.loadMirror s).core full = s.core full := by
  rfl

@[simp] theorem State.rilmanDown_core (s : State) (report : Bool) : (State.rilmanDown s report).core full = s.core full := by
  unfold State.rilmanDown
  simp

@[simp] theorem State.partnerLost_core (s : State) : (State.partnerLost s).core full = s.core full := by
  unfold State.partnerLost
  split
  · rfl
  · extract_lets due s1 _ s2 s3 _ s4
    have e3 : s3.core full = s.core full := by unfold s3 s2 s1; simp
    split
    · have e4 : s4.core full = s.core full := (State.core_upd (b := s3) (hd := rfl) (he := fun _ => rfl) (hf := rfl) ..).trans e3
      split
      · rw [State.setServo_core, e4]
      · split
        · rw [State.enterRequalify_core, e4]
        · exact e4
    · exact e3
@[simp] theorem State.heartbeatSend_core (s : State) : (State.heartbeatSend s).core full = s.core full := by
  unfold State.heartbeatSend
  simp

@[simp] theorem State.claim_core (s : State) (f : PairFrame) : (State.claim s f).core full = s.core full := by
  unfold State.claim
  refine State.pairTake_core _ _ _ (fun t => ?_)
  dsimp only
  (repeat' split) <;> simp
@[simp] theorem State.claimAck_core (s : State) (f : PairFrame) : (State.claimAck s f).core full = s.core full := by
  unfold State.claimAck
  refine State.pairTake_core _ _ _ (fun t => ?_)
  dsimp only
  (repeat' split) <;> simp
@[simp] theorem State.claimSend_core (s : State) : (State.claimSend s).core full = s.core full := by
  unfold State.claimSend
  simp

@[simp] theorem State.timeExchange_core (s : State) (f : PairFrame) : (State.timeExchange s f).core full = s.core full := by
  unfold State.timeExchange
  refine State.pairTake_core _ _ _ (fun t => ?_)
  dsimp only
  (repeat' split) <;> simp
@[simp] theorem State.loopFrameSend_core (s : State) (n : Nat) : (State.loopFrameSend s n).core full = s.core full := by
  unfold State.loopFrameSend
  simp

@[simp] theorem State.loopFrame_core (s : State) (f : PairFrame) : (State.loopFrame s f).core full = s.core full := by
  unfold State.loopFrame
  refine State.pairTake_core _ _ _ (fun t => ?_)
  dsimp only
  (repeat' split) <;> simp
@[simp] theorem State.columnFrameSend_core (s : State) : (State.columnFrameSend s).core full = s.core full := by
  unfold State.columnFrameSend
  simp

@[simp] theorem State.columnFrame_core (s : State) (f : PairFrame) : (State.columnFrame s f).core full = s.core full := by
  unfold State.columnFrame
  refine State.pairTake_core _ _ _ (fun t => ?_)
  dsimp only
  (repeat' split) <;> simp
@[simp] theorem State.banksOfFrame_core (s : State) (bs : Bytes) : (State.banksOfFrame s bs).core full = s.core full := by
  unfold State.banksOfFrame
  extract_lets base _ s0
  have e0 : s0.core full = s.core full := State.core_upd (b := s) (hd := rfl) (he := fun _ => rfl) (hf := rfl) ..
  suffices h : ∀ (xs : List Nat) (a : State × Nat), (xs.foldl (fun (a : State × Nat) b =>
      let (x, passed, off) := a.1.bankOfFrame b bs a.2 base
      let s1 := a.1.setBank b x
      (if passed = 0 then s1 else s1.govCharge b (passed * s1.doseOf b x.width), off)) a).1.core full = a.1.core full from (h _ _).trans e0
  intro xs
  induction xs with
  | nil => intro a; rfl
  | cons x xs ih =>
    intro a
    rw [List.foldl_cons, ih]
    generalize a.1.bankOfFrame x bs a.2 base = r
    obtain ⟨y, p, off⟩ := r
    dsimp only
    split
    · simp
    · simp
@[simp] theorem State.powerOnResetEnd_core (s : State) : (State.powerOnResetEnd s).core full = s.core full := by
  rfl

@[simp] theorem State.setSlot_core (s : State) (k : Nat) (x : Slot) : (State.setSlot s k x).core full = s.core full := by
  unfold State.setSlot
  simp

@[simp] theorem State.chooseSlot_core (s : State) (safe : Bool) : (State.chooseSlot s safe).2.core full = s.core full := by
  unfold State.chooseSlot
  dsimp only
  (repeat' split) <;> simp

@[simp] theorem State.emptyTarget_core (s : State) : (State.emptyTarget s).core full = s.core full := by
  unfold State.emptyTarget
  simp

@[simp] theorem State.storeImage_core (s : State) (bs : Bytes) : (State.storeImage s bs).core full = s.core full := by
  unfold State.storeImage
  simp

@[simp] theorem State.commitImage_core (s : State) : (State.commitImage s).2.core full = s.core full := by
  unfold State.commitImage
  simp

@[simp] theorem State.safeOffRelease_core (s : State) : (State.safeOffRelease s).core full = s.core full := by
  unfold State.safeOffRelease
  simp

@[simp] theorem State.bankHalt_core (s : State) : (State.bankHalt s).core full = s.core full := by
  unfold State.bankHalt
  split <;> simp

@[simp] theorem State.pfailFall_core (s : State) : (State.pfailFall s).core full = s.core full := by
  unfold State.pfailFall
  simp

@[simp] theorem State.pfailRise_core (s : State) : (State.pfailRise s).core full = s.core full := by
  unfold State.pfailRise
  simp

@[simp] theorem State.journalCheck_core (s : State) : (State.journalCheck s).core full = s.core full := by
  unfold State.journalCheck
  simp

@[simp] theorem State.confirmTrial_core (s : State) : (State.confirmTrial s).core full = s.core full := by
  unfold State.confirmTrial
  simp

@[simp] theorem State.bootStreams_core (s : State) : (State.bootStreams s).core full = s.core full := by
  unfold State.bootStreams
  refine State.core_foldl _ _ _ (fun t x => ?_)
  first | rfl | (simp; done) | ((repeat' split) <;> first | rfl | (simp; done) | (dsimp only; simp; done))

@[simp] theorem State.setLock_core (s : State) (bit : Nat) (on : Bool) : (State.setLock s bit on).core full = s.core full := by
  rfl

@[simp] theorem State.ethRefclkLost_core (s : State) : (State.ethRefclkLost s).core full = s.core full := by
  unfold State.ethRefclkLost
  simp

@[simp] theorem State.pcieRefclkLost_core (s : State) : (State.pcieRefclkLost s).core full = s.core full := by
  unfold State.pcieRefclkLost
  simp

@[simp] theorem State.closeLevel_core (s : State) (level : Nat) : (State.closeLevel s level).core full = s.core full := by
  rfl

@[simp] theorem State.gateDrop_core (s : State) (n : Nat) : (State.gateDrop s n).core full = s.core full := by
  rfl

@[simp] theorem State.sourceChanged_core (s : State) : (State.sourceChanged s).core full = s.core full := by
  rfl

@[simp] theorem State.roleChanged_core (s : State) : (State.roleChanged s).core full = s.core full := by
  unfold State.roleChanged
  simp

@[simp] theorem State.watchChanged_core (s old : State) : (State.watchChanged s old).core full = s.core full := by
  unfold State.watchChanged
  extract_lets s1
  exact (State.core_upd (b := s1) (hd := rfl) (he := fun _ => rfl) (hf := rfl) ..).trans (by simp [s1])

@[simp] theorem State.enableChanged_core (s old : State) : (State.enableChanged s old).core full = s.core full := by
  unfold State.enableChanged
  repeat' split
  · simp
  · rfl
  · rfl

@[simp] theorem State.applyChanges_core (s : State) (old : State) (ids : List Nat) : (State.applyChanges s old ids).core full = s.core full := by
  unfold State.applyChanges
  extract_lets s1 s2 s3 s4 s5 s6 s7 m s8 _ s9 s10' s10 s11 _ s12 s13 s14
  have e1 : s1.core full = s.core full := by unfold s1; split <;> simp
  have e2 : s2.core full = s.core full := by unfold s2; split <;> simp [e1]
  have e3 : s3.core full = s.core full := (State.core_foldl _ _ _ (fun t p => by split <;> simp)).trans e2
  have e4 : s4.core full = s.core full := (State.core_foldl _ _ _ (fun t p => by split <;> simp)).trans ((State.refreshStreams_core _).trans e3)
  have e5 : s5.core full = s.core full := by unfold s5; rw [State.camRefresh_core, State.camRefresh_core, e4]
  have e6 : s6.core full = s.core full := by unfold s6; split <;> simp [e5]
  have e7 : s7.core full = s.core full := (State.core_foldl _ _ _ (fun t p => by split <;> simp)).trans e6
  have e8 : s8.core full = s.core full := by unfold s8; split <;> simp [e7]
  have e9 : s9.core full = s.core full := by
    unfold s9
    split
    · exact (State.core_upd (b := s8) (hd := rfl) (he := fun _ => rfl) (hf := rfl) ..).trans e8
    · exact e8
  have e10' : s10'.core full = s.core full := by unfold s10'; split <;> simp [e9]
  have e10 : s10.core full = s.core full := by unfold s10; split <;> simp [e10']
  have e11 : s11.core full = s.core full := by unfold s11; split <;> simp [e10]
  have e12 : s12.core full = s.core full := by
    unfold s12
    split
    · exact (State.core_upd (b := s11) (hd := rfl) (he := fun _ => rfl) (hf := rfl) ..).trans e11
    · exact e11
  have e13 : s13.core full = s.core full := by unfold s13; split <;> simp [e12]
  have e14 : s14.core full = s.core full := by unfold s14; split <;> simp [e13]
  split
  · rw [State.closeLevel_core, e14]
  · exact e14
@[simp] theorem State.configSend_core (s : State) (t : Stamp) (ids : List Nat) : (State.configSend s t ids).core full = s.core full := by
  unfold State.configSend
  repeat' (first | rfl | (simp; done) | split | (refine (State.core_foldl _ _ _ (fun _ _ => ?_)).trans ?_) | simp)

@[simp] theorem State.putAll_core (s : State) (vs : List (Nat × Bytes)) : (State.putAll s vs).core full = s.core full := by
  unfold State.putAll
  refine State.core_foldl _ _ _ (fun t x => ?_)
  first | rfl | (simp; done) | ((repeat' split) <;> first | rfl | (simp; done) | (dsimp only; simp; done))

@[simp] theorem State.activate_core (s : State) (vs : List (Nat × Bytes)) (t : Stamp) : (State.activate s vs t).core full = s.core full := by
  unfold State.activate
  simp

@[simp] theorem State.stageValue_core (s : State) (id : Nat) (bs : Bytes) : (State.stageValue s id bs).core full = s.core full := by
  rfl

@[simp] theorem State.activateShadow_core (s : State) (t : Stamp) : (State.activateShadow s t).2.2.core full = s.core full := by
  unfold State.activateShadow
  simp

@[simp] theorem State.commitShadow_core (s : State) : (State.commitShadow s).2.core full = s.core full := by
  unfold State.commitShadow
  simp

@[simp] theorem State.discardShadow_core (s : State) : (State.discardShadow s).2.core full = s.core full := by
  unfold State.discardShadow
  simp

@[simp] theorem State.restoreDefaults_core (s : State) : (State.restoreDefaults s).2.core full = s.core full := by
  unfold State.restoreDefaults
  simp

@[simp] theorem State.commitAtBoundary_core (s : State) (t : Stamp) : (State.commitAtBoundary s t).core full = s.core full := by
  unfold State.commitAtBoundary
  split <;> simp

@[simp] theorem State.knockApplyAt_core (s : State) (k : PendingKnock) (t : Stamp) : (State.knockApplyAt s k t).core full = s.core full := by
  unfold State.knockApplyAt
  simp

@[simp] theorem State.knockAtBoundary_core (s : State) (t : Stamp) : (State.knockAtBoundary s t).core full = s.core full := by
  unfold State.knockAtBoundary
  split <;> simp

@[simp] theorem State.bulkSend_core (s : State) : (State.bulkSend s).core full = s.core full := by
  unfold State.bulkSend
  simp

@[simp] theorem State.bulkFrame_core (s : State) (f : PairFrame) : (State.bulkFrame s f).core full = s.core full := by
  unfold State.bulkFrame
  refine State.pairTake_core _ _ _ (fun t => ?_)
  split
  · rfl
  · extract_lets bs r listed others vs s1 loops
    refine (State.core_upd (b := s1) (hd := rfl) (he := fun _ => rfl) (hf := rfl) ..).trans ?_
    unfold s1
    rw [State.applyChanges_core, State.putAll_core]
@[simp] theorem State.configApply_core (s : State) (id : Nat) (bs : Bytes) : (State.configApply s id bs).core full = s.core full := by
  unfold State.configApply
  simp

@[simp] theorem State.configFrame_core (s : State) (f : PairFrame) : (State.configFrame s f).core full = s.core full := by
  unfold State.configFrame
  refine State.pairTake_core _ _ _ (fun t => ?_)
  dsimp only
  (repeat' split) <;> simp
@[simp] theorem State.configsDue_core (s : State) (t : Stamp) : (State.configsDue s t).core full = s.core full := by
  unfold State.configsDue
  refine State.core_foldl _ _ _ (fun t x => ?_)
  first | rfl | (simp; done) | ((repeat' split) <;> first | rfl | (simp; done) | (dsimp only; simp; done))

@[simp] theorem State.rilmanUp_core (s : State) : (State.rilmanUp s).core full = s.core full := by
  unfold State.rilmanUp
  simp

@[simp] theorem State.heartbeat_core (s : State) (f : PairFrame) : (State.heartbeat s f).core full = s.core full := by
  unfold State.heartbeat
  refine State.pairTake_core _ _ _ (fun t => ?_)
  dsimp only
  (repeat' split) <;> simp
@[simp] theorem State.shadowActivation_core (s : State) : (State.shadowActivation s).core full = s.core full := by
  unfold State.shadowActivation
  split <;> simp

@[simp] theorem State.knockApply_core (s : State) : (State.knockApply s).core full = s.core full := by
  unfold State.knockApply
  (repeat' split) <;> simp

@[simp] theorem State.transomBegin_core (s : State) : (State.transomBegin s).core full = s.core full := by
  unfold State.transomBegin
  split <;> simp

@[simp] theorem State.readClears_core (s : State) (id : Nat) : (State.readClears s id).core full = s.core full := by
  unfold State.readClears
  simp

@[simp] theorem State.transitionAsk_core (s : State) (c : Cmd) : (State.transitionAsk s c).core full = s.core full := by
  rfl

@[simp] theorem State.timeTriggerWrite_core (s : State) (bs : Bytes) : (State.timeTriggerWrite s bs).2.core full = s.core full := by
  unfold State.timeTriggerWrite
  simp

@[simp] theorem State.hostTriggerWrite_core (s : State) : (State.hostTriggerWrite s).2.core full = s.core full := by
  unfold State.hostTriggerWrite
  simp

theorem mem_ite_all {α : Type} {c : Prop} [Decidable c] {a b : Option α} {P : α → Prop} (ha : ∀ r, a = some r → P r) (hb : ∀ r, b = some r → P r) :
    ∀ r, (if c then a else b) = some r → P r := by
  intro r h
  split at h
  · exact ha r h
  · exact hb r h

@[simp] theorem State.camPassed_core (s : State) (p : Nat) : (State.camPassed s p).core full = s.core full := by
  unfold State.camPassed
  refine State.core_foldl _ _ _ (fun t _ => ?_)
  split
  · split <;> simp
  · rfl

@[simp] theorem State.afterStep_core (s before : State) : (State.afterStep s before).core full = s.core full := by
  unfold State.afterStep
  split
  · rfl
  · have h : ((List.range 2).foldl (fun (s : State) p => s.camPassed p) s).core full = s.core full :=
      State.core_foldl _ _ _ (fun t p => State.camPassed_core t p)
    dsimp only
    split
    · split <;> simp [h]
    · exact h

@[simp] theorem State.timeSetWrite_core (s : State) (bs : Bytes) : (State.timeSetWrite s bs).2.core full = s.core full := by
  unfold State.timeSetWrite
  simp

@[simp] theorem State.timeAdjustWrite_core (s : State) (bs : Bytes) : (State.timeAdjustWrite s bs).2.core full = s.core full := by
  unfold State.timeAdjustWrite
  simp

theorem State.writeOp_core (s : State) (id : Nat) (bs : Bytes) : ∀ r, s.writeOp id bs = some r → r.2.core full = s.core full := by
  unfold State.writeOp
  dsimp only
  repeat' refine mem_ite_all ?_ ?_
  all_goals
    intro r h
    first
    | (cases h; done)
    | (obtain rfl := Option.some.inj h; first | rfl | simp)

@[simp] theorem State.writeAct_core (s : State) (id : Nat) (bs : Bytes) (stage : Bool) : (State.writeAct s id bs stage).2.core full = s.core full := by
  unfold State.writeAct
  split
  · exact State.stageValue_core _ _ _
  · split
    · rename_i r hr
      exact s.writeOp_core id bs r hr
    · exact State.activate_core _ _ _


@[simp] theorem State.endSession_core (s : State) (tr : Transport) (id : Nat) : (State.endSession s tr id).core full = s.core full := by
  rfl

@[simp] theorem State.endPending_core (s : State) (tr : Transport) (id : Nat) : (State.endPending s tr id).core full = s.core full := by
  rfl

@[simp] theorem State.purge_core (s : State) : (State.purge s).core full = s.core full := by
  unfold State.purge
  refine State.core_foldl _ _ _ (fun t x => ?_)
  first | rfl | (simp; done) | ((repeat' split) <;> first | rfl | (simp; done) | (dsimp only; simp; done))

@[simp] theorem State.setTransfer_core (s : State) (c : Caller) (t : Option Transfer) : (State.setTransfer s c t).core full = s.core full := by
  rfl

@[simp] theorem State.opReadDo_core (s : State) (c : Caller) (body : Bytes) : (State.opReadDo s c body).st.core full = s.core full := by
  unfold State.opReadDo
  dsimp only
  (repeat' split) <;> first | rfl | (simp; done)

@[simp] theorem State.blockValue_core (s : State) (id : Nat) (shadow : Bool) (drive : Option Bytes) : (State.blockValue s id shadow drive).2.core full = s.core full := by
  unfold State.blockValue
  dsimp only
  (repeat' split) <;> simp

@[simp] theorem State.opBlockReadDo_core (s : State) (c : Caller) (body : Bytes) (drive : Option Bytes) : (State.opBlockReadDo s c body drive).st.core full = s.core full := by
  unfold State.opBlockReadDo
  dsimp only
  repeat' (first | rfl | (simp; done) | split | (refine (State.core_foldl _ _ _ (fun _ _ => ?_)).trans ?_) | simp)

@[simp] theorem State.blockNextRead_core (s : State) (c : Caller) (t : Transfer) (len : Nat) : (State.blockNextRead s c t len).st.core full = s.core full := by
  rfl

@[simp] theorem State.opChallengeDo_core (s : State) (h : ReqHdr) (body : Bytes) : (State.opChallengeDo s h body).st.core full = s.core full := by
  unfold State.opChallengeDo
  dsimp only
  (repeat' split) <;> first | rfl | (simp; done)

@[simp] theorem State.proofFailed_core (s : State) (p : PendingSession) : (State.proofFailed s p).core full = s.core full := by
  unfold State.proofFailed
  simp

@[simp] theorem State.authenticate_core (s : State) (h : ReqHdr) (p : PendingSession) (key body : Bytes) : (State.authenticate s h p key body).core full = s.core full := by
  unfold State.authenticate
  simp

@[simp] theorem State.answerPlain_core (s : State) (h : ReqHdr) (op : Nat) (body : Bytes) : (State.answerPlain s h op body).core full = s.core full := by
  unfold State.answerPlain
  simp

@[simp] theorem State.refusePlain_core (s : State) (h : ReqHdr) (op : Nat) (code : Abort) : (State.refusePlain s h op code).core full = s.core full := by
  unfold State.refusePlain
  simp

@[simp] theorem State.dtpUnknown_core (s : State) (h : ReqHdr) (op : Nat) : (State.dtpUnknown s h op).core full = s.core full := by
  unfold State.dtpUnknown
  simp

@[simp] theorem State.transferTimeout_core (s : State) (o : XferOwner) : (State.transferTimeout s o).core full = s.core full := by
  unfold State.transferTimeout
  split <;> simp

@[simp] theorem State.pendingTimeout_core (s : State) (tr : Transport) (id : Nat) : (State.pendingTimeout s tr id).core full = s.core full := by
  unfold State.pendingTimeout
  split <;> simp

@[simp] theorem State.lockoutEnd_core (s : State) (level : Nat) : (State.lockoutEnd s level).core full = s.core full := by
  unfold State.lockoutEnd
  split <;> simp

@[simp] theorem State.idleTimeout_core (s : State) (tr : Transport) (id : Nat) : (State.idleTimeout s tr id).core full = s.core full := by
  unfold State.idleTimeout
  split <;> simp

@[simp] theorem State.knock_core (s : State) (m : KnockMsg) : (State.knock s m).core full = s.core full := by
  unfold State.knock
  simp

@[simp] theorem State.spiRead_core (s : State) (addr n : Nat) : (State.spiRead s addr n).core full = s.core full := by
  unfold State.spiRead
  simp

@[simp] theorem State.spiBad_core (s : State) (n : Nat) : (State.spiBad s n).core full = s.core full := by
  unfold State.spiBad
  simp

@[simp] theorem State.aliveTick_core (s : State) : (State.aliveTick s).core full = s.core full := by
  unfold State.aliveTick
  simp

@[simp] theorem State.begin_core (s : State) : (State.begin s).core full = s.core full := by
  rfl

end Sys2Proof.Machine
end

