-- ==== Sys2Proof/Laws/Shut.lean ====
section
/-!
SUPPORT. Operations that raise a Fatal event leave the device state and the STATE inhibit; operations that enter a state leave firing
inhibited outside SCAN and add no Fatal event; and every command keeps both (Table EMIT-6, R63).
-/

namespace Sys2Proof.Machine

/-! ### Fatal events -/

@[simp] theorem State.fatal_gate (s : State) (a b c : Nat) : (s.fatal a b c).core false = s.core false := by
  unfold State.fatal
  have h := State.raise_core (full := false) s a b 4 c
  generalize s.raise a b 4 c = t at h ⊢
  exact h

@[simp] theorem State.supplyFault_gate (s : State) : s.supplyFault.core false = s.core false := by
  unfold State.supplyFault
  simp

@[simp] theorem State.overcurrent_gate (s : State) : s.overcurrent.core false = s.core false := by
  unfold State.overcurrent
  split <;> simp

@[simp] theorem State.wcTrip_gate (s : State) (n : Nat) (low : Bool) : (s.wcTrip n low).core false = s.core false := by
  unfold State.wcTrip
  split
  · rfl
  · extract_lets bit _ s1 s2 _ s3 sev
    have e2 : s2.core false = s.core false := by unfold s2 s1; simp
    have e3 : s3.core false = s.core false := by
      unfold s3
      split
      · split <;> simp [e2]
      · split
        · exact (State.core_upd (b := s2) (hd := rfl) (he := fun _ => rfl) (hf := rfl) ..).trans e2
        · exact e2
    split <;> simp [e3]

@[simp] theorem State.stallLatch_gate (s : State) : s.stallLatch.core false = s.core false := by
  unfold State.stallLatch
  extract_lets l out
  split
  · rfl
  · generalize (if out = true then some s.time.ticks else l.badSince) = o
    cases o with
    | none => rfl
    | some t =>
      dsimp only
      rw [State.scanValidDrive_core]
      refine (State.core_foldl _ _ _ (fun t n => ?_)).trans ?_
      · simp
      · simp

@[simp] theorem State.deadlineMiss_gate (s : State) (n : Nat) : (s.deadlineMiss n).core false = s.core false := by
  unfold State.deadlineMiss
  extract_lets l run s1 s2
  have e1 : s1.core false = s.core false := by unfold s1; simp
  have e2 : s2.core false = s.core false := by unfold s2; split <;> simp [e1]
  split
  · rfl
  · split
    · rw [State.fatal_gate]
      refine (State.core_foldl _ _ _ (fun t n => ?_)).trans e2
      simp
    · exact e2

@[simp] theorem State.loopSample_gate (s0 : State) (n latency : Nat) (ecc : Bool) : (s0.loopSample n latency ecc).core false = s0.core false := by
  unfold State.loopSample
  split
  · rfl
  · extract_lets t word s y chained ovr fill sp outs _ s1 meas _ o lo' hi' satHi satLo late ovrRun _ l1
    have f0 : s.core false = s0.core false := by unfold s; simp
    have f1 : s1.core false = s0.core false := by
      unfold s1
      split
      · exact (State.core_upd (b := s) (hd := rfl) (he := fun _ => rfl) (hf := rfl) ..).trans f0
      · exact f0
    have fm : meas.core false = s0.core false := by unfold meas; simp [f1]
    split
    · simp [fm]
    · have fc := State.codeOf_core (full := false) meas o.u lo' hi'
      generalize meas.codeOf o.u lo' hi' = c at fc ⊢
      obtain ⟨code0, s2⟩ := c
      dsimp -zeta only at fc ⊢
      extract_lets code s3 s4 s5 out s' s6 l6 bad l7 s7 s8 _ s9 parked
      have e3 : s3.core false = s0.core false := by unfold s3; simp [fc, fm]
      have e4 : s4.core false = s0.core false := by unfold s4; split <;> simp [e3]
      have e5 : s5.core false = s0.core false := by unfold s5; split <;> simp [e4]
      have e' : s'.core false = s0.core false := by unfold s'; simp [e5]
      have e6 : s6.core false = s0.core false := by unfold s6; (repeat' split) <;> simp [e5, e']
      have e7 : s7.core false = s0.core false := by unfold s7; simp [e6]
      have e8 : s8.core false = s0.core false := by unfold s8; (repeat' split) <;> simp [e7]
      have e9 : s9.core false = s0.core false := by unfold s9; split <;> simp [e8]
      split <;> simp [e9]

@[simp] theorem State.takeStep4_gate (s : State) (k : Nat) (b : Bool) (t : Int) : (s.takeStep4 k b t).core false = s.core false := by
  unfold State.takeStep4
  split <;> simp

@[simp] theorem State.boardFollow_gate (s : State) (valid : Bool) : (s.boardFollow valid).core false = s.core false := by
  unfold State.boardFollow
  extract_lets t s0 rate _ s1 s2 excess hot s3 cool y s4 out
  have e0 : s0.core false = s.core false := by unfold s0; simp
  have e1 : s1.core false = s.core false := by
    unfold s1
    split
    · exact (State.core_upd (b := s0) (hd := rfl) (he := fun _ => rfl) (hf := rfl) ..).trans e0
    · exact e0
  have e2 : s2.core false = s.core false := by unfold s2; cases rate <;> simp [e1]
  have e3 : s3.core false = s.core false := by unfold s3; split <;> simp [e2]
  have e4 : s4.core false = s.core false := by unfold s4; simp [e3]
  split
  · split <;> simp [e4]
  · have := State.inhibitOff_core (full := false) s4 inhBoardTemp inhBoardTemp_ne
    exact Eq.trans this e4

@[simp] theorem State.regionFollow_gate (s : State) (r : Nat) (t : Int) : (s.regionFollow r t).core false = s.core false := by
  unfold State.regionFollow
  extract_lets x hot cool s1 s2
  have e1 : s1.core false = s.core false := by unfold s1; simp
  have e2 : s2.core false = s.core false := by unfold s2; split <;> simp [e1]
  split <;> simp [e2]

@[simp] theorem State.judge_gate (s : State) (k : Nat) (valid plain : Bool) : (s.judge k valid plain).core false = s.core false := by
  unfold State.judge
  extract_lets t s1 s2 ref s3 s4 edges was up dn m _ s5
  have e4 : s4.core false = s.core false := by unfold s4; simp
  have e5 : s5.core false = s.core false := by
    unfold s5
    split
    · exact State.core_upd (b := s) (hd := rfl) (he := fun _ => rfl) (hf := rfl) ..
    · rfl
  split
  · have e1 : s1.core false = s.core false := by unfold s1; split <;> simp
    have e2 : s2.core false = s.core false := by unfold s2; simp [e1]
    have e3 : s3.core false = s.core false := by unfold s3; split <;> simp [e2]
    simp [e3]
  · split
    · split <;> simp [e4]
    · split
      · rfl
      · split
        · rw [State.boardFollow_gate]
          exact e5
        · split <;> simp

@[simp] theorem State.sensorFail_gate (s : State) (k : Nat) : (s.sensorFail k).core false = s.core false := by
  unfold State.sensorFail
  extract_lets x s0 hot _ s1 s2 s3 s4
  have e0 : s0.core false = s.core false := by unfold s0; simp
  have e1 : s1.core false = s.core false := by unfold s1; simp [e0]
  have e2 : s2.core false = s.core false := by unfold s2; simp [e1]
  have e3 : s3.core false = s.core false := by unfold s3; simp [e2]
  have e4 : s4.core false = s.core false := by unfold s4; (repeat' split) <;> simp [e3]
  split
  · exact e0
  · simp [e4]

@[simp] theorem State.sensorValid_gate (s : State) (k : Nat) (t : Int) (plain : Bool) : (s.sensorValid k t plain).core false = s.core false := by
  unfold State.sensorValid
  simp

@[simp] theorem State.tempReading_gate (s : State) (k : Nat) (x : Reading) : (s.tempReading k x).core false = s.core false := by
  unfold State.tempReading
  extract_lets c asked plain
  split
  · (repeat' split) <;> simp
  · split
    · rfl
    · have hd := State.draw_core (full := false) s
      generalize s.draw = d at hd ⊢
      obtain ⟨m, s1⟩ := d
      dsimp only at hd ⊢
      (repeat' split) <;> simp [hd]
  · split
    · rfl
    · extract_lets s2
      (repeat' split) <;> simp [s2]

@[simp] theorem State.sensorStale_gate (s : State) (k : Nat) : (s.sensorStale k).core false = s.core false := by
  unfold State.sensorStale
  split <;> simp

@[simp] theorem State.livenessRelease_gate (s : State) : s.livenessRelease.core false = s.core false := by
  unfold State.livenessRelease
  split <;> simp

@[simp] theorem State.safeOffAssert_gate (s : State) : s.safeOffAssert.core false = s.core false := by
  unfold State.safeOffAssert
  split <;> simp

@[simp] theorem State.bankBoot_gate (s : State) : s.bankBoot.core false = s.core false := by
  unfold State.bankBoot
  split <;> simp


/-! ### Firing is inhibited outside SCAN -/

theorem State.core_state {s t : State} {f : Bool} (h : t.core f = s.core f) : t.dev.state = s.dev.state := by
  simp only [State.core, Prod.mk.injEq] at h
  exact h.2.2.1

theorem State.core_pending {s t : State} {f : Bool} (h : t.core f = s.core f) : t.pending = s.pending := by
  simp only [State.core, Prod.mk.injEq] at h
  exact h.1

theorem State.core_bit {s t : State} {f : Bool} (h : t.core f = s.core f) : bitOf t.fire.inhibit 0 = bitOf s.fire.inhibit 0 := by
  simp only [State.core, Prod.mk.injEq] at h
  exact h.2.2.2.2

theorem State.core_safe {s t : State} (h : t.core true = s.core true) : t.ev.safeWanted = s.ev.safeWanted := by
  simp only [State.core, Prod.mk.injEq, if_true] at h
  exact h.2.2.2.1

theorem State.core_weak {s t : State} {f : Bool} (h : t.core f = s.core f) : t.core false = s.core false := by
  cases f
  · exact h
  · simp only [State.core, Prod.mk.injEq] at h ⊢
    exact ⟨h.1, h.2.1, h.2.2.1, rfl, h.2.2.2.2⟩

/-- An operation that leaves the device state and the STATE inhibit leaves firing shut. -/
theorem State.shut_of {s t : State} {f : Bool} (h : t.core f = s.core f) (hs : s.shut) : t.shut := by
  intro hn
  rw [State.core_bit h]
  exact hs (by rw [← State.core_state h]; exact hn)

theorem State.good_of {s t : State} (h : t.core true = s.core true) (hs : s.good) : t.good :=
  ⟨(State.core_safe h).trans hs.1, State.shut_of h hs.2⟩

/-! ### Entering a state -/

theorem bitOf_setBit_on (v : Nat) : bitOf (setBit v 0 true) 0 = true := by
  unfold setBit bitOf
  simp

theorem bitOf_setBit_off (v : Nat) : bitOf (setBit v 0 false) 0 = false := by
  unfold setBit bitOf
  simp only [Bool.false_eq_true, if_false]
  split
  · rename_i h
    have := Nat.ge_two_pow_of_testBit h
    simp only [Nat.testBit_zero, decide_eq_true_eq] at h
    simp
    omega
  · rename_i h
    simpa using h

theorem State.inhibitOn_state (s : State) :
    (s.inhibitOn inhState).core full = (s.pending, s.variant, s.dev.state, (if full then s.ev.safeWanted else none), true) := by
  unfold State.inhibitOn
  split
  · rename_i h
    simp only [State.core]
    rw [show bitOf s.fire.inhibit 0 = true from h]
  · rw [State.touchNotes_core, State.cutPulses_core]
    simp only [State.core]
    rw [show inhState = 0 from rfl, bitOf_setBit_on]

theorem State.inhibitOff_state (s : State) :
    (s.inhibitOff inhState).core full = (s.pending, s.variant, s.dev.state, (if full then s.ev.safeWanted else none), false) := by
  unfold State.inhibitOff
  simp only [State.core]
  rw [show inhState = 0 from rfl, bitOf_setBit_off]

/-- What entering a state starts leaves the queue and the state, and sets the STATE inhibit outside SCAN and clears it in SCAN. -/
theorem State.arriveState_core (s : State) (old : DevState) : (s.arriveState old).core full =
    (s.pending, s.variant, s.dev.state, (if full then s.ev.safeWanted else none), decide (s.dev.state ≠ .scan)) := by
  unfold State.arriveState
  extract_lets new s1 first t _ s2 s3 kept s4 s5 s6
  have e1 : s1.core full = s.core full := by unfold s1; split <;> simp
  have e2 : s2.core full = s.core full := by
    unfold s2
    split
    · exact (State.core_upd (b := t) (hd := rfl) (he := fun _ => rfl) (hf := rfl) ..).trans (by unfold t; simp [e1])
    · exact e1
  have h2 : (s2.pending, s2.variant, s2.dev.state, (if full then s2.ev.safeWanted else none), bitOf s2.fire.inhibit 0) =
    (s.pending, s.variant, s.dev.state, (if full then s.ev.safeWanted else none), bitOf s.fire.inhibit 0) := e2
  simp only [Prod.mk.injEq] at h2
  obtain ⟨a1, a2, a3, a4, _⟩ := h2
  have e3 : s3.core full = (s.pending, s.variant, s.dev.state, (if full then s.ev.safeWanted else none), decide (s.dev.state ≠ .scan)) := by
    unfold s3
    split
    · rename_i h
      have h' : s.dev.state = .scan := h
      rw [State.inhibitOff_state, a1, a2, a3, a4, h']
      rfl
    · rename_i h
      have h' : s.dev.state ≠ .scan := h
      rw [State.inhibitOn_state, a1, a2, a3, a4]
      simp [h']
  have e4 : s4.core full = s3.core full := by unfold s4; simp
  have e5 : s5.core full = s3.core full := by unfold s5; split <;> simp [e4]
  have e6 : s6.core full = s3.core full := by unfold s6; split <;> simp [e5]
  rw [← e3]
  split <;> simp [e6]

/-- Entering another state: the state is the new one, the STATE inhibit is set outside SCAN and cleared in SCAN, no Fatal event is added. -/
theorem State.enterState_core (s : State) (new : DevState) (a b : Nat) (h : s.dev.state ≠ new) : (s.enterState new a b).core full =
    (s.pending, s.variant, new, (if full then s.ev.safeWanted else none), decide (new ≠ .scan)) := by
  unfold State.enterState
  extract_lets old s1 _ _ s2 s3 s4
  rw [if_neg h, State.raise_core]
  have e1 : s1.core full = s.core full := by unfold s1; simp
  have h1 : (s1.pending, s1.variant, s1.dev.state, (if full then s1.ev.safeWanted else none), bitOf s1.fire.inhibit 0) =
    (s.pending, s.variant, s.dev.state, (if full then s.ev.safeWanted else none), bitOf s.fire.inhibit 0) := e1
  simp only [Prod.mk.injEq] at h1
  obtain ⟨a1, a2, a3, a4, _⟩ := h1
  have e3 : s3.core full = (s.pending, s.variant, new, (if full then s.ev.safeWanted else none), decide (new ≠ .scan)) := by
    unfold s3
    rw [State.setU_core, State.arriveState_core, ← a1, ← a2, ← a4]
  unfold s4
  split <;> simp [e3]

theorem State.enterState_shut (s : State) (new : DevState) (a b : Nat) (hs : s.shut) : (s.enterState new a b).shut := by
  by_cases h : s.dev.state = new
  · unfold State.enterState
    extract_lets
    rw [if_pos h]
    exact hs
  · have e := State.enterState_core (full := false) s new a b h
    simp only [State.core, Prod.mk.injEq] at e
    intro hn
    rw [e.2.2.2.2]
    rw [e.2.2.1] at hn
    simp [hn]

theorem State.enterState_safe (s : State) (new : DevState) (a b : Nat) : (s.enterState new a b).ev.safeWanted = s.ev.safeWanted := by
  by_cases h : s.dev.state = new
  · unfold State.enterState
    extract_lets
    rw [if_pos h]
  · have e := State.enterState_core (full := true) s new a b h
    simp only [State.core, Prod.mk.injEq, if_true] at e
    exact e.2.2.2.1

theorem State.enterState_state (s : State) (new : DevState) (a b : Nat) : (s.enterState new a b).dev.state = new := by
  by_cases h : s.dev.state = new
  · unfold State.enterState
    extract_lets
    rw [if_pos h]
    exact h
  · have e := State.enterState_core (full := true) s new a b h
    simp only [State.core, Prod.mk.injEq, if_true] at e
    exact e.2.2.1

theorem State.enterState_pending (s : State) (new : DevState) (a b : Nat) : (s.enterState new a b).pending = s.pending := by
  by_cases h : s.dev.state = new
  · unfold State.enterState
    extract_lets
    rw [if_pos h]
  · have e := State.enterState_core (full := true) s new a b h
    simp only [State.core, Prod.mk.injEq, if_true] at e
    exact e.1

theorem State.cleared_good (s : State) : s.cleared.good := ⟨rfl, fun _ => by
  rw [show s.cleared.fire.inhibit = State.reset.fire.inhibit from rfl]
  decide⟩

theorem State.enterReset_good (s : State) (k : Nat) : (s.enterReset k).good := State.cleared_good _

/-- The end of a command: a Fatal event has led to SAFE, and firing is shut (R63). -/
theorem State.safeIfWanted_good (s : State) (hs : s.shut) : s.safeIfWanted.good := by
  unfold State.safeIfWanted
  split
  · rename_i h
    exact ⟨h, hs⟩
  · extract_lets _ s1
    have h1 : s1.shut := hs
    split
    · exact ⟨(State.enterState_safe _ _ _ _).trans rfl, State.enterState_shut _ _ _ _ h1⟩
    · split
      · exact ⟨rfl, h1⟩
      · exact ⟨rfl, h1⟩

theorem State.settle_good (s : State) (hs : s.shut) : s.settle.good := by
  unfold State.settle
  extract_lets s1 _ s2
  have e : s2.core true = s1.core true := by
    unfold s2
    split
    · simp
    · rfl
  refine State.good_of (s := s1) ?_ (State.safeIfWanted_good s hs)
  simp [e]

/-- A command whose effect leaves firing shut ends good. -/
theorem State.does_good (s : State) (f : State → State) (hs : (f s.begin).shut) (t : State) (h : s.does f = .next t) : t.good := by
  unfold State.does at h
  cases h
  exact State.settle_good _ hs

theorem State.awake_good (s : State) (f : State → State) (hg : s.shut) (hs : s.begin.shut → (f s.begin).shut) (t : State) (h : s.awake f = .next t) : t.good := by
  refine State.does_good s _ ?_ t h
  change State.shut (if s.begin.dev.state = .reset then s.begin else f s.begin)
  split
  · exact hg
  · exact hs hg

/-! ### Operations that enter a state -/

theorem State.transitionDue_shut (s : State) (hs : s.shut) : s.transitionDue.shut := by
  unfold State.transitionDue
  split
  · exact hs
  · rename_i c _
    extract_lets _ s1
    have h1 : s1.shut := hs
    split
    · exact h1
    · split <;> first | exact State.enterState_shut _ _ _ _ h1 | exact h1

theorem State.ownBoundary_shut (s : State) (b : Bdy) (hs : s.shut) : (s.ownBoundary b).shut := by
  unfold State.ownBoundary
  extract_lets s1 s2 s3 _ s4 _ s5
  have h3 : s3.shut := by
    refine State.transitionDue_shut _ (State.shut_of (s := s) (f := false) ?_ hs)
    have e2 : s2.core false = s.core false := by unfold s2 s1; split <;> simp
    simp [e2]
  split
  · exact h3
  · refine State.shut_of (s := s3) (f := false) ?_ h3
    have e5 : s5.core false = s3.core false := by unfold s5 s4; split <;> simp
    simp [e5]

theorem State.mirrorBoundary_shut (s : State) (b : Bdy) (bs : Bytes) (hs : s.shut) : (s.mirrorBoundary b bs).shut := by
  refine State.shut_of (s := s) (f := false) ?_ hs
  unfold State.mirrorBoundary
  extract_lets s1 _ s2 s3 s4
  have e1 : s1.core false = s.core false := by unfold s1; simp
  have e2 : s2.core false = s.core false := (State.core_upd (b := s1) (hd := rfl) (he := fun _ => rfl) (hf := rfl) ..).trans e1
  simp [s4, s3, e2]

theorem State.columnBoundary_shut (s : State) (hs : s.shut) : s.columnBoundary.shut := by
  unfold State.columnBoundary
  split
  · exact hs
  · split
    · exact State.mirrorBoundary_shut _ _ _ hs
    · exact State.ownBoundary_shut _ _ hs

theorem State.takeover_shut (s : State) (k : Nat) (hs : s.shut) : (s.takeover k).shut := by
  unfold State.takeover
  split
  · exact hs
  · extract_lets stale s1 s2 _ s3 t0 s4
    have h3 : s3.core false = s.core false := by
      refine (State.core_upd (b := s2) (hd := rfl) (he := fun _ => rfl) (hf := rfl) ..).trans ?_
      unfold s2 s1
      simp
    split
    · exact State.enterState_shut _ _ _ _ (State.shut_of h3 hs)
    · have h4 : s4.shut := State.enterState_shut _ _ _ _ (State.shut_of (s := s) (f := false) (by simp [h3]) hs)
      exact h4

theorem State.startIfReady_shut (s : State) (hs : s.shut) : s.startIfReady.shut := by
  unfold State.startIfReady
  split
  · exact hs
  · split
    · exact hs
    · split
      · exact State.enterState_shut _ _ _ _ hs
      · exact hs

theorem State.loopRun_shut (s : State) (n latency : Nat) (ecc : Bool) (hs : s.shut) : (s.loopRun n latency ecc).shut := by
  unfold State.loopRun
  extract_lets s1
  refine State.startIfReady_shut _ (State.shut_of (s := s1) (f := false) ?_ (State.shut_of (s := s) (f := false) ?_ hs))
  · rw [State.loopFrameSend_core]
    exact State.core_upd (b := s1) (hd := rfl) (he := fun _ => rfl) (hf := rfl) ..
  · simp [s1]

theorem State.clearSafe_shut (s : State) (hs : s.shut) : s.clearSafe.2.shut := by
  unfold State.clearSafe
  extract_lets active _ _ s1
  split
  · exact hs
  · have h1 : s1.shut := hs
    refine State.enterState_shut _ _ _ _ (State.shut_of (s := s1) (f := false) ?_ h1)
    simp

theorem State.armCommand_shut (s : State) (hs : s.shut) : s.armCommand.2.shut := by
  unfold State.armCommand
  extract_lets s1
  split
  · exact hs
  · split
    · exact State.shut_of (s := s) (f := false) (by simp) hs
    · split
      · exact hs
      · refine State.enterState_shut _ _ _ _ (State.shut_of (s := s) (f := false) ?_ hs)
        unfold s1
        split <;> simp

theorem State.commandAct_shut (s : State) (c : Cmd) (hs : s.shut) : (s.commandAct c).2.shut := by
  unfold State.commandAct
  cases c <;> dsimp only
  case arm => exact State.armCommand_shut s hs
  case start =>
    split
    · exact State.enterState_shut _ _ _ _ hs
    · exact hs
  case follow =>
    split
    · exact hs
    · exact State.enterState_shut _ _ _ _ hs
  case commitImage =>
    split
    · exact (State.enterReset_good _ _).2
    · exact State.shut_of (s := s) (f := false) (by simp) hs
  case cancelUpdate =>
    split
    · exact (State.enterReset_good _ _).2
    · exact State.enterState_shut _ _ _ _ (State.shut_of (s := s) (f := false) (by simp) hs)
  case clearSafe => exact State.clearSafe_shut s hs
  case reset => exact (State.enterReset_good _ _).2
  case commitShadow => exact State.shut_of (s := s) (f := false) (by simp) hs
  case discardShadow => exact State.shut_of (s := s) (f := false) (by simp) hs
  case restoreDefaults => exact State.shut_of (s := s) (f := false) (by simp) hs
  all_goals first | exact State.enterState_shut _ _ _ _ hs | exact hs

theorem State.command_shut (s : State) (c : Cmd) (hs : s.shut) : (s.command c).2.shut := by
  unfold State.command
  extract_lets _ t
  split
  · exact hs
  · split
    · exact hs
    · split
      · exact State.shut_of (s := s) (f := false) (by simp) hs
      · refine State.commandAct_shut t c ?_
        unfold t
        split <;> exact hs

theorem State.commandWrite_shut (s : State) (a : Bool) (l k : Nat) (hs : s.shut) : (s.commandWrite a l k).2.shut := by
  unfold State.commandWrite
  extract_lets
  split
  · exact hs
  · split
    · exact hs
    · split
      · exact hs
      · exact State.command_shut s _ hs

theorem State.safeAsk_shut (s : State) (hs : s.shut) : s.safeAsk.shut := by
  unfold State.safeAsk
  extract_lets s1 _
  have h1 : s1.shut := State.shut_of (s := s) (f := false) (by simp [s1]) hs
  split
  · exact h1
  · exact State.command_shut _ _ h1

theorem State.spiWrite_shut (s : State) (a : Nat) (ws : List Nat) (hs : s.shut) : (s.spiWrite a ws).shut := by
  unfold State.spiWrite
  split
  · exact hs
  · extract_lets _ _ _ s1
    have h1 : s1.shut := hs
    split
    · exact State.safeAsk_shut _ h1
    · exact h1

theorem State.heartbeatMiss_shut (s : State) (hs : s.shut) : s.heartbeatMiss.shut := by
  unfold State.heartbeatMiss
  split
  · exact hs
  · extract_lets s1 run _ s2 takes s3
    have e2 : s2.core false = s.core false := by
      unfold s2
      rw [State.bump_core]
      exact (State.core_upd (b := s1) (hd := rfl) (he := fun _ => rfl) (hf := rfl) ..).trans (by simp [s1])
    have h2 : s2.shut := State.shut_of e2 hs
    have h3 : s3.shut := State.shut_of (s := s2) (f := false) (by simp [s3]) h2
    split
    · exact h2
    · split
      · exact State.takeover_shut _ _ h3
      · exact h3

theorem State.pairOwnRelease_shut (s : State) (hs : s.shut) : s.pairOwnRelease.shut := by
  unfold State.pairOwnRelease
  split
  · exact hs
  · extract_lets _ s1
    have h1 : s1.shut := hs
    split
    · exact State.takeover_shut _ _ h1
    · split
      · exact State.takeover_shut _ _ h1
      · exact h1

theorem State.pairOwnTimeout_shut (s : State) (hs : s.shut) : s.pairOwnTimeout.shut := by
  unfold State.pairOwnTimeout
  split
  · exact hs
  · exact State.takeover_shut _ _ (State.shut_of (s := s) (f := false) (by simp) hs)

theorem State.releaseFrame_shut (s : State) (f : PairFrame) (hs : s.shut) : (s.releaseFrame f).shut := by
  unfold State.releaseFrame State.pairTake
  split
  · exact hs
  · split
    · dsimp only
      split
      · exact State.takeover_shut _ _ hs
      · exact hs
    · exact State.shut_of (s := s) (f := false) (by simp) hs

/-! ### Requests of the data protocol -/

/-- An operation that leaves firing shut, with the state of its answer. -/
theorem State.blockApply_shut (s : State) (level name : Nat) (bs : Bytes) (stage : Bool) (hs : s.shut) : (s.blockApply level name bs stage).2.shut := by
  unfold State.blockApply
  split
  · split
    · exact hs
    · extract_lets
      split
      · exact State.commandWrite_shut _ _ _ _ hs
      · split
        · exact hs
        · exact State.shut_of (s := s) (f := false) (by simp) hs
  · exact hs

theorem State.opWriteDo_shut (s : State) (c : Caller) (body : Bytes) (stage : Bool) (hs : s.shut) : (s.opWriteDo c body stage).st.shut := by
  unfold State.opWriteDo
  extract_lets
  split
  · exact hs
  · exact hs
  · split
    · exact hs
    · extract_lets
      split
      · exact hs
      · split
        · exact State.commandWrite_shut _ _ _ _ hs
        · split
          · exact hs
          · exact State.shut_of (s := s) (f := false) (by simp [replyWith]) hs

theorem State.opBlockWriteDo_shut (s : State) (c : Caller) (body : Bytes) (hs : s.shut) : (s.opBlockWriteDo c body).st.shut := by
  unfold State.opBlockWriteDo
  extract_lets
  split
  · exact hs
  · exact hs
  · split
    · exact hs
    · extract_lets
      split
      · exact hs
      · split
        · exact hs
        · split
          · exact hs
          · split
            · exact State.blockApply_shut _ _ _ _ _ hs
            · exact hs

theorem State.opBlockNextDo_shut (s : State) (c : Caller) (body : Bytes) (hs : s.shut) : (s.opBlockNextDo c body).st.shut := by
  unfold State.opBlockNextDo
  extract_lets
  split
  · exact hs
  · split
    · exact hs
    · split
      · split
        · exact hs
        · unfold State.blockNextWrite
          extract_lets _ image s1 _
          have h1 : s1.shut := State.shut_of (s := s) (f := false) (by unfold s1; split <;> simp) hs
          split
          · exact hs
          · split
            · exact h1
            · exact State.blockApply_shut _ _ _ _ _ h1
      · split
        · exact hs
        · exact State.shut_of (s := s) (f := false) (by simp) hs

/-- A request leaves firing shut when its operation does. -/
theorem State.dtpRequest_shut (s : State) (h : ReqHdr) (op : Nat) (body : Bytes) (act : Caller → State → Reply)
    (ha : ∀ (c : Caller) (t : State), t.shut → (act c t).st.shut) (hs : s.shut) : (s.dtpRequest h op body act).shut := by
  have hp : s.purge.shut := State.shut_of (s := s) (f := false) (by simp) hs
  unfold State.dtpRequest
  split
  · exact hs
  · split
    · exact State.shut_of (s := s) (f := false) (by simp) hs
    · extract_lets t r
      split
      · exact State.shut_of (s := r.st) (f := false) (by simp) (ha _ _ hp)
      · split
        · split
          · rename_i x _ _
            unfold State.inSession
            split
            · exact State.shut_of (s := t) (f := false) (by simp) hp
            · split
              · exact State.shut_of (s := t) (f := false) (by simp) hp
              · split
                · exact State.shut_of (s := t) (f := false) (by simp) hp
                · extract_lets r
                  have hr : r.st.shut := ha _ _ hp
                  split
                  · exact State.shut_of (s := r.st) (f := false) (by simp) hr
                  · unfold State.answerSession
                    extract_lets _ _ _ _ _ _ s1
                    have h1 : s1.shut := hr
                    exact State.shut_of (s := s1) (f := false) (by simp) h1
          · exact State.shut_of (s := t) (f := false) (by simp) hp
        · split
          · exact State.shut_of (s := t) (f := false) (by simp) hp
          · extract_lets
            (repeat' split) <;> exact State.shut_of (s := t) (f := false) (by simp) hp

theorem State.dtpRead_shut (s : State) (h : ReqHdr) (body : Bytes) (hs : s.shut) : (s.dtpRead h body).shut :=
  s.dtpRequest_shut h opRead body _ (fun c t ht => State.shut_of (s := t) (f := false) (by simp) ht) hs

theorem State.dtpWrite_shut (s : State) (h : ReqHdr) (body : Bytes) (hs : s.shut) : (s.dtpWrite h body).shut :=
  s.dtpRequest_shut h opWrite body _ (fun c t ht => t.opWriteDo_shut c body false ht) hs

theorem State.dtpStage_shut (s : State) (h : ReqHdr) (body : Bytes) (hs : s.shut) : (s.dtpStage h body).shut :=
  s.dtpRequest_shut h opStage body _ (fun c t ht => t.opWriteDo_shut c body true ht) hs

theorem State.dtpBlockRead_shut (s : State) (h : ReqHdr) (body : Bytes) (d : Option Bytes) (hs : s.shut) : (s.dtpBlockRead h body d).shut :=
  s.dtpRequest_shut h opBlockRead body _ (fun c t ht => State.shut_of (s := t) (f := false) (by simp) ht) hs

theorem State.dtpBlockWrite_shut (s : State) (h : ReqHdr) (body : Bytes) (hs : s.shut) : (s.dtpBlockWrite h body).shut :=
  s.dtpRequest_shut h opBlockWrite body _ (fun c t ht => t.opBlockWriteDo_shut c body ht) hs

theorem State.dtpBlockNext_shut (s : State) (h : ReqHdr) (body : Bytes) (hs : s.shut) : (s.dtpBlockNext h body).shut :=
  s.dtpRequest_shut h opBlockNext body _ (fun c t ht => t.opBlockNextDo_shut c body ht) hs

theorem State.dtpChallenge_shut (s : State) (h : ReqHdr) (body : Bytes) (hs : s.shut) : (s.dtpChallenge h body).shut :=
  s.dtpRequest_shut h opChallenge body _ (fun c t ht => State.shut_of (s := t) (f := false) (by simp) ht) hs

theorem State.dtpResponse_shut (s : State) (h : ReqHdr) (body : Bytes) (hs : s.shut) : (s.dtpResponse h body).shut :=
  s.dtpRequest_shut h opResponse body _ (fun _ _ ht => ht) hs

theorem State.dtpClose_shut (s : State) (h : ReqHdr) (body : Bytes) (hs : s.shut) : (s.dtpClose h body).shut := by
  refine s.dtpRequest_shut h opClose body _ (fun c t ht => ?_) hs
  split
  · exact State.shut_of (s := t) (f := false) (by simp) ht
  · exact ht

/-! ### Reset and boot -/

theorem State.resetNAssert_shut (s : State) (n : Nat) (hs : s.shut) : (s.resetNAssert n).shut := by
  unfold State.resetNAssert
  extract_lets low go
  have hgo : ∀ t : State, t.shut → (go t).shut := by
    intro t ht
    unfold go
    split
    · exact ht
    · exact (State.enterReset_good t 1).2
  have hd := State.draw_core (full := false) s
  generalize s.draw = d at hd ⊢
  obtain ⟨x, s1⟩ := d
  have h1 : s1.shut := State.shut_of hd hs
  split
  · exact hs
  · split
    · exact hgo s hs
    · dsimp only
      split
      · exact hgo s1 h1
      · exact h1

theorem State.railUndervoltage_shut (s : State) (r : Rail) (hs : s.shut) : (s.railUndervoltage r).shut := by
  unfold State.railUndervoltage
  split
  · exact hs
  · extract_lets s1
    have h1 : s1.shut := (State.enterReset_good _ _).2
    exact h1

theorem State.bootWatchdog_shut (s : State) (hs : s.shut) : s.bootWatchdog.shut := by
  unfold State.bootWatchdog
  split
  · exact hs
  · exact (State.enterReset_good _ _).2

theorem State.refclkLost_shut (s : State) (b : Bool) (hs : s.shut) : (s.refclkLost b).shut := by
  unfold State.refclkLost
  split
  · exact hs
  · exact (State.enterReset_good _ _).2

theorem State.fullCalEnd_shut (s : State) (hs : s.shut) : s.fullCalEnd.shut := by
  unfold State.fullCalEnd
  split
  · exact hs
  · exact State.enterState_shut _ _ _ _ (State.shut_of (s := s) (f := false) (by simp) hs)

theorem State.resetRelease_shut (s : State) (p : BootPins) (hs : s.shut) : (s.resetRelease p).shut := by
  unfold State.resetRelease
  split
  · exact hs
  · rename_i hc
    have hr : s.dev.state = .reset := by
      by_cases h : s.dev.state = .reset
      · exact h
      · exact absurd (Or.inl h) hc
    have hb : bitOf s.fire.inhibit 0 = true := hs (by rw [hr]; decide)
    extract_lets _ s0
    have h0 : s0.core false = s.core false := State.core_upd (b := s) (hd := rfl) (he := fun _ => rfl) (hf := rfl) ..
    have hd := State.chooseSlot_core (full := false) s0 p.bootSafe
    generalize s0.chooseSlot p.bootSafe = d at hd ⊢
    obtain ⟨slot, s1⟩ := d
    dsimp -zeta only at hd ⊢
    have h1 : bitOf s1.fire.inhibit 0 = true := by rw [State.core_bit (hd.trans h0), hb]
    extract_lets rescue plain _ s2 compat ident _ s3 s4 s5 s6 s7 s8
    have h3 : s3.shut := fun _ => h1
    have e5 : s5.core false = s3.core false := by unfold s5 s4; simp
    have e6 : s6.core false = s3.core false := by unfold s6; simp [e5]
    have e7 : s7.core false = s3.core false := by unfold s7; simp [e6]
    have e8 : s8.core false = s3.core false := by unfold s8; split <;> simp [e7]
    refine State.shut_of (s := s3) (f := false) ?_ h3
    split <;> simp [e8]

theorem State.bootComplete_shut (s : State) (hs : s.shut) : s.bootComplete.shut := by
  unfold State.bootComplete
  split
  · exact hs
  · extract_lets now _ _ _ _ _ _ _ s1 s2 s3 s4 s5 s6 s7 s8 s9
    have e1 : s1.core false = s.core false := State.core_upd (b := s) (hd := rfl) (he := fun _ => rfl) (hf := rfl) ..
    have e2 : s2.core false = s.core false := by unfold s2; simp [e1]
    have e3 : s3.core false = s.core false := by unfold s3; split <;> simp [e2]
    generalize s3.bootTarget = d
    obtain ⟨goal, cause⟩ := d
    dsimp -zeta only
    extract_lets s10
    have e4 : s4.core false = s.core false := by unfold s4; split <;> simp [e3]
    have e5 : s5.core false = s.core false := by unfold s5; split <;> simp [e4]
    have e9 : s9.core false = s.core false := by unfold s9 s8 s7 s6; simp [e5]
    have h10 : s10.shut := by
      refine State.enterState_shut _ _ _ _ (State.shut_of (s := s9) (f := false) ?_ (State.shut_of e9 hs))
      exact State.core_upd (b := s9) (hd := rfl) (he := fun h => by cases h) (hf := rfl) ..
    refine State.shut_of (s := s10) (f := false) ?_ h10
    simp

end Sys2Proof.Machine
end

