-- ==== Sys2Proof/Laws/Request.lean ====
section
/-!
SUPPORT. What a request of the data protocol does: an admitted request runs its operation once and sends one answer, which writes nothing
but DTP's own state and the queues of the ports.
-/

namespace Sys2Proof.Machine

/-! ### Answers -/

theorem State.service_shape (s : State) (p l : Nat) (f : Bytes) :
    s.service p l f = { s with merge := { s.merge with ports := (s.service p l f).merge.ports } } := by
  unfold State.service
  split <;> rfl

theorem State.sendAnswer_shape (s : State) (a : Answer) : ∃ ps, s.sendAnswer a =
    { s with dtp := { s.dtp with answers := s.dtp.answers ++ [a] }, merge := { s.merge with ports := ps } } := by
  unfold State.sendAnswer
  extract_lets _ s1
  split
  · exact ⟨s.merge.ports, rfl⟩
  · exact ⟨_, State.service_shape s1 _ _ _⟩

theorem State.sendAnswer_answered (s : State) (a : Answer) : (s.sendAnswer a).answered a := by
  obtain ⟨ps, h⟩ := s.sendAnswer_shape a
  rw [h]
  unfold State.answered
  simp

theorem State.sendAnswer_with (s : State) (a : Answer) : s.sendAnswer a = s.withAnswer (s.sendAnswer a) := by
  obtain ⟨ps, h⟩ := s.sendAnswer_shape a
  rw [h]
  rfl

theorem State.answerSession_with (s : State) (h : ReqHdr) (op : Nat) (x : Session) (r : Reply) :
    s.answerSession h op x r = r.st.withAnswer (s.answerSession h op x r) := by
  unfold State.answerSession
  extract_lets plain out body a _ _ s1
  obtain ⟨ps, h⟩ := s1.sendAnswer_shape a
  rw [h]
  rfl

theorem State.sendAnswer_transfers (s : State) (a : Answer) : (s.sendAnswer a).dtp.transfers = s.dtp.transfers := by
  obtain ⟨ps, h⟩ := s.sendAnswer_shape a
  rw [h]

theorem State.answerSession_transfers (s : State) (h : ReqHdr) (op : Nat) (x : Session) (r : Reply) :
    (s.answerSession h op x r).dtp.transfers = r.st.dtp.transfers := by
  unfold State.answerSession
  extract_lets plain out body a _ _ s1
  exact State.sendAnswer_transfers s1 a

theorem State.answerSession_answered (s : State) (h : ReqHdr) (op : Nat) (x : Session) (r : Reply) (hop : op ≠ opChallenge) :
    (s.answerSession h op x r).answered (answerOf h (0x80 + op) x.id (x.lastOut + 1) (replyBody op r.code r.tail) (some x.key)) := by
  unfold State.answerSession
  extract_lets plain out body a _ _ s1
  have hp : plain = false := by simp [plain, hop]
  have ho : out = x.lastOut + 1 := by simp [out, hp]
  have ha : a = answerOf h (0x80 + op) x.id (x.lastOut + 1) (replyBody op r.code r.tail) (some x.key) := by simp [a, hp, ho, body]
  rw [← ha]
  exact State.sendAnswer_answered _ _

/-! ### An admitted request -/

/-- The purge at a request's start writes DTP's own state only. -/
theorem State.purge_shape (s : State) : s.purge = { s with dtp := s.purge.dtp } := by
  have hf : ∀ (xs : List Session) (t : State), t.dev = s.dev → ∃ d, xs.foldl (fun (s : State) x => s.endSession x.transport x.id) t = { t with dtp := d } := by
    intro xs
    induction xs with
    | nil => intro t _; exact ⟨t.dtp, rfl⟩
    | cons x xs ih =>
      intro t ht
      obtain ⟨d, hd⟩ := ih (t.endSession x.transport x.id) ht
      exact ⟨d, hd⟩
  unfold State.purge
  extract_lets now s1
  obtain ⟨d, hd⟩ := hf (s.dtp.sessions.filter (fun x => !s.sessionLive x)) s rfl
  have h1 : s1 = { s with dtp := d } := hd
  rw [h1]

/-- A request that is heard runs its operation once and answers with its code. -/
theorem State.dtpRequest_heard (s : State) (h : ReqHdr) (op : Nat) (body : Bytes) (act : Caller → State → Reply) (c : Caller)
    (hh : s.hears h op body c) (h1 : op ≠ opResponse) (h2 : op ≠ opChallenge) (hu : untagged (act c s.begin.purge).code = false) :
    s.begin.dtpRequest h op body act = (act c s.begin.purge).st.withAnswer (s.begin.dtpRequest h op body act) ∧
      (s.begin.dtpRequest h op body act).answered (s.answerFor h op (act c s.begin.purge).code (act c s.begin.purge).tail) ∧
      (s.begin.dtpRequest h op body act).dtp.transfers = (act c s.begin.purge).st.dtp.transfers := by
  have hs : s.begin.dev.state = s.dev.state := rfl
  unfold State.dtpRequest State.answerFor
  rcases hh with ⟨ha, hf, h0, rfl⟩ | ⟨x, ⟨ha, hf, h0, hx, ht, hc⟩, rfl⟩
  · rw [hs, ha, hf]
    simp only [Bool.not_true, Bool.false_eq_true, if_false, h0, if_true]
    exact ⟨State.sendAnswer_with _ _, State.sendAnswer_answered _ _, State.sendAnswer_transfers _ _⟩
  · rw [hs, ha, hf]
    simp only [Bool.not_true, Bool.false_eq_true, if_false, h0, hx, ht, if_true]
    unfold State.inSession
    have hn1 : ¬ (h.counter.toNat = x.lastIn ∧ h.transaction.toNat = x.lastTransaction ∧ s.begin.purge.time.ticks ≤ x.seenAt + tickHz) := by
      omega
    rw [if_neg hn1, if_neg (by omega), if_neg h1]
    dsimp only
    rw [hu]
    simp only [Bool.false_eq_true, if_false]
    exact ⟨State.answerSession_with _ _ _ _ _, State.answerSession_answered _ _ _ _ _ h2, State.answerSession_transfers _ _ _ _ _⟩

theorem State.withAnswer_logged {e r t : State} {ids : List Nat} (h : e.Logged r ids) (ht : t = r.withAnswer t) :
    (e.withAnswer t).Logged t ids := by
  have hl : t.live = r.live := (congrArg State.live ht).trans rfl
  have hm : t.mram = r.mram := (congrArg State.mram ht).trans rfl
  have he : t.ev = r.ev := (congrArg State.ev ht).trans rfl
  have hv : t.variant = r.variant := (congrArg State.variant ht).trans rfl
  refine ⟨?_, ?_, ?_, ?_, ?_⟩
  · have h3 : t.merge.formed = r.merge.formed := (congrArg (fun (x : State) => x.merge.formed) ht).trans rfl
    have h4 : t.merge.group = r.merge.group := (congrArg (fun (x : State) => x.merge.group) ht).trans rfl
    have h5 : t.cal = r.cal := (congrArg State.cal ht).trans rfl
    have h6 : t.array = r.array := (congrArg State.array ht).trans rfl
    rw [hl, hm, he, h3, h4, h5, h6]
    have hr := congrArg (fun (x : State) => x.withAnswer t) h.rest
    exact ht.trans hr
  · intro id h1 h2
    rw [State.get_congr r t hv hl id]
    exact h.objects id h1 h2
  · intro id h1
    rw [hv, hm]
    exact h.stored id h1
  · rw [he]
    exact h.calm
  · rw [he]
    exact h.entries

/-- A command that is one request, heard, ends in what its operation leaves, its answer, and the log. -/
theorem State.request_ends (s : State) (h : ReqHdr) (op : Nat) (body : Bytes) (act : Caller → State → Reply) (c : Caller) (e : State)
    (ids : List Nat) (hr : s.ready) (hh : s.hears h op body c) (h1 : op ≠ opResponse) (h2 : op ≠ opChallenge)
    (hu : untagged (act c s.begin.purge).code = false) (he : e.ev.safeWanted = none) (hq : e.pending = s.pending)
    (hl : e.Logged (act c s.begin.purge).st ids) :
    ∃ t, s.awake (fun (t : State) => t.dtpRequest h op body act) = .next t ∧
      t.answered (s.answerFor h op (act c s.begin.purge).code (act c s.begin.purge).tail) ∧
      t.dtp.transfers = (act c s.begin.purge).st.dtp.transfers ∧ (e.withAnswer t).Logged t ids := by
  obtain ⟨hw, ha, htr⟩ := s.dtpRequest_heard h op body act c hh h1 h2 hu
  have hl2 := State.withAnswer_logged hl hw
  obtain ⟨t, ht, hg⟩ := s.awake_ends (fun (t : State) => t.dtpRequest h op body act) (e.withAnswer (s.begin.dtpRequest h op body act)) ids hr he hq hl2
  have hd : t.dtp = (s.begin.dtpRequest h op body act).dtp := (congrArg State.dtp hg.rest).trans rfl
  have hp : t.merge.ports = (s.begin.dtpRequest h op body act).merge.ports := (congrArg (fun (x : State) => x.merge.ports) hg.rest).trans rfl
  refine ⟨t, ht, ?_, by rw [hd]; exact htr, ?_⟩
  · unfold State.answered at *
    rw [hd]
    exact ha
  · unfold State.withAnswer at *
    rw [hd, hp]
    exact hg

/-- A command that changes DTP's own state and the queues of the ports only. -/
theorem State.dtp_ends (s : State) (f : State → State) (e : State) (ids : List Nat) (hr : s.ready) (he : e.ev.safeWanted = none)
    (hq : e.pending = s.pending) (hl : (e.withAnswer (f s.begin)).Logged (f s.begin) ids) :
    ∃ t, s.awake f = .next t ∧ t.dtp = (f s.begin).dtp ∧ (e.withAnswer t).Logged t ids := by
  obtain ⟨t, ht, hg⟩ := s.awake_ends f (e.withAnswer (f s.begin)) ids hr he hq hl
  have hd : t.dtp = (f s.begin).dtp := (congrArg State.dtp hg.rest).trans rfl
  have hp : t.merge.ports = (f s.begin).merge.ports := (congrArg (fun (x : State) => x.merge.ports) hg.rest).trans rfl
  refine ⟨t, ht, hd, ?_⟩
  unfold State.withAnswer at *
  rw [hd, hp]
  exact hg

/-! ### Operations on one object -/

theorem leVal_take_leBytes (n v : Nat) (bs : Bytes) : leVal ((leBytes n v ++ bs).take n) = v % 256 ^ n := by
  rw [List.take_append_of_le_length (Nat.le_of_eq (leBytes_length n v).symm)]
  have : (leBytes n v).take n = leBytes n v := List.take_of_length_le (Nat.le_of_eq (leBytes_length n v))
  rw [this, leVal_leBytes]

theorem numAt_leBytes (n v : Nat) (bs : Bytes) (h : v < 256 ^ n) : numAt 0 n (leBytes n v ++ bs) = v := by
  unfold numAt slice
  rw [List.drop_zero, leVal_take_leBytes, Nat.mod_eq_of_lt h]

/-- A READ of an object, admitted: its value, and what reading does to it. -/
theorem State.opReadDo_object (s : State) (c : Caller) (index sub id : Nat) (o : ObjDef) (hi : index < 65536) (hs : sub < 256)
    (hn : s.named index sub = .object id) (ho : objDef? id = some o) (ha : unitAbsent s.variant (id / 256) = false)
    (hc : s.readCode o c.level false (s.valueOf false id).length c.limit = Abort.ok) :
    s.opReadDo c (readBody index sub) = { code := Abort.ok, tail := readTail o.ty (s.valueOf false id), st := s.readClears id } := by
  have h1 : numAt 0 2 (readBody index sub) = index := numAt_leBytes 2 index _ hi
  have h2 : numAt 2 1 (readBody index sub) = sub := by
    simp only [readBody, numAt, slice, leBytes, List.cons_append, List.nil_append, List.drop_succ_cons, List.drop_zero, List.take, leVal,
      BitVec.toNat_ofNat]
    omega
  have h3 : bitOf (numAt 3 1 (readBody index sub)) 0 = false := by
    simp only [readBody, numAt, slice, leBytes, List.cons_append, List.nil_append, List.drop_succ_cons, List.drop_zero, List.take, leVal]
    decide
  unfold State.opReadDo
  dsimp only
  rw [h1, h2, hn]
  dsimp only
  rw [ho]
  dsimp only
  rw [ha, h3, hc]
  simp

/-- A WRITE of an object other than Command, admitted and good: its effect. -/
theorem State.opWriteDo_object (s : State) (c : Caller) (index sub ty id : Nat) (bs : Bytes) (o : ObjDef) (stage : Bool) (hi : index < 65536)
    (hs : sub < 256) (ht : ty < 256) (hn : s.named index sub = .object id) (ho : objDef? id = some o) (hcmd : id ≠ Obj.command)
    (ha : unitAbsent s.variant (id / 256) = false) (hc : s.writeCode o c.level ty bs stage c.limit = Abort.ok) :
    s.opWriteDo c (writeBody index sub ty bs) stage = replyWith (s.writeAct id bs stage) [0, 0] := by
  have h1 : numAt 0 2 (writeBody index sub ty bs) = index := by
    unfold writeBody
    rw [List.append_assoc, List.append_assoc, List.append_assoc]
    exact numAt_leBytes 2 index _ hi
  have h2 : numAt 2 1 (writeBody index sub ty bs) = sub := by
    simp only [writeBody, numAt, slice, leBytes, List.cons_append, List.nil_append, List.drop_succ_cons, List.drop_zero, List.take, leVal,
      BitVec.toNat_ofNat]
    omega
  have h3 : numAt 3 1 (writeBody index sub ty bs) = ty := by
    simp only [writeBody, numAt, slice, leBytes, List.cons_append, List.nil_append, List.drop_succ_cons, List.drop_zero, List.take, leVal,
      BitVec.toNat_ofNat]
    omega
  have h4 : (writeBody index sub ty bs).drop 8 = bs := rfl
  unfold State.opWriteDo
  dsimp only
  rw [h1, h2, h3, h4, hn]
  dsimp only
  rw [ho]
  dsimp only
  rw [ha, hc]
  simp [hcmd]

/-- A WRITE to Command that a session's level allows: the command. -/
theorem State.opWriteDo_command (s : State) (c : Caller) (k : Cmd) (hl : 1 ≤ c.level) :
    s.opWriteDo c (commandBody k) false = replyWith (s.commandWrite false c.level k.code) [0, 0] := by
  have hn : s.named 0x1200 0x01 = .object Obj.command := rfl
  have ho : objDef? Obj.command = some ⟨Obj.command, .u16, .wo, 1, leBytes 2 0, false, false, .any, 0⟩ := by decide
  have h1 : numAt 0 2 (commandBody k) = 0x1200 := by cases k <;> decide
  have h2 : numAt 2 1 (commandBody k) = 0x01 := by cases k <;> decide
  have h3 : numAt 3 1 (commandBody k) = 0x03 := by cases k <;> decide
  have h4 : leVal ((commandBody k).drop 8) = k.code := by cases k <;> decide
  have h5 : ((commandBody k).drop 8).length = 2 := by cases k <;> decide
  have hu : unitAbsent s.variant (Obj.command / 256) = false := rfl
  unfold State.opWriteDo
  dsimp only
  rw [h1, h2, h3, hn]
  dsimp only
  rw [ho]
  dsimp only
  rw [hu, h4, h5, if_neg (by simp), if_pos ⟨rfl, rfl, hl, rfl, rfl⟩]
  rfl

/-! ### Rows that are one request -/

theorem Caller.limit_ge (c : Caller) : 40 ≤ c.limit := by
  unfold Caller.limit
  split
  · omega
  · split <;> omega

theorem State.purge_with (s t : State) : s.purge.withAnswer t = s.withAnswer t := by
  rw [State.purge_shape]
  rfl

theorem untagged_ok : untagged Abort.ok = false := by decide

/-- A READ of an object, heard and admitted. -/
theorem State.read_ends (s : State) (h : ReqHdr) (c : Caller) (index sub id : Nat) (o : ObjDef) (e : State) (ids : List Nat) (hr : s.ready)
    (hh : s.hears h opRead (readBody index sub) c) (hi : index < 65536) (hs : sub < 256) (hn : s.begin.purge.named index sub = .object id)
    (ho : objDef? id = some o) (ha : unitAbsent s.begin.purge.variant (id / 256) = false)
    (hc : s.begin.purge.readCode o c.level false (s.begin.purge.valueOf false id).length c.limit = Abort.ok)
    (he : e.ev.safeWanted = none) (hq : e.pending = s.pending) (hl : e.Logged (s.begin.purge.readClears id) ids) :
    ∃ t, exec (.read h (readBody index sub)) s = .next t ∧
      t.answered (s.answerFor h opRead Abort.ok (readTail o.ty (s.begin.purge.valueOf false id))) ∧ (e.withAnswer t).Logged t ids := by
  have hact := State.opReadDo_object s.begin.purge c index sub id o hi hs hn ho ha hc
  have h := s.request_ends h opRead (readBody index sub) (fun c t => t.opReadDo c (readBody index sub)) c e ids hr hh (by decide) (by decide)
    (by rw [hact]; exact untagged_ok) he hq (by rw [hact]; exact hl)
  rw [hact] at h
  obtain ⟨t, h1, h2, _, h3⟩ := h
  exact ⟨t, h1, h2, h3⟩

/-- A WRITE or STAGE of an object other than Command, heard and good. -/
theorem State.write_ends (s : State) (h : ReqHdr) (c : Caller) (index sub ty id : Nat) (bs : Bytes) (o : ObjDef) (e : State)
    (ids : List Nat) (hr : s.ready) (hh : s.hears h opWrite (writeBody index sub ty bs) c) (hi : index < 65536) (hs : sub < 256)
    (ht : ty < 256) (hn : s.begin.purge.named index sub = .object id) (ho : objDef? id = some o) (hcmd : id ≠ Obj.command)
    (ha : unitAbsent s.begin.purge.variant (id / 256) = false) (hc : s.begin.purge.writeCode o c.level ty bs false c.limit = Abort.ok)
    (hk : untagged (s.begin.purge.writeAct id bs false).1 = false) (he : e.ev.safeWanted = none) (hq : e.pending = s.pending)
    (hl : e.Logged (s.begin.purge.writeAct id bs false).2 ids) :
    ∃ t, s.awake (fun (t : State) => t.dtpWrite h (writeBody index sub ty bs)) = .next t ∧
      t.answered (s.answerFor h opWrite (s.begin.purge.writeAct id bs false).1 [0, 0]) ∧ (e.withAnswer t).Logged t ids := by
  have hact := State.opWriteDo_object s.begin.purge c index sub ty id bs o false hi hs ht hn ho hcmd ha hc
  have h := s.request_ends h opWrite (writeBody index sub ty bs) (fun c t => t.opWriteDo c (writeBody index sub ty bs) false) c e ids hr hh
    (by decide) (by decide) (by rw [hact]; exact hk) he hq (by rw [hact]; exact hl)
  rw [hact] at h
  obtain ⟨t, h1, h2, _, h3⟩ := h
  exact ⟨t, h1, h2, h3⟩

theorem State.readCode_ok (s : State) (o : ObjDef) (level size limit : Nat) (h1 : o.level ≤ level) (h2 : o.acc.noRead = false)
    (h3 : o.ty.isDomain = false) (h4 : size ≤ limit) (h5 : s.recoveryBars o.id = false) :
    s.readCode o level false size limit = Abort.ok := by
  unfold State.readCode
  rw [if_neg (by omega), h2, h3, h5]
  have : ¬ size > limit := by omega
  simp [this]

theorem State.purge_bars (s : State) (id : Nat) (h : s.dev.recovery = false) : s.begin.purge.recoveryBars id = false := by
  rw [State.purge_shape]
  unfold State.recoveryBars
  simp [State.begin, h]

/-- A BLOCK_READ_INIT of an object other than ReadData, admitted: its length, what reading does to it, and the transfer. -/
theorem State.opBlockReadDo_object (s : State) (c : Caller) (index sub id : Nat) (o : ObjDef) (hi : index < 65536) (hs : sub < 256)
    (hn : s.named index sub = .object id) (ho : objDef? id = some o) (ha : unitAbsent s.variant (id / 256) = false) (hd : id ≠ Obj.readData)
    (hc : s.readCode o c.level true 0 0 = Abort.ok) (hf : s.openCode c = Abort.ok) (hne : (s.valueOf false id).isEmpty = false) :
    s.opBlockReadDo c (readBody index sub) none =
      { code := Abort.ok, tail := [0, 0] ++ leBytes 4 (s.valueOf false id).length,
        st := (s.readClears id).setTransfer c (some
          { owner := c.owner, isWrite := false, shadow := false, obj := index * 256 + sub, total := (s.valueOf false id).length,
            nextBlock := 0, done := 0, data := s.valueOf false id, level := c.level, seenAt := (s.readClears id).time.ticks }) } := by
  have h1 : numAt 0 2 (readBody index sub) = index := numAt_leBytes 2 index _ hi
  have h2 : numAt 2 1 (readBody index sub) = sub := by
    simp only [readBody, numAt, slice, leBytes, List.cons_append, List.nil_append, List.drop_succ_cons, List.drop_zero, List.take, leVal,
      BitVec.toNat_ofNat]
    omega
  have h3 : numAt 3 1 (readBody index sub) = 0 := by
    simp only [readBody, numAt, slice, leBytes, List.cons_append, List.nil_append, List.drop_succ_cons, List.drop_zero, List.take, leVal]
    decide
  unfold State.opBlockReadDo
  dsimp only
  rw [h1, h2, hn]
  dsimp only
  rw [ho]
  dsimp only
  rw [ha, h3, hc, hf]
  have hz : (0 == 1) = false := by decide
  simp only [hd, if_false, Bool.false_eq_true, ne_eq, not_true_eq_false, false_and, Nat.not_lt_zero, gt_iff_lt, hz, State.blockValue]
  rw [if_neg (by decide), hne]
  simp

/-- A BLOCK_READ_INIT of an object other than ReadData, heard and admitted. -/
theorem State.blockRead_ends (s : State) (h : ReqHdr) (c : Caller) (index sub id : Nat) (o : ObjDef) (e : State) (ids : List Nat) (hr : s.ready)
    (hh : s.hears h opBlockRead (readBody index sub) c) (hi : index < 65536) (hs : sub < 256) (hn : s.begin.purge.named index sub = .object id)
    (ho : objDef? id = some o) (ha : unitAbsent s.begin.purge.variant (id / 256) = false) (hd : id ≠ Obj.readData)
    (hc : s.begin.purge.readCode o c.level true 0 0 = Abort.ok) (hf : s.begin.purge.openCode c = Abort.ok)
    (hne : (s.begin.purge.valueOf false id).isEmpty = false) (he : e.ev.safeWanted = none) (hq : e.pending = s.pending)
    (hl : e.Logged ((s.begin.purge.readClears id).setTransfer c (some
          { owner := c.owner, isWrite := false, shadow := false, obj := index * 256 + sub, total := (s.begin.purge.valueOf false id).length,
            nextBlock := 0, done := 0, data := s.begin.purge.valueOf false id, level := c.level,
            seenAt := (s.begin.purge.readClears id).time.ticks })) ids) :
    ∃ t, exec (.blockReadInit h (readBody index sub)) s = .next t ∧
      t.answered (s.answerFor h opBlockRead Abort.ok ([0, 0] ++ leBytes 4 (s.begin.purge.valueOf false id).length)) ∧
      (∃ x ∈ t.dtp.transfers, x.owner = c.owner ∧ x.isWrite = false ∧ x.data = s.begin.purge.valueOf false id ∧ x.done = 0 ∧
        x.nextBlock = 0) ∧
      (e.withAnswer t).Logged t ids := by
  have hact := State.opBlockReadDo_object s.begin.purge c index sub id o hi hs hn ho ha hd hc hf hne
  have h := s.request_ends h opBlockRead (readBody index sub) (fun c t => t.opBlockReadDo c (readBody index sub) none) c e ids hr hh (by decide)
    (by decide) (by rw [hact]; exact untagged_ok) he hq (by rw [hact]; exact hl)
  rw [hact] at h
  obtain ⟨t, h1, h2, h3, h4⟩ := h
  refine ⟨t, h1, h2, ?_, h4⟩
  rw [h3]
  exact ⟨_, List.mem_append_right _ (List.mem_singleton.mpr rfl), rfl, rfl, rfl, rfl, rfl⟩

end Sys2Proof.Machine
end

