-- ==== Sys2Proof/Laws/Rows.lean ====
section
/-!
SUPPORT. What the commands of the units do, as far as their operations need a lemma of their own.
-/

namespace Sys2Proof.Machine
theorem State.closeGroup_quiet (t : State) (h : t.merge.formed = []) : t.closeGroup = t := by
  unfold State.closeGroup; rw [h]; simp
theorem State.settle_quiet (t : State) (h1 : t.ev.safeWanted = none) (h2 : t.array.rolesDirty = false) (h3 : t.dev.booted = false)
    (h4 : t.merge.formed = []) : t.settle = t := by
  unfold State.settle
  have e : t.safeIfWanted = t := by unfold State.safeIfWanted; rw [h1]
  rw [e]
  dsimp only
  rw [h2]
  have e2 : t.refreshAlarms = t := by unfold State.refreshAlarms; simp [h3]
  simp only [Bool.false_eq_true, if_false, e2]
  exact State.closeGroup_quiet t h4
theorem State.journalPfail_keeps (s : State) : s.journalPfail.ev.journal = s.ev.journal ∧ s.journalPfail.variant = s.variant ∧
   s.journalPfail.dev = s.dev ∧ s.journalPfail.cal = s.cal ∧ s.journalPfail.pending = s.pending ∧
   (∀ id ≠ Obj.journalDropped, Store.get s.variant s.journalPfail.mram id = Store.get s.variant s.mram id) := by
  unfold State.journalPfail
  have h := State.logged_dropJournal ({ s with ev := { s.ev with waiting := [], lost := s.ev.lost + s.ev.waiting.length } }) s.ev.waiting.length
  obtain ⟨l, m, sh⟩ := State.dropJournal_shape ({ s with ev := { s.ev with waiting := [], lost := s.ev.lost + s.ev.waiting.length } }) s.ev.waiting.length
  dsimp only at *
  refine ⟨?_, ?_, ?_, ?_, ?_, ?_⟩
  · rw [sh]
  · rw [sh]
  · rw [sh]
  · rw [sh]
  · rw [sh]
  · intro id hid
    have := h.stored id hid
    rw [sh] at this
    rw [sh]
    exact this
theorem State.pairRelease_keeps (s : State) : s.pairRelease.ev = s.ev ∧ s.pairRelease.variant = s.variant ∧
   s.pairRelease.dev = s.dev ∧ s.pairRelease.cal = s.cal ∧ s.pairRelease.pending = s.pending ∧ s.pairRelease.mram = s.mram := by
  unfold State.pairRelease State.pairDrop State.pairSend
  (repeat' split) <;> exact ⟨rfl, rfl, rfl, rfl, rfl, rfl⟩
theorem State.enterReset_into (s : State) (k : Nat) : s.ResetInto (s.enterReset k) k := by
  obtain ⟨a1, a2, a3, a4, a5, a6⟩ := s.journalPfail_keeps
  obtain ⟨b1, b2, b3, b4, b5, b6⟩ := s.journalPfail.pairRelease_keeps
  unfold State.enterReset State.cleared
  refine ⟨?_, ?_, ?_, rfl⟩
  · exact Store.get_put_self _ _ _ _
  · intro id h1 h2
    dsimp only
    rw [Store.get_put_ne _ _ _ _ _ h1, b2, a2, b6]
    exact a6 id h2
  · dsimp only
    rw [b1, b2, b3, b4, b5, a1, a2, a3, a4, a5]
    exact ⟨rfl, rfl, rfl, rfl, rfl, rfl, rfl⟩
theorem State.reset_does (s : State) (f : State → State) (k : Nat) (h : s.begin.ResetInto (f s.begin) k) : 
   ∃ t, s.does f = .next t ∧ s.ResetInto t k ∧ t = f s.begin := by
  refine ⟨f s.begin, ?_, ?_, rfl⟩
  · unfold State.does
    have hs : (f s.begin).settle = f s.begin := by
      apply State.settle_quiet <;> rw [h.volatile] <;> rfl
    rw [hs]
    have : (f s.begin).pending = s.pending := h.kept.2.1
    exact congrArg _ (by rw [← this])
  · exact ⟨h.cause, h.stored, h.kept, h.volatile⟩
theorem State.logged_idle (s : State) (h : s.ev.safeWanted = none) : ∃ t, s.does (fun t => t) = .next t ∧ s.begin.Logged t [] := by
  obtain ⟨t, a, b⟩ := s.does_logged (fun t => t) h
  exact ⟨t, a, b⟩
/-- Every command but the five of reset and clocks sleeps in RESET. -/
theorem exec_awake (c : Instr) (s : State) (h : actsInReset c = false) : ∃ f, exec c s = s.awake f := by
  unfold exec
  cases c
  case resetNAssert | railUndervoltage | powerOnResetEnd | resetRelease | refclkLost => cases h
  all_goals
    clear h
    dsimp only
    exact ⟨_, rfl⟩

/-- Every command is an effect and the end of a command. -/
theorem exec_does (c : Instr) (s : State) : ∃ f, exec c s = s.does f := by
  by_cases h : actsInReset c = false
  · obtain ⟨f, hf⟩ := exec_awake c s h
    exact ⟨fun (t : State) => if t.dev.state = .reset then t else f t, hf⟩
  · cases c
    case resetNAssert n => exact ⟨fun t => t.resetNAssert n, rfl⟩
    case railUndervoltage r => exact ⟨fun t => t.railUndervoltage r, rfl⟩
    case powerOnResetEnd => exact ⟨fun t => t.powerOnResetEnd, rfl⟩
    case resetRelease p => exact ⟨fun t => t.resetRelease p, rfl⟩
    case refclkLost b => exact ⟨fun t => t.refclkLost b, rfl⟩
    all_goals exact absurd rfl h

/-! ### Time, answers, events -/

/-- Time run to a tick: only time changes, and no further than that tick. -/
theorem State.runTo_time (s : State) (n : Nat) :
    ∃ tm : TimeState, s.runTo n = { s with time := tm } ∧ s.time.ticks ≤ tm.ticks ∧ tm.ticks ≤ max s.time.ticks n := by
  unfold State.runTo
  split
  · refine ⟨_, rfl, Nat.le_add_right _ _, ?_⟩
    show s.time.ticks + (n - s.time.ticks) ≤ _
    omega
  · exact ⟨_, rfl, Nat.le_refl _, Nat.le_max_left _ _⟩

/-- An answer leaves DTP's sessions, pending sessions, failures and lockouts. -/
theorem State.sendAnswer_dtp (s : State) (a : Answer) :
    (s.sendAnswer a).dtp.sessions = s.dtp.sessions ∧ (s.sendAnswer a).dtp.pending = s.dtp.pending ∧
      (s.sendAnswer a).dtp.fails = s.dtp.fails ∧ (s.sendAnswer a).dtp.lockedUntil = s.dtp.lockedUntil := by
  obtain ⟨ps, e⟩ := State.sendAnswer_shape s a
  rw [e]; exact ⟨rfl, rfl, rfl, rfl⟩

/-- An event told from a state with the same event log, time and limits is told from this one. -/
theorem State.tells_from {s s' t : State} {a b c d : Nat} (h : s'.tells t a b c d)
    (h1 : ∀ id, id = Obj.ringMinSeverity ∨ id = Obj.rateLimit ∨ id = Obj.rateBurst → s'.get id = s.get id) (h2 : s'.ev = s.ev)
    (h3 : s'.time = s.time) : s.tells t a b c d := by
  unfold State.tells at *
  have e0 : s'.u Obj.ringMinSeverity = s.u Obj.ringMinSeverity := by unfold State.u; rw [h1 _ (Or.inl rfl)]
  have e1 : s'.u Obj.rateLimit = s.u Obj.rateLimit := by unfold State.u; rw [h1 _ (Or.inr (Or.inl rfl))]
  have e2 : s'.u Obj.rateBurst = s.u Obj.rateBurst := by unfold State.u; rw [h1 _ (Or.inr (Or.inr rfl))]
  have e3 : s'.bucketOf a b d false = s.bucketOf a b d false := by
    unfold State.bucketOf; rw [h2, h3, e1, e2]
  rw [e0, e3] at h
  exact h

/-- What a state holds of the log, seen from another with the same log. -/
theorem State.tells_of_ev {s t t' : State} {a b c d : Nat} (h : s.tells t a b c d) (he : t'.ev = t.ev) : s.tells t' a b c d := by
  unfold State.tells at *
  rw [he]
  exact h

theorem State.foldl_same {α : Type} (f : State → α → State) (xs : List α) (s : State) (h : ∀ x ∈ xs, f s x = s) : xs.foldl f s = s := by
  induction xs with
  | nil => rfl
  | cons x xs ih => rw [List.foldl_cons, h x (by simp)]; exact ih (fun y hy => h y (by simp [hy]))

/-! ### Activation of quiet objects -/

theorem State.refreshStreams_same (s : State) (h : s.streamsAsSet) : s.refreshStreams = s := by
  unfold State.refreshStreams
  split
  · rfl
  · apply State.foldl_same
    intro k hk
    have := h k (by simpa using hk)
    dsimp only
    rw [this]
    cases (s.stream k).enabled <;> simp

/-- The objects of a camera port that its unit acts on. -/
theorem State.camRefresh_same (s old : State) (p : Nat)
    (h : ∀ f ∈ [Obj.camActiveWidth, Obj.camActiveHeight, Obj.camInputDepth, Obj.camCfaPattern, Obj.camEnable, Obj.camTnrEnable],
      s.get (f p) = old.get (f p)) : s.camRefresh old p = s := by
  simp only [List.forall_mem_cons, List.not_mem_nil, false_imp_iff, implies_true, and_true] at h
  obtain ⟨h1, h2, h3, h4, h5, h6⟩ := h
  unfold State.camRefresh
  extract_lets ch was now x
  have e1 : now = was := by show s.b _ = old.b _; unfold State.b State.u; rw [h5]
  have e2 : (s.b (Obj.camTnrEnable p) && !old.b (Obj.camTnrEnable p)) = false := by
    have : s.b (Obj.camTnrEnable p) = old.b (Obj.camTnrEnable p) := by unfold State.b State.u; rw [h6]
    rw [this]; cases old.b _ <;> rfl
  have e3 : ∀ f, s.get (f p) = old.get (f p) → ch f = false := by
    intro f hf; show (s.get (f p) != old.get (f p)) = false; rw [hf]; simp
  rw [e1, e2, e3 _ h1, e3 _ h2, e3 _ h3, e3 _ h4]
  cases was <;> simp

theorem touched_no (ids : List Nat) (f : Nat → Bool) (h : ∀ id ∈ ids, f id = false) : touched ids f = false := by
  unfold touched
  rw [Bool.eq_false_iff, ne_eq, List.any_eq_true]
  intro ⟨x, hx, hf⟩
  rw [h x hx] at hf
  cases hf

theorem contains_no (ids : List Nat) (j : Nat) (h : j ∉ ids) : ids.contains j = false := by
  simpa using h

/-- What a quiet object is not. -/
theorem quiet_facts (id : Nat) (h : quietObj id = true) :
    heldInBank id = false ∧ [Obj.ipMode, Obj.ipAddress, Obj.netMask, Obj.gateway, Obj.l1Pattern, Obj.watchList, Obj.mayflyEnable, Obj.timeSource, Obj.ptpPortMode,
      Obj.pairRole, Obj.operatorKey, Obj.integratorKey, Obj.sc0Sequence, Obj.sc1Sequence, Obj.pairMode, Obj.calrefMode].contains id = false ∧
    (id / 256 ≠ 0x2500 ∧ id / 256 ≠ 0x1141 ∧ id / 256 ≠ 0x1142 ∧ id / 256 ≠ 0x2D10 ∧ id / 256 ≠ 0x2D11) ∧
    ¬ (0x1150 ≤ id / 256 ∧ id / 256 < 0x1157) ∧ ¬ (0x2510 ≤ id / 256 ∧ id / 256 < 0x2519) ∧ ¬ (0x2910 ≤ id / 256 ∧ id / 256 < 0x2916) := by
  unfold quietObj at h
  simp only [Bool.not_eq_true', Bool.or_eq_false_iff, Bool.and_eq_false_iff, decide_eq_false_iff_not] at h
  obtain ⟨⟨⟨⟨⟨h1, h2⟩, h3⟩, h4⟩, h5⟩, h6⟩ := h
  refine ⟨h1, h2, ?_, by omega, by omega, by omega⟩
  simpa [and_assoc, not_or] using h3

theorem mem_special {ids : List Nat} (h : ∀ id ∈ ids, quietObj id = true) (j : Nat)
    (hj : [Obj.ipMode, Obj.ipAddress, Obj.netMask, Obj.gateway, Obj.l1Pattern, Obj.watchList, Obj.mayflyEnable, Obj.timeSource, Obj.ptpPortMode,
      Obj.pairRole, Obj.operatorKey, Obj.integratorKey, Obj.sc0Sequence, Obj.sc1Sequence, Obj.pairMode, Obj.calrefMode].contains j = true) :
    j ∉ ids := by
  intro hx
  have := (quiet_facts j (h j hx)).2.1
  rw [hj] at this
  cases this

/-- Units do nothing about a change of quiet objects. -/
theorem State.applyChanges_quiet (s s0 : State) (ids : List Nat) (hq : ∀ id ∈ ids, quietObj id = true) (hs : s.streamsAsSet)
    (hc : ∀ p, p < 2 → ∀ f ∈ [Obj.camActiveWidth, Obj.camActiveHeight, Obj.camInputDepth, Obj.camCfaPattern, Obj.camEnable, Obj.camTnrEnable],
      s.get (f p) = s0.get (f p)) : s.applyChanges s0 ids = s := by
  have hid := fun id hx => quiet_facts id (hq id hx)
  unfold State.applyChanges
  extract_lets s1 s2 s3 s4 s5 s6 s7 m s8 _ s9 s10' s10 s11 _ s12 s13 s14
  have e1 : s1 = s := if_neg (by rw [touched_no _ _ (fun id hx => (hid id hx).1)]; decide)
  have e2 : s2 = s1 := if_neg (by
    rw [touched_no]
    · decide
    · intro id hx
      have := (hid id hx).2.1
      simp only [List.contains_cons, Bool.or_eq_false_iff] at this
      simp only [List.contains_cons, Bool.or_eq_false_iff, this, and_self])
  have e3 : s3 = s2 := by
    apply State.foldl_same
    intro p hp
    have hp3 : p < 2 := by simpa using hp
    rw [contains_no]
    · rfl
    · intro hx
      have := (hid _ hx).2.2.1
      unfold Obj.portMode at this
      omega
  have e33 : s3 = s := by rw [e3, e2, e1]
  have e4 : s4 = s3 := by
    show List.foldl _ s3.refreshStreams _ = _
    rw [State.refreshStreams_same s3 (by rw [e33]; exact hs)]
    apply State.foldl_same
    intro p hp
    have hp3 : p < 7 := by simpa using hp
    rw [contains_no]
    · rfl
    · intro hx
      have := (hid _ hx).2.2.2.1
      unfold Obj.strPortMap at this
      omega
  have e5 : s5 = s4 := by
    show (s4.camRefresh s0 0).camRefresh s0 1 = s4
    rw [e4, e33, State.camRefresh_same _ _ 0 (hc 0 (by decide)), State.camRefresh_same _ _ 1 (hc 1 (by decide))]
  have e6 : s6 = s5 := if_neg (by
    rw [touched_no]
    · decide
    · intro id hx
      have h1 := (hid id hx).2.2.1.1
      have : (id / 256 == 0x2500) = false := by simpa using h1
      rw [this]; rfl)
  have e7 : s7 = s6 := by
    apply State.foldl_same
    intro p hp
    have hp3 : p < 9 := by simpa using hp
    rw [touched_no]
    · rfl
    · intro id hx
      have h1 := (hid id hx).2.2.2.2.1
      have h2 : (id / 256 == 0x2510 + p) = false := by simp; omega
      have h3 : (id == Obj.calrefMode) = false := by
        have := mem_special hq Obj.calrefMode (by decide)
        simp only [beq_eq_false_iff_ne, ne_eq]
        rintro rfl
        exact this hx
      rw [h2, h3, Bool.and_false]; rfl
  have em : m = 0 := by
    have hh : ∀ c, touched ids (fun id =>
        id == (if c = 0 then Obj.sc0Sequence else Obj.sc1Sequence) || (c == 0 && id == Obj.pairMode) ||
        (decide (0x2910 ≤ id / 256) && decide (id / 256 < 0x2916) && chainConv (id / 256 - 0x2910) == c)) = false := by
      intro c
      apply touched_no
      intro id hx
      have n1 := mem_special hq Obj.sc0Sequence (by decide)
      have n2 := mem_special hq Obj.sc1Sequence (by decide)
      have n3 := mem_special hq Obj.pairMode (by decide)
      have h4 := (hid id hx).2.2.2.2.2
      have k1 : (id == (if c = 0 then Obj.sc0Sequence else Obj.sc1Sequence)) = false := by
        simp only [beq_eq_false_iff_ne, ne_eq]
        rintro rfl
        split at hx
        · exact n1 hx
        · exact n2 hx
      have k3 : (id == Obj.pairMode) = false := by
        simp only [beq_eq_false_iff_ne, ne_eq]
        rintro rfl
        exact n3 hx
      have k4 : (decide (0x2910 ≤ id / 256) && decide (id / 256 < 0x2916)) = false := by
        rw [Bool.and_eq_false_iff, decide_eq_false_iff_not, decide_eq_false_iff_not]
        omega
      rw [k1, k3, k4]; simp
    show syncMask ids = 0
    unfold syncMask
    dsimp only
    rw [hh 0, hh 1]
    rfl
  have e8 : s8 = s7 := if_pos em
  have e9 : s9 = s8 := if_neg (by rw [contains_no _ _ (mem_special hq _ (by decide))]; decide)
  have e10' : s10' = s9 := if_neg (by rw [contains_no _ _ (mem_special hq _ (by decide))]; decide)
  have e10 : s10 = s10' := if_neg (by rw [contains_no _ _ (mem_special hq _ (by decide))]; decide)
  have e11 : s11 = s10 := if_neg (by rw [contains_no _ _ (mem_special hq _ (by decide))]; decide)
  have e12 : s12 = s11 := if_neg (by rw [contains_no _ _ (mem_special hq _ (by decide))]; decide)
  have e13 : s13 = s12 := if_neg (by rw [contains_no _ _ (mem_special hq _ (by decide))]; decide)
  have e14 : s14 = s13 := if_neg (by rw [contains_no _ _ (mem_special hq _ (by decide))]; decide)
  rw [if_neg (by rw [contains_no _ _ (mem_special hq _ (by decide))]; decide), e14, e13, e12, e11, e10, e10', e9, e8, e7, e6, e5, e4, e33]

/-- Values put live write the live values and MRAM, and nothing else. -/
theorem State.putAll_shape (s : State) (vs : List (Nat × Bytes)) : ∃ live' mram', s.putAll vs = { s with live := live', mram := mram' } := by
  unfold State.putAll
  induction vs generalizing s with
  | nil => exact ⟨s.live, s.mram, rfl⟩
  | cons e vs ih =>
    rw [List.foldl_cons]
    obtain ⟨l, m, h⟩ := ih (if isStored e.1 && !heldInBank e.1 && (s.put e.1 e.2).storeRefusal e.1 == Abort.ok then (s.put e.1 e.2).persist e.1
      else s.put e.1 e.2)
    rw [h]
    obtain ⟨l1, h1⟩ := s.put_shape e.1 e.2
    split
    · exact ⟨l, m, by rw [h1]; rfl⟩
    · exact ⟨l, m, by rw [h1]⟩

/-- An object that is not among those put keeps its live value. -/
theorem State.putAll_get_ne (s : State) (vs : List (Nat × Bytes)) (id : Nat) (h : ∀ e ∈ vs, e.1 ≠ id) : (s.putAll vs).get id = s.get id := by
  unfold State.putAll
  induction vs generalizing s with
  | nil => rfl
  | cons e vs ih =>
    rw [List.foldl_cons, ih _ (fun x hx => h x (by simp [hx]))]
    have hn : id ≠ e.1 := (h e (by simp)).symm
    dsimp only
    split
    · rw [State.get_persist, State.get_put_ne _ _ _ _ hn]
    · rw [State.get_put_ne _ _ _ _ hn]

/-- An object put, where all puts of it agree, has that value. -/
theorem State.putAll_get (s : State) (vs : List (Nat × Bytes)) (f : Nat → Bytes) (hf : ∀ e ∈ vs, e.2 = f e.1) (id : Nat)
    (h : ∃ e ∈ vs, e.1 = id) : (s.putAll vs).get id = f id := by
  unfold State.putAll
  induction vs generalizing s with
  | nil => obtain ⟨e, he, _⟩ := h; cases he
  | cons e vs ih =>
    rw [List.foldl_cons]
    by_cases hx : ∃ x ∈ vs, x.1 = id
    · exact ih _ (fun x hy => hf x (by simp [hy])) hx
    · have hn : ∀ x ∈ vs, x.1 ≠ id := fun x hy he => hx ⟨x, hy, he⟩
      have := State.putAll_get_ne (if isStored e.1 && !heldInBank e.1 && (s.put e.1 e.2).storeRefusal e.1 == Abort.ok then
        (s.put e.1 e.2).persist e.1 else s.put e.1 e.2) vs id hn
      unfold State.putAll at this
      refine this.trans ?_
      obtain ⟨x, hx1, hx2⟩ := h
      have he : e.1 = id := by
        rcases List.mem_cons.mp hx1 with rfl | hm
        · exact hx2
        · exact absurd hx2 (hn x hm)
      split
      · rw [State.get_persist, ← he, State.get_put_self, hf e (by simp)]
      · rw [← he, State.get_put_self, hf e (by simp)]

theorem State.streamsAsSet_putAll (s : State) (vs : List (Nat × Bytes)) (hq : ∀ e ∈ vs, quietObj e.1 = true) (hs : s.streamsAsSet) :
    (s.putAll vs).streamsAsSet := by
  intro k hk
  obtain ⟨l, m, e⟩ := s.putAll_shape vs
  have e1 : (s.putAll vs).hasStream k = s.hasStream k := by rw [e]; rfl
  have e2 : (s.putAll vs).stream k = s.stream k := by rw [e]; rfl
  have e3 : (s.putAll vs).b (Obj.strEnable k) = s.b (Obj.strEnable k) := by
    unfold State.b State.u
    rw [State.putAll_get_ne]
    intro x hx hn
    have := (quiet_facts _ (hq x hx)).2.2.2.1
    rw [hn] at this
    unfold Obj.strEnable at this
    omega
  rw [e1, e2, e3]
  exact hs k hk

/-- An activation of quiet objects puts their values live, and sends them to a follower where the device owns a pair. -/
theorem State.activate_quiet (s : State) (vs : List (Nat × Bytes)) (t : Stamp) (hq : ∀ e ∈ vs, quietObj e.1 = true) (hs : s.streamsAsSet) :
    s.activate vs t = (s.putAll vs).configSend t (vs.map (fun e => e.1)) := by
  unfold State.activate
  dsimp only
  rw [State.applyChanges_quiet]
  · intro id hid
    obtain ⟨e, he, rfl⟩ := List.mem_map.mp hid
    exact hq e he
  · exact s.streamsAsSet_putAll vs hq hs
  · intro p hp f hf
    apply State.putAll_get_ne
    intro e he hn
    have := (quiet_facts _ (hq e he)).2.2.1
    rw [hn] at this
    simp only [List.mem_cons, List.not_mem_nil, or_false] at hf
    rcases hf with rfl | rfl | rfl | rfl | rfl | rfl <;>
    · simp only [Obj.camActiveWidth, Obj.camActiveHeight, Obj.camInputDepth, Obj.camCfaPattern, Obj.camEnable, Obj.camTnrEnable] at this; omega

/-! ### Reports of a Knock -/

/-- A report writes LastKnockReport, a record and the answers, and nothing else. -/
theorem State.knockReport_logged (s : State) (k : PendingKnock) (code n ns : Nat) :
    (s.withAnswer (s.knockReport k code n ns)).Logged (s.knockReport k code n ns) [Obj.lastKnockReport] ∧
      (s.knockReport k code n ns).get Obj.lastKnockReport = s.knockBody k code n ns := by
  unfold State.knockReport
  extract_lets body key _ _ msg
  have hl : s.Logged ((s.put Obj.lastKnockReport body).formState 3 (body ++ [0, 0])) [Obj.lastKnockReport] :=
    (s.logged_put Obj.lastKnockReport body [Obj.lastKnockReport] (Or.inr (by simp))).andThen (State.logged_formState _ _ _)
  have hw := State.sendAnswer_with ((s.put Obj.lastKnockReport body).formState 3 (body ++ [0, 0]))
    { transport := k.transport, port := k.port, dstAddr := k.srcAddr, dstPort := k.srcPort, bytes := msg }
  refine ⟨State.withAnswer_logged hl hw, ?_⟩
  rw [hw]
  have h2 : (s.put Obj.lastKnockReport body).Logged ((s.put Obj.lastKnockReport body).formState 3 (body ++ [0, 0])) [] :=
    State.logged_formState _ _ _
  have h3 := h2.objects Obj.lastKnockReport (by decide) (by simp)
  rw [State.get_put_self] at h3
  exact h3

/-- A refusal of a Knock is its report and the Warning. -/
theorem State.knockRefused_logged (s : State) (k : PendingKnock) (code : Nat) :
    (s.withAnswer (s.knockRefused k code)).Logged (s.knockRefused k code) [Obj.lastKnockReport] ∧
      (s.knockRefused k code).get Obj.lastKnockReport = s.knockBody k code 0 0 ∧ s.tells (s.knockRefused k code) 0x0103 0 2 code := by
  obtain ⟨h1, h2⟩ := s.knockReport_logged k code 0 0
  have h3 := State.logged_raise (s.knockReport k code 0 0) 0x0103 0 2 code
  have hd : (s.knockRefused k code).dtp = (s.knockReport k code 0 0).dtp := (congrArg State.dtp h3.rest).trans rfl
  have hp : (s.knockRefused k code).merge.ports = (s.knockReport k code 0 0).merge.ports :=
    (congrArg (fun (x : State) => x.merge.ports) h3.rest).trans rfl
  refine ⟨?_, ?_, ?_⟩
  · have := h1.andThen h3
    unfold State.withAnswer at *
    rw [hd, hp]
    exact this
  · exact (h3.objects _ (by decide) (by simp)).trans h2
  · have ht := State.tells_raise (s.knockReport k code 0 0) 0x0103 0 2 code
    refine State.tells_from ht ?_ ?_ ?_
    · intro id hid
      rw [h1.objects id (by rcases hid with rfl | rfl | rfl <;> decide) (by rcases hid with rfl | rfl | rfl <;> decide)]
      rfl
    · have e : (s.knockReport k code 0 0).ev = s.ev := by
        unfold State.knockReport
        extract_lets body key _ _ msg
        obtain ⟨ps, e⟩ := State.sendAnswer_shape ((s.put Obj.lastKnockReport body).formState 3 (body ++ [0, 0]))
          { transport := k.transport, port := k.port, dstAddr := k.srcAddr, dstPort := k.srcPort, bytes := msg }
        rw [e]
        unfold State.formState State.form
        dsimp only
        split
        · exact State.put_ev s Obj.lastKnockReport body
        · exact State.put_ev s Obj.lastKnockReport body
      exact e
    · exact (congrArg State.time h1.rest).trans rfl

/-! ### Fatal events -/

@[simp] theorem State.fatal_wants (s : State) (a b c : Nat) : (s.fatal a b c).ev.safeWanted = some a := rfl

/-- A command whose effect wants SAFE for a Fatal event, in a state that a Fatal event takes to SAFE, ends in SAFE with firing inhibited. -/
theorem State.awake_fatal (s : State) (f : State → State) (k : Nat) (hs : s.dev.state.safeNow = true)
    (hw : (f s.begin).ev.safeWanted = some k) (hd : (f s.begin).dev.state = s.dev.state) : ∃ t, s.awake f = .next t ∧ t.isSafe := by
  have hr : s.dev.state ≠ .reset := by intro h; rw [h] at hs; cases hs
  have hn : s.dev.state ≠ .safe := by intro h; rw [h] at hs; cases hs
  have key : ∀ g : State → State, g s.begin = f s.begin → ∃ t, s.does g = .next t ∧ t.isSafe := by
    intro g hg
    refine ⟨_, rfl, ?_⟩
    rw [hg]
    show ((f s.begin).settle).isSafe
    have hi : (f s.begin).safeIfWanted = State.enterState { f s.begin with ev := { (f s.begin).ev with safeWanted := none } } .safe 0 k := by
      unfold State.safeIfWanted
      rw [hw]
      dsimp only
      rw [hd, hs]
      rfl
    have hc : (f s.begin).settle.core false = (f s.begin).safeIfWanted.core false := by
      unfold State.settle
      dsimp only
      split <;> simp
    rw [hi, State.enterState_core (full := false) _ _ _ _ (by
      show (f s.begin).dev.state ≠ .safe
      rw [hd]; exact hn)] at hc
    simp only [State.core, Prod.mk.injEq] at hc
    exact ⟨hc.2.2.1, hc.2.2.2.2⟩
  exact key _ (if_neg hr)

/-- A command whose effect leaves the core of the state ends in its effect but for the log. -/
theorem State.awake_full (s : State) (f : State → State) (hr : s.ready) (hc : (f s.begin).core true = s.begin.core true) :
    ∃ t, s.awake f = .next t ∧ State.Logged { f s.begin with pending := s.pending } t [] :=
  s.awake_logged f hr.1 ((State.core_safe hc).trans hr.2)

/-! ### Inhibits and scan-valid -/

/-- An inhibit set writes the firing state and marks the notes of the interval. -/
theorem State.inhibitOn_shape (s : State) (bit : Nat) : ∃ fi ns, s.inhibitOn bit = { s with fire := fi, array := { s.array with notes := ns } } := by
  unfold State.inhibitOn
  split
  · exact ⟨s.fire, s.array.notes, rfl⟩
  · exact ⟨_, _, rfl⟩

theorem State.setBit_same (v k : Nat) (h : bitOf v k = true) : setBit v k true = v := by
  unfold setBit bitOf at *
  simp only [if_true]
  apply Nat.eq_of_testBit_eq
  intro i
  rw [Nat.testBit_or, Nat.testBit_two_pow]
  by_cases hi : k = i
  · subst hi; simp [h]
  · simp [hi]

/-- After an inhibit is set its bit stands, and no other bit has changed. -/
theorem State.inhibitOn_bits (s : State) (bit : Nat) : (s.inhibitOn bit).fire.inhibit = setBit s.fire.inhibit bit true := by
  unfold State.inhibitOn
  split
  · rename_i h; exact (State.setBit_same _ _ h).symm
  · rfl

/-- The fall of scan-valid writes the firing state, the notes, its counter and the log. -/
theorem State.scanValidFall_logged (s : State) : ∃ fi ns,
    State.Logged { s with fire := fi, array := { s.array with notes := ns } } s.scanValidFall [Obj.scanValidDropCount] := by
  unfold State.scanValidFall
  split
  · exact ⟨s.fire, s.array.notes, State.Logged.refl _ _⟩
  · extract_lets _ _ s1 s2 s3
    have h2 : s1.Logged s2 [Obj.scanValidDropCount] := by
      unfold s2
      split
      · exact State.logged_bump _ _ _ _ (Or.inr (by simp))
      · exact State.Logged.refl _ _
    split
    · obtain ⟨fi, ns, e⟩ := State.inhibitOn_shape s2 inhScanValid
      have e3 : s3 = { s2 with fire := fi, array := { s2.array with notes := ns } } := e
      have h3 := h2.andThen (State.Logged.refl s2 [])
      refine ⟨fi, ns, State.Logged.andThen ?_ (State.logged_raise s3 _ _ _ _)⟩
      rw [e3]
      refine ⟨?_, h2.objects, h2.stored, h2.calm, h2.entries⟩
      have := h2.rest
      rw [this]
      rfl
    · exact ⟨_, _, h2⟩

/-- Scan-valid driven writes the firing state, the notes, its object, its counter and the log. -/
theorem State.scanValidDrive_logged (s : State) : ∃ fi ns,
    State.Logged { s with fire := fi, array := { s.array with notes := ns } } s.scanValidDrive [Obj.scanValid, Obj.scanValidDropCount] := by
  unfold State.scanValidDrive
  extract_lets on on2 s1
  have h1 : s.Logged s1 [Obj.scanValid, Obj.scanValidDropCount] := State.logged_setB _ _ _ _ (Or.inr (by simp))
  have hs : s1 = { s with live := s1.live } := rfl
  split
  · refine ⟨(s1.scanValidRise).fire, s.array.notes, ?_⟩
    have : s1.scanValidRise = { s1 with fire := (s1.scanValidRise).fire } := by
      unfold State.scanValidRise; split <;> rfl
    rw [this]
    exact ⟨rfl, h1.objects, h1.stored, rfl, h1.entries⟩
  · obtain ⟨fi, ns, h⟩ := State.scanValidFall_logged s1
    refine ⟨fi, ns, State.Logged.trans (j := [Obj.scanValidDropCount]) (i := [Obj.scanValid]) ?_ h ?_ ?_⟩
    · exact (State.logged_setB s Obj.scanValid on2 [Obj.scanValid] (Or.inr (by simp))) |> fun q => ⟨rfl, q.objects, q.stored, rfl, q.entries⟩
    · simp
    · simp

/-- A command whose effect is Logged from an expected state: its answer is Logged from it and from its effect, and tells what its effect tells. -/
theorem State.awake_all (s : State) (f : State → State) (e : State) (ids : List Nat) (hr : s.ready)
    (he : e.ev.safeWanted = none) (hq : e.pending = s.pending) (h : e.Logged (f s.begin) ids) :
    ∃ t, s.awake f = .next t ∧ e.Logged t ids ∧ (∀ id, id ∉ logObjects → t.get id = (f s.begin).get id) ∧
      (∀ a b c d, s.begin.tells (f s.begin) a b c d → s.tells t a b c d) ∧ State.Logged { f s.begin with pending := s.pending } t [] := by
  obtain ⟨t, a, b⟩ := s.awake_ends f e ids hr he hq h
  obtain ⟨t', a', b'⟩ := s.awake_logged f hr.1 (h.safe.trans he)
  obtain rfl : t' = t := by rw [a] at a'; cases a'; rfl
  refine ⟨t', a, b, fun id hid => b'.objects id hid (by simp), fun c1 c2 c3 c4 hx => ?_, b'⟩
  have h3 : s.begin.tells { f s.begin with pending := s.pending } c1 c2 c3 c4 := State.tells_of_ev hx rfl
  exact State.tells_logged h3 b'

theorem State.shows_setU (s : State) (id v : Nat) : (s.setU id v).shows id v := State.get_put_self _ _ _

theorem State.shows_bump (s : State) (id n : Nat) (h : n ≠ 0) : (s.bump id n).shows id (s.u id + n) := by
  unfold State.bump
  rw [if_neg h]
  exact State.shows_setU _ _ _

theorem State.shows_of_get {s t : State} {id v : Nat} (h : s.shows id v) (e : t.get id = s.get id) : t.shows id v := e.trans h

/-! ### Writes that are operations -/

/-- A WRITE that passes its checks, to an object whose write is an operation: the operation's code is answered and its effect stands. -/
theorem State.write_op (s : State) (h : ReqHdr) (c : Caller) (index sub ty : Nat) (bs : Bytes) (r : Abort × State) (e : State) (ids : List Nat)
    (hr : s.ready) (ht : s.takes h index sub ty bs c) (hi : index < 65536) (hs : sub < 256) (hty : ty < 256)
    (hcmd : index * 256 + sub ≠ Obj.command) (hw : s.begin.purge.writeOp (index * 256 + sub) bs = some r) (hu : untagged r.1 = false)
    (he : e.ev.safeWanted = none) (hq : e.pending = s.pending) (hl : e.Logged r.2 ids) :
    ∃ t, s.awake (fun (t : State) => t.dtpWrite h (writeBody index sub ty bs)) = .next t ∧ t.answered (s.answerFor h opWrite r.1 [0, 0]) ∧
      (e.withAnswer t).Logged t ids := by
  obtain ⟨hh, ha, hn, o, ho, hc⟩ := ht
  have hp := State.purge_shape s.begin
  have hx : (index * 256 + sub) / 256 = index := by omega
  have hact := State.opWriteDo_object s.begin.purge c index sub ty (index * 256 + sub) bs o false hi hs hty
    (by rw [hp]; exact hn) ho hcmd (by rw [hx, hp]; exact ha) hc
  have hwa : s.begin.purge.writeAct (index * 256 + sub) bs false = r := by
    unfold State.writeAct
    rw [hw]
    rfl
  rw [hwa] at hact
  have hq' := s.request_ends h opWrite (writeBody index sub ty bs) (fun c t => t.opWriteDo c (writeBody index sub ty bs) false) c e ids hr hh
    (by decide) (by decide) (by rw [hact]; exact hu) he hq (by rw [hact]; exact hl)
  rw [hact] at hq'
  obtain ⟨t, h1, h2, _, h3⟩ := hq'
  exact ⟨t, h1, h2, h3⟩

end Sys2Proof.Machine
end

