-- ==== Sys2Proof/Laws/Units.lean ====
section
/-!
SUPPORT. Reading back what a unit's record has been set to: tables by key, and the records of paths, clusters, pixels, banks and engines.
-/

namespace Sys2Proof.Machine

theorem tabGet_find {α : Type} (t : List (Nat × α)) (k : Nat) (d : α) :
    tabGet t k d = (match t.find? (fun e => e.1 == k) with | some e => e.2 | none => d) := by
  induction t with
  | nil => rfl
  | cons e t ih =>
    obtain ⟨k', x⟩ := e
    by_cases h : k' = k
    · simp [tabGet, h]
    · have : (k' == k) = false := by simp [h]
      simp only [tabGet, h, if_false, List.find?, this]
      exact ih

@[simp] theorem tabGet_put_self {α : Type} (t : List (Nat × α)) (k : Nat) (x d : α) : tabGet (tabPut t k x) k d = x := by
  rw [tabGet_find, tabPut_find_self]

theorem tabGet_put_ne {α : Type} (t : List (Nat × α)) (k j : Nat) (x d : α) (h : j ≠ k) : tabGet (tabPut t k x) j d = tabGet t j d := by
  rw [tabGet_find, tabGet_find, tabPut_find_ne _ _ _ _ h]

@[simp] theorem tabGet_del_self {α : Type} (t : List (Nat × α)) (k : Nat) (d : α) : tabGet (tabDel t k) k d = d := by
  rw [tabGet_find, tabDel_find_self]

theorem tabGet_del_ne {α : Type} (t : List (Nat × α)) (k j : Nat) (d : α) (h : j ≠ k) : tabGet (tabDel t k) j d = tabGet t j d := by
  rw [tabGet_find, tabGet_find, tabDel_find_ne _ _ _ h]

theorem getAt_setAt_self {α : Type} (xs : List α) (i : Nat) (x d : α) (h : i < xs.length) : getAt (setAt xs i x) i d = x := by
  unfold getAt setAt
  simp [h]

theorem getAt_setAt_ne {α : Type} (xs : List α) (i j : Nat) (x d : α) (h : j ≠ i) : getAt (setAt xs i x) j d = getAt xs j d := by
  unfold getAt setAt
  simp [Ne.symm h]

/-! ### Records -/

@[simp] theorem State.path_setPath (s : State) (p : Nat) (x : PathRec) : (s.setPath p x).path p = x := by
  unfold State.setPath State.path
  split
  · rename_i h
    exact (tabGet_del_self _ _ _).trans h.symm
  · exact tabGet_put_self _ _ _ _

theorem State.path_setPath_ne (s : State) (p q : Nat) (x : PathRec) (h : q ≠ p) : (s.setPath p x).path q = s.path q := by
  unfold State.setPath State.path
  split
  · exact tabGet_del_ne _ _ _ _ h
  · exact tabGet_put_ne _ _ _ _ _ h

@[simp] theorem State.cluster_setCluster (s : State) (k : Nat) (x : Cluster) : (s.setCluster k x).cluster k = x := by
  unfold State.setCluster State.cluster
  split
  · rename_i h
    exact (tabGet_del_self _ _ _).trans h.symm
  · exact tabGet_put_self _ _ _ _

theorem State.cluster_setCluster_ne (s : State) (k j : Nat) (x : Cluster) (h : j ≠ k) : (s.setCluster k x).cluster j = s.cluster j := by
  unfold State.setCluster State.cluster
  split
  · exact tabGet_del_ne _ _ _ _ h
  · exact tabGet_put_ne _ _ _ _ _ h

@[simp] theorem State.pixel_setPixel (s : State) (c : Nat) (x : Pixel) : (s.setPixel c x).pixel c = x := tabGet_put_self _ _ _ _

@[simp] theorem State.meas_setMeas (s : State) (p : Nat) (x : PathMeas) : (s.setMeas p x).meas p = x := tabGet_put_self _ _ _ _

@[simp] theorem State.bank_setBank (s : State) (b : Nat) (x : Bank) : (s.setBank b x).bank b = x := tabGet_put_self _ _ _ _

theorem State.bank_setBank_ne (s : State) (b c : Nat) (x : Bank) (h : c ≠ b) : (s.setBank b x).bank c = s.bank c :=
  tabGet_put_ne _ _ _ _ _ h

end Sys2Proof.Machine
end

