-- ==== Sys2Proof/Tests/Slice0.lean ====
section
/-!
SUPPORT. Tests of the model's author: ill-formed commands are refused, small effects taken from the spec's tables and worked examples, and
for each statement states and operands that meet its hypotheses.
-/

namespace Sys2Proof.Tests

set_option Elab.async false

open Sys2Proof Sys2Proof.Machine

/-! ### Small states -/

/-- A device in IDLE after BOOT, time running; all else as after power-on. -/
def idle : State :=
  { State.reset with dev := { State.reset.dev with state := .idle, booted := true }, time := { State.reset.time with running := true } }

/-- The same in another state of Table DICT-8. -/
def inState (d : DevState) : State := { idle with dev := { idle.dev with state := d } }

theorem idle_ready : idle.ready := ⟨by decide, rfl⟩

/-- Bank `b` with these shots fired. -/
def withShots (s : State) (b : Nat) (js : List Shot) : State := s.setBank b { Bank.rest with fired := js }

/-- A shot of bank 0's column 7 whose FIRE edge is at 320,000 LSB, with a start 240 LSB later. -/
def shot : Shot :=
  { slot := 0, column := 7, interval := 0, fire := 320000, start := some 320240, startNs := 0, muted := false, width := 4, estimated := false }

/-! ### Requests under a session -/

/-- A session of level 3 over UDP. -/
def sess : Session :=
  { transport := .udp, id := 1, srcAddr := 0x0A000001#32, srcPort := 5000#16, level := 3, key := List.replicate 32 7#8, lastIn := 0,
    lastTransaction := 0, lastOut := 0, seenAt := 0,
    response := { transport := .udp, port := 0, dstAddr := 0#32, dstPort := 0#16, bytes := [] } }

/-- The state with the session open. -/
def open3 (s : State) : State := { s with dtp := { s.dtp with sessions := [sess] } }

/-- The header of a request under the session, with its tag. -/
def ask (op : Nat) (body : Bytes) : ReqHdr :=
  { transport := .udp, port := 0, srcAddr := 0x0A000001#32, srcPort := 5000#16, version := 1#8, transaction := 9#16, sessionId := 1#16,
    bodyLength := BitVec.ofNat 16 body.length, counter := 1#32,
    tag := (hmacSha256 sess.key (headBytes .udp op 9 1 (BitVec.ofNat 16 body.length).toNat 1 ++ body)).take 16 }

/-- The header of a WRITE of one row. -/
def askWrite (index sub ty : Nat) (bs : Bytes) : ReqHdr := ask opWrite (writeBody index sub ty bs)

/-- The request passes form and session. -/
def hearsB (s : State) (op : Nat) (body : Bytes) : Bool :=
  s.dev.state.answersDtp && formOk (ask op body) op body && decide ((open3 s).begin.purge.sessionOf (ask op body) = some sess)

theorem open3_hears (s : State) (op : Nat) (body : Bytes) (h : hearsB s op body = true) :
    (open3 s).hears (ask op body) op body sess.caller := by
  unfold hearsB at h
  simp only [Bool.and_eq_true, decide_eq_true_eq] at h
  refine Or.inr ⟨sess, ⟨h.1.1, h.1.2, show (1#16 : BitVec 16) ≠ 0#16 by decide, h.2, ?_, show 0 < (1#32 : BitVec 32).toNat by decide⟩, rfl⟩
  unfold tagOk ask tagSize
  simp [List.take_take]

/-- The WRITE passes every check. -/
def takesB (s : State) (index sub ty : Nat) (bs : Bytes) : Bool :=
  hearsB s opWrite (writeBody index sub ty bs) && !unitAbsent s.variant index &&
    decide (s.named index sub = .object (index * 256 + sub)) &&
    (match objDef? (index * 256 + sub) with
     | some o => decide ((open3 s).begin.purge.writeCode o 3 ty bs false sess.caller.limit = Abort.ok)
     | none => false)

theorem open3_takes (s : State) (index sub ty : Nat) (bs : Bytes) (h : takesB s index sub ty bs = true) :
    (open3 s).takes (askWrite index sub ty bs) index sub ty bs sess.caller := by
  unfold takesB at h
  simp only [Bool.and_eq_true, decide_eq_true_eq, Bool.not_eq_true'] at h
  obtain ⟨⟨⟨h1, h2⟩, h3⟩, h4⟩ := h
  refine ⟨open3_hears s _ _ h1, h2, h3, ?_⟩
  cases ho : objDef? (index * 256 + sub) with
  | none => rw [ho] at h4; cases h4
  | some o =>
    rw [ho] at h4
    exact ⟨o, rfl, of_decide_eq_true h4⟩

/-! ### InhibitPins, ChargeSupply -/

def scanning : State := { inState .scan with fire := { idle.fire with scanValid := true, scanValidAt := 40 } }

def switching : State := { idle with charge := { idle.charge with switching := true, csRun := 5 } }

def headroomTurn : State :=
  { withShots (inState .scan) 3 [shot] with scan := { idle.scan with columnNo := 7, columnsDone := 19 } }

def discharging : State := { idle.setB Obj.vchgDischarged false with charge := { idle.charge with lowAt := some 100 } }

theorem wit_InhibitPins : idle.ready ∧ scanning.ready ∧ scanning.fire.scanValid = true ∧ scanning.dev.state = .scan ∧
    idle.fire.pfailN = true ∧ ({ idle with fire := { idle.fire with pfailN := false } } : State).fire.pfailN = false :=
  ⟨idle_ready, ⟨by decide, rfl⟩, rfl, rfl, rfl, rfl⟩

theorem wit_ChargeSupply : switching.charge.switching = true ∧ headroomTurn.dev.state = .scan ∧ headroomTurn.scan.columnsDone % 16 = 3 ∧
    (headroomTurn.bank 3).sampled = false ∧
    (headroomTurn.bank 3).fired.find? (fun k => decide (k.column = headroomTurn.scan.columnNo) && !k.muted) = some shot ∧
    discharging.charge.lowAt = some 100 ∧ discharging.charge.warned = false ∧ discharging.b Obj.vchgDischarged = false := by decide +kernel

/-! ### GateAndShutter -/

/-- A sensor with power; channel 3 is at depth 2 with one fire held. -/
def gated : State :=
  { idle with dev := { idle.dev with sensorPowered := true } }.setPixel 3
    { fires := [320300], activeUntil := 0, depth := 2, nextDepth := 2, adaptive := false, hold := 0, window := 10, edges := 0, saturated := false }

/-- The same with the output active. -/
def gateActive : State := gated.setPixel 3 { gated.pixel 3 with activeUntil := 400000 }

/-- The same with depth 3. -/
def gateDeep : State := gated.setPixel 3 { gated.pixel 3 with depth := 3 }

/-- The same with its region disabled by the throttle. -/
def gateOff : State := { gated with therm := { gated.therm with inForce := [3] } }

/-- The same with the path blind. -/
def gateBlind : State := gated.setMeas 3 { gated.meas 3 with blindFrom := 320300, blindTo := 320512 }

/-- The same with a shot fired whose Shutter stands open from tick 25 to tick 100 after its FIRE tick. -/
def gateShot : State := withShots (gated.setMeas 3 { gated.meas 3 with openTick := 0, closeTick := 100 }) 0 [shot]

/-- A shot whose Shutter is open. -/
def shutterStands : State := gateShot.setMeas 3 { gateShot.meas 3 with openSlots := [shot.mark] }

def settlingCluster : State := idle.setCluster 2 { Cluster.rest with settling := true, settleFrom := 1000 }

theorem wit_gate : gated.dev.sensorPowered = true ∧ gated.variant.hasPath 3 = true ∧ (gated.path 3).role ≠ 3 ∧
    320310 < (gateActive.pixel 3).activeUntil ∧ (gateDeep.pixel 3).activeUntil ≤ 320310 ∧
    ((gateDeep.pixel 3).fires.filter (fun u => decide (320310 < u + 8 * (gateDeep.pixel 3).window))).length + 1 < (gateDeep.pixel 3).depth ∧
    (gated.pixel 3).depth ≤ ((gated.pixel 3).fires.filter (fun u => decide (320310 < u + 8 * (gated.pixel 3).window))).length + 1 ∧
    gateOff.servingPath 3 = none ∧ gated.servingPath 3 = some 3 ∧ (gated.cluster 0).settling = false ∧ (gated.meas 3).ignoreBefore ≤ 320310 ∧
    (gateBlind.meas 3).blindFrom ≤ 320310 ∧ 320310 < (gateBlind.meas 3).blindTo ∧
    ¬ ((gateShot.meas 3).blindFrom ≤ 320310 ∧ 320310 < (gateShot.meas 3).blindTo) ∧
    (gateShot.bank 0).fired.any (fun j => (gateShot.meas 3).enabled j 320310) = true := by decide +kernel

theorem wit_shutter : (gateShot.bank (regionOf 3)).fired.find? (fun k => k.slot == 0 && !(gateShot.meas 3).openSlots.contains k.mark &&
      decide (gateShot.nowStamp ≤ ((gateShot.meas 3).shutter k).2)) = some shot ∧
    (shutterStands.meas 3).openSlots.find? (fun k => k % 256 == 0) = some shot.mark ∧ (settlingCluster.cluster 2).settling = true := by
  decide +kernel

/-! ### ChannelFaults -/

/-- Channel 5's Scarab in permanent use. -/
def scarabUsed : State := idle.setPath 1024 { PathRec.rest 1024 with role := 0xA }

theorem wit_faults : idle.dev.booted = true ∧ idle.variant.hasPath 5 = true ∧ (idle.path 5).role = 0 ∧ (idle.path 5).fault = 0 ∧
    (idle.path 1024).role = 8 ∧ (idle.cluster 0).causes = [] ∧ (scarabUsed.path 1024).role = 0xA ∧ scarabUsed.dev.booted = true ∧
    16 < ((idle.setMeas 5 { idle.meas 5 with code64 := 17 }).meas 5).code64 ∧ gated.variant.hasPath 5 = true ∧ gated.dev.sensorPowered = true ∧
    gated.dev.booted = true ∧ (gated.path 5).role ≠ 3 := by decide +kernel

theorem wit_replace : (open3 idle).takes (askWrite 0x3005 0x17 0x01 [1#8]) 0x3005 0x17 0x01 [1#8] sess.caller ∧
    (open3 (inState .scan)).takes (askWrite 0x3005 0x17 0x01 [1#8]) 0x3005 0x17 0x01 [1#8] sess.caller ∧
    (open3 idle).takes (askWrite 0x3005 0x17 0x01 [0#8]) 0x3005 0x17 0x01 [0#8] sess.caller ∧
    (open3 scarabUsed).takes (askWrite 0x3005 0x17 0x01 [1#8]) 0x3005 0x17 0x01 [1#8] sess.caller ∧
    ((open3 idle).cluster 0).served = none ∧ ((open3 idle).path 5).role = 0 ∧ ((open3 idle).path 1024).role = 8 :=
  ⟨open3_takes _ _ _ _ _ (by decide +kernel), open3_takes _ _ _ _ _ (by decide +kernel), open3_takes _ _ _ _ _ (by decide +kernel),
   open3_takes _ _ _ _ _ (by decide +kernel), by decide +kernel, by decide +kernel, by decide +kernel⟩

/-- Channel 5 replaced. -/
def replaced : State := scarabUsed.setPath 5 { PathRec.rest 5 with role := 2, fault := 5 }

/-- The Scarab of cluster 0 failed. -/
def scarabFailed : State := idle.setPath 1024 { PathRec.rest 1024 with role := 0xB, fault := 6 }

theorem wit_restore : (open3 replaced).takes (askWrite 0x3005 0x18 0x01 [1#8]) 0x3005 0x18 0x01 [1#8] sess.caller ∧
    ((open3 replaced).path 5).role = 2 ∧
    (open3 scarabFailed).takes (askWrite 0x3400 0x18 0x01 [1#8]) 0x3400 0x18 0x01 [1#8] sess.caller ∧
    ((open3 scarabFailed).path 1024).role = 0xB ∧
    (open3 idle).takes (askWrite 0x3005 0x18 0x01 [1#8]) 0x3005 0x18 0x01 [1#8] sess.caller ∧ ((open3 idle).path 5).role ∉ [2, 3, 4] :=
  ⟨open3_takes _ _ _ _ _ (by decide +kernel), by decide +kernel, open3_takes _ _ _ _ _ (by decide +kernel), by decide +kernel,
   open3_takes _ _ _ _ _ (by decide +kernel), by decide +kernel⟩

/-! ### HistogramPath -/

/-- A conversion 1000 LSB after the shot's start waits on path 3. -/
def convWaits : State :=
  withShots (idle.setMeas 3 { idle.meas 3 with openTick := 0, closeTick := 1000, convs := [⟨321240, 321408, true⟩] }) 0 [shot]

/-- The same, the shot without its start. -/
def startUnknown : State := withShots convWaits 0 [{ shot with start := none }]

def note0 : IntervalNote :=
  { interval := 0, frame := 0, column := 7, dir := false, boundary := 0, stampNs := 0, columns := 1, scaleSource := 0, scalePpb := 0,
    notLocked := false, inhibit := false, formed := false, settings := [], govBanks := [], throttled := [], firstNo := 7 }

/-- The shot's interval has its note and a buffer with counts on path 3. -/
def counted : State :=
  let s := withShots (idle.setMeas 3 { idle.meas 3 with openTick := 0, closeTick := 2000, bufs := [{ idle.bufRest 3 0 with coarse := [(7, (200, 0))] }] }) 0 [shot]
  { s with array := { s.array with notes := [note0] }, scan := { s.scan with interval := 1 } }

/-- The buffer released. -/
def released : State :=
  counted.setMeas 3 { counted.meas 3 with bufs := [{ idle.bufRest 3 0 with coarse := [(7, (200, 0))], released := some 400000 }] }

theorem wit_assign : (convWaits.meas 3).convs = [⟨321240, 321408, true⟩] ∧ (∀ j ∈ (convWaits.bank (regionOf 3)).fired, j.start.isSome = true) ∧
    (convWaits.bank (regionOf 3)).fired = [shot] ∧ (convWaits.meas 3).within shot 321240 = true ∧
    (321240 - 320240) / (convWaits.under 0).binLsb < 1024 ∧
    (tabGet (((convWaits.meas 3).buf? 0).getD (convWaits.bufRest 3 0)).coarse ((321240 - 320240) / (convWaits.under 0).binLsb) (0, 0)).1 ≤ 4095 ∧
    (startUnknown.bank (regionOf 3)).fired.any (fun j => decide (j.fire < 321408) &&
      ((startUnknown.meas 3).within j 321240 || decide (321240 < ((startUnknown.meas 3).shutter j).2)) && j.start.isNone) = true := by
  decide +kernel

theorem wit_buffers : (counted.meas 3).bufs.find? (fun b => !b.searched && b.released.isNone) =
      some { idle.bufRest 3 0 with coarse := [(7, (200, 0))] } ∧
    counted.note 0 = some note0 ∧ (counted.bank 0).queue = [] ∧ (counted.bank 0).shots ≤ (counted.bank 0).nextSlot ∧
    counted.array.notes = [note0] ∧ counted.intervalEnded 0 = true ∧ (counted.bank 0).shotsIn 0 = [shot] ∧ (counted.meas 3).convs = [] ∧
    ((released.meas 3).bufs.find? (fun b => b.released.isSome)).isSome = true ∧ released.pathFailed 3 = false ∧
    ((released.setPath 3 { PathRec.rest 3 with role := 4, fault := 1 }).path 3).role = 4 ∧
    ((counted.setMeas 3 { counted.meas 3 with bufs := [] }).array.meas.any (fun e => e.2.bufs.any (fun b => b.interval == 0))) = false := by
  decide +kernel

/-! ### FiringSlots -/

/-- Bank 2 in SCAN with slot 1 of 3 next, its edge 40,000 to come; the column ends at 10,000,000 LSB. -/
def firing : State :=
  { inState .scan with
    scan := { idle.scan with columnEnd := 10000000, columnNo := 7 },
    fire := { idle.fire with inhibit := 0, released := true, doseV := 2000 } }.setBank 2
    { Bank.rest with x := 0x12345678, nextSlot := 1, shots := 3, nextEdge := 40000, base := 10000, dither := 512, width := 4 }

/-- The next edge lies past the column's end. -/
def overrun : State := firing.setBank 2 { firing.bank 2 with base := 3000000 }

/-- A limit of 0 for every window, cell and bank. -/
def noDose : State := (firing.setU Obj.mantisMutePeriod 0).put Obj.govLimits (List.replicate 384 0#8)

/-- Limits that no dose reaches. -/
def muchDose : State := (firing.setU Obj.mantisMutePeriod 0).put Obj.govLimits (List.replicate 384 0x7F#8)

/-- Every second slot muted. -/
def muting : State := firing.setU Obj.mantisMutePeriod 2

/-- A slot waits in the queue of bank 2. -/
def queued : State := firing.setBank 2 { firing.bank 2 with queue := [⟨0, 80000, false, 4⟩, ⟨1, 90000, false, 4⟩] }

/-- A queued slot while a cause stands. -/
def suppressed : State := { queued with fire := { queued.fire with inhibit := 4 } }

/-- A shot of bank 2 without its start. -/
def noStart : State := withShots idle 2 [{ shot with start := none }]

theorem wit_slots : firing.dev.state = .scan ∧ (firing.bank 2).nextSlot < (firing.bank 2).shots ∧ (firing.bank 2).dropped = false ∧
    overrun.scan.columnEnd ≤ 4 * (40000 + (3000000 + (69069 * 0x12345678 + 1) % 4294967296 / 16777216 * 512 / 256)) ∧
    4 * (40000 + (10000 + (69069 * 0x12345678 + 1) % 4294967296 / 16777216 * 512 / 256)) < firing.scan.columnEnd ∧
    muting.u Obj.mantisMutePeriod = 2 ∧ (muting.bank 2).nextSlot % 2 = 2 - 1 ∧ noDose.u Obj.mantisMutePeriod = 0 ∧
    noDose.govPasses 2 4 = false ∧ muchDose.govPasses 2 4 = true ∧ muchDose.fire.placed = [] ∧ muchDose.u Obj.mantisMutePeriod = 0 ∧
    (idle.bank 2).shots ≤ (idle.bank 2).nextSlot := by decide +kernel

theorem wit_edges : (queued.bank 2).queue = [⟨0, 80000, false, 4⟩, ⟨1, 90000, false, 4⟩] ∧ queued.fire.inhibit = 0 ∧
    queued.fire.released = true ∧ suppressed.fire.inhibit ≠ 0 ∧ (suppressed.bank 2).queue ≠ [] ∧
    (noStart.bank 2).fired.find? (fun j => j.slot == 0 && j.start.isNone) = some { shot with start := none } ∧
    idle.dev.booted = true ∧ (idle.fire.gov[1]?).isSome = true := by decide +kernel

/-! ### ColumnsAndSlots -/

/-- A galvanometer's raster that has begun: the entry vertex at stamp 0. -/
def onTrack (d : DevState) : State := { inState d with scan := { idle.scan with trackAt := some 0 } }

/-- The same with a column in progress and firing without a cause. -/
def sweeping : State :=
  let s := onTrack .scan
  { s with scan := { s.scan with running := true, intervalLeft := 4, columnNo := 9, boundary := 100000000, transomFrom := 64, transomTo := 128 },
           fire := { s.fire with inhibit := 0 } }

/-- A command waits for the boundary. -/
def waitingCmd (s : State) (c : Cmd) : State := { s with scan := { s.scan with pendingCmd := some c } }

/-- A COLUMN frame waits in STANDBY. -/
def mirrored : State := { inState .standby with pair := { idle.pair with role := 2, columns := [(640, List.replicate 200 0)] } }

theorem wit_columns : (onTrack .scan).nextBdy.isSome = true ∧ (onTrack .hold).nextBdy.isSome = true ∧ sweeping.nextBdy.isSome = true ∧
    sweeping.grp.commitWaiting = none ∧ sweeping.grp.pendingKnock = none ∧ sweeping.fire.inhibit = 0 ∧ 1 < sweeping.scan.intervalLeft ∧
    (waitingCmd sweeping .stop).nextBdy.isSome = true ∧ idle.boundaryNext = none ∧ mirrored.mirroredBdy.isSome = true ∧
    mirrored.pair.configs = [] ∧ idle.nextTransom = none ∧ sweeping.nextTransom.isSome = true ∧ (onTrack .armed).nextTransom.isSome = true := by
  decide +kernel

/-! ### LoopSamples -/

/-- Loops 0 to 3 in their modes of SCAN; an output of every chain waits. -/
def loopsOn (d : DevState) : State :=
  let s := inState d
  { s with loops := [⟨LoopMode.track, 0⟩, ⟨LoopMode.track, 1⟩, ⟨LoopMode.regulate, 2⟩, ⟨LoopMode.regulate, 3⟩].map (fun (e : LoopMode × Nat) =>
             { Loop.rest (resetCode e.2) with mode := e.1, code := 0x1234 }),
           sense := { s.sense with chains := s.sense.chains.map (fun c => { c with outputs := 1000 }) } }

/-- WC1's gate is on. -/
def gated3 : State := { loopsOn .scan with charge := { idle.charge with ao3Gate := true } }

/-- The owner of a pair with its link up. -/
def paired (s : State) : State := { s with pair := { s.pair with role := 1, linkUp := true, asserts := true, phase := pairPaired } }

/-- A follower that has taken over and owes START. -/
def owing : State := let s := loopsOn .armed
  { s with pair := { s.pair with startWhenReady := true }, dev := { s.dev with booted := false } }

theorem wit_loops : (loopsOn .scan).sampleReady 2 = true ∧ (loopsOn .scan).dev.booted = true ∧ ((loopsOn .scan).loop 3).mode ≠ .off ∧
    satNat 255 (((loopsOn .scan).loop 1).missRun + 1) < (loopsOn .scan).u Obj.missLimit ∧ 2000 ≤ (loopsOn .scan).deadlineNs 2 ∧
    (loopsOn .scan).deadlineNs 2 < 1000000000 ∧ (idle.loop 2).mode = .off ∧ (loopsOn .scan).resonant 0 = false ∧
    gated3.charge.ao3Gate = true ∧ idle.sampleReady 2 = false ∧ owing.armReady = true ∧ owing.dev.state = .armed ∧
    (paired (loopsOn .scan)).dev.state.live = true := by decide +kernel

/-- The law's result is a number. -/
theorem wit_law : (match Fl.clamp (fOf ((loopsOn .scan).u (Obj.loopOutMin 2))) (fOf ((loopsOn .scan).u (Obj.loopOutMax 2)))
    ((loopsOn .scan).law 2 ((loopsOn .scan).setpoint 2 ((loopsOn .scan).sampleAt 2) ((loopsOn .scan).loopY 2)).1 ((loopsOn .scan).loopY 2)).u with
    | .fin _ => true | _ => false) = true := by decide +kernel

/-! ### ConvertersAndComparators -/

/-- SC0 before a discard conversion. -/
def discarding : State := idle.setConv 0 { idle.conv 0 with discard := true }

/-- A synchronising reset of SC0 caused at tick 0, the slot boundary at tick `n`. -/
def resetAt (n : Nat) : State := idle.setConv 0 { idle.conv 0 with resetCause := some 0, startAt := n }

/-- The chains have had an input. -/
def primedAll : State := let s := resetAt 500
  { s with sense := { s.sense with chains := s.sense.chains.map (fun c => { c with primed := true }) } }

/-- Calibration and host demands wait. -/
def demanding : State := { idle with therm := { idle.therm with calDemand := 0x9, hostDemand := 0x30006 } }

/-- Comparator 5 watches source 20 with reaction 1. -/
def watching : State := idle.put Obj.wcConfig (patch 40 [20#8, 1#8, 0#8, 1#8] (idle.get Obj.wcConfig))

/-- Comparator 5 has tripped. -/
def tripped5 : State := { watching with sense := { watching.sense with tripped := 0xC00 } }

theorem wit_convs : (idle.conv 0).resetCause = none ∧ getAt (idle.sequence 0) ((idle.conv 0).slot % max 1 (idle.sequence 0).length) 0xFF < 6 ∧
    getAt (idle.sequence 1) ((idle.conv 1).slot % max 1 (idle.sequence 1).length) 0xFF < 6 ∧
    (discarding.conv 0).discard = true ∧ (idle.conv 0).discard = false ∧ ((resetAt 500).conv 0).resetCause = some 0 ∧
    0 + 250 ≤ ((resetAt 500).conv 0).startAt ∧ ((resetAt 100).conv 0).startAt < 0 + 250 ∧ idle.sense.convs.length = 4 := by decide +kernel

theorem wit_comparators : watching.wcOn 5 = true ∧ watching.wcSeverity 5 true < 4 ∧ tripped5.wcOn 5 = false ∧ idle.wcOn 1 = true := by decide +kernel

theorem wit_chainSync : (open3 idle).takes (askWrite 0x2900 0x01 0x02 [0x2#8]) 0x2900 0x01 0x02 [0x2#8] sess.caller ∧
    (open3 (inState .scan)).takes (askWrite 0x2900 0x01 0x02 [0x2#8]) 0x2900 0x01 0x02 [0x2#8] sess.caller :=
  ⟨open3_takes _ _ _ _ _ (by decide +kernel), open3_takes _ _ _ _ _ (by decide +kernel)⟩

/-! ### TimingInputs -/

/-- Input 2 in a role that takes rising edges; its table is the ideal one and its AuxDelay 0. -/
def auxAs (role : Nat) : State :=
  let s := ((idle.setU (Obj.auxRole 2) role).setU (Obj.auxSlope 2) 1).setAux 2 { AuxInput.rest with taps := .ideal, blindTo := 1000 }
  { s with live := tabPut s.live (Obj.auxDelay 2) [0, 0] }

/-- The interval unit runs from input 2 to input 3. -/
def twoInputs (s : State) : State := (((s.setU Obj.intervalStartInput 2).setU Obj.intervalStopInput 3).setU Obj.intervalStartSlope 1).setU Obj.intervalWindow 1000

/-- A start at 1,000,000 LSB and stops at equal distances from it. -/
def deciding : State :=
  let s := twoInputs idle
  { s with aux := { s.aux with starts := [1000000, 2000000], stops := [(999000, false), (1001000, false), (1500000, false)] } }

/-- A start without a stop in its window. -/
def lonely : State := { deciding with aux := { deciding.aux with stops := [(5000000, false)] } }

/-- The unit on one input. -/
def single : State := { idle with aux := { idle.aux with starts := [1000000] } }.setU Obj.intervalStopInput (idle.u Obj.intervalStartInput)

/-- A gate of an input that has ended with a number of pairs. -/
def fitting (n : Nat) (ps : List (Nat × Stamp)) : State := idle.setAux n { AuxInput.rest with done := some ⟨0, 1, 3, 0, ps⟩ }

/-- Input 8 collects on a 10 MHz reference. -/
def calref8 : State := idle.setU Obj.calrefMode 1

theorem wit_auxEdge : slopeTakes ((auxAs 0).u (Obj.auxSlope 2)) true = true ∧ slopeTakes ((auxAs 0).u (Obj.auxSlope 2)) false = false ∧
    (auxAs 0).auxRoleNow 2 = 0 ∧ (auxAs 5).auxRoleNow 2 = 5 ∧ (twoInputs (auxAs 5)).intervalSingle = false ∧
    ((auxAs 0).auxIn 2).blindTo ≤ ((((auxAs 0).auxIn 2).taps.stamp 1090 (640000 / 64 + 1) 32 : Nat) -
      (roundDiv ((auxAs 0).u (Obj.auxDelay 2) * 2) 25 : Int)).toNat ∧
    ((((auxAs 0).auxIn 2).taps.stamp 1090 (64 / 64 + 1) 32 : Nat) - (roundDiv ((auxAs 0).u (Obj.auxDelay 2) * 2) 25 : Int)).toNat <
      ((auxAs 0).auxIn 2).blindTo ∧ ((idle.setU Obj.startSource 1).auxRoleNow 0 = 1) := by decide +kernel

theorem wit_intervals : deciding.intervalSingle = false ∧ natDist 1001000 1000000 ≤ deciding.intervalLsb ∧
    (∀ e ∈ deciding.aux.stops, natDist 1001000 1000000 < natDist e.1 1000000 ∨
      (natDist 1001000 1000000 = natDist e.1 1000000 ∧ e.1 ≤ 1001000)) ∧
    (∀ e ∈ lonely.aux.stops, lonely.intervalLsb < natDist e.1 1000000) ∧ single.intervalSingle = true ∧
    calref8.freqRuns 8 = true ∧ idle.freqRuns 2 = false ∧ (((fitting 8 []).auxIn 8).done).isSome = true := by decide +kernel

/-! ### SegmentCapture -/

/-- Capture is armed with a watch list of three channels; only the causes of the mask are enabled; tick 4000. -/
def armed3 (mask : Nat) : State :=
  let s := ((((inState .scan).setU Obj.mayflyEnable 1).setU Obj.kind 0).setU Obj.causeEnable mask).put Obj.watchList [5, 0, 70, 0, 6, 0]
  { s with time := { s.time with ticks := 4000, native := 16000 * 4294967296 } }

/-- Engine 0 has a history, engine 1 waits to re-arm. -/
def engines01 : State :=
  ((armed3 0x1000).setEngine 0 { MayflyEngine.idle with history := [1200000, 1100000] }).setEngine 1 { MayflyEngine.idle with closedAt := some 1270000 }

/-- A capture that a trigger has begun on engine 2. -/
def capturing : State :=
  let i := (armed3 0).trigInfo 12 0xFFFF 1280000
  (armed3 0x1000).setEngine 2 { MayflyEngine.idle with capture := some ⟨i, 6, [1200000], [], 4, 8000, false⟩ }

/-- A schedule at 1 ms of native time. -/
def scheduled (s : State) : State := s.put Obj.timeTrigger (time80 1000000)

/-- A segment that waits for the stream sink. -/
def waitingSeg : Segment :=
  { number := 7, header := List.replicate 16 1, payload := List.replicate 64 2, mask := 1, stampNs := 500, streamWaits := true, recWaits := false,
    offered := false }

/-- Stream `k` enabled, to a group address, port 0 up. -/
def streaming (k : Nat) (s0 : State) : State :=
  let s := (s0.setU Obj.ipNow 0xC0A80002).setU (Obj.strDestAddr k) 0xE0000105
  ({ s with may := { s.may with ring := [waitingSeg] } }.setStream k ⟨true, 11, [], 0⟩).setPort 0 { PortState.down with linkUp := true }

/-- The port is barred. -/
def barred0 (s : State) : State := s.setPort 0 { s.port 0 with barred := true }

theorem wit_hostTrigger : (open3 engines01).takes (askWrite 0x2400 0x0D 0x02 [0x1#8]) 0x2400 0x0D 0x02 [0x1#8] sess.caller ∧
    (open3 idle).takes (askWrite 0x2400 0x0D 0x02 [0x1#8]) 0x2400 0x0D 0x02 [0x1#8] sess.caller :=
  ⟨open3_takes _ _ _ _ _ (by decide +kernel), open3_takes _ _ _ _ _ (by decide +kernel)⟩

theorem wit_timeTrigger : (open3 engines01).takes (askWrite 0x2400 0x0B 0x0B (timeBytes 1#48 0#32)) 0x2400 0x0B 0x0B (timeBytes 1#48 0#32) sess.caller ∧
    (open3 engines01).takes (askWrite 0x2400 0x0B 0x0B (timeBytes 0#48 100#32)) 0x2400 0x0B 0x0B (timeBytes 0#48 100#32) sess.caller ∧
    (open3 engines01).takes (askWrite 0x2400 0x0B 0x0B (timeBytes 0#48 20000#32)) 0x2400 0x0B 0x0B (timeBytes 0#48 20000#32) sess.caller :=
  ⟨open3_takes _ _ _ _ _ (by decide +kernel), open3_takes _ _ _ _ _ (by decide +kernel), open3_takes _ _ _ _ _ (by decide +kernel)⟩

theorem wit_capture : engines01.mayArmed = true ∧ engines01.u Obj.causeEnable = 2 ^ 12 ∧ engines01.u Obj.kind = 0 ∧
    engines01.watchList = [5, 70, 6] ∧ 3 ≤ engines01.may.engines.length ∧ (∀ x ∈ (engines01.engine 0).history, x < engines01.nowStamp) ∧
    (engines01.engine 1).closedAt = some 1270000 ∧ (capturing.engine 2).capture.isSome = true ∧ capturing.may.ring.length < capturing.ringCap ∧
    ofTime80 ((scheduled idle).get Obj.timeTrigger) = 1000000 ∧ (scheduled idle).mayArmed = false := by decide +kernel

theorem wit_drain : ((streaming 5 idle).stream 5).enabled = true ∧ (streaming 5 idle).canCarry 5 = true ∧ (streaming 5 idle).mayOffer 0 4 100 = true ∧
    (barred0 (streaming 5 idle)).mayOffer 0 4 100 = false ∧ (streaming 5 idle).word Obj.launchDelay 4 8 = 0 ∧
    (streaming 5 idle).may.ring.find? (fun g => g.streamWaits && !g.offered) = some waitingSeg ∧
    (waitingSeg.header ++ waitingSeg.payload).length = 80 := by decide +kernel

/-! ### CalRequests -/

/-- Region 3 due, region 4 running. -/
def dueRun (d : DevState) : State := ((inState d).setU Obj.regionDue 0x8).setU Obj.regionRunning 0x10

/-- The mask of regions 1, 3 and 4. -/
def calMask : BitVec 16 := 0x001A#16

theorem wit_calRequest : (open3 (dueRun .scan)).takes (askWrite 0x2600 0x09 0x03 (bitBytes 2 calMask)) 0x2600 0x09 0x03 (bitBytes 2 calMask) sess.caller ∧
    (open3 (dueRun .idle)).takes (askWrite 0x2600 0x09 0x03 (bitBytes 2 calMask)) 0x2600 0x09 0x03 (bitBytes 2 calMask) sess.caller ∧
    (open3 { dueRun .scan with variant := .fl6412 }).takes (askWrite 0x2600 0x09 0x03 (bitBytes 2 0x0100#16)) 0x2600 0x09 0x03
      (bitBytes 2 0x0100#16) sess.caller :=
  ⟨open3_takes _ _ _ _ _ (by decide +kernel), open3_takes _ _ _ _ _ (by decide +kernel), open3_takes _ _ _ _ _ (by decide +kernel)⟩

theorem wit_calMask : (∀ r, r < 16 → calMask.toNat.testBit r = true → r < (dueRun .scan).variant.regions) ∧
    (∃ r, r < 16 ∧ (0x0100#16).toNat.testBit r = true ∧ ({ dueRun .scan with variant := .fl6412 } : State).variant.regions ≤ r) :=
  ⟨by decide +kernel, 8, by decide +kernel⟩

/-! ### CalibrationRuns -/

/-- Region 3 may start its run. -/
def mayRun : State := ((inState .scan).setU Obj.regionDue 0x8).setU Obj.mramWriteAllowed 1

/-- CalConversions, spread evenly over 52 codes. -/
def evenCounts : List Nat :=
  let m := idle.u Obj.calConversions
  (m - 51 * (m / 52)) :: List.replicate 51 (m / 52)

/-- A path's run, its first pass still to come. -/
def running1 (k : Nat) (fails : Nat) : State :=
  ((inState .scan).setPath k { (inState .scan).path k with fails := fails }).setRun k ⟨none, 2500, 100, true⟩

/-- A path's run after its first pass. -/
def running2 (k : Nat) : State := (inState .scan).setRun k ⟨some (tapsOf evenCounts (idle.u Obj.calConversions)), 2500, 100, false⟩

/-- A stand-in of channel 5 in a state without columns. -/
def standing : State :=
  (((idle.setPath 5 { PathRec.rest 5 with role := 0x1 }).setPath 1024 { PathRec.rest 1024 with role := 0x9 }).setCluster 0
    { Cluster.rest with served := some 5, settling := true }).setRun 5 ⟨none, 2500, 100, false⟩

/-- Input 4 is due for calibration. -/
def inputDue : State := idle.setU Obj.inputCalDue 0x10

theorem wit_calRuns : mayRun.regionDueBit 3 = true ∧ mayRun.regionRunning 3 = false ∧ mayRun.calProceeds 3 = true ∧
    sumNat evenCounts = idle.u Obj.calConversions ∧ passFails evenCounts (tapsOf evenCounts (idle.u Obj.calConversions)).2 = false ∧
    (running1 7 0).calRun 7 = some ⟨none, 2500, 100, true⟩ ∧ (running2 7).cal.fullRun = false ∧ ((running1 1030 2).path 1030).fails = 2 ∧
    passFails [idle.u Obj.calConversions] (tapsOf [idle.u Obj.calConversions] (idle.u Obj.calConversions)).2 = true ∧
    (standing.cluster 0).served = some 5 ∧ (standing.path 1024).role = 0x9 ∧ standing.dev.state.hasColumns = false ∧
    inputDue.calRun 1092 = none ∧ (inputDue.u Obj.inputCalDue).testBit (1092 - 1088) = true := by decide +kernel

theorem wit_passesAgree : (running2 7).passesAgree (tapsOf evenCounts (idle.u Obj.calConversions)) (tapsOf evenCounts (idle.u Obj.calConversions)) =
    true := by decide +kernel

/-! ### CalibrationBanks -/

/-- Full calibration with no path left; MRAM takes writes. -/
def fullDone : State := let s := (inState .calibrate).setU Obj.mramWriteAllowed 1
  { s with cal := { s.cal with fullRun := true, todo := [(0, [])], failing := [7] } }

/-- The same when MRAM takes none. -/
def fullLost : State := { fullDone with fire := { fullDone.fire with pfailN := false } }

/-- A bank is wished for. -/
def wishing : State := let s := idle.setU Obj.mramWriteAllowed 1
  { s with cal := { s.cal with wanted := [7, 1] } }

/-- A bank is being written. -/
def writingBank : State := { wishing with cal := { wishing.cal with wanted := [], writing := some { CalBank.factory with generation := 2, cause := 7 } } }

/-- Its first read-back has failed. -/
def writtenTwice : State := { writingBank with cal := { writingBank.cal with retried := true } }

theorem wit_banks : fullDone.fullCalReady = true ∧ fullDone.mramRefusal = Abort.ok ∧ fullLost.fullCalReady = true ∧
    fullLost.mramRefusal ≠ Abort.ok ∧ wishing.cal.wanted = [7, 1] ∧ wishing.cal.writing = none ∧ wishing.mramRefusal = Abort.ok ∧
    writingBank.cal.writing.isSome = true ∧ writingBank.fire.pfailN = true ∧ writtenTwice.cal.retried = true := by decide +kernel

/-- The first 60 bytes of a bank's header over a payload with the checksum `c`. -/
def bankHead (c : Nat) : Bytes :=
  leBytes 4 bankMagic ++ leBytes 2 1 ++ leBytes 2 64 ++ leBytes 4 5 ++ leBytes 4 bankPayloadLength ++ leBytes 4 c ++
    List.replicate 20 0 ++ leBytes 8 Config.calDeviceUid.toNat ++ List.replicate 12 0

/-- The header and a payload's bytes. -/
def bankFront (c : Nat) (pay : Bytes) : Bytes := bankHead c ++ leBytes 4 (crc32 (bankHead c)) ++ pay

/-- The write of a bank, but for its last byte. -/
def importing (front : Bytes) : State :=
  let s := open3 (idle.setU Obj.mramWriteAllowed 1)
  { s with dtp := { s.dtp with transfers := [⟨sess.caller.owner, true, false, Obj.calBankImport, 179936, 7, 179935, front, 3, 0⟩] } }

theorem crcBit_lt (c : Nat) (h : c < 2 ^ 32) : crcBit c < 2 ^ 32 := by
  unfold crcBit
  split
  · exact Nat.xor_lt_two_pow (by omega) (by decide)
  · omega

theorem crcByte_lt (c : Nat) (b : Byte) (h : c < 2 ^ 32) : crcByte c b < 2 ^ 32 := by
  have hb : c ^^^ b.toNat < 2 ^ 32 := Nat.xor_lt_two_pow h (Nat.lt_trans b.isLt (by decide))
  exact crcBit_lt _ (crcBit_lt _ (crcBit_lt _ (crcBit_lt _ (crcBit_lt _ (crcBit_lt _ (crcBit_lt _ (crcBit_lt _ hb)))))))

theorem crc32_lt (m : Bytes) : crc32 m < 2 ^ 32 := by
  have h : ∀ (m : Bytes) (c : Nat), c < 2 ^ 32 → m.foldl crcByte c < 2 ^ 32 := by
    intro m
    induction m with
    | nil => intro c h; exact h
    | cons b m ih => intro c h; exact ih _ (crcByte_lt c b h)
  exact Nat.xor_lt_two_pow (h m _ (by decide)) (by decide)

theorem numAt_mid (off n v : Nat) (a b : Bytes) (h : a.length = off) (hv : v < 256 ^ n) : numAt off n (a ++ (leBytes n v ++ b)) = v := by
  subst h
  unfold numAt slice
  rw [List.drop_append_of_le_length (Nat.le_refl _), List.drop_length, List.nil_append, leVal_take_leBytes, Nat.mod_eq_of_lt hv]

theorem bankHead_length (c : Nat) : (bankHead c).length = 60 := by
  simp only [bankHead, List.length_append, leBytes_length, List.length_replicate]

theorem bankFront_length (c : Nat) (pay : Bytes) : (bankFront c pay).length = 64 + pay.length := by
  simp only [bankFront, List.length_append, leBytes_length, bankHead_length]

/-- A bank of this device's format and number is good. -/
theorem bankFront_good (pay : Bytes) (h : pay.length = bankPayloadLength) :
    bankGood (bankFront (crc32 pay) pay) = true ∧ numAt 40 8 (bankFront (crc32 pay) pay) = Config.calDeviceUid.toNat := by
  have hl := bankFront_length (crc32 pay) pay
  have ht : (bankFront (crc32 pay) pay).take 60 = bankHead (crc32 pay) := by
    unfold bankFront
    rw [List.append_assoc, List.take_append_of_le_length (Nat.le_of_eq (bankHead_length _).symm),
      List.take_of_length_le (Nat.le_of_eq (bankHead_length _))]
  have hd : (bankFront (crc32 pay) pay).drop 64 = pay := by
    unfold bankFront
    have : (bankHead (crc32 pay) ++ leBytes 4 (crc32 (bankHead (crc32 pay)))).length = 64 := by
      rw [List.length_append, bankHead_length, leBytes_length]
    rw [← this, List.drop_append_of_le_length (Nat.le_refl _), List.drop_length, List.nil_append]
  have e60 : numAt 60 4 (bankFront (crc32 pay) pay) = crc32 (bankHead (crc32 pay)) := by
    unfold bankFront
    rw [List.append_assoc]
    exact numAt_mid 60 4 _ _ _ (bankHead_length _) (crc32_lt _)
  have hc := crc32_lt pay
  have hu := Config.calDeviceUid.isLt
  generalize hf : leBytes 4 (crc32 (bankHead (crc32 pay))) ++ pay = tail
  have shape : bankFront (crc32 pay) pay = bankHead (crc32 pay) ++ tail := by
    rw [← hf]
    unfold bankFront
    rw [List.append_assoc]
  have e0 : numAt 0 4 (bankFront (crc32 pay) pay) = bankMagic := by
    rw [shape]; unfold bankHead; simp only [List.append_assoc]
    exact numAt_mid 0 4 _ [] _ rfl (by decide)
  have e4 : numAt 4 2 (bankFront (crc32 pay) pay) = 1 := by
    rw [shape]; unfold bankHead; simp only [List.append_assoc]
    exact numAt_mid 4 2 _ (leBytes 4 bankMagic) _ rfl (by decide)
  have e6 : numAt 6 2 (bankFront (crc32 pay) pay) = 64 := by
    rw [shape]; unfold bankHead; simp only [List.append_assoc]
    rw [← List.append_assoc (leBytes 4 bankMagic)]
    exact numAt_mid 6 2 _ (leBytes 4 bankMagic ++ leBytes 2 1) _ rfl (by decide)
  have e12 : numAt 12 4 (bankFront (crc32 pay) pay) = bankPayloadLength := by
    rw [shape]; unfold bankHead; simp only [List.append_assoc]
    rw [← List.append_assoc (leBytes 2 64), ← List.append_assoc (leBytes 2 1), ← List.append_assoc (leBytes 4 bankMagic)]
    exact numAt_mid 12 4 _ (leBytes 4 bankMagic ++ (leBytes 2 1 ++ (leBytes 2 64 ++ leBytes 4 5))) _ rfl (by decide)
  have e16 : numAt 16 4 (bankFront (crc32 pay) pay) = crc32 pay := by
    rw [shape]; unfold bankHead; simp only [List.append_assoc]
    rw [← List.append_assoc (leBytes 4 5), ← List.append_assoc (leBytes 2 64), ← List.append_assoc (leBytes 2 1),
      ← List.append_assoc (leBytes 4 bankMagic)]
    exact numAt_mid 16 4 _ (leBytes 4 bankMagic ++ (leBytes 2 1 ++ (leBytes 2 64 ++ (leBytes 4 5 ++ leBytes 4 bankPayloadLength)))) _ rfl hc
  refine ⟨?_, ?_⟩
  · unfold bankGood
    rw [hl, h, e0, e4, e6, e12, e16, e60, ht, hd]
    simp only [beq_self_eq_true, decide_true, Bool.and_self]
  · rw [shape]; unfold bankHead; simp only [List.append_assoc]
    rw [← List.append_assoc (leBytes 4 (crc32 pay)), ← List.append_assoc (leBytes 4 bankPayloadLength), ← List.append_assoc (leBytes 4 5),
      ← List.append_assoc (leBytes 2 64), ← List.append_assoc (leBytes 2 1), ← List.append_assoc (leBytes 4 bankMagic)]
    refine numAt_mid 40 8 _ (leBytes 4 bankMagic ++ (leBytes 2 1 ++ (leBytes 2 64 ++ (leBytes 4 5 ++ (leBytes 4 bankPayloadLength ++
      (leBytes 4 (crc32 pay) ++ List.replicate 20 0)))))) _ ?_ hu
    simp only [List.length_append, leBytes_length, List.length_replicate]

theorem wit_import_heard (front : Bytes) :
    (importing front).hears (ask opBlockNext (leBytes 2 7 ++ leBytes 2 1 ++ [0])) opBlockNext (leBytes 2 7 ++ leBytes 2 1 ++ [0]) sess.caller ∧
    (importing front).begin.purge.transferOf sess.caller =
      some ⟨sess.caller.owner, true, false, Obj.calBankImport, 179936, 7, 179935, front, 3, 0⟩ := by
  refine ⟨?_, rfl⟩
  have h := open3_hears (idle.setU Obj.mramWriteAllowed 1) opBlockNext (leBytes 2 7 ++ leBytes 2 1 ++ [0]) (by decide +kernel)
  rcases h with h | ⟨x, hx, hc⟩
  · exact Or.inl h
  · exact Or.inr ⟨x, ⟨hx.1, hx.2.1, hx.2.2.1, hx.2.2.2.1, hx.2.2.2.2⟩, hc⟩

/-- A good bank's write in blocks can reach its last byte (and a bad one's too: no check is made before). -/
theorem wit_import : (∃ front : Bytes, front.length = 179935 ∧ bankGood (front ++ [0]) = true ∧
      numAt 40 8 (front ++ [0]) = Config.calDeviceUid.toNat) ∧
    ∃ front : Bytes, front.length = 179935 ∧ bankGood (front ++ [0]) = false := by
  constructor
  · generalize hr : List.replicate 179871 (0 : Byte) = r
    have hl : r.length = 179871 := by rw [← hr, List.length_replicate]
    have hp : (r ++ [0]).length = bankPayloadLength := by rw [List.length_append, hl]; rfl
    have hg := bankFront_good (r ++ [0]) hp
    have he : bankFront (crc32 (r ++ [0])) (r ++ [0]) = bankFront (crc32 (r ++ [0])) r ++ [0] := by
      unfold bankFront
      simp only [List.append_assoc]
    rw [he] at hg
    exact ⟨bankFront (crc32 (r ++ [0])) r, by rw [bankFront_length, hl], hg⟩
  · generalize hr : List.replicate 179932 (0 : Byte) = r
    have hl : r.length = 179932 := by rw [← hr, List.length_replicate]
    refine ⟨0 :: 0 :: 0 :: r, by simp only [List.length_cons, hl], ?_⟩
    unfold bankGood
    have : numAt 0 4 (0 :: 0 :: 0 :: r ++ [0]) ≠ bankMagic := by
      rw [← hr, show 179932 = 179931 + 1 from rfl, List.replicate_succ]
      unfold numAt slice
      simp only [List.drop_zero, List.cons_append, List.take_succ_cons, List.take_zero, leVal]
      decide
    simp only [beq_eq_false_iff_ne.mpr this, Bool.and_false, Bool.false_and]
/-! ### ZeroOffsets -/

/-- A zero run in progress: mode, position, columns done. -/
def zeroing (m p n : Nat) : State :=
  let s := (inState .scan).setU Obj.zeroStatus 1
  let paths := [(16, { PathRec.rest 16 with role := 1 }), (1025, { PathRec.rest 1025 with role := 9 })]
  let clusters := [(1, { Cluster.rest with served := some 16 })]
  { s with cal := { s.cal with zeroMode := m, zeroPos := p, zeroColumns := n, zeroAcc := [(5, (3000, 3000, 3000))] },
           array := { s.array with paths := paths, clusters := clusters } }

/-- A finished run with a channel's result, 68.4 mm from 4031 columns (the worked example of R283). -/
def zeroed : State :=
  let s := (idle.setU Obj.zeroStatus 2).setU Obj.mramWriteAllowed 1
  { s with live := tabPut s.live Obj.zeroResult (List.replicate 16 0 ++ leBytes 4 68400 ++ leBytes 2 4031 ++ leBytes 2 190) }

/-- The same where no column need give a peak. -/
def zeroedAll : State := { zeroed with live := tabPut zeroed.live Obj.zeroColumns [0, 0] }

theorem wit_zero : takesB idle 0x2600 0x22 0x02 [0] = true ∧ takesB (zeroing 2 3 0) 0x2600 0x22 0x02 [0] = true ∧
    takesB (inState .scan) 0x2600 0x22 0x02 [2] = true ∧ takesB idle 0x2600 0x22 0x02 [1] = true ∧ idle.cal.zeroMode = 0 ∧
    (zeroing 1 0 4096).u Obj.zeroColumns ≤ 4096 ∧ takesB zeroed 0x2600 0x25 0x02 [1] = true ∧ takesB zeroedAll 0x2600 0x25 0x02 [1] = true ∧ takesB idle 0x2600 0x25 0x02 [2] = true ∧
    zeroed.mramRefusal = Abort.ok ∧ idle.u Obj.zeroStatus ≠ 2 ∧ ((zeroing 2 3 0).cluster 1).served = some 16 := by decide +kernel

theorem wit_zero_valid : zeroed.u Obj.zeroStatus = 2 ∧ zeroedAll.u Obj.zeroStatus = 2 ∧ zeroedAll.zeroValid 1026 = true ∧ zeroedAll.mramRefusal = Abort.ok ∧ zeroed.zeroValid 2 = true ∧ zeroed.zeroValid 3 = false := by decide +kernel
/-! ### Temperatures -/

/-- Every sensor is demanded next on its converter when `k` is. -/
def askedFor (k : Nat) (d : DevState) : State :=
  let s := { inState d with variant := .sv }
  (s.setSensor k { Sensor.rest with value := 2500, validAt := some 0, validRun := 9 }).setConv (sensorConv k)
    { Converter.rest with queue := [(2, sensorSource k)] }

/-- Region 3's sensor is asked for at step `n`. -/
def steppedRegion (n : Nat) : State := (askedFor 3 .scan).setWord Obj.throttleStep 1 3 n

/-- The I2C sensor is enabled; its unit is 0.01 °C per bit. -/
def i2cOn : State := let s := askedFor 22 .idle
  { s with live := tabPut s.live Obj.i2cConfig ([1, 0, 0, 0] ++ leBytes 4 10000) }

/-- The thermistor table is given and TH0 is asked for. -/
def thermOn : State := let s := askedFor 20 .idle
  { s with live := tabPut s.live Obj.thermTable (leBytes 2 100 ++ leBytes 2 0 ++ leBytes 2 1100 ++ leBytes 2 5000) }

theorem wit_temps_ready : (askedFor 3 .scan).ready := ⟨by decide +kernel, rfl⟩

theorem wit_temps : (askedFor 3 .scan).therm.sensors.length = 23 ∧ (askedFor 3 .scan).therm.throttles.length = 17 ∧
    (askedFor 3 .scan).sense.convs.length = 4 ∧ ((askedFor 3 .scan).conv 3).serves = some (2, 27) ∧ sensorSource 3 = 27 ∧
    i2cOn.sensorFitted 22 = true ∧ thermOn.thermRead 600 = some 2500 ∧ thermOn.thermRead 50 = none ∧ (thermOn.conv 2).serves = some (2, 6) ∧
    sensorSource 20 = 6 ∧ (steppedRegion 2).step' 3 = 2 ∧ (steppedRegion 3).step' 3 = 3 ∧ (askedFor 3 .scan).sensorFitted 3 = true ∧
    -4000 ≤ thermOn.tEb ∧ thermOn.tEb ≤ 9500 := by decide +kernel

theorem wit_demand : takesB idle 0x2700 0x15 0x04 (bitBytes 4 0x00300005#32) = true ∧
    takesB (inState .scan) 0x2700 0x15 0x04 (bitBytes 4 0x00300005#32) = true ∧
    takesB { idle with variant := .fl6412 } 0x2700 0x15 0x04 (bitBytes 4 0x00000100#32) = true := by decide +kernel
/-! ### ThrottleSteps -/

/-- A throttle target at step `n` with the given times. -/
def throttled (k n : Nat) (x : Throttle) : State :=
  let s := { idle with live := tabPut idle.live Obj.throttleStep (setAt (List.replicate 17 0) k (BitVec.ofNat 8 n)) }
  s.setThrottle k x

/-- T_eb is hot. -/
def boardHot (s : State) : State := s.setSensor 20 { Sensor.rest with value := 9300 }

/-- Step 4 holds and all is cool since tick 5. -/
def step4Held : State := { idle with therm := { idle.therm with step4 := true, step4Cool := some 5 }, ev := { idle.ev with fatal := [0x0604] } }

theorem wit_throttle : (throttled 3 1 ⟨some 7, none, none, none⟩).therm.throttles.length = 17 ∧
    ((throttled 3 1 ⟨some 7, none, none, none⟩).throttle 3).hotSince = some 7 ∧ (throttled 3 1 ⟨some 7, none, none, none⟩).step' 3 = 1 ∧
    ((boardHot (throttled 16 1 ⟨none, none, some 7, none⟩)).throttle 16).lastRise = some 7 ∧
    (boardHot (throttled 16 1 ⟨none, none, some 7, none⟩)).i Obj.boardThrottleTemp ≤ (boardHot (throttled 16 1 ⟨none, none, some 7, none⟩)).tEb ∧
    ((throttled 16 2 ⟨none, some 9, none, none⟩).throttle 16).coolSince = some 9 ∧ (idle.throttle 3).coolSince = none ∧
    (idle.throttle 3).hotSince = none ∧ (idle.throttle 16).lastRise = none ∧ step4Held.therm.step4Cool = some 5 := by decide +kernel
/-! ### TimeSteps -/

/-- Native time stands at 100.5 s under a source and a servo state. -/
def timed (src servo : Nat) (d : DevState) : State :=
  let s := { inState d with live := tabPut idle.live Obj.timeSource (leBytes 1 src) }
  { s with time := { s.time with native := 100500000000 * 4294967296 + 77, servo := servo, integ := 5 * 4294967296, incRef := 0x400000000 } }

theorem wit_time_ready (src servo : Nat) : (timed src servo .idle).ready := ⟨nofun, rfl⟩

theorem wit_timeset : takesB (timed 0 0 .idle) 0x1300 0x04 0x0B (timeBytes 200 7) = true ∧ takesB (timed 1 0 .idle) 0x1300 0x04 0x0B (timeBytes 200 7) = true ∧
    takesB (timed 0 0 .idle) 0x1300 0x05 0x09 (bitBytes 8 1000#64) = true ∧ takesB (timed 0 0 .idle) 0x1300 0x05 0x09 (bitBytes 8 (-100500000001#64)) = true ∧
    takesB (timed 1 0 .idle) 0x1300 0x05 0x09 (bitBytes 8 1000#64) = true ∧
    takesB (timed 0 0 .idle) 0x1300 0x06 0x05 (bitBytes 8 0x400000001#64) = true ∧ takesB (timed 0 0 .idle) 0x1300 0x06 0x05 (bitBytes 8 0x500000000#64) = true ∧
    takesB (timed 1 0 .idle) 0x1300 0x06 0x05 (bitBytes 8 0x400000001#64) = true := by decide +kernel

theorem wit_servo : (timed 0 0 .idle).timeSourceNow = 0 ∧ (timed 1 3 .idle).timeSourceNow = 1 ∧ (timed 2 4 .idle).timeSourceNow = 2 ∧
    (timed 1 1 .scan).mayStep = false ∧ (timed 1 1 .idle).mayStep = true ∧ (timed 1 1 .idle).u Obj.stepThreshold < 1000000000 := by decide +kernel
/-! ### PtpMessages -/

/-- An Announce and a Sync of the same transmitter. -/
def announceMsg : PtpAnnounceMsg := ⟨0, 0, 5, 1, 128, 6, 0x21, 0x4E5D, 128, 9, 0, 1, 0⟩
def syncMsg : PtpSyncMsg := ⟨0, 0, 5, 1, 100, 500000000, 0, -4, 0, 0⟩
def delayMsg (seq : BitVec 16) (m : Int) : PtpDelayMsg := ⟨0, 0, false, seq, 0, m, m, 0, 0⟩
def pdelayMsg : PtpPdelayReqMsg := ⟨0, 0, 5, 1, 7, 0, 1⟩

/-- PTP in a servo state, with the transmitter chosen and a delay window. -/
def ptp (servo : Nat) (ds : List Int) : State := let s := timed 1 servo .idle
  { s with time := { s.time with bestMaster := some (announceRank announceMsg), announceLog := 1, syncAt := some 0, delays := ds, meanDelay := meanInt ds } }

/-- The same with the other port as a fallback. -/
def ptpBoth (servo : Nat) : State := let s := ptp servo [1840]
  { s with live := tabPut s.live Obj.ptpPortMode [2], merge := { s.merge with ports := [PortState.down, { PortState.down with linkUp := true }] } }

/-- Profile 1. -/
def profile1 : State := { ptp 1 [1840] with live := tabPut (ptp 1 [1840]).live Obj.ptpProfile [1] }

theorem wit_ptp : (ptp 1 [1840]).ready ∧ (ptp 3 []).ready := ⟨⟨nofun, rfl⟩, ⟨nofun, rfl⟩⟩

theorem wit_ptp_more : (ptp 1 [1840]).timeSourceNow = 1 ∧ (timed 0 0 .idle).timeSourceNow ≠ 1 ∧
    (ptp 1 [1840]).ptpMatches announceMsg.port announceMsg.domain.toNat announceMsg.majorSdoId.toNat = true ∧
    (ptp 1 [1840]).ptpMatches 1 0 0 = false ∧
    (announceRank announceMsg).drop 7 = [syncMsg.sourceId.toNat, syncMsg.sourcePort.toNat] ∧
    rankLt (announceRank { announceMsg with priority1 := 1, sourceId := 8 }) (announceRank announceMsg) = true ∧
    rankLt (announceRank { announceMsg with priority1 := 200, sourceId := 8 }) (announceRank announceMsg) = false ∧
    (ptp 1 [1840]).time.delayReqSeq = (delayMsg 0 2540).sequence.toNat ∧ profile1.u Obj.ptpProfile = 1 ∧
    (ptp 1 [1840]).u Obj.delayStepThreshold < (2540 - (1840 : Int)).natAbs ∧ (ptpBoth 2).u Obj.ptpPortMode = 2 ∧ (ptpBoth 2).portUp 1 = true ∧
    (ptp 1 [1840]).time.meanDelay = 1840 := by decide +kernel
/-! ### PpsAndAnchors -/

/-- PPS is the source; native time stands at 100.5 s, or elsewhere. -/
def pps (servo : Nat) (native : Nat) : State := let s := timed 2 servo .idle
  { s with time := { s.time with ppsAcceptedAt := some 0, native := native, ppsNextSec := 101, ppsHigh := true } }

/-- Two streams are enabled. -/
def anchoring : State := { idle with merge := { idle.merge with streams := [⟨true, 0, [], 0⟩, ⟨false, 0, [], 0⟩, ⟨true, 0, [], 0⟩] } }

theorem wit_pps : (pps 2 0).ready ∧ anchoring.ready := ⟨⟨nofun, rfl⟩, ⟨nofun, rfl⟩⟩

theorem wit_pps_more : (pps 2 0).u Obj.ppsInSource = 0 ∧ (pps 2 0).timeSourceNow = 2 ∧ (pps 2 0).ppsRuns = true ∧ (pps 0 0).ppsRuns = false ∧
    (anchoring.stream 2).enabled = true ∧ anchoring.dev.booted = true := by decide +kernel
/-! ### MergeAndWaits -/

/-- A record of stream `k` and class `c`. -/
def draftOf (k c rt stamp : Nat) : Draft := ⟨0, k, rt, c, k, 0, stamp, 0, [1, 2, 3]⟩

/-- A queued record. -/
def queuedOf (k c n : Nat) (launch : Nat) (bytes : Bytes) : Queued := ⟨k, c, levelOf c, n, n, 0, launch, 0, 0, 0, bytes, []⟩

/-- Stream `k` runs on port 0 with these records formed and these queued. -/
def entering (k : Nat) (fs : List Draft) (qs : List Queued) : State := let s := streaming k idle
  { s with merge := { s.merge with formed := fs, ports := setAt s.merge.ports 0 { s.port 0 with queue := qs } } }

/-- The event log has an entry for the LOG stream. -/
def logging : State := let s := streaming 6 idle
  { s with ev := { s.ev with logQueue := [⟨1, 2, 0x0803, 0, 1, false, false, 1, 1, 0, 5, 0⟩] } }

theorem wit_merge : (entering 0 [draftOf 0 0 6 0] []).merge.ports.length = 2 ∧ (entering 0 [draftOf 0 0 6 0] []).merge.streams.length = 7 ∧
    (entering 0 [draftOf 0 0 6 0] []).canCarry 0 = true ∧ (entering 1 [draftOf 1 2 1 0] []).canCarry 1 = true ∧
    (idle.canCarry 1 = false) ∧ (logging.stream 6).enabled = true ∧ logging.heldNext 6 ≠ none ∧ idle.heldNext 6 = none ∧
    logging.canCarry 6 = true ∧ logging.mayOffer 0 5 52 = true ∧ ({ logging with merge := { logging.merge with ports := setAt logging.merge.ports 0 { logging.port 0 with barred := true } } }).mayOffer 0 5 52 = false ∧
    ((entering 1 [] [queuedOf 1 2 5 99 [], queuedOf 1 4 6 0 []]).headOf 0 2).isSome = true ∧
    (entering 1 [] [queuedOf 1 2 5 99 [], queuedOf 1 4 6 0 []]).headOf 0 3 = none := by decide +kernel
/-! ### FramesAndMarkers -/

/-- A service frame of each level waits on port 0, beside these records. -/
def sending (ls : List Nat) (qs : List Queued) : State := let s := entering 1 [] qs
  s.setPort 0 { s.port 0 with services := ls.map (fun l => ⟨l, [7, 8]⟩) }

/-- An episode of stream `k` with a reason. -/
def episode (k c reason : Nat) : Episode := ⟨k, c, reason, 0, 2, 3, 4, 10, 20, 0⟩

/-- Stream 1 owes markers. -/
def owingMarkers (es : List Episode) : State := let s := entering 1 [] [queuedOf 1 2 5 0 []]
  { s with merge := { s.merge with episodes := es } }

theorem wit_frames : (sending [1, 3] []).portUp 0 = true ∧ ((sending [3] []).port 0).services.find? (fun f => f.level == 3) = some ⟨3, [7, 8]⟩ ∧
    (((sending [] [queuedOf 1 2 5 0 []]).headOf 0 2).filter (sending [] [queuedOf 1 2 5 0 []]).launched).isSome = true ∧ idle.portUp 0 = false ∧
    ((owingMarkers [episode 1 2 1, episode 1 2 3]).merge.episodes.map (·.key)).Nodup ∧
    (owingMarkers [episode 1 2 1, episode 1 2 3]).portNow 1 ≠ 0xFF ∧
    (owingMarkers [episode 1 2 1, episode 1 2 3]).merge.episodes.filter (fun e => e.stream == 1) = [episode 1 2 1, episode 1 2 3] := by decide +kernel
/-! ### PortLinks -/

/-- Both ports: up or down, with these records; the streams carried as given; failover on. -/
def linked (u0 u1 : Bool) (q0 q1 : List Queued) : State :=
  let s := { idle with variant := .sv, live := tabPut (tabPut (tabPut idle.live Obj.failover [1]) (Obj.portMode 0) [1]) (Obj.portMode 1) [1] }
  let ports := [{ PortState.down with linkUp := u0, queue := q0 }, { PortState.down with linkUp := u1, queue := q1 }]
  { s with merge := { s.merge with ports := ports, streams := [⟨true, 0, [], 0⟩, ⟨true, 0, [], 1⟩, ⟨true, 5, [], 0⟩] } }

/-- The same in duplicate mode. -/
def linkedDup (u0 u1 : Bool) (q0 : List Queued) : State := let s := linked u0 u1 q0 []
  { s with live := tabPut s.live Obj.duplicateMode [1] }

theorem wit_links : (linked true true [queuedOf 0 2 1 0 []] []).merge.ports.length = 2 ∧ (linked true true [] []).b Obj.failover = true ∧
    (linked true true [] []).dup = false ∧ (linkedDup true false []).dup = true ∧ (linked true false [] []).portUp 1 = false ∧
    (linked false false [] []).linkMay 0 = true ∧ (linked false false [] []).carried 1 = 1 ∧ (linked true false [] []).linkMay 0 = false ∧
    (linked true true [] []).u (Obj.strPortMap 1) = 0 ∧ ((linked true true [] []).stream 1).carrier = 1 ∧ (linked true true [] []).timeSourceNow = 1 ∧
    (linked true true [] []).time.ptpPort = 0 := by decide +kernel
/-! ### DhcpClient -/

/-- The client in a phase, port 0 up, with a record queued. -/
def leased (phase : Nat) : State := let s := linked true false [queuedOf 0 2 1 0 [1, 2]] []
  { s with live := tabPut (tabPut s.live Obj.ipMode [1]) Obj.ipNow (leBytes 4 (if phase = 2 then 0xC0A80005 else 0)),
           merge := { s.merge with dhcp := ⟨phase, 0xC0A80005, 0xFFFFFF00, 0xC0A80001, 0xC0A80002, 3600, 0, 77⟩ } }

/-- A message of the server. -/
def dhcpMsg (port : Fin 2) (xid : BitVec 32) : DhcpMsg := ⟨port, xid, 0xC0A80007, 0xC0A80002, 0xFFFFFF00, 0xC0A80001, 7200⟩

theorem wit_dhcp : (leased 1).dhcpAwaits (dhcpMsg 0 77) = true ∧ (leased 2).dhcpAwaits (dhcpMsg 0 77) = true ∧ (leased 1).dhcpAwaits (dhcpMsg 1 77) = false ∧
    (leased 1).dhcpAwaits (dhcpMsg 0 78) = false ∧ (leased 2).merge.dhcp.phase = 2 ∧ (leased 2).u Obj.ipMode = 1 ∧ (leased 2).merge.ports.length = 2 ∧
    (leased 2).dhcpPort = some 0 ∧ ({ leased 2 with merge := { (leased 2).merge with ports := [PortState.down, PortState.down] } }).dhcpPort = none := by
  decide +kernel
/-! ### NetworkServices -/

/-- Stream 1 sends to a unicast address of the subnet, last resolved at tick 5. -/
def resolving (dup : Bool) : State :=
  let s := linked true true [] []
  let l := tabPut (tabPut (tabPut (tabPut s.live Obj.ipNow (leBytes 4 0xC0A80002)) Obj.netMask (leBytes 4 0xFFFFFF00)) (Obj.strDestAddr 1)
    (leBytes 4 0xC0A80009)) Obj.duplicateMode (leBytes 1 (b2n dup))
  { s with live := l, merge := { s.merge with streams := [⟨false, 0, [], 0⟩, ⟨true, 0, [], 1⟩], arp := [⟨0xC0A80009, none, 5⟩, ⟨7, none, 3⟩] } }

theorem wit_services : (resolving false).portUp 0 = true ∧ (resolving false).arpHops = [(1, 0xC0A80009)] ∧ idle.arpHops = [] ∧
    (resolving false).u Obj.ipNow = 0xC0A80002 ∧ (resolving true).dup = true ∧ 24 + 8 ≤ (resolving false).u Obj.mtu ∧
    0xE0000181 ∈ (resolving false).groups ∧ 5 ∉ (resolving false).groups := by decide +kernel
/-! ### CamTriggers -/

/-- Camera ports enabled, in trigger mode `mode`, at tick 1000 and 4000 ns. -/
def camsOn (mode : Nat) : State :=
  let l := (List.range 2).foldl (fun l p => tabPut (tabPut l (Obj.camEnable p) [1]) (Obj.camTrigMode p) [BitVec.ofNat 8 mode]) idle.live
  { idle with live := l, time := { idle.time with ticks := 1000, native := 4000 * 4294967296 } }

/-- Port `p` has a schedule at 10,000 ns, and one in angle mode at 6,000 ns of column 7. -/
def camDue (mode p : Nat) (x : CamPort) : State :=
  (camsOn mode).setCam p { x with nextNs := 10000, angleNs := [(6000, 7), (9000, 8)] }

/-- A port whose trigger 5 waits since tick 1000. -/
def camWaits : CamPort := { CamPort.rest with waiting := some ⟨5, 4000, 1000, 7⟩ }

/-- A port with most of its store in use. -/
def camFull : CamPort := { camWaits with storeUsed := 8388600 }

/-- Temporal noise reduction on, at a size of which the two ports do not fit together. -/
def tnrOn (s : State) : State :=
  { s with live := (List.range 2).foldl (fun l p => tabPut l (Obj.camTnrEnable p) [1]) s.live }

theorem wit_camTrigTime : (open3 (camsOn 1)).takes (askWrite 0x2D10 0x0F 0x0B (timeBytes 1#48 0#32)) 0x2D10 0x0F 0x0B (timeBytes 1#48 0#32) sess.caller ∧
    (open3 (camsOn 1)).takes (askWrite 0x2D11 0x0F 0x0B (timeBytes 0#48 3999#32)) 0x2D11 0x0F 0x0B (timeBytes 0#48 3999#32) sess.caller ∧
    (open3 (camsOn 1)).takes (askWrite 0x2D10 0x0F 0x0B (timeBytes 0#48 4000#32)) 0x2D10 0x0F 0x0B (timeBytes 0#48 4000#32) sess.caller :=
  ⟨open3_takes _ _ _ _ _ (by decide +kernel), open3_takes _ _ _ _ _ (by decide +kernel), open3_takes _ _ _ _ _ (by decide +kernel)⟩

theorem wit_camLaunch : idle.cams.length = 2 ∧ idle.camActive 0 = false ∧ (camsOn 1).camActive 1 = true ∧ (camsOn 1).camNext 0 = none ∧
    (camDue 1 0 CamPort.rest).camNext 0 = some (10000, 0xFFFF, true) ∧ (camDue 2 1 CamPort.rest).camNext 1 = some (6000, 7, false) ∧
    ((camDue 1 0 camWaits).cam 0).waiting ≠ none ∧ ((camDue 2 0 { CamPort.rest with trigHigh := true }).cam 0).trigHigh = true := by decide +kernel

theorem wit_camVsync : (camDue 1 0 camWaits).camActive 0 = true ∧ ((camDue 1 0 camWaits).cam 0).frame = none ∧
    (camDue 1 0 camWaits).tnrFits 0 = true ∧ (tnrOn (camDue 1 1 camWaits)).tnrFits 1 = false ∧
    camStoreSize < camFull.storeUsed + (camDue 1 0 camFull).camReserve 0 ∧
    camWaits.storeUsed + (camDue 1 0 camWaits).camReserve 0 ≤ camStoreSize ∧
    1000 * 320 ≤ (1000 + 250 * (camDue 1 0 camWaits).u (Obj.camVsyncDelayMax 0)) * 320 := by decide +kernel

/-! ### CamFrames -/

/-- A frame in reception with `n` lines of `k` pixels, `waits` of them waiting. -/
def camFrame (n k waits : Nat) (ended : Option Stamp) : CamFrame :=
  { trigger := ⟨5, 4000, 1000, 7⟩, vsync := 320000, lines := List.replicate n (List.replicate k 100), received := n, surplus := 0, syncErr := false,
    timeout := false, ended := ended, dropped := false, waiting := waits, reserve := 4096, snap := idle.camSnap 0 }

/-- Port `p` with that frame, its lines 16 pixels long and 3 to a frame. -/
def camBusy (p : Nat) (f : CamFrame) : State :=
  let s := (camsOn 1).setCam p { CamPort.rest with frame := some f, storeUsed := 5000 }
  { s with live := tabPut (tabPut s.live (Obj.camActiveWidth p) (leBytes 2 16)) (Obj.camActiveHeight p) (leBytes 2 3) }

/-- A port that ignores what it receives, and one whose frame is dropped. -/
def camIgnores : State := (camsOn 1).setCam 1 { CamPort.rest with ignoring := true }
def camDropped : State := camBusy 0 { camFrame 0 0 0 none with dropped := true }

theorem wit_camLine : ((camBusy 0 (camFrame 2 16 1 none)).cam 0).frame = some (camFrame 2 16 1 none) ∧
    ((camBusy 1 (camFrame 3 16 1 none)).cam 1).frame = some (camFrame 3 16 1 none) ∧ (camFrame 2 16 32 none).waiting = 32 ∧
    (camBusy 0 (camFrame 2 16 1 none)).u (Obj.camActiveHeight 0) = 3 ∧ (camBusy 0 (camFrame 2 16 1 none)).u Obj.camPriority = 0 ∧
    ((camBusy 0 (camFrame 2 16 1 none)).get (Obj.camMalformedCount 0)).length = objSize (Obj.camMalformedCount 0) ∧
    (∀ k, k < 6 → (camBusy 0 (camFrame 2 16 1 none)).word (Obj.camMalformedCount 0) 4 (4 * k) = 0) := by decide +kernel

theorem wit_camEnd : (camIgnores.cam 1).ignoring = true ∧ (camDropped.cam 0).frame = some { camFrame 0 0 0 none with dropped := true } ∧
    ((camBusy 0 (camFrame 2 16 0 (some 400000))).cam 0).frame = some (camFrame 2 16 0 (some 400000)) ∧
    ((streaming 3 (camBusy 0 (camFrame 2 16 0 (some 400000)))).stream 3).enabled = true ∧
    ((camBusy 0 (camFrame 2 16 0 (some 400000))).stream 3).enabled = false := by decide +kernel

/-! ### RecControl -/

/-- RecState `k`, with RecordingId `id` and `n` extents of a formatted drive, the head at `head`. -/
def recAt (k id n head : Nat) : State :=
  let l := tabPut (tabPut (tabPut idle.live Obj.recState [BitVec.ofNat 8 k]) Obj.recordingId (leBytes 8 id)) Obj.headExtent (leBytes 4 head)
  { idle with live := l, recd := { idle.recd with perstHigh := true, extentCount := n } }

/-- The same under policy STOP, with the open extent `x`. -/
def recStops (s : State) : State := { s with live := tabPut s.live Obj.recPolicy [1] }
def recWith (x : OpenExtent) (s : State) : State := { s with recd := { s.recd with extent := some x } }
def recStage (k : Nat) (s : State) : State := { s with recd := { s.recd with superStage := k } }

/-- An initialisation that finds a drive of 1,000,000 blocks at Gen4 x4. -/
def driveUp (sa sb : Bytes) (es : List (Nat × Bytes)) : RecInit :=
  { linkUp := true, generation := 4, lanes := 4, driveOk := true, serial := [0x31], model := [0x32], nvmeVersion := 0x00010400, blockSize := 4096,
    blocks := 1000000, superA := sa, superB := sb, extents := es }

/-- A superblock as the device writes it: 4 extents, the head at 1. -/
def superOf (g : Nat) : Bytes := ({ recAt 2 77 4 1 with recd := { idle.recd with extentCount := 4 } }).superblock g [1, 0, 2, 9, 0]

theorem wit_recBoot : idle.hasRecorder = true ∧ idle.dev.booted = true ∧ idle.recd.perstHigh = false ∧ (recAt 1 0 0 0).u Obj.recState = 1 ∧
    (recAt 1 0 0 0).recd.perstHigh = true := by decide +kernel

theorem wit_recStart : (open3 (recAt 2 77 4 1)).takes (askWrite 0x2E00 0x01 0x02 [1]) 0x2E00 0x01 0x02 [1] sess.caller ∧
    (open3 (recAt 2 77 4 4)).takes (askWrite 0x2E00 0x01 0x02 [1]) 0x2E00 0x01 0x02 [1] sess.caller ∧
    (open3 (recStops (recAt 2 77 4 4))).takes (askWrite 0x2E00 0x01 0x02 [1]) 0x2E00 0x01 0x02 [1] sess.caller ∧
    (open3 (recAt 2 0 4 4)).takes (askWrite 0x2E00 0x01 0x02 [1]) 0x2E00 0x01 0x02 [1] sess.caller :=
  ⟨open3_takes _ _ _ _ _ (by decide +kernel), open3_takes _ _ _ _ _ (by decide +kernel), open3_takes _ _ _ _ _ (by decide +kernel),
    open3_takes _ _ _ _ _ (by decide +kernel)⟩

theorem wit_recStop : (open3 (recWith (OpenExtent.fresh 1 2 9) (recAt 3 77 4 1))).takes (askWrite 0x2E00 0x01 0x02 [2]) 0x2E00 0x01 0x02 [2] sess.caller ∧
    (open3 (recAt 4 77 4 1)).takes (askWrite 0x2E00 0x01 0x02 [2]) 0x2E00 0x01 0x02 [2] sess.caller ∧
    (open3 (recStage 1 (recAt 3 77 4 1))).takes (askWrite 0x2E00 0x01 0x02 [3]) 0x2E00 0x01 0x02 [3] sess.caller ∧
    (open3 (recAt 5 77 4 1)).takes (askWrite 0x2E00 0x01 0x02 [4]) 0x2E00 0x01 0x02 [4] sess.caller ∧
    (open3 (recAt 2 77 4 1)).takes (askWrite 0x2E00 0x02 0x02 [1]) 0x2E00 0x02 0x02 [1] sess.caller :=
  ⟨open3_takes _ _ _ _ _ (by decide +kernel), open3_takes _ _ _ _ _ (by decide +kernel), open3_takes _ _ _ _ _ (by decide +kernel),
    open3_takes _ _ _ _ _ (by decide +kernel), open3_takes _ _ _ _ _ (by decide +kernel)⟩

theorem wit_recValues : (recAt 2 77 4 1).u Obj.recState = 2 ∧ (recAt 2 77 4 1).u Obj.recordingId = 77 ∧ (recAt 2 77 4 1).u Obj.headExtent = 1 ∧
    (recAt 2 77 4 4).u Obj.recPolicy = 0 ∧ (recStops (recAt 2 77 4 4)).u Obj.recPolicy = 1 ∧ (recAt 5 77 4 1).recTaken = 0 ∧
    (recAt 2 77 4 1).superGood [] = false := by decide +kernel

/-! ### RecWriting -/

/-- A segment that waits for the recorder. -/
def recSeg : Segment := { waitingSeg with streamWaits := false, recWaits := true }

/-- The recorder in RECORDING with the open extent `x`, `gs` in the ring, and commands in flight. -/
def recording (x : OpenExtent) (gs : List Segment) (cs : List NvmeCmd) : State :=
  let s := recWith x (recAt 3 77 4 1)
  { s with may := { s.may with ring := gs }, recd := { s.recd with epochKey := some s.epochKey, flight := cs } }

/-- An open extent that holds `n` bytes, and a loss to be shown. -/
def openWith (n : Nat) : OpenExtent := { OpenExtent.fresh 1 2 9 with data := List.replicate n 0, starts := [0] }
def recLoss (s : State) : State := { s with may := { s.may with lossForRec := 3 } }

/-- A command in flight since tick 7. -/
def nvme (kind segments : Nat) (retried : Bool) : NvmeCmd := ⟨kind, 256, List.replicate 4 0, segments, 7, retried⟩

/-- What a power failure leaves of a recorder that records. -/
def recPower (s : State) : State := { s with recd := { s.recd with powerFail := true } }

/-- ReadLba and ReadBlocks name blocks that the drive has, in READY. -/
def recReadable : State :=
  let s := recAt 2 77 4 1
  { s with live := tabPut s.live Obj.managedExtents (leBytes 4 4) }

theorem wit_recTake : (recording (openWith 64) [recSeg] []).recWaiting.drop (recording (openWith 64) [recSeg] []).recTaken = [recSeg] ∧
    (recording (openWith 64) [recSeg] []).u Obj.recState = 3 ∧ (recPower (recording (openWith 64) [recSeg] [])).recd.powerFail = true ∧
    (recording (openWith 64) [recSeg] []).recd.epochKey = some (recording (openWith 64) [recSeg] []).epochKey ∧
    (recLoss (recording (openWith 64) [recSeg] [])).may.lossForRec = 3 ∧ (recAt 2 77 4 1).recTaken = 0 ∧
    64 + 48 + (32 + (recSeg.header ++ recSeg.payload).length) ≤ 511 * 4096 := by decide +kernel

theorem wit_recFlight : (recording (openWith 64) [recSeg] [nvme 2 0 false, nvme 0 1 true]).recd.flight.find? (fun c => c.kind != 2) = some (nvme 0 1 true) ∧
    (recording (openWith 64) [recSeg] [nvme 2 0 false, nvme 0 1 true]).recd.flight.find? (fun c => c.kind == 2) = some (nvme 2 0 false) ∧
    (recStage 1 (recording (openWith 64) [] [nvme 2 0 true])).recTaken = 0 ∧ (recStage 2 (recording (openWith 64) [] [nvme 3 0 true])).recd.superStage = 2 ∧
    2 ≤ recReadable.u Obj.recState ∧ recReadable.u Obj.readLba + recReadable.u Obj.readBlocks ≤ 256 + 512 * recReadable.u Obj.managedExtents ∧
    recReadable.fire.pfailN = true ∧ 0 < recReadable.u Obj.readBlocks := by decide +kernel

theorem wit_recRead : (open3 recReadable).hears (ask opBlockRead (readBody 0x2E00 0x22)) opBlockRead (readBody 0x2E00 0x22) sess.caller ∧
    1 ≤ sess.caller.level ∧ (open3 recReadable).begin.purge.openCode sess.caller = Abort.ok :=
  ⟨open3_hears _ _ _ (by decide +kernel), by decide +kernel, by decide +kernel⟩

/-! ### EventsAndAlarms -/

/-- An Error entry that opened at tick 100, with number 3. -/
def errorEntry : EventEntry :=
  { sec := 0, ns := 400, code := 0x0C03, source := 0, severity := 3, cleared := false, journaled := true, number := 3, repeats := 2, suppressed := 0,
    data := 9, openedAt := 100 }

/-- MRAM takes writes; ActiveAlarms agrees with the conditions. -/
def settled (s : State) : State := { s with live := tabPut s.live Obj.activeAlarms (leBytes 4 s.alarmsNow) }
def writable (s : State) : State := { s with live := tabPut s.live Obj.mramWriteAllowed [1] }

/-- That entry open, and in the journal as it opened; `q` in the LOG queue. -/
def openLog (q : List EventEntry) : State :=
  let s := writable idle
  let ev := { s.ev with openEntries := [errorEntry], journal := [⟨{ errorEntry with repeats := 1 }, 0, true⟩], logQueue := q }
  { s with live := tabPut s.live (Obj.strEnable 6) [1], ev := ev }

/-- Entries that wait for MRAM, and two that are lost. -/
def waitingLog : State := settled { writable idle with ev := { idle.ev with waiting := [⟨errorEntry, 0, true⟩], lost := 2 } }

/-- ALERT_N in the pattern of severity `sev` at tick `n`. -/
def alerting (sev n : Nat) (low : Bool) (sw : Option (Nat × Nat)) : State :=
  settled { idle with time := { idle.time with ticks := n },
                      ev := { idle.ev with lastSeverity := sev, alertLow := low, alertSwitch := sw } }

theorem wit_entry : (openLog []).ev.openEntries = [errorEntry] ∧ (openLog []).mramRefusal = Abort.ok ∧ (openLog []).u Obj.logMinSeverity ≤ 3 ∧
    (openLog []).b (Obj.strEnable 6) = true ∧ (openLog []).u Obj.bootCount = 0 ∧ waitingLog.mramRefusal = Abort.ok ∧
    waitingLog.alarmsNow = waitingLog.u Obj.activeAlarms ∧ (alerting 3 12500000 false none).alarmsNow = (alerting 3 12500000 false none).u Obj.activeAlarms ∧
    alertPattern 3 12500000 = false ∧ (alerting 0 5 false (some (3, 25000000))).dev.bootTick = 0 ∧ idle.mramRefusal ≠ Abort.ok := by decide +kernel

theorem wit_journalClear : (open3 (writable idle)).takes (askWrite 0x1400 0x0F 0x02 [7]) 0x1400 0x0F 0x02 [7] sess.caller ∧
    (open3 (inState .armed)).takes (askWrite 0x1400 0x0F 0x02 [7]) 0x1400 0x0F 0x02 [7] sess.caller :=
  ⟨open3_takes _ _ _ _ _ (by decide +kernel), open3_takes _ _ _ _ _ (by decide +kernel)⟩

/-! ### PairLink -/

/-- Side `role` with the link up and PairState `phase`; side B on the pair's time. -/
def sided (role phase : Nat) : State :=
  let l := tabPut (tabPut idle.live Obj.pairRole [BitVec.ofNat 8 role]) Obj.pairState [BitVec.ofNat 8 phase]
  { idle with live := l, pair := { idle.pair with role := role, linkUp := true, phase := phase },
              dev := { idle.dev with identity := 0x0101 }, time := { idle.time with pairSource := decide (role = 2) } }

/-- A frame whose CRC is right. -/
def pairFrame (bs : Bytes) : PairFrame := ⟨5, bs, true⟩

/-- The HELLO of the other side of `s`, with identity 0x0202. -/
def helloOf (s : State) : Bytes :=
  [BitVec.ofNat 8 (3 - s.pair.role), 0x02, 0x02] ++ s.get Obj.partNumber ++ s.get Obj.variantCode ++ s.get Obj.stepping

/-- A HEARTBEAT of a partner in a state, owner or not. -/
def beatOf (code own : Nat) : Bytes := [BitVec.ofNat 8 code, BitVec.ofNat 8 own] ++ List.replicate 8 0

/-- The owner of a pair, and a side whose partner was lost, its servo locked. -/
def owning (s : State) : State := { s with pair := { s.pair with asserts := true, gpio0 := true, netReleased := false } }
def lostPartner : State :=
  let s := sided 2 0
  { s with pair := { s.pair with lostOnce := true }, time := { s.time with servo := 2, delays := [70, 70], meanDelay := 70 } }

/-- Two heartbeats missed. -/
def missing2 (s : State) : State := { s with pair := { s.pair with missRun := 2 } }

/-- A TIME exchange with an offset of 40 ns and a delay of 100 ns. -/
def exchange : Bytes := leBytes 8 1000 ++ leBytes 8 1140 ++ leBytes 8 1200 ++ leBytes 8 1260 ++ leBytes 4 7

theorem wit_hello : (sided 1 1).pair.role ≠ 0 ∧ (sided 1 1).pair.linkUp = true ∧ numAt 0 1 (helloOf (sided 1 1)) + 1 = 3 ∧
    numAt 1 2 (helloOf (sided 1 1)) = 0x0202 ∧ (sided 1 1).dev.identity = 0x0101 ∧
    slice 3 2 (helloOf (sided 1 1)) = (sided 1 1).get Obj.partNumber ∧ slice 5 1 (helloOf (sided 2 1)) = (sided 2 1).get Obj.variantCode ∧
    slice 6 1 (helloOf (sided 1 1)) = (sided 1 1).get Obj.stepping ∧ (sided 1 1).u Obj.partnerIdentity = 0 ∧
    lostPartner.pair.lostOnce = true ∧ lostPartner.time.servo ≠ 0 ∧ (sided 1 1).pair.outSeq.length = 10 ∧ (sided 1 2).pair.phase = 2 := by
  decide +kernel

theorem wit_beat : ((sided 1 2).get Obj.partnerState).length = objSize Obj.partnerState ∧ (missing2 (sided 2 2)).pair.missRun = 2 ∧
    (missing2 (sided 2 2)).dev.state = .idle ∧ (sided 2 2).pair.checkInAt = none ∧ (sided 2 2).time.pairSource = true ∧
    32 ≤ exchange.length ∧ intAt 8 8 exchange = 1140 ∧ (owning (sided 1 2)).pair.asserts = true ∧
    (sided 2 2).grp.pendingKnock = none := by decide +kernel

/-! ### PairMirror -/

/-- A follower in STANDBY, in step. -/
def following : State :=
  { sided 2 2 with dev := { (sided 2 2).dev with state := .standby }, time := { (sided 2 2).time with ticks := 1000000, native := 4000000 * 4294967296 },
                   pair := { (sided 2 2).pair with synced := true } }

/-- The start of a frame: an instant `ns` on the link. -/
def linkAt (ns : Nat) : Bytes := time80 ns ++ [0, 0]

/-- A CONFIG frame for SoftStrength, and a BULK frame with that object and loop states of ones. -/
def configOf (ns : Nat) (bs : Bytes) : Bytes :=
  linkAt ns ++ leBytes 2 (Obj.softStrength / 256) ++ [BitVec.ofNat 8 (Obj.softStrength % 256), 0] ++ bs
def bulkOf : Bytes :=
  leBytes 2 1 ++ bulkObject (Obj.softStrength, leBytes 2 3000) ++ List.replicate 64 1 ++ List.replicate 300 0

theorem wit_follow : following.pair.role ≠ 0 ∧ following.pair.linkUp = true ∧ following.dev.state = .standby ∧ following.pair.synced = true ∧
    following.stampOfLink (linkAt 3999000) < following.nowStamp ∧ following.nowStamp < following.stampOfLink (linkAt 4001000) ∧
    numAt 0 1 ([2, 1] : Bytes) = 2 ∧ following.pair.mirror.length = 3 ∧ (pairFrame bulkOf).fcsGood = true := by decide +kernel

theorem wit_mirrored : isMirrored Obj.softStrength = true ∧ quietObj Obj.softStrength = true ∧
    numAt 12 2 (configOf 0 []) * 256 + numAt 14 1 (configOf 0 []) = Obj.softStrength ∧ following.pair.asserts = false ∧
    bulkObjects bulkOf (numAt 0 2 bulkOf) 2 = ([(Obj.softStrength, leBytes 2 3000)], 12) ∧
    following.stampOfLink (configOf 4001000 []) > following.nowStamp := by decide +kernel

/-! ### PairOwnership -/

/-- A side whose PAIR_OWN net is released, its partner last heard at 0; side B is locked on the pair's time. -/
def orphan (role : Nat) : State :=
  let s := sided role 2
  { s with pair := { s.pair with netReleased := true }, time := { s.time with servo := 2 } }

/-- A follower whose partner asserts PAIR_OWN. -/
def held2 : State := { sided 2 2 with pair := { (sided 2 2).pair with netReleased := false } }

theorem wit_owner : (owning (sided 1 2)).pair.asserts = true ∧ (sided 1 2).pair.asserts = false ∧ (sided 1 2).pair.claimSent = false ∧
    held2.pair.netReleased = false ∧ held2.dev.state ≠ .standby ∧ (sided 2 2).pair.releaseSeen = false ∧
    (sided 2 2).pair.missRun < 3 ∧ (orphan 1).pair.netReleased = true ∧ (orphan 1).time.pairSource = false ∧
    (orphan 2).time.pairSource = true ∧ (orphan 2).time.servo = 2 ∧ (orphan 2).u Obj.timeSource = 1 ∧
    ({ orphan 2 with live := tabPut (orphan 2).live Obj.timeSource [0] } : State).u Obj.timeSource = 0 ∧
    ({ sided 2 3 with pair := { (sided 2 3).pair with linkUp := false } } : State).pair.linkUp = false := by decide +kernel

/-! ### Takeover -/

/-- A follower in STANDBY whose mirror is as old as `age` ticks; the net released or held, and `miss` heartbeats missed. -/
def shadowing (age miss : Nat) (released seen : Bool) : State :=
  let m : MirrorLoop := { r := 5, v := 6, a := 7, code := 0x9000, mode := 3, asOf := 1000000 - age }
  { following with pair := { following.pair with mirror := [m, m, m], netReleased := released, releasedAt := 990000, missRun := miss,
                                                 lastHeartbeat := 992500, releaseSeen := seen } }

theorem wit_takeover : (shadowing 100 2 true false).dev.state = .standby ∧ (shadowing 100 2 true false).pair.role = 2 ∧
    (shadowing 100 2 true false).pair.asserts = false ∧ (shadowing 100 2 true false).pair.linkUp = true ∧
    (shadowing 100 2 true false).pair.phase = 2 ∧ (shadowing 30000 3 false false).pair.missRun = 3 ∧
    (shadowing 100 0 false true).pair.releaseSeen = true ∧ (shadowing 100 0 false true).pair.netReleased = false ∧
    (shadowing 100 0 true false).loops.length = 4 ∧ ((shadowing 30000 0 true false).mirror 0).asOf + 25000 < 1000000 := by decide +kernel

/-- A follower whose link was lost before. -/
def cutOff (s : State) : State := { s with pair := { s.pair with linkUp := false, phase := 3 } }

theorem wit_takeover_cut : (cutOff (shadowing 100 2 true false)).pair.phase = 3 ∧ (cutOff (shadowing 100 2 true false)).pair.missRun = 2 ∧
    (cutOff (shadowing 100 2 true false)).pair.netReleased = true ∧ (cutOff (missing2 (sided 2 2))).pair.linkUp = false := by decide +kernel
/-! ### Boot -/

/-- The pins at the release of reset. -/
def bootPins : BootPins := ⟨3, false, false, true, true⟩

/-- A device in reset with these slot states and trial counts, both slots with the factory image. -/
def slots (a ta b tb : Nat) : State :=
  let x (g st n : Nat) : Slot := { generation := g, state := st, trials := n, image := .factory }
  { State.reset with dev := { State.reset.dev with slotA := x 4 a ta, slotB := x 5 b tb } }

/-- A device in BOOT from slot A, with its bank and without. -/
def booting (bank : Bool) : State :=
  let s := inState .boot
  { s with dev := { s.dev with booted := false, bootSlot := 1, slotA := { s.dev.slotA with state := 1 } },
           cal := { s.cal with slotA := if bank then s.cal.slotA else none, slotB := none } }

theorem wit_boot : State.reset.dev.state = .reset ∧ State.reset.dev.porActive = false ∧ State.reset.ev.safeWanted = none ∧
    State.candidate { slots 2 0 2 0 with live := (slots 2 0 2 0).mram } ((slots 2 0 2 0).slot 2) = true ∧
    ((slots 1 0 2 0).slot 1).state = 1 ∧ ((slots 2 0 1 1).slot 2).trials = 1 ∧ (booting true).dev.state = .boot ∧
    (booting false).bankAtBoot.isNone = true ∧ (booting true).bankAtBoot.isSome = true ∧ (booting true).ev.fatal = [] ∧
    ((booting true).slot 1).state = 1 ∧ bootPins.safeOffN = true ∧ isStored Obj.compatMode = true := by decide +kernel

/-! ### RingLayout -/

/-- A segment in the ring. -/
def withRing (s : State) : State := { s with may := { s.may with ring := [recSeg] } }

theorem wit_layout : hearsB idle opWrite (writeBody 0x2400 0x03 0x02 [2]) = true ∧ hearsB (inState .scan) opWrite (writeBody 0x2400 0x02 0x02 [2]) = true ∧
    hearsB idle opStage (writeBody 0x2400 0x03 0x02 [2]) = true ∧ (open3 idle).may.ring = [] ∧ idle.dev.safeBoot = false ∧
    (writable idle).mramRefusal = Abort.ok ∧ idle.dev.state = .idle ∧ (withRing idle).may.ring.length = 1 := by decide +kernel
/-! ### ObjectStore -/

theorem wit_store : Store.wf .sv [(Obj.compatMode, [1]), (Obj.softStrength, leBytes 2 3000)] ∧ State.reset.mram = [] := by decide +kernel

/-! ### Resets, requests, sessions, Knocks -/

/-- IDLE with every stream as its Enable says, and MRAM open for writes. -/
def steady : State :=
  let s := writable idle
  let xs := (List.range 7).map (fun k => { s.stream k with enabled := s.hasStream k && s.b (Obj.strEnable k) })
  { s with merge := { s.merge with streams := xs } }

theorem wit_reset : idle.dev.state ≠ .reset ∧ (inState .boot).dev.state = .boot ∧ State.reset.dev.state = .reset ∧
    actsInReset (.knockApply) = false ∧ State.reset.ev.safeWanted = none ∧ State.reset.good := by
  refine ⟨by decide, by decide, by decide, by decide, by decide, rfl, fun _ => by decide⟩

theorem wit_reads : hearsB idle opRead (readBody 0x1300 0x01) = true ∧ hearsB idle opRead (readBody 0x2800 0x11) = true ∧
    hearsB idle opRead (readBody 0x2A10 0x19) = true ∧ hearsB idle opRead (readBody 0x2A13 0x17) = true ∧
    hearsB idle opRead (readBody 0x2400 0x18) = true ∧ hearsB idle opRead (readBody 0x2D11 0x25) = true ∧
    hearsB idle opRead (readBody 0x2F00 0x09) = true ∧ hearsB idle opRead (readBody 0x1400 0x0E) = true ∧
    hearsB idle opBlockRead (readBody 0x2C00 0x12) = true ∧ hearsB idle opBlockRead (readBody 0x1170 0x04) = true ∧ 1 < idle.variant.cams ∧
    (open3 idle).begin.purge.openCode sess.caller = 0 := by decide +kernel

theorem wit_sized : (idle.get Obj.wcStatus).length = objSize Obj.wcStatus ∧ (idle.get (Obj.loopMaxLatency 0)).length = objSize (Obj.loopMaxLatency 0) ∧
    (idle.get Obj.ringHighWater).length = objSize Obj.ringHighWater ∧ (idle.get Obj.mirrorLag).length = objSize Obj.mirrorLag ∧
    (idle.get (Obj.camStoreHighWater 1)).length = objSize (Obj.camStoreHighWater 1) ∧ (idle.get Obj.govFill).length = objSize Obj.govFill ∧
    (idle.get Obj.journalDropped).length = objSize Obj.journalDropped ∧
    (idle.get Obj.bufferHighWater).length = objSize Obj.bufferHighWater := by decide +kernel

theorem wit_write : hearsB steady opWrite (writeBody (Obj.compatOffset / 256) (Obj.compatOffset % 256) 0x09 (leBytes 8 5)) = true ∧ (∀ k, k < 7 → (steady.hasStream k && steady.b (Obj.strEnable k)) = (steady.stream k).enabled) ∧
    hearsB steady opStage (writeBody 0x2300 0x02 0x03 (leBytes 2 300)) = true ∧
    (objDef? Obj.softStrength).any (fun o => decide ((open3 steady).begin.purge.writeCode o 3 0x03 (leBytes 2 300) true 1024 = 0 ∧
      (open3 steady).begin.purge.writeCode o 3 0x03 (leBytes 2 0) true 1024 = 0x0301)) = true ∧ steady.named 0x4FFF 1 = .missing ∧ hearsB steady opRead (readBody 0x4FFF 1) = true := by decide +kernel

/-- A transfer of the session, read or write, with `done` bytes carried and a total of 20. -/
def xfer (isWrite : Bool) (data : Bytes) (done : Nat) : Transfer :=
  { owner := sess.caller.owner, isWrite := isWrite, shadow := false, obj := Obj.watchList, total := 20, nextBlock := 1, done := done, data := data,
    level := 3, seenAt := 0 }

/-- The session with that transfer open. -/
def carrying (x : Transfer) : State := let s := open3 steady
  { s with dtp := { s.dtp with transfers := [x] } }

theorem wit_block : hearsB steady opBlockRead (readBody 0x2D00 0x10) = true ∧ (carrying (xfer false (List.replicate 20 1) 4)).begin.purge.transferOf sess.caller =
      some (xfer false (List.replicate 20 1) 4) ∧ 12 ≤ sess.caller.block ∧
    (carrying (xfer true [1, 2] 2)).begin.purge.transferOf sess.caller = some (xfer true [1, 2] 2) ∧ Obj.watchList ≠ Obj.firmwareImage ∧
    hearsB (carrying (xfer true [1, 2] 2)) opBlockNext (leBytes 2 1 ++ leBytes 2 2 ++ [7, 8]) = true ∧
    hearsB (carrying (xfer false [1, 2] 2)) opBlockNext (leBytes 2 1 ++ leBytes 2 12) = true ∧
    hearsB steady opBlockWrite (readBody 0x2400 0x08 ++ leBytes 4 4) = true ∧
    (objDef? Obj.watchList).any (fun o => decide ((open3 steady).begin.purge.blockWriteCode o 3 4 0 = Abort.ok)) = true := by decide +kernel

/-- A pending session of level 2 under a key, and its AUTH_RESPONSE. -/
def keyed : State :=
  let p : PendingSession := { transport := .udp, id := 5, srcAddr := 0x0A000001#32, srcPort := 5000#16, level := 2, hostNonce := List.replicate 16 1,
                              deviceNonce := List.replicate 16 2, openedAt := 0 }
  { steady with live := tabPut steady.live 0x112002 (List.replicate 32 9), dtp := { steady.dtp with pending := [p] } }
def keyedKey : Bytes := sessionKey (List.replicate 32 9) (List.replicate 16 1) (List.replicate 16 2) 5
def proved : Bytes := authProof (List.replicate 32 9) (List.replicate 16 2) (List.replicate 16 1) 5 keyed.dev.identity 2

/-- A header under SessionId `id`, tagged with a key. -/
def headOf (id op counter : Nat) (key body : Bytes) : ReqHdr :=
  { transport := .udp, port := 0, srcAddr := 0x0A000001#32, srcPort := 5000#16, version := 1#8, transaction := 9#16, sessionId := BitVec.ofNat 16 id,
    bodyLength := BitVec.ofNat 16 body.length, counter := BitVec.ofNat 32 counter,
    tag := if id = 0 then [] else (hmacSha256 key (headBytes .udp op 9 id (BitVec.ofNat 16 body.length).toNat counter ++ body)).take 16 }

/-- The body of an AUTH_CHALLENGE for level 2. -/
def challenge : Bytes := [2, 0, 0, 0] ++ List.replicate 16 1

theorem wit_auth : formOk (headOf 0 opChallenge 0 [] challenge) opChallenge challenge = true ∧ allZero (keyed.keyOf 2) = false ∧
    getAt keyed.begin.purge.dtp.lockedUntil 2 none = none ∧ (keyed.begin.purge.idsOn .udp).length < 8 ∧
    formOk (headOf 5 opResponse 1 keyedKey proved) opResponse proved = true ∧
    keyed.begin.purge.sessionOf (headOf 5 opResponse 1 keyedKey proved) = none ∧
    (keyed.begin.purge.pendingOf (headOf 5 opResponse 1 keyedKey proved)).isSome = true ∧
    tagOk (headOf 5 opResponse 1 keyedKey proved) opResponse proved keyedKey = true := by decide +kernel

theorem wit_refused : formOk (headOf 0 opRead 0 [] [1]) opRead [1] = false ∧
    keyed.begin.purge.sessionOf (headOf 7 opRead 1 [] (readBody 0x1300 1)) = none ∧ keyed.begin.purge.pendingOf (headOf 7 opRead 1 [] (readBody 0x1300 1)) = none ∧
    (open3 idle).begin.purge.sessionOf (headOf 1 opRead 1 [] (readBody 0x1300 1)) = some sess ∧
    tagOk (headOf 1 opRead 1 [] (readBody 0x1300 1)) opRead (readBody 0x1300 1) sess.key = false ∧
    tagOk (headOf 1 opRead 0 sess.key (readBody 0x1300 1)) opRead (readBody 0x1300 1) sess.key = true ∧
    opcodes.contains (0x7F#8 : BitVec 8).toNat = false ∧ (open3 idle).dtp.sessions.find? (fun y => y.transport == .udp && y.id == 1) = some sess ∧
    (keyed.dtp.pending.find? (fun y => y.transport == .udp && y.id == 5)).isSome = true := by decide +kernel

/-- The device in Knock group 3 with a key, and a Knock of a group for 5 ms, signed with that key. -/
def grouped : State := { steady with live := tabPut (tabPut steady.live Obj.knockKey (List.replicate 32 3)) Obj.knockGroup (leBytes (objSize Obj.knockGroup) 3) }
def knockOfGroup (group : Nat) : KnockMsg :=
  let m : Bytes := [1, 0x20] ++ leBytes 2 group ++ leBytes 4 1 ++ time80 5000000 ++ [0, 0]
  { transport := .udp, port := 0, srcAddr := 1#32, srcPort := 2#16, bytes := m ++ (hmacSha256 (List.replicate 32 3) m).take 16 }

theorem wit_knock : knockForm (knockOfGroup 3) = true ∧ grouped.u Obj.knockGroup = 3 ∧ (grouped.knockOf (knockOfGroup 3)).group = 3 ∧
    (grouped.knockOf (knockOfGroup 4)).group = 4 ∧ grouped.begin.knockCode (knockOfGroup 3) = Abort.ok ∧
    steady.begin.knockCode (knockOfGroup 3) ≠ Abort.ok ∧ knockForm { knockOfGroup 3 with bytes := [1] } = false := by decide +kernel

/-- That Knock pending, with a value staged that the combined check takes, or one that it refuses. -/
def knocked (v : Nat) : State :=
  { grouped with grp := { grouped.grp with
    pendingKnock := some (grouped.knockOf (knockOfGroup 3)), shadow := [(Obj.softStrength, leBytes 2 v)], changed := [Obj.softStrength] } }

theorem wit_apply : (knocked 300).dev.state.hasColumns = false ∧ (knocked 300).pair.role = 0 ∧ quietObj Obj.softStrength = true ∧
    (let u : State := { (knocked 300).begin.runTo ((knocked 300).begin.tickOfNs 5000000) with grp := { (knocked 300).grp with pendingKnock := none } }
     u.combinedCode u.stagedSet = Abort.ok) ∧
    (let u : State := { (knocked 0).begin with live := tabPut (knocked 0).live Obj.mramWriteAllowed [0] }
     u.combinedCode u.stagedSet ≠ Abort.ok) := by decide +kernel
/-! ### The SPI port, commands, Fatal causes -/

theorem wit_spi : pairHigh 0x0004 = none ∧ pairLow 0x0004 = some 0 ∧ pairHigh 0x0005 = some 0 ∧
    (∀ e ∈ (burst 0x10 1).zip [0x5AFF], ¬ (e.1 = 0x10 ∧ e.2 = 0x5AFE)) := by decide +kernel

/-- The session in a device state with the loops in the modes that ArmReady asks for. -/
def armedReady : State := let s := open3 (inState .armed)
  { s with loops := s.loops.zipIdx.map (fun e => { e.1 with mode := if e.2 < 2 then .track else .regulate }) }

/-- IDLE with a bank in force and a board at 25 degrees with its table, so that ARM is taken. -/
def armable : State := let s := open3 idle
  let l := tabPut (tabPut s.live Obj.activeBank [1]) Obj.boardTemp (leBytes 2 2500)
  { s with live := tabPut l Obj.thermTable (List.replicate (objSize Obj.thermTable) 1) }

theorem wit_commands : hearsB (inState .armed) opWrite (commandBody .disarm) = true ∧ hearsB idle opWrite (commandBody .calibrate) = true ∧
    hearsB (inState .scan) opWrite (commandBody .forceSafe) = true ∧ Cmd.legalIn .enterUpdate .idle = true ∧
    armedReady.armReady = true ∧ armable.u Obj.activeBank = 1 ∧ armable.armMayOwn = true ∧ armable.boardForbids = false ∧
    Cmd.legalIn .pause .scan = true ∧ Cmd.legalIn .arm .scan = false ∧ (open3 (inState .safe)).ev.fatal = [] ∧
    (let s : State := { open3 idle with live := tabPut (open3 idle).live Obj.pairRole [1] }
     s.u Obj.pairRole ≠ 0) ∧ (open3 (writable idle)).mramRefusal = Abort.ok ∧ (open3 (writable idle)).frozen = false := by decide +kernel

/-- An image of four payload bytes for PartNumber 0x6420. -/
def imageOf : Bytes :=
  leBytes 4 0x4D494C46 ++ leBytes 2 1 ++ leBytes 2 128 ++ leBytes 4 7 ++ leBytes 2 0 ++ leBytes 2 1 ++ leBytes 4 4 ++ List.replicate 12 0 ++
    sha256 [1, 2, 3, 4] ++ List.replicate 64 5 ++ [1, 2, 3, 4]

/-- UPDATE with that image in the slot not booted. -/
def imaged : State := let s := writable (inState .update)
  { s with dev := { s.dev with bootSlot := 1, slotB := { s.dev.slotB with image := .written imageOf } } }

/-- Whether a signature is right is an opaque constant: where it is, the image is good. -/
theorem wit_image (h : Config.signatureOk (imageOf.take 64) (slice 64 64 imageOf) = true) :
    imaged.imageGood imageOf = true ∧ imaged.updateSlot = 2 ∧ imaged.mramRefusal = Abort.ok := by
  refine ⟨?_, by decide +kernel, by decide +kernel⟩
  unfold State.imageGood
  dsimp only
  rw [h, Bool.and_true]
  decide +kernel

theorem wit_fatal : (inState .scan).dev.state.safeNow = true ∧ idle.fire.safeOffN = true ∧ (sided 1 2).pair.role ≠ 0 ∧
    (owning (sided 1 2)).pair.asserts = true ∧ 0x0401 ∉ idle.ev.fatal ∧ idle.dev.recovery = false ∧
    (armedReady.loop 0).mode = .track ∧ armedReady.scan.stall = false ∧ idle.u Obj.missLimit ≤ 255 ∧
    idle.wcOn 0 = true := by decide +kernel
/-! ### Ill-formed commands are refused (Instr.wf): one for each check -/

/-- A header over CAN, and one over UDP. -/
def canHead : ReqHdr := { ask opRead [] with transport := .can, port := 0, srcAddr := 0#32, srcPort := 0#16 }
def udpHead : ReqHdr := ask opRead []

theorem ill_can_transaction : (Instr.arm { canHead with transaction := 0x100#16 }).wf = false := by decide
theorem ill_can_session : (Instr.stop { canHead with sessionId := 0x100#16 }).wf = false := by decide
theorem ill_can_length : (Instr.read { canHead with bodyLength := 0x100#16 } []).wf = false := by decide
theorem ill_can_address : (Instr.recStart { canHead with srcPort := 1#16 }).wf = false := by decide +kernel
theorem ill_can_room : (Instr.write canHead (List.replicate 60 0)).wf = false := by decide +kernel
theorem ill_opcode : (Instr.unknownOpcode udpHead 0x10#8 []).wf = false := by decide +kernel
theorem ill_short : (Instr.dtpShortDatagram 0 (List.replicate 12 0)).wf = false := by decide
theorem ill_knock : (Instr.knock { transport := .can, port := 0, srcAddr := 0#32, srcPort := 0#16, bytes := List.replicate 65 0 }).wf = false := by decide
theorem ill_session : (Instr.sessionIdleTimeout .can 0x100#16).wf = false := by decide
theorem ill_source : (Instr.blockTransferTimeout (.source .can 1#32 0#16)).wf = false := by decide
theorem ill_level : (Instr.lockoutExpiry 0).wf = false := by decide
theorem ill_spi_count : (Instr.spiRead 0x10#16 0).wf = false := by decide
theorem ill_spi_words : (Instr.spiWrite 0x10#16 []).wf = false := by decide
theorem ill_spi_opcode : (Instr.spiBadOpcode 2#8 1).wf = false := by decide
theorem ill_counts : (Instr.calPassComplete (.input 0) [1, 2]).wf = false := by decide
theorem ill_reading : (Instr.tempReading 22 (.diode 0#16 false)).wf = false := by decide
theorem ill_class : (Instr.launchTime 0 1).wf = false := by decide
theorem ill_source_of : (Instr.holdingOffer 2).wf = false := by decide
theorem ill_stream : (Instr.lossMarkerForm 7).wf = false := by decide
theorem ill_page : (Instr.recSmartPoll [1]).wf = false := by decide
theorem ill_serial : (Instr.recInitDone { driveUp [] [] [] with serial := [] }).wf = false := by decide
theorem ill_read_data : (Instr.recRead canHead (List.replicate 60 0) []).wf = false := by decide +kernel
theorem well_read : (Instr.read udpHead (readBody 0x1300 1)).wf = true ∧ (Instr.tempReading 22 (.i2c 0#16 true)).wf = true := by decide +kernel

/-! ### The spec's tables and worked examples -/

/-- Table HIST-1: ShotSeed 1, bank 0, BaseSpacing 4200, DitherSpan 400. -/
theorem test_shot_code : genNext 1 = 0x00010DCE ∧ genNext 0x00010DCE = 0x1C5983F7 ∧ genNext 0x1C5983F7 = 0xC35937CC ∧
    genSpacing 0x00010DCE 4200 400 = 4200 ∧ genSpacing 0x1C5983F7 4200 400 = 4243 ∧ genSpacing 0xC35937CC 4200 400 = 4504 := by decide

/-- The worked example of R153: width code 22 at 36.00 V with the default gain is a dose of 176,400. -/
theorem test_dose : ({ idle with fire := { idle.fire with doseV := 3600 } } : State).doseOf 5 22 = 176400 := by decide +kernel

/-- The worked example of R234: PreCount 40 and PostCount 80 under PayloadSize 256 become 40 and 20. -/
theorem test_counts_clamped :
    let s : State := { idle with live := tabPut (tabPut (tabPut idle.live Obj.payloadSize [2]) Obj.preCount [40]) Obj.postCount [80] }
    s.itemCap = 60 ∧ s.truncActive = true ∧ s.effPre = 40 ∧ s.effPost = 20 := by decide +kernel

/-- The worked example of R283: 4031 columns, mean 60,068,400 um, spread 1.9 mm against 60,000,000 um: offset 68,400, Valid 4031, Spread 190. -/
theorem test_zero_record :
    let s : State := { idle with live := tabPut idle.live Obj.zeroRefRange (patch 2404 (leBytes 4 60000000) (idle.get Obj.zeroRefRange)) }
    s.zeroRecord 601 (4031, 4031 * 60068400, 4031 * (60068400 ^ 2 + 1900 ^ 2)) = leBytes 4 68400 ++ leBytes 2 4031 ++ leBytes 2 190 := by
  decide +kernel

/-- Table DICT-9: a command that is illegal in its state is refused with 0x0402 and nothing moves. -/
theorem test_illegal_command : ((open3 idle).command .start).1 = 0x0402 ∧ ((open3 idle).command .start).2.dev.state = .idle := by decide +kernel

/-- R416: 999 ns never resets, 2000 ns does. -/
theorem test_reset_pulse : (idle.resetNAssert 999).dev.state = .idle ∧ (idle.resetNAssert 2000).dev.state = .reset := by decide +kernel

/-- A step runs the front command, and an empty queue lets a tick pass (log entry 1). -/
theorem test_step : (match step { idle with pending := [.resetNAssert 2000, .knockApply] } with
      | .next t => t.dev.state == .reset && t.pending == [.knockApply]
      | _ => false) = true ∧
    (match step idle with | .next t => t.time.ticks == 1 | _ => false) = true := by decide +kernel

/-- Decoding: no row of the opcode table has bits, so no word spells a command. -/
theorem test_decode : decodeTableWord 32 0 = none ∧ idle.withFetchWord 32 7 = idle := ⟨rfl, rfl⟩
end Sys2Proof.Tests
end

namespace Sys2Proof.Machine

/-! # Channel faults, replacement and restoring (O26) -/

/-! ### Changes of the array alone -/

/-- `t` is `s` but for the array and the log. -/
def State.ArrayOnly (s t : State) : Prop := State.Logged { s with array := t.array } t []

theorem State.Logged.withArray {e t : State} {ids : List Nat} (h : e.Logged t ids) (a : ArrayState) :
    State.Logged { e with array := a } { t with array := a } ids :=
  ⟨congrArg (fun (x : State) => { x with array := a }) h.rest, h.objects, h.stored, h.calm, h.entries⟩

/-- An expected array may differ in what asks for a bank of R105. -/
theorem State.Logged.ofArray {s t : State} {ids : List Nat} {a b : ArrayState} (h : State.Logged { s with array := a } t ids)
    (hb : t.array = { b with rolesDirty := t.array.rolesDirty }) : State.Logged { s with array := b } t ids := by
  refine ⟨?_, h.objects, h.stored, h.calm, h.entries⟩
  have hr := congrArg (fun (x : State) => { x with array := t.array }) h.rest
  exact hr.trans (by rw [← hb])

theorem State.Logged.array_eq {e t : State} {ids : List Nat} (h : e.Logged t ids) :
    t.array = { e.array with rolesDirty := t.array.rolesDirty } := (congrArg State.array h.rest).trans rfl

theorem State.ArrayOnly.of_logged {s t : State} (h : s.Logged t []) : s.ArrayOnly t :=
  State.Logged.ofArray (a := s.array) h rfl

theorem State.ArrayOnly.of_eq {s : State} (a : ArrayState) : s.ArrayOnly { s with array := a } := State.Logged.refl _ _

theorem State.ArrayOnly.trans {s t u : State} (h1 : s.ArrayOnly t) (h2 : t.ArrayOnly u) : s.ArrayOnly u :=
  (State.Logged.withArray h1 u.array).andThen h2

/-! ### Roles, faults and causes -/

@[simp] theorem State.setRole_path (s : State) (p r : Nat) : (s.setRole p r).path p = { s.path p with role := r } :=
  State.path_setPath s p _

theorem State.setRole_path_ne (s : State) (p q r : Nat) (h : q ≠ p) : (s.setRole p r).path q = s.path q :=
  State.path_setPath_ne s p q _ h

@[simp] theorem State.setRole_ev (s : State) (p r : Nat) : (s.setRole p r).ev = s.ev := rfl

@[simp] theorem State.setRole_cluster (s : State) (p r k : Nat) : (s.setRole p r).cluster k = s.cluster k := rfl

@[simp] theorem State.setCluster_path (s : State) (k : Nat) (c : Cluster) (p : Nat) : (s.setCluster k c).path p = s.path p := rfl

theorem State.path_of_array {s t : State} (h : t.array.paths = s.array.paths) (p : Nat) : t.path p = s.path p := by
  unfold State.path
  rw [h]

theorem State.cluster_of_array {s t : State} (h : t.array.clusters = s.array.clusters) (k : Nat) : t.cluster k = s.cluster k := by
  unfold State.cluster
  rw [h]

/-- A command that changes the array alone: the array it ends with, what it tells, and that it leaves all else. -/
theorem State.awake_array (s : State) (f : State → State) (hr : s.ready) (h : s.begin.ArrayOnly (f s.begin)) :
    ∃ t, s.awake f = .next t ∧ (∀ p, t.path p = (f s.begin).path p) ∧ (∀ k, t.cluster k = (f s.begin).cluster k) ∧
      t.array = { (f s.begin).array with rolesDirty := t.array.rolesDirty } ∧
      (∀ a b c d, s.begin.tells (f s.begin) a b c d → s.tells t a b c d) ∧ State.Logged { s.begin with array := t.array } t [] := by
  obtain ⟨t, ht, hl, -, htells, -⟩ := s.awake_all f { s.begin with array := (f s.begin).array } [] hr hr.2 rfl h
  have harr := hl.array_eq
  exact ⟨t, ht, State.path_of_array (by rw [harr]), State.cluster_of_array (by rw [harr]), harr, htells, State.Logged.ofArray hl rfl⟩

@[simp] theorem State.recordFault_array (s : State) (p code serving : Nat) : (s.recordFault p code serving).array =
    (s.setPath p { s.path p with fault := code, faultNative := s.time.native }).array := State.raise_array _ _ _ _ _

@[simp] theorem State.recordFault_path (s : State) (p code serving : Nat) :
    (s.recordFault p code serving).path p = { s.path p with fault := code, faultNative := s.time.native } :=
  (State.path_of_array (congrArg _ (s.recordFault_array p code serving)) p).trans (State.path_setPath _ _ _)

theorem State.recordFault_path_ne (s : State) (p code serving q : Nat) (h : q ≠ p) : (s.recordFault p code serving).path q = s.path q :=
  (State.path_of_array (congrArg _ (s.recordFault_array p code serving)) q).trans (State.path_setPath_ne _ _ _ _ h)

@[simp] theorem State.recordFault_cluster (s : State) (p code serving k : Nat) : (s.recordFault p code serving).cluster k = s.cluster k :=
  State.cluster_of_array (congrArg _ (s.recordFault_array p code serving)) k

theorem State.setPath_only (s : State) (p : Nat) (x : PathRec) : s.ArrayOnly (s.setPath p x) := State.ArrayOnly.of_eq _
theorem State.setRole_only (s : State) (p r : Nat) : s.ArrayOnly (s.setRole p r) := State.ArrayOnly.of_eq _
theorem State.setCluster_only (s : State) (k : Nat) (c : Cluster) : s.ArrayOnly (s.setCluster k c) := State.ArrayOnly.of_eq _
theorem State.route_only (s : State) (ch : Nat) (t : Stamp) : s.ArrayOnly (s.route ch t) := State.ArrayOnly.of_eq _

theorem State.recordFault_only (s : State) (p code serving : Nat) : s.ArrayOnly (s.recordFault p code serving) :=
  (s.setPath_only p _).trans (State.ArrayOnly.of_logged (State.logged_raise _ _ _ _ _))

theorem State.addCause_only (s : State) (k : Nat) (c : CrossCause) : s.ArrayOnly (s.addCause k c) := by
  unfold State.addCause
  dsimp only
  split
  · exact State.ArrayOnly.of_eq s.array
  · exact s.setCluster_only k _

/-- A fault recorded is told (R95, Table FAULT-3). -/
theorem State.tells_recordFault (s : State) (p code serving : Nat) : s.tells (s.recordFault p code serving) (0x0200 + code) p 3 serving :=
  State.tells_from (State.tells_raise _ _ _ _ _) (fun _ _ => rfl) rfl rfl

/-! ### Faults of a channel on its own path (R16, R95) -/

theorem State.eccError_corrected (s : State) (p : Nat) (hp : s.variant.hasPath p = true) (hb : s.dev.booted = true) :
    s.eccError p false = s.bump Obj.histEccCorrected 1 := by
  simp [State.eccError, State.checksRun, hp, hb]

theorem State.eccError_uncorrectable (s : State) (p : Nat) (hp : s.variant.hasPath p = true) (hb : s.dev.booted = true) :
    s.eccError p true = s.pathFault p 1 := by
  simp [State.eccError, State.checksRun, hp, hb]

theorem State.overrunFault_over (s : State) (p : Nat) (hp : s.variant.hasPath p = true) (hb : s.dev.booted = true)
    (hc : 16 < (s.meas p).code64) : s.overrunFault p = s.pathFault p 2 := by
  simp [State.overrunFault, State.checksRun, hp, hb, hc]

theorem State.pathFault_own (s : State) (p code : Nat) (hp : p < 1024) (hr : (s.path p).role = 0) (hf : (s.path p).fault = 0) :
    s.pathFault p code = s.channelPathFault p code := by
  unfold State.pathFault
  rw [if_neg (by omega), if_pos ⟨hr, hf⟩]

theorem State.channelPathFault_idle (s : State) (ch code : Nat) (hs : (s.path (1024 + ch / 16)).role = 8)
    (hc : (s.cluster (ch / 16)).causes = []) :
    s.channelPathFault ch code = (s.recordFault ch code ch).addCause (ch / 16) (.takeover ch s.nowStamp) := by
  simp [State.channelPathFault, hs, hc]

theorem State.channelPathFault_inUse (s : State) (ch code : Nat)
    (hs : (s.path (1024 + ch / 16)).role = 0xA ∨ (s.path (1024 + ch / 16)).role = 0xB) :
    s.channelPathFault ch code = (s.recordFault ch code ch).setRole ch 4 := by
  rcases hs with hs | hs <;> simp only [State.channelPathFault, hs]

theorem State.addCause_first (s : State) (k : Nat) (c : CrossCause) (hc : (s.cluster k).causes = []) :
    s.addCause k c = s.setCluster k { s.cluster k with causes := [c] } := by
  simp [State.addCause, hc]

/-- A command that is a fault of a channel on its own path asks for a takeover where the Scarab is idle and unclaimed. -/
theorem State.awake_takeover (s : State) (f : State → State) (ch code : Nat) (hr : s.ready)
    (hf : f s.begin = s.begin.channelPathFault ch code) (hs : (s.path (1024 + ch / 16)).role = 8)
    (hc : (s.cluster (ch / 16)).causes = []) :
    ∃ t, s.awake f = .next t ∧ t.path ch = { s.path ch with fault := code, faultNative := s.time.native } ∧
      (t.cluster (ch / 16)).causes = [.takeover ch s.nowStamp] ∧ s.tells t (0x0200 + code) ch 3 ch ∧
      State.Logged { s.begin with array := { s.array with paths := t.array.paths, clusters := t.array.clusters } } t [] := by
  have he : f s.begin = (s.begin.recordFault ch code ch).setCluster (ch / 16)
      { s.cluster (ch / 16) with causes := [.takeover ch s.nowStamp] } := by
    rw [hf, State.channelPathFault_idle s.begin _ _ hs hc, State.addCause_first _ _ _ (by rw [State.recordFault_cluster]; exact hc),
      State.recordFault_cluster]
    rfl
  obtain ⟨t, ht, hpath, hcluster, harr, htells, hl⟩ := s.awake_array f hr
    (by rw [he]; exact (State.recordFault_only _ _ _ _).trans (State.setCluster_only _ _ _))
  refine ⟨t, ht, ?_, ?_, htells _ _ _ _ ?_, State.Logged.ofArray hl ?_⟩
  · rw [hpath, he, State.setCluster_path, State.recordFault_path]
    rfl
  · rw [hcluster, he, State.cluster_setCluster]
  · rw [he]
    exact State.tells_of_ev (s.begin.tells_recordFault ch code ch) rfl
  · rw [harr, he]
    simp [State.setCluster, State.setPath]

/-- It takes the channel out of service where the Scarab is in permanent use or failed. -/
theorem State.awake_outOfService (s : State) (f : State → State) (ch code : Nat) (hr : s.ready)
    (hf : f s.begin = s.begin.channelPathFault ch code)
    (hs : (s.path (1024 + ch / 16)).role = 0xA ∨ (s.path (1024 + ch / 16)).role = 0xB) :
    ∃ t, s.awake f = .next t ∧ t.path ch = { s.path ch with role := 4, fault := code, faultNative := s.time.native } ∧
      s.tells t (0x0200 + code) ch 3 ch ∧ State.Logged { s.begin with array := { s.array with paths := t.array.paths } } t [] := by
  have he : f s.begin = (s.begin.recordFault ch code ch).setRole ch 4 := hf.trans (State.channelPathFault_inUse s.begin _ _ hs)
  obtain ⟨t, ht, hpath, -, harr, htells, hl⟩ := s.awake_array f hr
    (by rw [he]; exact (State.recordFault_only _ _ _ _).trans (State.setRole_only _ _ _))
  refine ⟨t, ht, ?_, htells _ _ _ _ ?_, State.Logged.ofArray hl ?_⟩
  · rw [hpath, he, State.setRole_path, State.recordFault_path]
    rfl
  · rw [he]
    exact State.tells_of_ev (s.begin.tells_recordFault ch code ch) rfl
  · rw [harr, he]
    simp [State.setRole, State.setPath]

/-! ### Stuck Louvre gates (R96) -/

/-- The channel of a stuck gate leaves service with pixel fault 4. -/
theorem State.stuckFault_unserved (s : State) (ch : Nat) (hp : s.variant.hasPath ch = true) (hb : s.dev.booted = true)
    (hw : s.dev.sensorPowered = true) (h3 : (s.path ch).role ≠ 3) (hn : ¬ ((s.path ch).role = 1 ∨ (s.path ch).role = 2)) :
    s.stuckFault ch = (s.recordFault ch 4 ((s.servingPath ch).getD 0xFFFF)).setRole ch 3 := by
  unfold State.stuckFault
  simp only [hp, State.checksRun, hb, hw, h3, hn, Bool.not_true, Bool.false_eq_true, or_self, if_false]

/-- Where its Scarab served it, the Scarab is idle after it. -/
theorem State.stuckFault_served (s : State) (ch : Nat) (hp : s.variant.hasPath ch = true) (hb : s.dev.booted = true)
    (hw : s.dev.sensorPowered = true) (h3 : (s.path ch).role ≠ 3) (hs : (s.path ch).role = 1 ∨ (s.path ch).role = 2) :
    s.stuckFault ch = (((s.recordFault ch 4 ((s.servingPath ch).getD 0xFFFF)).setRole ch 3).setRole (1024 + ch / 16) 8).setCluster (ch / 16)
      { s.cluster (ch / 16) with served := none } := by
  unfold State.stuckFault
  simp only [hp, State.checksRun, hb, hw, h3, hs, Bool.not_true, Bool.false_eq_true, or_self, if_false, if_true, State.setRole_cluster,
    State.recordFault_cluster]

/-- LOUVRE_STUCK_FAULT on a channel in service. -/
theorem State.exec_louvreStuckFault (s : State) (ch : ChanNo) (hr : s.ready) (hb : s.dev.booted = true)
    (hp : s.variant.hasPath ch.val = true) (hw : s.dev.sensorPowered = true) (h3 : (s.path ch.val).role ≠ 3) :
    ∃ t, exec (.louvreStuckFault ch) s = .next t ∧
      t.path ch.val = { s.path ch.val with role := 3, fault := 4, faultNative := s.time.native } ∧
      s.tells t 0x0204 ch.val 3 ((s.servingPath ch.val).getD 0xFFFF) ∧
      ((s.path ch.val).role = 1 ∨ (s.path ch.val).role = 2 →
        (t.path (1024 + ch.val / 16)).role = 8 ∧ (t.cluster (ch.val / 16)).served = none) ∧
      State.Logged { s.begin with array := { s.array with paths := t.array.paths, clusters := t.array.clusters } } t [] := by
  have hne : ch.val ≠ 1024 + ch.val / 16 := by omega
  have htold := s.begin.tells_recordFault ch.val 4 ((s.begin.servingPath ch.val).getD 0xFFFF)
  by_cases hs : (s.path ch.val).role = 1 ∨ (s.path ch.val).role = 2
  · have he := s.begin.stuckFault_served ch.val hp hb hw h3 hs
    obtain ⟨t, ht, hpath, hcluster, harr, htells, hl⟩ := s.awake_array (fun (u : State) => u.stuckFault ch.val) hr (by
      rw [he]
      exact (((State.recordFault_only _ _ _ _).trans (State.setRole_only _ _ _)).trans (State.setRole_only _ _ _)).trans
        (State.setCluster_only _ _ _))
    rw [he] at hpath hcluster harr htells
    refine ⟨t, ht, ?_, htells _ _ _ _ ?_, fun _ => ⟨?_, ?_⟩, State.Logged.ofArray hl ?_⟩
    · rw [hpath, State.setCluster_path, State.setRole_path_ne _ _ _ _ hne, State.setRole_path, State.recordFault_path]
      rfl
    · exact State.tells_of_ev htold (by simp only [State.setRole_ev, State.setCluster_ev])
    · rw [hpath, State.setCluster_path, State.setRole_path]
    · rw [hcluster, State.cluster_setCluster]
    · rw [harr]
      simp [State.setRole, State.setCluster, State.setPath]
  · have he := s.begin.stuckFault_unserved ch.val hp hb hw h3 hs
    obtain ⟨t, ht, hpath, hcluster, harr, htells, hl⟩ := s.awake_array (fun (u : State) => u.stuckFault ch.val) hr (by
      rw [he]
      exact (State.recordFault_only _ _ _ _).trans (State.setRole_only _ _ _))
    rw [he] at hpath hcluster harr htells
    refine ⟨t, ht, ?_, htells _ _ _ _ ?_, fun h => absurd h hs, State.Logged.ofArray hl ?_⟩
    · rw [hpath, State.setRole_path, State.recordFault_path]
      rfl
    · exact State.tells_of_ev htold (State.setRole_ev _ _ _)
    · rw [harr]
      simp [State.setRole, State.setPath]

/-! ### Requests of replacement and restoring (R106) -/

@[simp] theorem State.purge_path (s : State) (p : Nat) : s.begin.purge.path p = s.path p := by
  rw [State.purge_shape]
  rfl

@[simp] theorem State.purge_cluster (s : State) (k : Nat) : s.begin.purge.cluster k = s.cluster k := by
  rw [State.purge_shape]
  rfl

@[simp] theorem State.purge_state (s : State) : s.begin.purge.dev.state = s.dev.state := by
  rw [State.purge_shape]
  rfl

@[simp] theorem State.purge_array (s : State) : s.begin.purge.array = s.array := by
  rw [State.purge_shape]
  rfl

theorem State.writeOp_replace (s : State) (ch : Nat) (bs : Bytes) (hc : ch < 1024) :
    s.writeOp ((0x3000 + ch) * 256 + 0x17) bs = some (s.replaceRequest ch (leVal bs)) := by
  have hi : ((0x3000 + ch) * 256 + 0x17) / 256 = 0x3000 + ch := by omega
  have hsub : ((0x3000 + ch) * 256 + 0x17) % 256 = 0x17 := by omega
  have hx : isChanIdx ((0x3000 + ch) * 256 + 0x17) = true := by
    unfold isChanIdx
    rw [hi, decide_eq_true (by omega), decide_eq_true (by omega)]
    rfl
  unfold State.writeOp
  dsimp only
  rw [hx, hi, hsub, Nat.add_sub_cancel_left]
  rfl

theorem State.writeOp_restore (s : State) (p : Nat) (bs : Bytes) (hp : p < 1088) :
    s.writeOp ((0x3000 + p) * 256 + 0x18) bs = some (s.restoreRequest p (leVal bs)) := by
  have hi : ((0x3000 + p) * 256 + 0x18) / 256 = 0x3000 + p := by omega
  have hsub : ((0x3000 + p) * 256 + 0x18) % 256 = 0x18 := by omega
  have hx : isChanIdx ((0x3000 + p) * 256 + 0x18) = true := by
    unfold isChanIdx
    rw [hi, decide_eq_true (by omega), decide_eq_true (by omega)]
    rfl
  unfold State.writeOp
  dsimp only
  rw [hx, hi, hsub, Nat.add_sub_cancel_left]
  rfl

/-- A WRITE that is taken and whose operation changes the array alone. -/
theorem State.write_array (s : State) (h : ReqHdr) (c : Caller) (p sub : Nat) (v : Byte) (r : Abort × State) (hr : s.ready)
    (ht : s.takes h (0x3000 + p) sub 0x01 [v] c) (hp : p < 1088) (hs : sub < 256)
    (hw : s.begin.purge.writeOp ((0x3000 + p) * 256 + sub) [v] = some r) (hu : untagged r.1 = false) (hl : s.begin.purge.ArrayOnly r.2) :
    ∃ t, s.awake (fun (t : State) => t.dtpWrite h (writeBody (0x3000 + p) sub 0x01 [v])) = .next t ∧
      t.answered (s.answerFor h opWrite r.1 [0, 0]) ∧ (∀ q, t.path q = r.2.path q) ∧ (∀ k, t.cluster k = r.2.cluster k) ∧
      t.array = { r.2.array with rolesDirty := t.array.rolesDirty } ∧
      (State.withAnswer { s.begin with array := t.array } t).Logged t [] := by
  have hcmd : (0x3000 + p) * 256 + sub ≠ Obj.command := by
    unfold Obj.command
    omega
  have hpurge := s.begin.purge_shape
  obtain ⟨t, hx, ha, hg⟩ := s.write_op h c (0x3000 + p) sub 0x01 [v] r { s.begin.purge with array := r.2.array } [] hr ht (by omega) hs
    (by decide) hcmd hw hu (by rw [hpurge]; exact hr.2) (by rw [hpurge]; rfl) hl
  have hg' : State.Logged { s.begin.withAnswer t with array := r.2.array } t [] := by
    rw [hpurge] at hg
    exact hg
  have harr := hg'.array_eq
  exact ⟨t, hx, ha, State.path_of_array (by rw [harr]), State.cluster_of_array (by rw [harr]), harr, State.Logged.ofArray hg' rfl⟩

/-! ### What each request does -/

theorem State.replaceRequest_cancel (s : State) (ch : Nat) : s.replaceRequest ch 0 =
    (Abort.ok, s.setCluster (ch / 16) { s.cluster (ch / 16) with causes := (s.cluster (ch / 16)).causes.filter (fun c =>
      match c with
      | .beginPermanent d f => !(d == ch && f == 5)
      | .toPermanent d f => !(d == ch && f == 5)
      | _ => true) }) := rfl

theorem State.replaceRequest_cancel_pending (s : State) (ch : Nat) : (s.replaceRequest ch 0).2.replacePending ch = false := by
  rw [State.replaceRequest_cancel]
  unfold State.replacePending
  rw [State.cluster_setCluster]
  simp only [List.any_eq_false, List.mem_filter]
  rintro c ⟨-, hc⟩
  cases c with
  | beginPermanent d f => exact ne_true_of_eq_false ((Bool.not_eq_true' (d == ch && f == 5)).mp hc)
  | toPermanent d f => exact ne_true_of_eq_false ((Bool.not_eq_true' (d == ch && f == 5)).mp hc)
  | _ => simp

theorem State.replaceRequest_refused (s : State) (ch : Nat)
    (hs : (s.path (1024 + ch / 16)).role = 0xA ∨ (s.path (1024 + ch / 16)).role = 0xB ∨ (s.path ch).role = 2) :
    s.replaceRequest ch 1 = (Abort.notAllowedNow, s) := by
  unfold State.replaceRequest
  rcases hs with hs | hs | hs <;> simp [hs]

/-- With an idle Scarab that serves no channel a request is taken, and its change is made at once or put up. -/
theorem State.replaceRequest_taken (s : State) (ch : Nat) (hn : (s.cluster (ch / 16)).served = none) (h0 : (s.path ch).role = 0)
    (hs : (s.path (1024 + ch / 16)).role = 8) : s.replaceRequest ch 1 = (Abort.ok,
      if s.dev.state = .idle ∨ s.dev.state = .armed then s.crossbar (ch / 16) (.beginPermanent ch 5) s.nowStamp
      else s.addCause (ch / 16) (.beginPermanent ch 5)) := by
  rw [apply_ite (Prod.mk Abort.ok)]
  simp [State.replaceRequest, hn, h0, hs]

theorem State.addCause_path (s : State) (k : Nat) (c : CrossCause) (p : Nat) : (s.addCause k c).path p = s.path p := by
  unfold State.addCause
  dsimp only
  split <;> rfl

theorem State.addCause_pending (s : State) (ch : Nat) : (s.addCause (ch / 16) (.beginPermanent ch 5)).replacePending ch = true := by
  unfold State.addCause State.replacePending
  dsimp only
  split
  · rename_i hc
    rw [List.any_eq_true]
    exact ⟨_, List.contains_iff_mem.mp hc, by simp⟩
  · rw [State.cluster_setCluster]
    simp

/-- A channel given to the Scarab of its cluster for permanent use, with the cause of it done. -/
def State.givenToScarab (s : State) (ch f : Nat) (t : Stamp) : State :=
  let x := s.cluster (ch / 16)
  (((s.setCluster (ch / 16) { x with causes := x.causes.filter (fun d => d != .beginPermanent ch f) }).setRole ch 2).setRole
    (1024 + ch / 16) 0xA).route ch t

theorem State.crossbar_beginPermanent_eq (s : State) (ch f : Nat) (t : Stamp) : s.crossbar (ch / 16) (.beginPermanent ch f) t =
    let s1 := s.givenToScarab ch f t
    let s2 := if (s1.path ch).fault = 0 then s1.recordFault ch f (1024 + ch / 16) else s1
    s2.setCluster (ch / 16) { s2.cluster (ch / 16) with settling := true, settleFrom := t } := rfl

theorem State.route_path (s : State) (ch : Nat) (t : Stamp) (p : Nat) : (s.route ch t).path p = s.path p := rfl

theorem State.route_served (s : State) (ch : Nat) (t : Stamp) : ((s.route ch t).cluster (ch / 16)).served = some ch := by
  unfold State.route
  dsimp only
  rw [State.cluster_setCluster]

theorem State.givenToScarab_roles (s : State) (ch f : Nat) (t : Stamp) (hc : ch < 1024) :
    ((s.givenToScarab ch f t).path ch).role = 2 ∧ ((s.givenToScarab ch f t).path (1024 + ch / 16)).role = 0xA := by
  have hne : ch ≠ 1024 + ch / 16 := by omega
  unfold State.givenToScarab
  rw [State.route_path, State.route_path, State.setRole_path_ne _ _ _ _ hne, State.setRole_path, State.setRole_path]
  exact ⟨rfl, rfl⟩

theorem State.givenToScarab_only (s : State) (ch f : Nat) (t : Stamp) : s.ArrayOnly (s.givenToScarab ch f t) :=
  (((s.setCluster_only _ _).trans (State.setRole_only _ _ _)).trans (State.setRole_only _ _ _)).trans (State.route_only _ _ _)

/-- A permanent replacement made at once (Table CHAN-7): the Scarab serves the channel from now on, its handover settling. -/
theorem State.crossbar_beginPermanent (s : State) (ch f : Nat) (t : Stamp) (hc : ch < 1024) :
    ((s.crossbar (ch / 16) (.beginPermanent ch f) t).path ch).role = 2 ∧
      ((s.crossbar (ch / 16) (.beginPermanent ch f) t).path (1024 + ch / 16)).role = 0xA ∧
      ((s.crossbar (ch / 16) (.beginPermanent ch f) t).cluster (ch / 16)).served = some ch ∧
      ((s.crossbar (ch / 16) (.beginPermanent ch f) t).cluster (ch / 16)).settling = true ∧
      s.ArrayOnly (s.crossbar (ch / 16) (.beginPermanent ch f) t) := by
  have hne : ch ≠ 1024 + ch / 16 := by omega
  obtain ⟨hch, hsc⟩ := s.givenToScarab_roles ch f t hc
  have hserved : ((s.givenToScarab ch f t).cluster (ch / 16)).served = some ch := State.route_served _ _ _
  have h1 := s.givenToScarab_only ch f t
  rw [State.crossbar_beginPermanent_eq]
  extract_lets s1 s2
  have h2 : (s2.path ch).role = 2 ∧ (s2.path (1024 + ch / 16)).role = 0xA ∧ (s2.cluster (ch / 16)).served = some ch ∧ s1.ArrayOnly s2 := by
    unfold s2
    split
    · rw [State.recordFault_path, State.recordFault_path_ne _ _ _ _ _ hne.symm, State.recordFault_cluster]
      exact ⟨hch, hsc, hserved, State.recordFault_only _ _ _ _⟩
    · exact ⟨hch, hsc, hserved, State.Logged.refl _ _⟩
  obtain ⟨hch2, hsc2, hserved2, hl2⟩ := h2
  rw [State.setCluster_path, State.setCluster_path, State.cluster_setCluster]
  exact ⟨hch2, hsc2, hserved2, rfl, (h1.trans hl2).trans (State.setCluster_only _ _ _)⟩

/-- A cluster's Scarab idle again. -/
def State.scarabFreed (s : State) (k : Nat) : State := (s.setRole (1024 + k) 8).setCluster k { s.cluster k with served := none }

theorem State.scarabFreed_only (s : State) (k : Nat) : s.ArrayOnly (s.scarabFreed k) :=
  (s.setRole_only _ _).trans (State.setCluster_only _ _ _)

theorem State.scarabFreed_role (s : State) (k : Nat) : ((s.scarabFreed k).path (1024 + k)).role = 8 := by
  unfold State.scarabFreed
  rw [State.setCluster_path, State.setRole_path]

theorem State.scarabFreed_served (s : State) (k : Nat) : ((s.scarabFreed k).cluster k).served = none := by
  unfold State.scarabFreed
  rw [State.cluster_setCluster]

theorem State.scarabFreed_path_ne (s : State) (k p : Nat) (h : p ≠ 1024 + k) : (s.scarabFreed k).path p = s.path p :=
  s.setRole_path_ne _ _ _ h

/-- A path given its role at rest, with its fault cleared and Suspect set. -/
def State.pathRestored (s : State) (p role fails : Nat) : State :=
  (s.setRole p role).setPath p { s.path p with role := role, fault := 0, faultNative := 0, fails := fails, suspect := true }

theorem State.pathRestored_only (s : State) (p role fails : Nat) : s.ArrayOnly (s.pathRestored p role fails) :=
  (s.setRole_only _ _).trans (State.setPath_only _ _ _)

theorem State.pathRestored_path (s : State) (p role fails : Nat) : (s.pathRestored p role fails).path p =
    { s.path p with role := role, fault := 0, faultNative := 0, fails := fails, suspect := true } := State.path_setPath _ _ _

theorem State.pathRestored_path_ne (s : State) (p role fails q : Nat) (h : q ≠ p) : (s.pathRestored p role fails).path q = s.path q :=
  (State.path_setPath_ne _ _ _ _ h).trans (s.setRole_path_ne _ _ _ h)

theorem State.pathRestored_cluster (s : State) (p role fails k : Nat) : (s.pathRestored p role fails).cluster k = s.cluster k := rfl

theorem State.restoreRequest_substituted (s : State) (p : Nat) (hp : p < 1024) (hr : (s.path p).role = 2) :
    s.restoreRequest p 1 = (Abort.ok, (s.scarabFreed (p / 16)).pathRestored p 0 0) := by
  simp only [State.restoreRequest, hr, if_pos hp, true_or, if_true, Nat.one_ne_zero, if_false, State.setRole_path]
  rfl

theorem State.restoreRequest_outOfService (s : State) (p : Nat) (hp : p < 1024) (hr : (s.path p).role = 3 ∨ (s.path p).role = 4) :
    s.restoreRequest p 1 = (Abort.ok, s.pathRestored p 0 0) := by
  have h2 : (s.path p).role ≠ 2 := by omega
  simp only [State.restoreRequest, hr, if_pos hp, or_true, if_true, Nat.one_ne_zero, if_false, State.setRole_path, h2]
  rfl

theorem State.restoreRequest_scarab (s : State) (p : Nat) (hp : 1024 ≤ p) (hr : (s.path p).role = 0xB) :
    s.restoreRequest p 1 = (Abort.ok, s.pathRestored p 8 (s.path p).fails) := by
  simp only [State.restoreRequest, hr, if_neg (Nat.not_lt.mpr hp), if_true, Nat.one_ne_zero, if_false, State.setRole_path]
  rfl

theorem State.restoreRequest_refused (s : State) (p : Nat) (hc : p < 1024 → (s.path p).role ∉ [2, 3, 4])
    (hs : 1024 ≤ p → (s.path p).role ≠ 0xB) : s.restoreRequest p 1 = (Abort.notAllowedNow, s) := by
  unfold State.restoreRequest
  by_cases hp : p < 1024
  · have hn : ¬ ((s.path p).role = 2 ∨ (s.path p).role = 3 ∨ (s.path p).role = 4) := by simpa using hc hp
    simp only [hp, hn, if_true, if_false, Nat.one_ne_zero]
  · simp only [hp, hs (by omega), if_false, Nat.one_ne_zero]

/-! ### The commands -/

/-- REPLACE_REQUEST of 1 for a channel on its own path, the Scarab idle. -/
theorem State.exec_replaceRequest_taken (s : State) (h : ReqHdr) (c : Caller) (ch : ChanNo) (hr : s.ready)
    (ht : s.takes h (0x3000 + ch.val) 0x17 0x01 [1#8] c) (hn : (s.cluster (ch.val / 16)).served = none) (h0 : (s.path ch.val).role = 0)
    (hs : (s.path (1024 + ch.val / 16)).role = 8) :
    ∃ t, exec (.replaceRequest h ch 1#8) s = .next t ∧ t.answered (s.answerFor h opWrite Abort.ok [0, 0]) ∧
      (s.dev.state = .idle ∨ s.dev.state = .armed → (t.path ch.val).role = 2 ∧ (t.path (1024 + ch.val / 16)).role = 0xA ∧
        (t.cluster (ch.val / 16)).served = some ch.val ∧ (t.cluster (ch.val / 16)).settling = true) ∧
      (¬ (s.dev.state = .idle ∨ s.dev.state = .armed) → t.replacePending ch.val = true ∧ t.path ch.val = s.path ch.val) ∧
      (State.withAnswer { s.begin with array := t.array } t).Logged t [] := by
  have hch := ch.isLt
  have hw := s.begin.purge.writeOp_replace ch.val [1#8] hch
  have hreq := s.begin.purge.replaceRequest_taken ch.val (by rw [State.purge_cluster]; exact hn) (by rw [State.purge_path]; exact h0)
    (by rw [State.purge_path]; exact hs)
  rw [State.purge_state] at hreq
  by_cases hnow : s.dev.state = .idle ∨ s.dev.state = .armed
  · rw [if_pos hnow] at hreq
    obtain ⟨hrole, hscarab, hserved, hsettling, honly⟩ := s.begin.purge.crossbar_beginPermanent ch.val 5 s.begin.purge.nowStamp hch
    obtain ⟨t, hx, ha, hpath, hcluster, -, hl⟩ := s.write_array h c ch.val 0x17 1#8 _ hr ht (by omega) (by decide) (hw.trans (congrArg some hreq))
      untagged_ok honly
    refine ⟨t, hx, ha, fun _ => ⟨?_, ?_, ?_, ?_⟩, fun hno => absurd hnow hno, hl⟩
    · rw [hpath]
      exact hrole
    · rw [hpath]
      exact hscarab
    · rw [hcluster]
      exact hserved
    · rw [hcluster]
      exact hsettling
  · rw [if_neg hnow] at hreq
    obtain ⟨t, hx, ha, hpath, hcluster, -, hl⟩ := s.write_array h c ch.val 0x17 1#8 _ hr ht (by omega) (by decide) (hw.trans (congrArg some hreq))
      untagged_ok (State.addCause_only _ _ _)
    refine ⟨t, hx, ha, fun hyes => absurd hyes hnow, fun _ => ⟨?_, ?_⟩, hl⟩
    · have hp := s.begin.purge.addCause_pending ch.val
      unfold State.replacePending at hp ⊢
      rw [hcluster]
      exact hp
    · rw [hpath, State.addCause_path, State.purge_path]

/-- REPLACE_REQUEST of 0. -/
theorem State.exec_replaceRequest_cancel (s : State) (h : ReqHdr) (c : Caller) (ch : ChanNo) (hr : s.ready)
    (ht : s.takes h (0x3000 + ch.val) 0x17 0x01 [0#8] c) :
    ∃ t, exec (.replaceRequest h ch 0#8) s = .next t ∧ t.answered (s.answerFor h opWrite Abort.ok [0, 0]) ∧
      t.replacePending ch.val = false ∧
      (State.withAnswer { s.begin with array := { s.array with clusters := t.array.clusters } } t).Logged t [] := by
  have hch := ch.isLt
  obtain ⟨t, hx, ha, -, hcluster, harr, hl⟩ := s.write_array h c ch.val 0x17 0#8 _ hr ht (by omega) (by decide)
    (s.begin.purge.writeOp_replace ch.val [0#8] hch) untagged_ok (State.setCluster_only _ _ _)
  refine ⟨t, hx, ha, ?_, State.Logged.ofArray (s := s.begin.withAnswer t) hl ?_⟩
  · have hp := s.begin.purge.replaceRequest_cancel_pending ch.val
    unfold State.replacePending at hp ⊢
    rw [hcluster]
    exact hp
  · rw [harr]
    simp [State.replaceRequest_cancel, State.setCluster, leVal]

theorem untagged_notAllowedNow : untagged Abort.notAllowedNow = false := by decide

/-- A WRITE that is taken and refused by its operation, which changes nothing. -/
theorem State.write_refused (s : State) (h : ReqHdr) (c : Caller) (p sub : Nat) (v : Byte) (hr : s.ready)
    (ht : s.takes h (0x3000 + p) sub 0x01 [v] c) (hp : p < 1088) (hs : sub < 256)
    (hw : s.begin.purge.writeOp ((0x3000 + p) * 256 + sub) [v] = some (Abort.notAllowedNow, s.begin.purge)) :
    ∃ t, s.awake (fun (t : State) => t.dtpWrite h (writeBody (0x3000 + p) sub 0x01 [v])) = .next t ∧
      t.answered (s.answerFor h opWrite Abort.notAllowedNow [0, 0]) ∧ (s.begin.withAnswer t).Logged t [] := by
  obtain ⟨t, hx, ha, -, -, harr, hl⟩ := s.write_array h c p sub v _ hr ht hp hs hw untagged_notAllowedNow (State.Logged.refl _ _)
  refine ⟨t, hx, ha, State.Logged.ofArray (s := s.begin.withAnswer t) (b := s.array) hl ?_⟩
  rw [harr, State.purge_array]

/-- RESTORE_REQUEST of 1 for a channel that is substituted or out of service. -/
theorem State.exec_restoreRequest_channel (s : State) (h : ReqHdr) (c : Caller) (p : PathNo) (hr : s.ready)
    (ht : s.takes h (0x3000 + p.val) 0x18 0x01 [1#8] c) (hp : p.val < 1024) (hrole : (s.path p.val).role ∈ [2, 3, 4]) :
    ∃ t, exec (.restoreRequest h p 1#8) s = .next t ∧ t.answered (s.answerFor h opWrite Abort.ok [0, 0]) ∧
      t.path p.val = { s.path p.val with role := 0, fault := 0, faultNative := 0, fails := 0, suspect := true } ∧
      ((s.path p.val).role = 2 → (t.path (1024 + p.val / 16)).role = 8 ∧ (t.cluster (p.val / 16)).served = none) ∧
      (State.withAnswer { s.begin with array := { s.array with paths := t.array.paths, clusters := t.array.clusters } } t).Logged t [] := by
  have hne : 1024 + p.val / 16 ≠ p.val := by omega
  have hw := s.begin.purge.writeOp_restore p.val [1#8] p.isLt
  by_cases h2 : (s.path p.val).role = 2
  · have hreq := s.begin.purge.restoreRequest_substituted p.val hp (by rw [State.purge_path]; exact h2)
    obtain ⟨t, hx, ha, hpath, hcluster, harr, hl⟩ := s.write_array h c p.val 0x18 1#8 _ hr ht p.isLt (by decide)
      (hw.trans (congrArg some hreq)) untagged_ok ((State.scarabFreed_only _ _).trans (State.pathRestored_only _ _ _ _))
    refine ⟨t, hx, ha, ?_, fun _ => ⟨?_, ?_⟩, State.Logged.ofArray (s := s.begin.withAnswer t) hl ?_⟩
    · rw [hpath, State.pathRestored_path, State.scarabFreed_path_ne _ _ _ hne.symm, State.purge_path]
    · rw [hpath, State.pathRestored_path_ne _ _ _ _ _ hne, State.scarabFreed_role]
    · rw [hcluster, State.pathRestored_cluster, State.scarabFreed_served]
    · rw [harr]
      simp [State.pathRestored, State.scarabFreed, State.setRole, State.setCluster, State.setPath]
  · have h34 : (s.path p.val).role = 3 ∨ (s.path p.val).role = 4 := by simpa [h2] using hrole
    have hreq := s.begin.purge.restoreRequest_outOfService p.val hp (by rw [State.purge_path]; exact h34)
    obtain ⟨t, hx, ha, hpath, -, harr, hl⟩ := s.write_array h c p.val 0x18 1#8 _ hr ht p.isLt (by decide)
      (hw.trans (congrArg some hreq)) untagged_ok (State.pathRestored_only _ _ _ _)
    refine ⟨t, hx, ha, ?_, fun hn => absurd hn h2, State.Logged.ofArray (s := s.begin.withAnswer t) hl ?_⟩
    · rw [hpath, State.pathRestored_path, State.purge_path]
    · rw [harr]
      simp [State.pathRestored, State.setRole, State.setPath]

/-- RESTORE_REQUEST of 1 for a failed Scarab. -/
theorem State.exec_restoreRequest_scarab (s : State) (h : ReqHdr) (c : Caller) (p : PathNo) (hr : s.ready)
    (ht : s.takes h (0x3000 + p.val) 0x18 0x01 [1#8] c) (hp : 1024 ≤ p.val) (hrole : (s.path p.val).role = 0xB) :
    ∃ t, exec (.restoreRequest h p 1#8) s = .next t ∧ t.answered (s.answerFor h opWrite Abort.ok [0, 0]) ∧
      t.path p.val = { s.path p.val with role := 8, fault := 0, faultNative := 0, suspect := true } ∧
      (State.withAnswer { s.begin with array := { s.array with paths := t.array.paths } } t).Logged t [] := by
  have hw := s.begin.purge.writeOp_restore p.val [1#8] p.isLt
  have hreq := s.begin.purge.restoreRequest_scarab p.val hp (by rw [State.purge_path]; exact hrole)
  obtain ⟨t, hx, ha, hpath, -, harr, hl⟩ := s.write_array h c p.val 0x18 1#8 _ hr ht p.isLt (by decide)
    (hw.trans (congrArg some hreq)) untagged_ok (State.pathRestored_only _ _ _ _)
  refine ⟨t, hx, ha, ?_, State.Logged.ofArray (s := s.begin.withAnswer t) hl ?_⟩
  · rw [hpath, State.pathRestored_path, State.purge_path]
  · rw [harr]
    simp [State.pathRestored, State.setRole, State.setPath]

/-- HIST_ECC_ERROR of a corrected error. -/
theorem State.exec_histEccError_corrected (s : State) (p : PathNo) (hr : s.ready) (hb : s.dev.booted = true)
    (hp : s.variant.hasPath p.val = true) :
    ∃ t, exec (.histEccError p false) s = .next t ∧ t.shows Obj.histEccCorrected (s.u Obj.histEccCorrected + 1) ∧
      s.begin.Logged t [Obj.histEccCorrected] := by
  have he := s.begin.eccError_corrected p.val hp hb
  obtain ⟨t, ht, hl, hget, -, -⟩ := s.awake_all (fun (u : State) => u.eccError p.val false) s.begin [Obj.histEccCorrected] hr hr.2 rfl
    (by rw [he]; exact State.logged_bump _ _ _ _ (Or.inr (by simp)))
  rw [he] at hget
  exact ⟨t, ht, State.shows_of_get (State.shows_bump s.begin Obj.histEccCorrected 1 (by decide)) (hget _ (by decide)), hl⟩

/-- HIST_ECC_ERROR and LINE_OVERRUN_FAULT of a channel on its own path without a fault are its faults 1 and 2. -/
theorem State.exec_ownPathFault (s : State) (p : PathNo) (hb : s.dev.booted = true) (hp : s.variant.hasPath p.val = true)
    (hc : p.val < 1024) (h0 : (s.path p.val).role = 0) (hf : (s.path p.val).fault = 0) (e : Instr × Nat)
    (he : e ∈ [(Instr.histEccError p true, 1), (Instr.lineOverrunFault p, 2)]) (hmany : e.2 = 2 → 16 < (s.meas p.val).code64) :
    ∃ f : State → State, exec e.1 s = s.awake f ∧ f s.begin = s.begin.channelPathFault p.val e.2 := by
  have hown := fun code => s.begin.pathFault_own p.val code hc h0 hf
  simp only [List.mem_cons, List.not_mem_nil, or_false] at he
  rcases he with rfl | rfl
  · exact ⟨fun (u : State) => u.eccError p.val true, rfl, (s.begin.eccError_uncorrectable p.val hp hb).trans (hown 1)⟩
  · exact ⟨fun (u : State) => u.overrunFault p.val, rfl, (s.begin.overrunFault_over p.val hp hb (hmany rfl)).trans (hown 2)⟩

/-- Settles O26, a command at a time. -/
theorem channelFaults : Obligations.ChannelFaults := by
  unfold Obligations.ChannelFaults
  intro s hr
  refine ⟨fun hb => ⟨fun p hp => ⟨s.exec_histEccError_corrected p hr hb hp, fun hc h0 hf e he hmany => ?_⟩,
    fun ch hp hw h3 => s.exec_louvreStuckFault ch hr hb hp hw h3⟩, fun h c ch => ⟨?_, ?_, ?_⟩, fun h c p ht => ⟨?_, ?_, ?_⟩⟩
  · obtain ⟨f, hx, hfault⟩ := s.exec_ownPathFault p hb hp hc h0 hf e he hmany
    rw [hx]
    exact ⟨fun hs hcauses => s.awake_takeover f p.val e.2 hr hfault hs hcauses, fun hs => s.awake_outOfService f p.val e.2 hr hfault hs⟩
  · intro ht hn h0 hs
    exact s.exec_replaceRequest_taken h c ch hr ht hn h0 hs
  · intro ht
    exact s.exec_replaceRequest_cancel h c ch hr ht
  · intro ht hs
    exact s.write_refused h c ch.val 0x17 1#8 hr ht (by omega) (by decide) ((s.begin.purge.writeOp_replace ch.val [1#8] ch.isLt).trans
      (congrArg some (s.begin.purge.replaceRequest_refused ch.val (by simpa using hs))))
  · intro hp hrole
    exact s.exec_restoreRequest_channel h c p hr ht hp hrole
  · intro hp hrole
    exact s.exec_restoreRequest_scarab h c p hr ht hp hrole
  · intro hc hs
    exact s.write_refused h c p.val 0x18 1#8 hr ht p.isLt (by decide) ((s.begin.purge.writeOp_restore p.val [1#8] p.isLt).trans
      (congrArg some (s.begin.purge.restoreRequest_refused p.val (by simpa using hc) (by simpa using hs))))

/-! # Columns and Transom slots (O29) -/

/-! ### What a Transom slot does to the timing inputs (R210, R270, R275) -/

/-- The timing inputs and the calibration of a state. -/
def State.inputsAndCal (s : State) : AuxState × CalState := (s.aux, s.cal)

theorem State.foldl_keeps {α β : Type} (g : State → β) (f : State → α → State) (hf : ∀ t x, g (f t x) = g t) (xs : List α) (s : State) :
    g (xs.foldl f s) = g s := by
  induction xs generalizing s with
  | nil => rfl
  | cons x xs ih => rw [List.foldl_cons, ih, hf]

@[simp] theorem State.bump_inputsAndCal (s : State) (id n : Nat) : (s.bump id n).inputsAndCal = s.inputsAndCal := by
  simp [State.inputsAndCal]

@[simp] theorem State.setRole_inputsAndCal (s : State) (p r : Nat) : (s.setRole p r).inputsAndCal = s.inputsAndCal := rfl

@[simp] theorem State.setCluster_inputsAndCal (s : State) (k : Nat) (c : Cluster) : (s.setCluster k c).inputsAndCal = s.inputsAndCal := rfl

@[simp] theorem State.route_inputsAndCal (s : State) (ch : Nat) (t : Stamp) : (s.route ch t).inputsAndCal = s.inputsAndCal := rfl

@[simp] theorem State.raise_inputsAndCal (s : State) (a b c d : Nat) : (s.raise a b c d).inputsAndCal = s.inputsAndCal := by
  simp [State.inputsAndCal]

@[simp] theorem State.recordFault_inputsAndCal (s : State) (p code serving : Nat) :
    (s.recordFault p code serving).inputsAndCal = s.inputsAndCal := State.raise_inputsAndCal _ _ _ _ _

@[simp] theorem State.crossbar_inputsAndCal (s : State) (k : Nat) (c : CrossCause) (t : Stamp) :
    (s.crossbar k c t).inputsAndCal = s.inputsAndCal := by
  cases c with
  | scarabFailed since =>
    simp only [State.crossbar]
    split
    · simp
    · split <;> simp
  | takeover ch since => simp [State.crossbar]
  | toPermanent ch f => simp [State.crossbar]
  | endStandin ch =>
    simp only [State.crossbar]
    split <;> simp
  | beginPermanent ch f =>
    simp only [State.crossbar]
    split <;> simp
  | beginStandin ch => simp [State.crossbar]

theorem State.crossbar_aux (s : State) (k : Nat) (c : CrossCause) (t : Stamp) : (s.crossbar k c t).aux = s.aux :=
  congrArg Prod.fst (s.crossbar_inputsAndCal k c t)

@[simp] theorem State.crossbarAtSlot_inputsAndCal (s : State) (t : Stamp) (long : Bool) :
    (s.crossbarAtSlot t long).inputsAndCal = s.inputsAndCal := by
  refine State.foldl_keeps State.inputsAndCal _ (fun u e => ?_) _ _
  split
  · simp
  · split <;> simp
  · rfl

@[simp] theorem State.biasUpdate_inputsAndCal (s : State) : s.biasUpdate.inputsAndCal = s.inputsAndCal := by
  unfold State.biasUpdate
  split
  · rfl
  · extract_lets top sp _ s1 trims mask s2 s3
    have h2 : s2.inputsAndCal = s1.inputsAndCal := by
      refine State.foldl_keeps State.inputsAndCal _ (fun u e => ?_) _ _
      rfl
    have h3 : s3.inputsAndCal = s.inputsAndCal := h2
    split
    · simpa using h3
    · exact h3

theorem State.transomSlot_inputsAndCal (s : State) : s.transomSlot.inputsAndCal = s.inputsAndCal := by
  unfold State.transomSlot
  split
  · rfl
  · dsimp only
    rw [State.crossbarAtSlot_inputsAndCal, State.biasUpdate_inputsAndCal, State.bump_inputsAndCal]
    simp [State.inputsAndCal]

theorem State.makeDue_aux (s : State) (r : Nat) : (s.makeDue r).aux = s.aux := by
  unfold State.makeDue
  split
  · rfl
  · split <;> rfl

theorem State.calBegin_aux (s : State) : s.calBegin.aux = s.aux := by
  refine State.foldl_keeps State.aux _ (fun u e => ?_) _ _
  split
  · rfl
  · split <;> rfl

/-- At a Transom slot the results that wait are loaded, those of the timing inputs too; nothing else there reaches the inputs. -/
theorem State.calAtSlot_aux (s : State) (t : Stamp) (long : Bool) : ∃ c : CalState,
    (s.calAtSlot t long).aux = (s.cal.results.foldl (fun (u : State) r => u.applyResult r) (s.setCal c)).aux := by
  unfold State.calAtSlot
  extract_lets _ s0 s1 s2 s3
  have h1 : s1.aux = s0.aux := State.foldl_keeps State.aux _ (fun u r => by
    dsimp only
    split
    · exact u.makeDue_aux r
    · rfl) _ _
  have h2 : s2.aux = s1.aux := State.foldl_keeps State.aux _ (fun u e => by
    dsimp only
    split <;> rfl) _ _
  have h3 : s3.aux = s2.aux := State.foldl_keeps State.aux _ (fun u e => by
    split
    · rfl
    · split
      · split
        · exact u.crossbar_aux _ _ _
        · simp
      · rfl) _ _
  exact ⟨_, (State.calBegin_aux s3).trans (h3.trans (h2.trans h1))⟩

/-- A Transom slot loads the tap table of the one result that waits where it is a timing input's. -/
theorem State.transomBegin_loadsInput (s : State) (n : Nat) (taps : Taps) (hs : s.nextTransom.isSome = true)
    (hr : s.cal.results = [⟨1088 + n, taps⟩]) (hn : n < s.aux.inputs.length) : (s.transomBegin.auxIn n).taps = taps := by
  obtain ⟨⟨a, e, forward⟩, hx⟩ := Option.isSome_iff_exists.mp hs
  have hk := s.transomSlot_inputsAndCal
  have haux : s.transomSlot.aux = s.aux := congrArg Prod.fst hk
  have hcal : s.transomSlot.cal = s.cal := congrArg Prod.snd hk
  unfold State.transomBegin
  rw [hx]
  dsimp only
  obtain ⟨c, hc⟩ := s.transomSlot.calAtSlot_aux a (decide (e - s.lastShot a ≥ 64 * s.windowTicks + 8000))
  unfold State.auxIn
  rw [hc, hcal, hr]
  simp only [List.foldl_cons, List.foldl_nil, State.applyResult]
  rw [if_neg (by omega)]
  have hl : 1088 + n - 1088 = n := by omega
  simp only [hl, State.setAux, State.setCal_aux, haux]
  rw [getAt_setAt_self _ _ _ _ hn]

/-- TRANSOM_SLOT ends with that table in the input. -/
theorem State.exec_transomSlot_loadsInput (s : State) (n : Nat) (taps : Taps) (hr : s.ready) (hs : s.nextTransom.isSome = true)
    (hw : s.cal.results = [⟨1088 + n, taps⟩]) (hn : n < s.aux.inputs.length) :
    ∃ t, exec .transomSlot s = .next t ∧ (t.auxIn n).taps = taps := by
  obtain ⟨t, ht, hl⟩ := s.awake_full (fun (u : State) => u.transomBegin) hr (State.transomBegin_core _)
  have haux : t.aux = s.begin.transomBegin.aux := (congrArg State.aux hl.rest).trans rfl
  refine ⟨t, ht, ?_⟩
  unfold State.auxIn
  rw [haux]
  exact s.begin.transomBegin_loadsInput n taps hs hw hn

/-- In SCAN on a galvanometer's raster, the result of timing input 0 waits for the bank that it has asked for (R270, R275). -/
def inputResultWaits : State :=
  let s := State.reset
  { s with dev := { s.dev with state := .scan }, scan := { s.scan with trackAt := some 0 },
           cal := { s.cal with results := [⟨1088, .ideal⟩], wanted := [1] } }

/-- Refutes O29: with the result of a timing input waiting, a Transom slot loads it into the input, before the bank with it is written, so
TRANSOM_SLOT does not leave the timing inputs alone. -/
theorem not_columnsAndSlots : ¬ Obligations.ColumnsAndSlots := by
  unfold Obligations.ColumnsAndSlots
  intro h
  have hready : inputResultWaits.ready := ⟨by decide, rfl⟩
  have hslot : inputResultWaits.nextTransom.isSome = true := by decide +kernel
  have hfactory : (inputResultWaits.auxIn 0).taps = .factory := rfl
  obtain ⟨t, ht, hideal⟩ := inputResultWaits.exec_transomSlot_loadsInput 0 .ideal hready hslot rfl (by decide)
  obtain ⟨⟨a, e, forward⟩, hx⟩ := Option.isSome_iff_exists.mp hslot
  obtain ⟨-, -, -, -, hleaves⟩ := h inputResultWaits hready
  obtain ⟨t', ht', -, -, -, -, -, -, -, -, haux⟩ := hleaves a e forward hx
  obtain rfl : t' = t := Host.Outcome.next.inj (ht'.symm.trans ht)
  have hsame : t'.auxIn 0 = inputResultWaits.auxIn 0 := by
    unfold State.auxIn
    rw [haux]
  rw [hsame, hfactory] at hideal
  exact Taps.noConfusion hideal

/-! # The merge and its waits (O43) -/

/-! ### Two queued records of one ordinal (R35, R341, R343) -/

/-- An empty record of stream 1 that waits in a queue. -/
def queuedOf (cls ordinal : Nat) : Queued :=
  { stream := 1, cls := cls, level := levelOf cls, seq := 0, ordinal := ordinal, stamp := 0, launch := 0, start := 0, launchedAt := 0, tag := 0,
    bytes := [], sentOn := [] }

/-- In IDLE, a C3 record on port 0 shares its ordinal with the first of two C2 records, as it does once the ordinals have wrapped (R35). -/
def ordinalShared : State :=
  let s := State.reset
  ({ s with dev := { s.dev with state := .idle } }).setPort 0
    { PortState.down with queue := [queuedOf 3 0, queuedOf 2 0, queuedOf 2 1] }

/-- The C2 record is refused with the C3 record, for WAIT: the port is barred while the other C2 record is queued (R343). -/
theorem classMaxWait_ordinalShared : ∃ t, exec (.classMaxWait 0 3) ordinalShared = .next t ∧ (t.port 0).queue = [queuedOf 2 1] ∧
    (t.port 0).barred = true := ⟨_, rfl, by decide +kernel⟩

/-- Refutes O43: CLASS_MAX_WAIT of a C3 record picks what it refuses by the ordinal, so that a C2 record of the same ordinal is refused for
WAIT too and bars a port that the statement has without a bar. -/
theorem not_mergeAndWaits : ¬ Obligations.MergeAndWaits := by
  unfold Obligations.MergeAndWaits
  intro h
  have hready : ordinalShared.ready := ⟨by decide, rfl⟩
  have hfirst : (ordinalShared.port 0).queue.find? (fun q => q.cls == 3) = some (queuedOf 3 0) := by decide
  have hopen : (ordinalShared.port 0).barred = false := by decide
  obtain ⟨t, ht, -, hbar⟩ := classMaxWait_ordinalShared
  obtain ⟨-, -, -, hport⟩ := h ordinalShared hready rfl rfl
  obtain ⟨-, -, -, hwait⟩ := hport 0 3
  obtain ⟨t', ht', -, -, hbar', -⟩ := hwait (queuedOf 3 0) 0 _ _ (by decide) (by decide) hfirst rfl rfl
  obtain rfl : t' = t := Host.Outcome.next.inj (ht'.symm.trans ht)
  rw [hbar, hopen] at hbar'
  exact Bool.noConfusion (show true = false from hbar')

end Sys2Proof.Machine

namespace Sys2Proof.Machine

/-! # The Louvre gate and the Shutter (O25) -/

/-! ### Commands that write time and the array -/

theorem State.runToStamp_time (s : State) (x : Stamp) :
    ∃ tm : TimeState, s.runToStamp x = { s with time := tm } ∧ tm.ticks ≤ max s.time.ticks (x / 320) := by
  obtain ⟨tm, h, -, hle⟩ := s.runTo_time (x / 320)
  exact ⟨tm, h, hle⟩

/-- A command whose effect is on time, the array and the objects `ids`: what it ends with, and that it leaves all else. -/
theorem State.awake_timeArray (s : State) (f : State → State) (tm : TimeState) (a : ArrayState) (ids : List Nat) (hr : s.ready)
    (h : State.Logged { s.begin with time := tm, array := a } (f s.begin) ids) :
    ∃ t, s.awake f = .next t ∧ t.time = tm ∧ t.array = { a with rolesDirty := t.array.rolesDirty } ∧
      (∀ id, id ∉ logObjects → t.get id = (f s.begin).get id) ∧
      ∀ b : ArrayState, t.array = { b with rolesDirty := t.array.rolesDirty } →
        State.Logged { s.begin with time := t.time, array := b } t ids := by
  obtain ⟨t, ht, hl, hget, -, -⟩ := s.awake_all f { s.begin with time := tm, array := a } ids hr hr.2 rfl h
  have htime : t.time = tm := (congrArg State.time hl.rest).trans rfl
  refine ⟨t, ht, htime, hl.array_eq, hget, fun b hb => ?_⟩
  rw [htime]
  exact State.Logged.ofArray (s := { s.begin with time := tm }) hl hb

/-- A command whose effect on the array is one pixel's record. -/
theorem State.awake_pixel (s : State) (f : State → State) (ch : Nat) (px : Pixel) (tm : TimeState) (ids : List Nat) (hr : s.ready)
    (h : State.Logged { s.begin.setPixel ch px with time := tm } (f s.begin) ids) :
    ∃ t, s.awake f = .next t ∧ t.time = tm ∧ t.array.pixels = (s.setPixel ch px).array.pixels ∧
      (∀ id, id ∉ logObjects → t.get id = (f s.begin).get id) ∧
      State.Logged { s.begin with time := t.time, array := { s.array with pixels := t.array.pixels } } t ids := by
  obtain ⟨t, ht, htime, harr, hget, hl⟩ := s.awake_timeArray f tm (s.setPixel ch px).array ids hr h
  exact ⟨t, ht, htime, (congrArg ArrayState.pixels harr).trans rfl, hget, hl _ (by rw [harr]; rfl)⟩

/-- A command whose effect on the array is the measuring half of one path. -/
theorem State.awake_meas (s : State) (f : State → State) (p : Nat) (m : PathMeas) (tm : TimeState) (hr : s.ready)
    (h : f s.begin = { s.begin.setMeas p m with time := tm }) :
    ∃ t, s.awake f = .next t ∧ t.time = tm ∧ t.meas p = m ∧
      State.Logged { s.begin with time := t.time, array := { s.array with meas := t.array.meas } } t [] := by
  obtain ⟨t, ht, htime, harr, -, hl⟩ := s.awake_timeArray f tm (s.setMeas p m).array [] hr (by rw [h]; exact State.Logged.refl _ _)
  have hmeas : t.array.meas = tabPut s.array.meas p m := (congrArg ArrayState.meas harr).trans rfl
  refine ⟨t, ht, htime, ?_, hl _ (by rw [harr]; rfl)⟩
  unfold State.meas
  rw [hmeas, tabGet_put_self]

/-! ### Pixels -/

theorem State.pixel_of_array {s t : State} {ch : Nat} {px : Pixel} (h : t.array.pixels = (s.setPixel ch px).array.pixels) :
    t.pixel ch = px := by
  unfold State.pixel
  rw [h]
  exact tabGet_put_self _ _ _ _

/-- No object of a channel is an object of the log. -/
theorem chanObject_not_mem_logObjects (c k : Nat) (hk : k < 256) : (0x3000 + c) * 256 + k ∉ logObjects := by
  simp only [logObjects, List.mem_cons, List.not_mem_nil, or_false, Obj.eventHead, Obj.lastFaultCode, Obj.journalDropped,
    Obj.activeAlarms, Obj.highestSeverity]
  omega

theorem State.pixelRest_of_objects {s t : State} (h : ∀ id, id ∉ logObjects → t.get id = s.get id) (c : Nat) :
    t.pixelRest c = s.pixelRest c := by
  have hu : ∀ id, id ∉ logObjects → t.u id = s.u id := fun id hid => congrArg leVal (h id hid)
  have hdepth : t.fixedDepth c = s.fixedDepth c := by
    unfold State.fixedDepth
    rw [hu (Obj.chLouvreDepthMode c) (chanObject_not_mem_logObjects c 3 (by decide)),
      hu (Obj.chLouvreDepthFixed c) (chanObject_not_mem_logObjects c 4 (by decide)), hu Obj.louvreDepthFixed (by decide)]
  have hwindow : t.louvreWindow c = s.louvreWindow c := by
    unfold State.louvreWindow
    rw [hu (Obj.chLouvreWindow c) (chanObject_not_mem_logObjects c 5 (by decide)), hu Obj.louvreWindow (by decide)]
  unfold State.pixelRest
  rw [hdepth, hwindow]

/-- The other pixels keep their records. -/
theorem State.pixel_of_array_ne {s t : State} {ch : Nat} {px : Pixel} (h : t.array.pixels = (s.setPixel ch px).array.pixels)
    (hget : ∀ id, id ∉ logObjects → t.get id = s.get id) (c : Nat) (hc : c ≠ ch) : t.pixel c = s.pixel c := by
  unfold State.pixel
  rw [h, State.pixelRest_of_objects hget]
  exact tabGet_put_ne _ _ _ _ _ hc

/-! ### The gate (R74, R78) -/

/-- The fires of a pixel that a fire at `x` finds in the window. -/
def Pixel.firesAt (px : Pixel) (x : Stamp) : List Stamp := px.fires.filter (fun u => decide (x < u + 8 * px.window))

/-- A pixel whose gate passes an event at `x`. -/
def Pixel.passing (px : Pixel) (x : Stamp) : Pixel := { px with fires := [], activeUntil := x + 80 }

/-- A channel's gate sees its SPADs: sensor power, a fitted path, no mask of a stuck gate. -/
def State.gateSees (s : State) (ch : Nat) : Prop :=
  s.dev.sensorPowered = true ∧ s.variant.hasPath ch = true ∧ (s.path ch).role ≠ 3

theorem State.spadFire_active (s : State) (ch : Nat) (x : Stamp) (code : Nat) (hg : s.gateSees ch)
    (hx : x < (s.pixel ch).activeUntil) : s.spadFire ch x code = (s, none) := by
  obtain ⟨hw, hp, h3⟩ := hg
  simp [State.spadFire, hw, hp, h3, hx]

theorem State.spadFire_joins (s : State) (ch : Nat) (x : Stamp) (code : Nat) (hg : s.gateSees ch)
    (hx : (s.pixel ch).activeUntil ≤ x) (hd : ((s.pixel ch).firesAt x).length + 1 < (s.pixel ch).depth) :
    s.spadFire ch x code = (s.setPixel ch { s.pixel ch with fires := (s.pixel ch).firesAt x ++ [x] }, none) := by
  obtain ⟨hw, hp, h3⟩ := hg
  unfold Pixel.firesAt at *
  simp [State.spadFire, hw, hp, h3, Nat.not_lt.mpr hx, hd]

theorem State.spadFire_unserved (s : State) (ch : Nat) (x : Stamp) (code : Nat) (hg : s.gateSees ch)
    (hx : (s.pixel ch).activeUntil ≤ x) (hd : (s.pixel ch).depth ≤ ((s.pixel ch).firesAt x).length + 1)
    (hs : s.servingPath ch = none ∨ (s.cluster (ch / 16)).settling = true) :
    s.spadFire ch x code = (s.setPixel ch ((s.pixel ch).passing x), none) := by
  obtain ⟨hw, hp, h3⟩ := hg
  unfold Pixel.firesAt at hd
  unfold Pixel.passing
  have hserving : ∀ px, (s.setPixel ch px).servingPath ch = s.servingPath ch := fun _ => rfl
  have hcluster : ∀ px, (s.setPixel ch px).cluster (ch / 16) = s.cluster (ch / 16) := fun _ => rfl
  rcases hs with hs | hs
  · simp [State.spadFire, hw, hp, h3, Nat.not_lt.mpr hx, Nat.not_lt.mpr hd, hserving, hs]
  · cases hp' : s.servingPath ch <;>
      simp [State.spadFire, hw, hp, h3, Nat.not_lt.mpr hx, Nat.not_lt.mpr hd, hserving, hcluster, hs, hp']

theorem State.spadFire_served (s : State) (ch p : Nat) (x : Stamp) (code : Nat) (hg : s.gateSees ch)
    (hx : (s.pixel ch).activeUntil ≤ x) (hd : (s.pixel ch).depth ≤ ((s.pixel ch).firesAt x).length + 1)
    (hs : s.servingPath ch = some p) (hc : (s.cluster (ch / 16)).settling = false) :
    s.spadFire ch x code = (s.setPixel ch ((s.pixel ch).passing x)).tdcEdge ch p x code := by
  obtain ⟨hw, hp, h3⟩ := hg
  unfold Pixel.firesAt at hd
  unfold Pixel.passing
  have hserving : ∀ px, (s.setPixel ch px).servingPath ch = s.servingPath ch := fun _ => rfl
  have hcluster : ∀ px, (s.setPixel ch px).cluster (ch / 16) = s.cluster (ch / 16) := fun _ => rfl
  simp [State.spadFire, hw, hp, h3, Nat.not_lt.mpr hx, Nat.not_lt.mpr hd, hserving, hcluster, hs, hc]

/-! ### The edge at the TDC (R83, R87, R91) -/

theorem State.tdcEdge_blind (s : State) (ch p : Nat) (x : Stamp) (code : Nat) (hi : (s.meas p).ignoreBefore ≤ x)
    (hfrom : (s.meas p).blindFrom ≤ x) (hto : x < (s.meas p).blindTo) :
    s.tdcEdge ch p x code = (s.bump (Obj.chBlindEdgeCount ch) 1, none) := by
  simp [State.tdcEdge, Nat.not_lt.mpr hi, hfrom, hto]

/-- The conversion of an edge of a channel at `x` on the path `p` (R87, R88, R91, R92). -/
def State.conversion (s : State) (ch p : Nat) (x : Stamp) (code : Nat) : Conv :=
  let td := (s.path p).taps.stamp p (x / 64 + 1) code
  ⟨td, blindEnd td (s.meas p).holdOff, (s.bank (ch / 64)).fired.any (fun j => (s.meas p).within j td)⟩

/-- The device, the firing engine and the array of a state. -/
def State.devFireArray (s : State) : Device × FireState × ArrayState := (s.dev, s.fire, s.array)

/-- An edge that a Shutter enables, outside the blind interval, is converted. -/
theorem State.tdcEdge_converts (s : State) (ch p : Nat) (x : Stamp) (code : Nat) (hi : (s.meas p).ignoreBefore ≤ x)
    (hb : ¬ ((s.meas p).blindFrom ≤ x ∧ x < (s.meas p).blindTo))
    (he : (s.bank (ch / 64)).fired.any (fun j => (s.meas p).enabled j x) = true) :
    ∃ m : PathMeas, m.convs = (s.meas p).convs ++ [s.conversion ch p x code] ∧ m.blindFrom = (s.conversion ch p x code).t ∧
      (s.tdcEdge ch p x code).1.devFireArray =
        ((s.setPixel ch { s.pixel ch with edges := (s.pixel ch).edges + 1 }).setMeas p m).devFireArray := by
  unfold State.tdcEdge
  rw [if_neg (Nat.not_lt.mpr hi), if_neg hb]
  dsimp only
  rw [if_pos he]
  exact ⟨_, rfl, rfl, by simp only [State.devFireArray, State.bump_dev, State.bump_fire, State.bump_array]; rfl⟩

/-! ### A kept conversion at the Mayfly engines (R232, R236) -/

@[simp] theorem State.setEngine_devFireArray (s : State) (e : Nat) (x : MayflyEngine) : (s.setEngine e x).devFireArray = s.devFireArray := rfl

@[simp] theorem State.bumpWord_devFireArray (s : State) (id w off n : Nat) : (s.bumpWord id w off n).devFireArray = s.devFireArray := by
  simp [State.devFireArray]

@[simp] theorem State.missMask_devFireArray (s : State) (mask reason : Nat) : (s.missMask mask reason).devFireArray = s.devFireArray := by
  unfold State.missMask
  dsimp only
  rw [State.bumpWord_devFireArray]
  refine State.foldl_keeps State.devFireArray _ (fun u c => ?_) _ _
  split
  · exact u.bumpWord_devFireArray _ _ _ _
  · rfl

@[simp] theorem State.ringEnter_devFireArray (s : State) (i : TrigInfo) (deadTime : Nat) (truncated : Bool) (payload : Bytes) :
    (s.ringEnter i deadTime truncated payload).devFireArray = s.devFireArray := by
  unfold State.ringEnter
  split
  · have hmiss := s.missMask_devFireArray i.mask 0
    simpa [State.devFireArray] using hmiss
  · dsimp only
    split <;> split <;> simp [State.devFireArray]

@[simp] theorem State.closeCapture_devFireArray (s : State) (e : Nat) (t : Stamp) (short : Bool) :
    (s.closeCapture e t short).devFireArray = s.devFireArray := by
  unfold State.closeCapture
  dsimp only
  split <;> simp

/-- The engines that watch the channel take a conversion without a change of the device, the firing engine or the array. -/
@[simp] theorem State.mayConv_devFireArray (s : State) (ch : Nat) (td : Stamp) : (s.mayConv ch td).devFireArray = s.devFireArray := by
  refine State.foldl_keeps State.devFireArray _ (fun u e => ?_) _ _
  split
  · rfl
  · extract_lets n u0 _ _
    have h0 : u0.devFireArray = u.devFireArray := by
      unfold u0
      split
      · split <;> simp
      · rfl
    rw [← h0]
    split
    · split
      · dsimp only
        split <;> simp
      · simp
    · simp

/-! ### SPAD_FIRE -/

/-- A state after a SPAD of the channel has fired at `x`, the kept conversion given to the engines. -/
def State.afterFire (s : State) (ch : Nat) (x : Stamp) (code : Nat) : State :=
  let r := (s.runToStamp x).spadFire ch x code
  match r.2 with
  | some td => r.1.mayConv ch td
  | none => r.1

theorem exec_spadFire_eq (s : State) (ch : ChanNo) (spad : Fin 9) (x : Stamp) (code : Fin 65) :
    exec (.spadFire ch spad x code) s = s.awake (fun (u : State) => u.afterFire ch.val x code.val) := rfl

theorem State.afterFire_of_none {s u : State} {ch : Nat} {x : Stamp} {code : Nat}
    (h : (s.runToStamp x).spadFire ch x code = (u, none)) : s.afterFire ch x code = u := by
  unfold State.afterFire
  rw [h]

theorem State.afterFire_devFireArray (s : State) (ch : Nat) (x : Stamp) (code : Nat) :
    (s.afterFire ch x code).devFireArray = ((s.runToStamp x).spadFire ch x code).1.devFireArray := by
  unfold State.afterFire
  dsimp only
  split <;> simp

theorem State.afterFire_core (s : State) (ch : Nat) (x : Stamp) (code : Nat) :
    (s.afterFire ch x code).core true = s.core true := by
  unfold State.afterFire
  dsimp only
  split <;> simp

/-- A fire during the active output. -/
theorem State.exec_spadFire_active (s : State) (ch : ChanNo) (spad : Fin 9) (x : Stamp) (code : Fin 65) (hr : s.ready)
    (hg : s.gateSees ch.val) (hx : x < (s.pixel ch.val).activeUntil) :
    ∃ t, exec (.spadFire ch spad x code) s = .next t ∧ t.time.ticks ≤ max s.time.ticks (x / 320) ∧
      State.Logged { s.begin with time := t.time } t [] := by
  obtain ⟨tm, hrun, hle⟩ := s.begin.runToStamp_time x
  have he : s.begin.afterFire ch.val x code.val = { s.begin with time := tm } :=
    State.afterFire_of_none (by rw [hrun]; exact State.spadFire_active _ _ _ _ hg hx)
  obtain ⟨t, ht, htime, harr, -, hl⟩ := s.awake_timeArray (fun (u : State) => u.afterFire ch.val x code.val) tm s.array [] hr
    (by rw [he]; exact State.Logged.refl _ _)
  exact ⟨t, ht, by rw [htime]; exact hle, hl s.array harr⟩

/-- A fire that does not complete the depth. -/
theorem State.exec_spadFire_joins (s : State) (ch : ChanNo) (spad : Fin 9) (x : Stamp) (code : Fin 65) (hr : s.ready)
    (hg : s.gateSees ch.val) (hx : (s.pixel ch.val).activeUntil ≤ x)
    (hd : ((s.pixel ch.val).firesAt x).length + 1 < (s.pixel ch.val).depth) :
    ∃ t, exec (.spadFire ch spad x code) s = .next t ∧ t.time.ticks ≤ max s.time.ticks (x / 320) ∧
      t.pixel ch.val = { s.pixel ch.val with fires := (s.pixel ch.val).firesAt x ++ [x] } ∧
      (∀ c, c ≠ ch.val → t.pixel c = s.pixel c) ∧
      State.Logged { s.begin with time := t.time, array := { s.array with pixels := t.array.pixels } } t [] := by
  obtain ⟨tm, hrun, hle⟩ := s.begin.runToStamp_time x
  have he : s.begin.afterFire ch.val x code.val =
      { s.begin.setPixel ch.val { s.pixel ch.val with fires := (s.pixel ch.val).firesAt x ++ [x] } with time := tm } :=
    State.afterFire_of_none (by rw [hrun]; exact State.spadFire_joins _ _ _ _ hg hx hd)
  obtain ⟨t, ht, htime, hpix, hget, hl⟩ := s.awake_pixel (fun (u : State) => u.afterFire ch.val x code.val) ch.val _ tm [] hr
    (by rw [he]; exact State.Logged.refl _ _)
  refine ⟨t, ht, by rw [htime]; exact hle, State.pixel_of_array hpix, State.pixel_of_array_ne hpix fun id hid => ?_, hl⟩
  rw [hget id hid, he]
  rfl

/-- A fire that completes the depth where no path serves the pixel, or the cluster settles. -/
theorem State.exec_spadFire_unserved (s : State) (ch : ChanNo) (spad : Fin 9) (x : Stamp) (code : Fin 65) (hr : s.ready)
    (hg : s.gateSees ch.val) (hx : (s.pixel ch.val).activeUntil ≤ x)
    (hd : (s.pixel ch.val).depth ≤ ((s.pixel ch.val).firesAt x).length + 1)
    (hs : s.servingPath ch.val = none ∨ (s.cluster (ch.val / 16)).settling = true) :
    ∃ t, exec (.spadFire ch spad x code) s = .next t ∧ t.pixel ch.val = (s.pixel ch.val).passing x ∧
      State.Logged { s.begin with time := t.time, array := { s.array with pixels := t.array.pixels } } t [] := by
  obtain ⟨tm, hrun, -⟩ := s.begin.runToStamp_time x
  have he : s.begin.afterFire ch.val x code.val = { s.begin.setPixel ch.val ((s.pixel ch.val).passing x) with time := tm } :=
    State.afterFire_of_none (by rw [hrun]; exact State.spadFire_unserved _ _ _ _ hg hx hd hs)
  obtain ⟨t, ht, -, hpix, -, hl⟩ := s.awake_pixel (fun (u : State) => u.afterFire ch.val x code.val) ch.val _ tm [] hr
    (by rw [he]; exact State.Logged.refl _ _)
  exact ⟨t, ht, State.pixel_of_array hpix, hl⟩

/-- An edge that passes the gate in the blind interval of the path. -/
theorem State.exec_spadFire_blind (s : State) (ch : ChanNo) (spad : Fin 9) (x : Stamp) (code : Fin 65) (p : Nat) (hr : s.ready)
    (hg : s.gateSees ch.val) (hx : (s.pixel ch.val).activeUntil ≤ x)
    (hd : (s.pixel ch.val).depth ≤ ((s.pixel ch.val).firesAt x).length + 1) (hs : s.servingPath ch.val = some p)
    (hc : (s.cluster (ch.val / 16)).settling = false) (hi : (s.meas p).ignoreBefore ≤ x) (hfrom : (s.meas p).blindFrom ≤ x)
    (hto : x < (s.meas p).blindTo) :
    ∃ t, exec (.spadFire ch spad x code) s = .next t ∧ t.pixel ch.val = (s.pixel ch.val).passing x ∧
      t.shows (Obj.chBlindEdgeCount ch.val) (s.u (Obj.chBlindEdgeCount ch.val) + 1) ∧
      State.Logged { s.begin with time := t.time, array := { s.array with pixels := t.array.pixels } } t
        [Obj.chBlindEdgeCount ch.val] := by
  obtain ⟨tm, hrun, -⟩ := s.begin.runToStamp_time x
  have he : s.begin.afterFire ch.val x code.val =
      State.bump { s.begin.setPixel ch.val ((s.pixel ch.val).passing x) with time := tm } (Obj.chBlindEdgeCount ch.val) 1 := by
    refine State.afterFire_of_none ?_
    rw [hrun, State.spadFire_served { s.begin with time := tm } ch.val p x code.val hg hx hd hs hc]
    exact State.tdcEdge_blind _ _ _ _ _ hi hfrom hto
  obtain ⟨t, ht, -, hpix, hget, hl⟩ := s.awake_pixel (fun (u : State) => u.afterFire ch.val x code.val) ch.val _ tm
    [Obj.chBlindEdgeCount ch.val] hr (by rw [he]; exact State.logged_bump _ _ _ _ (Or.inr (by simp)))
  have hshows := State.shows_bump { s.begin.setPixel ch.val ((s.pixel ch.val).passing x) with time := tm }
    (Obj.chBlindEdgeCount ch.val) 1 (by decide)
  refine ⟨t, ht, State.pixel_of_array hpix, State.shows_of_get hshows ?_, hl⟩
  rw [hget (Obj.chBlindEdgeCount ch.val) (chanObject_not_mem_logObjects ch.val 13 (by decide)), he]

/-- An edge that passes the gate and is converted. -/
theorem State.exec_spadFire_converts (s : State) (ch : ChanNo) (spad : Fin 9) (x : Stamp) (code : Fin 65) (p : Nat) (hr : s.ready)
    (hg : s.gateSees ch.val) (hx : (s.pixel ch.val).activeUntil ≤ x)
    (hd : (s.pixel ch.val).depth ≤ ((s.pixel ch.val).firesAt x).length + 1) (hs : s.servingPath ch.val = some p)
    (hc : (s.cluster (ch.val / 16)).settling = false) (hi : (s.meas p).ignoreBefore ≤ x)
    (hb : ¬ ((s.meas p).blindFrom ≤ x ∧ x < (s.meas p).blindTo))
    (he : (s.bank (ch.val / 64)).fired.any (fun j => (s.meas p).enabled j x) = true) :
    ∃ t, exec (.spadFire ch spad x code) s = .next t ∧
      t.pixel ch.val = { (s.pixel ch.val).passing x with edges := (s.pixel ch.val).edges + 1 } ∧
      (t.meas p).convs = (s.meas p).convs ++ [s.conversion ch.val p x code.val] ∧
      (t.meas p).blindFrom = (s.conversion ch.val p x code.val).t ∧ t.pending = s.pending ∧ t.dev = s.dev ∧ t.fire = s.fire := by
  obtain ⟨tm, hrun, -⟩ := s.begin.runToStamp_time x
  obtain ⟨m, hconvs, hblind, hedge⟩ := State.tdcEdge_converts
    (State.setPixel { s.begin with time := tm } ch.val ((s.pixel ch.val).passing x)) ch.val p x code.val hi hb he
  have hfires : (s.begin.runToStamp x).spadFire ch.val x code.val =
      (State.setPixel { s.begin with time := tm } ch.val ((s.pixel ch.val).passing x)).tdcEdge ch.val p x code.val := by
    rw [hrun]
    exact State.spadFire_served _ _ _ _ _ hg hx hd hs hc
  have heff := s.begin.afterFire_devFireArray ch.val x code.val
  rw [hfires, hedge, State.pixel_setPixel] at heff
  obtain ⟨t, ht, hl⟩ := s.awake_full (fun (u : State) => u.afterFire ch.val x code.val) hr (State.afterFire_core _ _ _ _)
  simp only [State.devFireArray, Prod.mk.injEq] at heff
  obtain ⟨hdev, hfire, harr⟩ := heff
  have hpix : t.array.pixels = (s.begin.afterFire ch.val x code.val).array.pixels := (congrArg ArrayState.pixels hl.array_eq).trans rfl
  have hmeas : t.array.meas = (s.begin.afterFire ch.val x code.val).array.meas := (congrArg ArrayState.meas hl.array_eq).trans rfl
  have hpath : t.meas p = m := by
    unfold State.meas
    rw [hmeas, harr]
    exact tabGet_put_self _ _ _ _
  refine ⟨t, ht, ?_, by rw [hpath]; exact hconvs, by rw [hpath]; exact hblind, (congrArg State.pending hl.rest).trans rfl,
    (congrArg State.dev hl.rest).trans hdev, (congrArg State.fire hl.rest).trans hfire⟩
  unfold State.pixel
  rw [hpix, harr]
  exact tabGet_put_self _ _ _ _

/-! ### SHUTTER_OPEN, SHUTTER_CLOSE and HANDOVER_SETTLE_END (R83, R99) -/

theorem State.shutterOpen_of_next (s : State) (p slot : Nat) (j : Shot)
    (hj : (s.bank (regionOf p)).fired.find? (fun k => k.slot == slot && !(s.meas p).openSlots.contains k.mark &&
      decide (s.nowStamp ≤ ((s.meas p).shutter k).2)) = some j) :
    s.shutterOpen p slot = (s.runToStamp ((s.meas p).shutter j).1).setMeas p
      { s.meas p with openSlots := (s.meas p).openSlots ++ [j.mark] } := by
  unfold State.shutterOpen
  dsimp only
  rw [hj]

theorem State.shutterClose_of_open (s : State) (p slot k : Nat)
    (hk : (s.meas p).openSlots.find? (fun k => k % 256 == slot) = some k) :
    ∃ tm : TimeState, s.shutterClose p slot =
      { s.setMeas p { s.meas p with openSlots := (s.meas p).openSlots.filter (fun x => x != k) } with time := tm } := by
  unfold State.shutterClose
  dsimp only
  rw [hk]
  dsimp only
  split
  · rename_i j _
    obtain ⟨tm, hrun, -⟩ := s.runToStamp_time ((s.meas p).shutter j).2
    exact ⟨tm, by rw [hrun]; rfl⟩
  · exact ⟨s.time, rfl⟩

theorem State.settleEnd_of_settling (s : State) (k : Nat) (hk : (s.cluster k).settling = true) :
    s.settleEnd k = (s.runToStamp ((s.cluster k).settleFrom + 4800)).setCluster k { s.cluster k with settling := false } := by
  unfold State.settleEnd
  dsimp only
  rw [if_pos hk]

/-- SHUTTER_OPEN of a shot whose Shutter is the next to open under the slot number. -/
theorem State.exec_shutterOpen (s : State) (p : PathNo) (slot : Fin 256) (j : Shot) (hr : s.ready)
    (hj : (s.bank (regionOf p.val)).fired.find? (fun k => k.slot == slot.val && !(s.meas p.val).openSlots.contains k.mark &&
      decide (s.nowStamp ≤ ((s.meas p.val).shutter k).2)) = some j) :
    ∃ t, exec (.shutterOpen p slot) s = .next t ∧ t.time.ticks ≤ max s.time.ticks (((s.meas p.val).shutter j).1 / 320) ∧
      t.meas p.val = { s.meas p.val with openSlots := (s.meas p.val).openSlots ++ [j.mark] } ∧
      State.Logged { s.begin with time := t.time, array := { s.array with meas := t.array.meas } } t [] := by
  obtain ⟨tm, hrun, hle⟩ := s.begin.runToStamp_time ((s.meas p.val).shutter j).1
  have hopen := s.begin.shutterOpen_of_next p.val slot.val j hj
  obtain ⟨t, ht, htime, hmeas, hl⟩ := s.awake_meas (fun (u : State) => u.shutterOpen p.val slot.val) p.val _ tm hr
    (hopen.trans (congrArg (fun u : State => u.setMeas p.val _) hrun))
  exact ⟨t, ht, by rw [htime]; exact hle, hmeas, hl⟩

/-- SHUTTER_CLOSE of the oldest open shot under the slot number. -/
theorem State.exec_shutterClose (s : State) (p : PathNo) (slot : Fin 256) (k : Nat) (hr : s.ready)
    (hk : (s.meas p.val).openSlots.find? (fun k => k % 256 == slot.val) = some k) :
    ∃ t, exec (.shutterClose p slot) s = .next t ∧
      t.meas p.val = { s.meas p.val with openSlots := (s.meas p.val).openSlots.filter (fun x => x != k) } ∧
      State.Logged { s.begin with time := t.time, array := { s.array with meas := t.array.meas } } t [] := by
  obtain ⟨tm, hclose⟩ := s.begin.shutterClose_of_open p.val slot.val k hk
  obtain ⟨t, ht, -, hmeas, hl⟩ := s.awake_meas (fun (u : State) => u.shutterClose p.val slot.val) p.val _ tm hr hclose
  exact ⟨t, ht, hmeas, hl⟩

/-- HANDOVER_SETTLE_END of a cluster that settles. -/
theorem State.exec_handoverSettleEnd (s : State) (k : ClusterNo) (hr : s.ready) (hk : (s.cluster k.val).settling = true) :
    ∃ t, exec (.handoverSettleEnd k) s = .next t ∧ t.cluster k.val = { s.cluster k.val with settling := false } ∧
      t.time.ticks ≤ max s.time.ticks (((s.cluster k.val).settleFrom + 4800) / 320) ∧
      (∀ c, c ≠ k.val → t.cluster c = s.cluster c) ∧
      State.Logged { s.begin with time := t.time, array := { s.array with clusters := t.array.clusters } } t [] := by
  obtain ⟨tm, hrun, hle⟩ := s.begin.runToStamp_time ((s.cluster k.val).settleFrom + 4800)
  have hend := (s.begin.settleEnd_of_settling k.val hk).trans
    (congrArg (fun u : State => u.setCluster k.val { s.cluster k.val with settling := false }) hrun)
  obtain ⟨t, ht, htime, harr, -, hl⟩ := s.awake_timeArray (fun (u : State) => u.settleEnd k.val) tm
    (s.setCluster k.val { s.cluster k.val with settling := false }).array [] hr (by rw [hend]; exact State.Logged.refl _ _)
  have hcluster := State.cluster_of_array (s := s.setCluster k.val { s.cluster k.val with settling := false })
    ((congrArg ArrayState.clusters harr).trans rfl)
  refine ⟨t, ht, ?_, by rw [htime]; exact hle, fun c hc => ?_, hl _ (by rw [harr]; rfl)⟩
  · rw [hcluster, State.cluster_setCluster]
  · rw [hcluster, State.cluster_setCluster_ne _ _ _ _ hc]

/-- Settles O25, a case of the gate and of the Shutter at a time. -/
theorem gateAndShutter : Obligations.GateAndShutter := by
  unfold Obligations.GateAndShutter
  intro s hr
  refine ⟨fun ch spad x code hw hp h3 => ⟨fun hx => ?_, fun hx hd => ?_, fun hx hd => ⟨fun hs => ?_, fun p hs hc hi =>
    ⟨fun hfrom hto => ?_, fun hb he => ?_⟩⟩⟩, fun p slot j hj => s.exec_shutterOpen p slot j hr hj,
    fun p slot k hk => s.exec_shutterClose p slot k hr hk, fun k hk => s.exec_handoverSettleEnd k hr hk⟩
  · exact s.exec_spadFire_active ch spad x code hr ⟨hw, hp, h3⟩ hx
  · exact s.exec_spadFire_joins ch spad x code hr ⟨hw, hp, h3⟩ hx hd
  · exact s.exec_spadFire_unserved ch spad x code hr ⟨hw, hp, h3⟩ hx hd hs
  · exact s.exec_spadFire_blind ch spad x code p hr ⟨hw, hp, h3⟩ hx hd hs hc hi hfrom hto
  · exact s.exec_spadFire_converts ch spad x code p hr ⟨hw, hp, h3⟩ hx hd hs hc hi hb he

end Sys2Proof.Machine

namespace Sys2Proof.Machine

/-! # Slots, FIRE edges, starts and the governor's windows (O28) -/

/-! ### Commands that write time, the firing state and the notes -/

/-- A changed firing state stands in the expected state too. -/
theorem State.Logged.withFire {e t : State} {ids : List Nat} (h : e.Logged t ids) (fi : FireState) :
    State.Logged { e with fire := fi } { t with fire := fi } ids :=
  ⟨congrArg (fun (x : State) => { x with fire := fi }) h.rest, h.objects, h.stored, h.calm, h.entries⟩

theorem State.bank_of_fire {s t : State} (h : t.fire = s.fire) (b : Nat) : t.bank b = s.bank b := by
  unfold State.bank
  rw [h]

/-- A command whose effect is on time, the firing state, the notes and the objects `ids`: what it ends with, and that it leaves all else. -/
theorem State.awake_timeFire (s : State) (f : State → State) (tm : TimeState) (fi : FireState) (ns : List IntervalNote) (ids : List Nat)
    (hr : s.ready) (h : State.Logged { s.begin with time := tm, fire := fi, array := { s.array with notes := ns } } (f s.begin) ids) :
    ∃ t, s.awake f = .next t ∧ t.time = tm ∧ t.fire = fi ∧ t.array.notes = ns ∧
      (∀ id, id ∉ logObjects → t.get id = (f s.begin).get id) ∧
      State.Logged { s.begin with time := tm, fire := fi, array := { s.array with notes := ns } } t ids := by
  obtain ⟨t, ht, hl, hget, -, -⟩ := s.awake_all f { s.begin with time := tm, fire := fi, array := { s.array with notes := ns } } ids hr hr.2 rfl h
  exact ⟨t, ht, (congrArg State.time hl.rest).trans rfl, (congrArg State.fire hl.rest).trans rfl,
    (congrArg (fun (u : State) => u.array.notes) hl.rest).trans rfl, hget, hl⟩

/-- A command whose effect is on time, the record of one bank and the objects `ids`. -/
theorem State.awake_bank (s : State) (f : State → State) (b : Nat) (x : Bank) (tm : TimeState) (ids : List Nat) (hr : s.ready)
    (h : State.Logged { s.begin.setBank b x with time := tm } (f s.begin) ids) :
    ∃ t, s.awake f = .next t ∧ t.time = tm ∧ t.bank b = x ∧ (∀ id, id ∉ logObjects → t.get id = (f s.begin).get id) ∧
      State.Logged { s.begin with time := tm, fire := { s.fire with banks := t.fire.banks } } t ids := by
  obtain ⟨t, ht, htime, hfire, -, hget, hl⟩ := s.awake_timeFire f tm (s.setBank b x).fire s.array.notes ids hr h
  refine ⟨t, ht, htime, (State.bank_of_fire hfire b).trans (State.bank_setBank _ _ _), hget, ?_⟩
  rw [hfire]
  exact hl

/-! ### The next slot of a bank (R113) -/

/-- The generator's state of the next slot: it advances for every slot after slot 0. -/
def Bank.nextGen (x : Bank) : Nat := if x.nextSlot = 0 then x.x else genNext x.x

/-- The edge of the next slot, in 50 ps, before the gap to other banks' edges. -/
def Bank.edgeOfNext (x : Bank) : Nat := if x.nextSlot = 0 then x.nextEdge else x.nextEdge + genSpacing x.nextGen x.base x.dither

/-- The next slot of a bank has its turn in SCAN. -/
def State.slotDue (s : State) (b : Nat) : Prop :=
  s.dev.state = .scan ∧ (s.bank b).nextSlot < (s.bank b).shots ∧ (s.bank b).dropped = false

/-- The next slot is a muted one (R114). -/
def State.slotMuted (s : State) (b : Nat) : Prop :=
  s.u Obj.mantisMutePeriod ≠ 0 ∧ (s.bank b).nextSlot % s.u Obj.mantisMutePeriod = s.u Obj.mantisMutePeriod - 1

/-- The bank after its next slot has been queued with its edge at `f`. -/
def Bank.queued (x : Bank) (f : Nat) (muted : Bool) : Bank :=
  { x with x := x.nextGen, nextSlot := x.nextSlot + 1, nextEdge := f, queue := x.queue ++ [⟨x.nextSlot, f, muted, x.width⟩] }

/-- The bank after its next slot has been inhibited by the governor. -/
def Bank.slotInhibited (x : Bank) : Bank :=
  { x with x := x.nextGen, nextSlot := x.nextSlot + 1, nextEdge := x.edgeOfNext, inhibitedSlots := x.inhibitedSlots + 1 }

/-- The bank after the rest of its column's slots have been dropped. -/
def Bank.overrun (x : Bank) : Bank := { x with x := x.nextGen, nextSlot := x.shots, dropped := true }

/-- The notes with the bank among those that the governor has inhibited in the present interval. -/
def State.notesInhibited (s : State) (b : Nat) : List IntervalNote :=
  s.array.notes.map (fun n =>
    if n.interval = s.scan.interval ∧ !n.govBanks.contains b then { n with govBanks := n.govBanks ++ [b] } else n)

theorem State.slotEnqueue_of_none (s : State) (b : Nat)
    (h : ¬ (s.dev.state = .scan ∨ s.dev.state = .standby) ∨ (s.bank b).shots ≤ (s.bank b).nextSlot ∨ (s.bank b).dropped = true) :
    s.slotEnqueue b = s := by
  rw [not_or] at h
  unfold State.slotEnqueue
  exact if_pos h

theorem State.slotDue.not_skipped {s : State} {b : Nat} (h : s.slotDue b) :
    ¬ ((s.dev.state ≠ .scan ∧ s.dev.state ≠ .standby) ∨ (s.bank b).nextSlot ≥ (s.bank b).shots ∨ (s.bank b).dropped = true) := by
  obtain ⟨hscan, hleft, hdropped⟩ := h
  simp [hscan, hdropped, hleft]

/-- An edge at or after the column's end drops the slot and the rest (R151). -/
theorem State.slotEnqueue_overrun (s : State) (b : Nat) (h : s.slotDue b) (hend : s.scan.columnEnd ≤ 4 * (s.bank b).edgeOfNext) :
    s.slotEnqueue b =
      (s.setBank b (s.bank b).overrun).bump Obj.shotOverrunCount ((s.bank b).shots - (s.bank b).nextSlot) := by
  have hlate : decide (s.dev.state = .scan) = true ∧ (s.bank b).edgeOfNext * 4 ≥ s.scan.columnEnd :=
    ⟨decide_eq_true h.1, Nat.mul_comm 4 _ ▸ hend⟩
  unfold State.slotEnqueue
  dsimp only
  rw [if_neg h.not_skipped]
  exact if_pos hlate

/-- An edge before the column's end leaves the slot its place in the column. -/
theorem State.slot_not_late (s : State) (b : Nat) (hend : 4 * (s.bank b).edgeOfNext < s.scan.columnEnd) :
    ¬ (decide (s.dev.state = .scan) = true ∧ (s.bank b).edgeOfNext * 4 ≥ s.scan.columnEnd) := by
  rintro ⟨-, hlate⟩
  omega

/-- With MantisMutePeriod 0 no slot is muted. -/
theorem State.slot_not_muted (s : State) (b : Nat) (hp : s.u Obj.mantisMutePeriod = 0) :
    ¬ (decide (s.u Obj.mantisMutePeriod ≠ 0) &&
      decide ((s.bank b).nextSlot % s.u Obj.mantisMutePeriod = s.u Obj.mantisMutePeriod - 1)) = true := by
  simp [hp]

theorem State.slotEnqueue_muted (s : State) (b : Nat) (h : s.slotDue b) (hend : 4 * (s.bank b).edgeOfNext < s.scan.columnEnd)
    (hm : s.slotMuted b) : s.slotEnqueue b = s.setBank b ((s.bank b).queued (s.bank b).edgeOfNext true) := by
  have hmuted : (decide (s.u Obj.mantisMutePeriod ≠ 0) &&
      decide ((s.bank b).nextSlot % s.u Obj.mantisMutePeriod = s.u Obj.mantisMutePeriod - 1)) = true := by
    rw [decide_eq_true hm.1, decide_eq_true hm.2, Bool.and_self]
  unfold State.slotEnqueue
  dsimp only
  rw [if_neg h.not_skipped]
  exact (if_neg (s.slot_not_late b hend)).trans (if_pos hmuted)

/-- A slot that is not muted and that the governor does not pass is not placed (R155). -/
theorem State.slotEnqueue_inhibited (s : State) (b : Nat) (h : s.slotDue b) (hend : 4 * (s.bank b).edgeOfNext < s.scan.columnEnd)
    (hp : s.u Obj.mantisMutePeriod = 0) (hg : s.govPasses b (s.bank b).width = false) :
    s.slotEnqueue b = State.setBank { s.bumpWord Obj.govInhibitCount 4 (4 * b) 1 with
      array := { s.array with notes := s.notesInhibited b } } b (s.bank b).slotInhibited := by
  have hrefused : decide (s.dev.state = .scan) = true ∧ (!s.govPasses b (s.bank b).width) = true := by simp [h.1, hg]
  unfold State.slotEnqueue
  dsimp only
  rw [if_neg h.not_skipped]
  exact (if_neg (s.slot_not_late b hend)).trans ((if_neg (s.slot_not_muted b hp)).trans (if_pos hrefused))

/-- With no edge of another bank within the gap, an edge keeps its place (R150). -/
theorem collide_of_free (placed : List (Nat × Nat)) (b gap n f : Nat) (h : ∀ x ∈ placed, x.2 ≠ b → gap ≤ natDist x.1 f) :
    collide placed b gap n f = f := by
  have hnone : placed.filter (fun e => decide (e.2 ≠ b) && decide (natDist e.1 f < gap)) = [] := by
    rw [List.filter_eq_nil_iff]
    intro x hx
    simp only [Bool.and_eq_true, decide_eq_true_eq, not_and]
    exact fun hb => Nat.not_lt.mpr (h x hx hb)
  cases n with
  | zero => rfl
  | succ n =>
    unfold collide
    dsimp only
    rw [hnone]
    rfl

/-- A state with the edge `f` of the bank's slot among those placed. -/
def State.placeEdge (s : State) (f b : Nat) : State :=
  { s with fire := { s.fire with placed := (f, b) :: s.fire.placed.filter (fun e => decide (e.1 + 4096 > f)) } }

/-- A slot that passes the governor, away from other banks' edges, is charged and placed at its edge (R150, R155). -/
theorem State.slotEnqueue_passed (s : State) (b : Nat) (h : s.slotDue b) (hend : 4 * (s.bank b).edgeOfNext < s.scan.columnEnd)
    (hp : s.u Obj.mantisMutePeriod = 0) (hg : s.govPasses b (s.bank b).width = true)
    (hfree : ∀ x ∈ s.fire.placed, x.2 ≠ b → s.u Obj.fireMinGap ≤ natDist x.1 (s.bank b).edgeOfNext) :
    s.slotEnqueue b = ((s.govCharge b (s.doseOf b (s.bank b).width)).setBank b
      ((s.bank b).queued (s.bank b).edgeOfNext false)).placeEdge (s.bank b).edgeOfNext b := by
  have hpassed : ¬ (decide (s.dev.state = .scan) = true ∧ (!s.govPasses b (s.bank b).width) = true) := by simp [hg]
  unfold State.slotEnqueue
  extract_lets _ i _ edge limit own told _ _ _ _ _ f s0 s3 q s4
  have hown : own = true := decide_eq_true h.1
  have hf : f = edge := by
    simp only [f, hown]
    exact collide_of_free s.fire.placed b (s.u Obj.fireMinGap) 16 (s.bank b).edgeOfNext hfree
  have hs0 : s0 = s := by simp [s0, hf, b2n, State.bump]
  have hs3 : s3 = s.govCharge b (s.doseOf b (s.bank b).width) := by
    simp only [s3, hown, if_true, hs0]
    rfl
  have hs4 : s4 = (s.govCharge b (s.doseOf b (s.bank b).width)).setBank b ((s.bank b).queued (s.bank b).edgeOfNext false) := by
    simp only [s4, q, hs3, hf]
    rfl
  have hnot_owner : ¬ ((!own) = true ∧ (told == some (i, none)) = true) := by simp [hown]
  have hearly : ¬ (own = true ∧ f * 4 ≥ limit) := by
    rw [hf]
    exact s.slot_not_late b hend
  rw [if_neg h.not_skipped]
  refine (if_neg (s.slot_not_late b hend)).trans ((if_neg (s.slot_not_muted b hp)).trans ((if_neg hpassed).trans
    ((if_neg hnot_owner).trans ((if_neg hearly).trans ?_))))
  show s4.placeEdge f b = _
  rw [hs4, hf]
  rfl

/-! ### A charge in the governor's windows (R154, R156) -/

theorem State.fillSeen_fire (s : State) (w b acc : Nat) : (s.fillSeen w b acc).fire = s.fire := by
  unfold State.fillSeen
  extract_lets _ _
  split <;> rfl

theorem State.logged_fillSeen (s : State) (w b acc : Nat) : s.Logged (s.fillSeen w b acc) [Obj.govFill] := by
  unfold State.fillSeen
  extract_lets _ _
  split
  · exact s.logged_put _ _ _ (Or.inr (by simp))
  · exact State.Logged.refl _ _

/-- The windows with a dose of a bank charged at the present cell. -/
def State.govCharged (s : State) (b d : Nat) : List GovWindow := s.fire.gov.map (fun w => w.charge (s.fire.cell * 16 + b) d)

theorem State.govCharge_fire (s : State) (b d : Nat) : (s.govCharge b d).fire = { s.fire with gov := s.govCharged b d } :=
  State.foldl_keeps State.fire _ (fun u _ => u.fillSeen_fire _ _ _) _ _

theorem State.logged_govCharge (s : State) (b d : Nat) :
    State.Logged { s with fire := { s.fire with gov := s.govCharged b d } } (s.govCharge b d) [Obj.govFill] :=
  State.logged_foldl _ _ (fun u _ => u.logged_fillSeen _ _ _) _ _

/-! ### SLOT_ENQUEUE -/

theorem State.exec_slotEnqueue_none (s : State) (b : RegionNo) (hr : s.ready) (h : ¬ (s.dev.state = .scan ∨ s.dev.state = .standby) ∨
      (s.bank b.val).shots ≤ (s.bank b.val).nextSlot ∨ (s.bank b.val).dropped = true) :
    ∃ t, exec (.slotEnqueue b) s = .next t ∧ s.begin.Logged t [] :=
  s.awake_ends (fun (u : State) => u.slotEnqueue b.val) s.begin [] hr hr.2 rfl
    (by rw [s.begin.slotEnqueue_of_none b.val h]; exact State.Logged.refl _ _)

theorem State.exec_slotEnqueue_overrun (s : State) (b : RegionNo) (hr : s.ready) (h : s.slotDue b.val)
    (hend : s.scan.columnEnd ≤ 4 * (s.bank b.val).edgeOfNext) :
    ∃ t, exec (.slotEnqueue b) s = .next t ∧ t.bank b.val = (s.bank b.val).overrun ∧
      t.shows Obj.shotOverrunCount (s.u Obj.shotOverrunCount + ((s.bank b.val).shots - (s.bank b.val).nextSlot)) ∧
      State.Logged { s.begin with fire := { s.fire with banks := t.fire.banks } } t [Obj.shotOverrunCount] := by
  have he := s.begin.slotEnqueue_overrun b.val h hend
  have hleft : (s.bank b.val).shots - (s.bank b.val).nextSlot ≠ 0 := by
    obtain ⟨-, hlt, -⟩ := h
    omega
  obtain ⟨t, ht, -, hbank, hget, hl⟩ := s.awake_bank (fun (u : State) => u.slotEnqueue b.val) b.val (s.bank b.val).overrun s.time
    [Obj.shotOverrunCount] hr (by rw [he]; exact State.logged_bump _ _ _ _ (Or.inr (by simp)))
  refine ⟨t, ht, hbank, State.shows_of_get (State.shows_bump (s.begin.setBank b.val (s.bank b.val).overrun) _ _ hleft) ?_, hl⟩
  rw [hget _ (by decide), he]
  rfl

theorem State.exec_slotEnqueue_muted (s : State) (b : RegionNo) (hr : s.ready) (h : s.slotDue b.val)
    (hend : 4 * (s.bank b.val).edgeOfNext < s.scan.columnEnd) (hm : s.slotMuted b.val) :
    ∃ t, exec (.slotEnqueue b) s = .next t ∧ t.bank b.val = (s.bank b.val).queued (s.bank b.val).edgeOfNext true ∧
      State.Logged { s.begin with fire := { s.fire with banks := t.fire.banks } } t [] := by
  obtain ⟨t, ht, -, hbank, -, hl⟩ := s.awake_bank (fun (u : State) => u.slotEnqueue b.val) b.val
    ((s.bank b.val).queued (s.bank b.val).edgeOfNext true) s.time [] hr
    (by rw [s.begin.slotEnqueue_muted b.val h hend hm]; exact State.Logged.refl _ _)
  exact ⟨t, ht, hbank, hl⟩

theorem State.exec_slotEnqueue_inhibited (s : State) (b : RegionNo) (hr : s.ready) (h : s.slotDue b.val)
    (hend : 4 * (s.bank b.val).edgeOfNext < s.scan.columnEnd) (hp : s.u Obj.mantisMutePeriod = 0)
    (hg : s.govPasses b.val (s.bank b.val).width = false) :
    ∃ t, exec (.slotEnqueue b) s = .next t ∧ t.bank b.val = (s.bank b.val).slotInhibited ∧
      t.get Obj.govInhibitCount = patch (4 * b.val) (leBytes 4 (s.word Obj.govInhibitCount 4 (4 * b.val) + 1)) (s.get Obj.govInhibitCount) ∧
      State.Logged { s.begin with fire := { s.fire with banks := t.fire.banks }, array := { s.array with notes := t.array.notes } } t
        [Obj.govInhibitCount] := by
  have he := s.begin.slotEnqueue_inhibited b.val h hend hp hg
  obtain ⟨t, ht, -, hfire, hnotes, hget, hl⟩ := s.awake_timeFire (fun (u : State) => u.slotEnqueue b.val) s.time
    (s.setBank b.val (s.bank b.val).slotInhibited).fire (s.notesInhibited b.val) [Obj.govInhibitCount] hr
    (by rw [he]; exact State.logged_put _ _ _ _ (Or.inr (by simp)))
  refine ⟨t, ht, (State.bank_of_fire hfire _).trans (State.bank_setBank _ _ _), ?_, ?_⟩
  · rw [hget _ (by decide), he]
    exact State.get_put_self _ _ _
  · rw [hfire, hnotes]
    exact hl

theorem State.exec_slotEnqueue_passed (s : State) (b : RegionNo) (hr : s.ready) (h : s.slotDue b.val)
    (hend : 4 * (s.bank b.val).edgeOfNext < s.scan.columnEnd) (hp : s.u Obj.mantisMutePeriod = 0)
    (hg : s.govPasses b.val (s.bank b.val).width = true)
    (hfree : ∀ x ∈ s.fire.placed, x.2 ≠ b.val → s.u Obj.fireMinGap ≤ natDist x.1 (s.bank b.val).edgeOfNext) :
    ∃ t, exec (.slotEnqueue b) s = .next t ∧ t.bank b.val = (s.bank b.val).queued (s.bank b.val).edgeOfNext false ∧
      t.fire.gov = s.govCharged b.val (s.doseOf b.val (s.bank b.val).width) ∧ ((s.bank b.val).edgeOfNext, b.val) ∈ t.fire.placed ∧
      State.Logged { s.begin with fire := t.fire } t [Obj.govFill] := by
  have he := s.begin.slotEnqueue_passed b.val h hend hp hg hfree
  have hcharge := s.begin.govCharge_fire b.val (s.doseOf b.val (s.bank b.val).width)
  obtain ⟨t, ht, -, hfire, -, -, hl⟩ := s.awake_timeFire (fun (u : State) => u.slotEnqueue b.val) s.time (s.begin.slotEnqueue b.val).fire
    s.array.notes [Obj.govFill] hr (by rw [he]; exact (s.begin.logged_govCharge _ _).withFire _)
  refine ⟨t, ht, (State.bank_of_fire hfire _).trans ?_, ?_, ?_, ?_⟩
  · rw [he]
    exact State.bank_setBank _ _ _
  · rw [hfire, he]
    exact congrArg FireState.gov hcharge
  · rw [hfire, he]
    exact List.mem_cons_self
  · rw [hfire]
    exact hl

/-! ### FIRE_EDGE (R142, R152, R158) -/

/-- A slot counts as fired: muted, or in STANDBY, or in SCAN with firing released and no cause set. -/
def State.slotCounts (s : State) (q : EnqSlot) : Bool :=
  q.muted || s.dev.state == .standby || (s.dev.state == .scan && s.fire.inhibit == 0 && s.fire.released)

/-- A slot drives its output: one that counts as fired in SCAN and is not muted. -/
def State.slotDrives (s : State) (q : EnqSlot) : Bool := s.slotCounts q && !q.muted && s.dev.state == .scan

theorem State.slotCounts_iff (s : State) (q : EnqSlot) : s.slotCounts q = true ↔
    q.muted = true ∨ s.dev.state = .standby ∨ (s.dev.state = .scan ∧ s.fire.inhibit = 0 ∧ s.fire.released = true) := by
  simp [State.slotCounts, or_assoc, and_assoc]

theorem State.slotDrives_iff (s : State) (q : EnqSlot) : s.slotDrives q = true ↔
    q.muted = false ∧ s.dev.state = .scan ∧ s.fire.inhibit = 0 ∧ s.fire.released = true := by
  simp only [State.slotDrives, Bool.and_eq_true, State.slotCounts_iff, Bool.not_eq_true', beq_iff_eq]
  constructor
  · rintro ⟨⟨hm | hb | hs, hn⟩, hscan⟩
    · rw [hn] at hm
      cases hm
    · rw [hb] at hscan
      cases hscan
    · exact ⟨hn, hs⟩
  · rintro ⟨hn, hs⟩
    exact ⟨⟨Or.inr (Or.inr hs), hn⟩, hs.1⟩

/-- The shot that a slot of the bank becomes at its edge, its nominal start at native `ns`. -/
def State.shotOf (s : State) (b : Nat) (q : EnqSlot) (ns : Nat) : Shot :=
  { slot := q.slot, column := s.scan.columnNo, interval := s.scan.interval, fire := q.edge * 4,
    start := if q.muted = true ∨ s.u Obj.startSource = 0 then some (q.edge * 4 + s.startNominal b) else none,
    startNs := ns, muted := q.muted, width := q.width, estimated := decide (s.u Obj.startSource = 0) }

/-- The bank after the oldest slot of its queue has had its edge. -/
def State.edgePassed (s : State) (b : Nat) (q : EnqSlot) (rest : List EnqSlot) (ns : Nat) : Bank :=
  let x := s.bank b
  { x with queue := rest, fired := if s.slotCounts q then x.fired ++ [s.shotOf b q ns] else x.fired,
           pulseEnd := if s.slotDrives q then q.edge * 4 + 80 + 32 * q.width else x.pulseEnd }

theorem State.fireEdge_of_queue (s : State) (b : Nat) (q : EnqSlot) (rest : List EnqSlot) (hq : (s.bank b).queue = q :: rest) :
    ∃ (tm : TimeState) (ns : Nat), s.fireEdge b = { s.setBank b (s.edgePassed b q rest ns) with time := tm } ∧
      tm.ticks ≤ max s.time.ticks (q.edge * 4 / 320) := by
  obtain ⟨tm, hrun, hle⟩ := s.runToStamp_time (q.edge * 4)
  refine ⟨tm, State.nsAt { s with time := tm } (q.edge * 4 + s.startNominal b), ?_, hle⟩
  unfold State.fireEdge
  dsimp only
  rw [hq]
  dsimp only
  rw [hrun]
  rfl

theorem State.exec_fireEdge (s : State) (b : RegionNo) (q : EnqSlot) (rest : List EnqSlot) (hr : s.ready)
    (hq : (s.bank b.val).queue = q :: rest) :
    ∃ t ns, exec (.fireEdge b) s = .next t ∧ t.time.ticks ≤ max s.time.ticks (q.edge * 4 / 320) ∧
      t.bank b.val = s.edgePassed b.val q rest ns ∧
      State.Logged { s.begin with time := t.time, fire := { s.fire with banks := t.fire.banks } } t [] := by
  obtain ⟨tm, ns, he, hle⟩ := s.begin.fireEdge_of_queue b.val q rest hq
  obtain ⟨t, ht, htime, hbank, -, hl⟩ := s.awake_bank (fun (u : State) => u.fireEdge b.val) b.val (s.edgePassed b.val q rest ns) tm [] hr
    (by rw [he]; exact State.Logged.refl _ _)
  exact ⟨t, ns, ht, by rw [htime]; exact hle, hbank, by rw [htime]; exact hl⟩

/-! ### START_WINDOW_EXPIRY (R111) -/

/-- The shots of a bank with the shot `j` given its nominal start. -/
def State.startedNominally (s : State) (b : Nat) (j : Shot) : List Shot :=
  (s.bank b).fired.map (fun k => if k = j then
    { k with start := some (j.fire + s.startNominal b), startNs := s.nsAt (j.fire + s.startNominal b), estimated := true } else k)

theorem State.mem_startedNominally (s : State) (b : Nat) (j : Shot) (hj : j ∈ (s.bank b).fired) :
    ∃ k ∈ s.startedNominally b j, k.slot = j.slot ∧ k.fire = j.fire ∧ k.start = some (j.fire + s.startNominal b) ∧ k.estimated = true :=
  ⟨_, List.mem_map_of_mem hj, by simp⟩

theorem State.startWindowExpiry_of_missing (s : State) (b slot : Nat) (j : Shot)
    (hj : (s.bank b).fired.find? (fun j => j.slot == slot && j.start.isNone) = some j) :
    ∃ tm : TimeState, s.startWindowExpiry b slot = State.bump { s.setBank b
        { s.bank b with fired := State.startedNominally { s with time := tm } b j } with time := tm } Obj.missingStartCount 1 ∧
      tm.ticks ≤ max s.time.ticks ((j.fire + 8 * s.u Obj.startWindowMax) / 320) := by
  obtain ⟨tm, hrun, hle⟩ := s.runToStamp_time (j.fire + 8 * s.u Obj.startWindowMax)
  refine ⟨tm, ?_, hle⟩
  unfold State.startWindowExpiry
  dsimp only
  rw [hj]
  dsimp only
  rw [hrun]
  rfl

theorem State.exec_startWindowExpiry (s : State) (b : RegionNo) (slot : Fin 256) (j : Shot) (hr : s.ready)
    (hj : (s.bank b.val).fired.find? (fun j => j.slot == slot.val && j.start.isNone) = some j) :
    ∃ t, exec (.startWindowExpiry b slot) s = .next t ∧
      t.time.ticks ≤ max s.time.ticks ((j.fire + 8 * s.u Obj.startWindowMax) / 320) ∧
      t.shows Obj.missingStartCount (s.u Obj.missingStartCount + 1) ∧
      (∃ k ∈ (t.bank b.val).fired, k.slot = j.slot ∧ k.fire = j.fire ∧ k.start = some (j.fire + s.startNominal b.val) ∧
        k.estimated = true) ∧
      State.Logged { s.begin with time := t.time, fire := { s.fire with banks := t.fire.banks } } t [Obj.missingStartCount] := by
  obtain ⟨tm, he, hle⟩ := s.begin.startWindowExpiry_of_missing b.val slot.val j hj
  obtain ⟨t, ht, htime, hbank, hget, hl⟩ := s.awake_bank (fun (u : State) => u.startWindowExpiry b.val slot.val) b.val
    { s.bank b.val with fired := State.startedNominally { s.begin with time := tm } b.val j } tm [Obj.missingStartCount] hr
    (by rw [he]; exact State.logged_bump _ _ _ _ (Or.inr (by simp)))
  refine ⟨t, ht, by rw [htime]; exact hle, ?_, ?_, by rw [htime]; exact hl⟩
  · refine State.shows_of_get (State.shows_bump { s.begin.setBank b.val { s.bank b.val with
      fired := State.startedNominally { s.begin with time := tm } b.val j } with time := tm } Obj.missingStartCount 1 (by decide)) ?_
    rw [hget _ (by decide), he]
    rfl
  · rw [hbank]
    exact State.mem_startedNominally { s.begin with time := tm } b.val j (List.mem_of_find?_eq_some hj)

/-! ### GOV_SUBINTERVAL_BOUNDARY (R154) -/

/-- The tick of a window's next sub-interval boundary, counted from the end of BOOT. -/
def State.nextGovBoundary (s : State) (w : Nat) (g : GovWindow) : Nat :=
  s.dev.bootTick + ((g.boundaryAt - s.dev.bootTick) / max 1 (s.govStep w) + 1) * max 1 (s.govStep w)

theorem State.lt_nextGovBoundary (s : State) (w : Nat) (g : GovWindow) (h : s.dev.bootTick ≤ g.boundaryAt) :
    g.boundaryAt < s.nextGovBoundary w g := by
  have hstep : 0 < max 1 (s.govStep w) := by omega
  have hlt := Nat.lt_div_mul_add (a := g.boundaryAt - s.dev.bootTick) hstep
  unfold State.nextGovBoundary
  rw [Nat.add_mul, Nat.one_mul]
  omega

/-- A window after its sub-interval boundary at `due`: the oldest sub-sums are gone. -/
def GovWindow.passed (g : GovWindow) (due : Nat) : GovWindow :=
  { g with subs := [] :: g.subs.take 16, saturated := g.saturated - 1, boundaryAt := due }

theorem State.govBoundary_of_window (s : State) (w : Nat) (g : GovWindow) (hb : s.dev.booted = true) (hg : s.fire.gov[w]? = some g) :
    ∃ tm : TimeState, s.govBoundary w = { s with time := tm, fire := { s.fire with
        gov := setAt s.fire.gov w (g.passed (s.nextGovBoundary w g)) } } ∧ tm.ticks ≤ max s.time.ticks (s.nextGovBoundary w g) := by
  obtain ⟨tm, hrun, -, hle⟩ := s.runTo_time (s.nextGovBoundary w g)
  refine ⟨tm, ?_, hle⟩
  unfold State.govBoundary
  rw [hg]
  dsimp only
  rw [hb, if_neg (by decide)]
  exact congrArg (fun (u : State) => { u with fire := { u.fire with
    gov := setAt u.fire.gov w (g.passed (s.nextGovBoundary w g)) } }) hrun

theorem State.exec_govSubintervalBoundary (s : State) (w : Fin 3) (g : GovWindow) (hr : s.ready) (hb : s.dev.booted = true)
    (hg : s.fire.gov[w.val]? = some g) :
    ∃ t g', exec (.govSubintervalBoundary w) s = .next t ∧ t.fire = { s.fire with gov := setAt s.fire.gov w.val g' } ∧
      g'.subs = [] :: g.subs.take 16 ∧ (s.dev.bootTick ≤ g.boundaryAt → g.boundaryAt < g'.boundaryAt) ∧
      t.time.ticks ≤ max s.time.ticks g'.boundaryAt ∧ State.Logged { s.begin with time := t.time, fire := t.fire } t [] := by
  obtain ⟨tm, he, hle⟩ := s.begin.govBoundary_of_window w.val g hb hg
  obtain ⟨t, ht, htime, hfire, -, -, hl⟩ := s.awake_timeFire (fun (u : State) => u.govBoundary w.val) tm
    { s.fire with gov := setAt s.fire.gov w.val (g.passed (s.nextGovBoundary w.val g)) } s.array.notes [] hr
    (by rw [he]; exact State.Logged.refl _ _)
  exact ⟨t, g.passed (s.nextGovBoundary w.val g), ht, hfire, rfl, s.lt_nextGovBoundary w.val g, by rw [htime]; exact hle,
    by rw [htime, hfire]; exact hl⟩

/-! ### The statement -/

/-- Settles O28, a command at a time and SLOT_ENQUEUE by what becomes of the slot. -/
theorem firingSlots : Obligations.FiringSlots := by
  unfold Obligations.FiringSlots
  intro s hr
  refine ⟨fun b => ⟨fun h => s.exec_slotEnqueue_none b hr h, ?_, ?_, fun slot j hj => s.exec_startWindowExpiry b slot j hr hj⟩,
    fun w g hb hg => s.exec_govSubintervalBoundary w g hr hb hg⟩
  · rintro g e hscan hleft hdropped rfl rfl
    have hdue : s.slotDue b.val := ⟨hscan, hleft, hdropped⟩
    refine ⟨fun hend => s.exec_slotEnqueue_overrun b hr hdue hend, fun hend hp hm => s.exec_slotEnqueue_muted b hr hdue hend ⟨hp, hm⟩,
      fun hend hp => ⟨fun hg => s.exec_slotEnqueue_inhibited b hr hdue hend hp hg, fun hg hfree =>
        s.exec_slotEnqueue_passed b hr hdue hend hp hg hfree⟩⟩
  · intro q rest hq
    obtain ⟨t, ns, ht, hle, hbank, hl⟩ := s.exec_fireEdge b q rest hr hq
    have hcounts := s.slotCounts_iff q
    have hdrives := s.slotDrives_iff q
    rw [Nat.mul_comm 4 q.edge]
    refine ⟨t, ht, hle, ?_⟩
    rw [hbank]
    refine ⟨rfl, fun h => ?_, fun h => ?_, fun hscan hcause hreleased hm => ?_, fun h => ?_, hl⟩
    · exact ⟨s.shotOf b.val q ns, if_pos (hcounts.mpr h), rfl, rfl, rfl, rfl, rfl, rfl, rfl⟩
    · exact if_neg (fun hc => h (hcounts.mp hc))
    · exact if_pos (hdrives.mpr ⟨hm, hscan, hcause, hreleased⟩)
    · exact if_neg (fun hd => h (hdrives.mp hd).2)

end Sys2Proof.Machine

namespace Sys2Proof.Machine

/-! # The charge supply (O24) -/

/-! ### Commands that write time, the firing state and the charge supply -/

/-- A command whose effect is on time, the firing state, the charge supply and the objects `ids`: what it ends with, what it tells, and that it
leaves all else. -/
theorem State.awake_charge (s : State) (f : State → State) (tm : TimeState) (fi : FireState) (c : ChargeState) (ids : List Nat)
    (hr : s.ready) (h : State.Logged { s.begin with time := tm, fire := fi, charge := c } (f s.begin) ids) :
    ∃ t, s.awake f = .next t ∧ t.time = tm ∧ t.fire = fi ∧ t.charge = c ∧ (∀ id, id ∉ logObjects → t.get id = (f s.begin).get id) ∧
      (∀ (u : State) (code source sev data : Nat), u.tells (f s.begin) code source sev data → u.tells t code source sev data) ∧
      State.Logged { s.begin with time := tm, fire := fi, charge := c } t ids := by
  obtain ⟨t, ht, hl, hget, -, hend⟩ := s.awake_all f { s.begin with time := tm, fire := fi, charge := c } ids hr hr.2 rfl h
  refine ⟨t, ht, (congrArg State.time hl.rest).trans rfl, (congrArg State.fire hl.rest).trans rfl,
    (congrArg State.charge hl.rest).trans rfl, hget, fun u _ _ _ _ htold => ?_, hl⟩
  have hqueued : u.tells { f s.begin with pending := s.pending } _ _ _ _ := State.tells_of_ev htold rfl
  exact State.tells_logged hqueued hend

/-! ### CS_LIMIT_CYCLE (R161) -/

theorem State.csCycle_byLimit (s : State) (h : s.charge.switching = true) :
    s.csCycle true = State.bump { s with charge := { s.charge with csRun := s.charge.csRun + 1 } } Obj.csLimitCount 1 := by
  simp [State.csCycle, h]

theorem State.csCycle_byThreshold (s : State) (h : s.charge.switching = true) :
    s.csCycle false = { s with charge := { s.charge with csRun := 0 } } := by
  simp [State.csCycle, h]

theorem State.exec_csLimitCycle_byLimit (s : State) (hr : s.ready) (h : s.charge.switching = true) :
    ∃ t, exec (.csLimitCycle true) s = .next t ∧ t.shows Obj.csLimitCount (s.u Obj.csLimitCount + 1) ∧
      State.Logged { s.begin with charge := { s.charge with csRun := s.charge.csRun + 1 } } t [Obj.csLimitCount] := by
  have he := s.begin.csCycle_byLimit h
  obtain ⟨t, ht, -, -, -, hget, -, hl⟩ := s.awake_charge (fun (u : State) => u.csCycle true) s.time s.fire
    { s.charge with csRun := s.charge.csRun + 1 } [Obj.csLimitCount] hr
    (by rw [he]; exact State.logged_bump _ _ _ _ (Or.inr (by simp)))
  refine ⟨t, ht, State.shows_of_get (State.shows_bump { s.begin with charge := { s.charge with csRun := s.charge.csRun + 1 } }
    Obj.csLimitCount 1 (by decide)) ?_, hl⟩
  rw [hget _ (by decide), he]
  rfl

theorem State.exec_csLimitCycle_byThreshold (s : State) (hr : s.ready) (h : s.charge.switching = true) :
    ∃ t, exec (.csLimitCycle false) s = .next t ∧
      State.Logged { s.begin with charge := { s.charge with csRun := 0 } } t [] :=
  s.awake_ends (fun (u : State) => u.csCycle false) { s.begin with charge := { s.charge with csRun := 0 } } [] hr hr.2 rfl
    (by rw [s.begin.csCycle_byThreshold h]; exact State.Logged.refl _ _)

/-! ### HEADROOM_HOLD (R163) -/

/-- The charge supply after bank `b` has held its headroom: its sample waits with the ChargeMeasured of the instant. -/
def State.chargeHeld (s : State) (b : Nat) : ChargeState := { s.charge with held := s.charge.held ++ [(b, s.u Obj.chargeMeasured)] }

/-- The bank of the column's turn, not sampled yet, holds its headroom on its first fired slot of the column. -/
theorem State.headroomHold_of_turn (s : State) (b : Nat) (j : Shot) (hscan : s.dev.state = .scan) (hturn : s.scan.columnsDone % 16 = b)
    (hnew : (s.bank b).sampled = false)
    (hj : (s.bank b).fired.find? (fun k => decide (k.column = s.scan.columnNo) && !k.muted) = some j) :
    ∃ tm : TimeState, s.headroomHold b =
        { s.setBank b { s.bank b with sampled := true } with time := tm, charge := s.chargeHeld b } ∧
      tm.ticks ≤ max s.time.ticks ((j.fire + 80 + 32 * j.width - 32 * s.u Obj.headroomLead) / 320) := by
  obtain ⟨tm, hrun, hle⟩ := s.runToStamp_time (j.fire + 80 + 32 * j.width - 32 * s.u Obj.headroomLead)
  refine ⟨tm, ?_, hle⟩
  have hdue : ¬ (s.dev.state ≠ .scan ∨ s.scan.columnsDone % 16 ≠ b ∨ (s.bank b).sampled = true) := by simp [hscan, hturn, hnew]
  unfold State.headroomHold
  dsimp only
  rw [hj]
  dsimp only
  rw [if_neg hdue, hrun]
  rfl

theorem State.exec_headroomHold (s : State) (b : RegionNo) (j : Shot) (hr : s.ready) (hscan : s.dev.state = .scan)
    (hturn : s.scan.columnsDone % 16 = b.val) (hnew : (s.bank b.val).sampled = false)
    (hj : (s.bank b.val).fired.find? (fun k => decide (k.column = s.scan.columnNo) && !k.muted) = some j) :
    ∃ t, exec (.headroomHold b) s = .next t ∧ (t.bank b.val).sampled = true ∧ t.charge = s.chargeHeld b.val ∧
      t.time.ticks ≤ max s.time.ticks ((j.fire + 80 + 32 * j.width - 32 * s.u Obj.headroomLead) / 320) ∧
      (∀ c, c ≠ b.val → t.bank c = s.bank c) ∧
      State.Logged { s.begin with fire := t.fire, time := t.time, charge := t.charge } t [] := by
  obtain ⟨tm, he, hle⟩ := s.begin.headroomHold_of_turn b.val j hscan hturn hnew hj
  obtain ⟨t, ht, htime, hfire, hcharge, -, -, hl⟩ := s.awake_charge (fun (u : State) => u.headroomHold b.val) tm
    (s.setBank b.val { s.bank b.val with sampled := true }).fire (s.chargeHeld b.val) [] hr
    (by rw [he]; exact State.Logged.refl _ _)
  refine ⟨t, ht, ?_, hcharge, by rw [htime]; exact hle, fun c hc => ?_, by rw [htime, hfire, hcharge]; exact hl⟩
  · rw [State.bank_of_fire hfire, State.bank_setBank]
  · exact (State.bank_of_fire hfire c).trans (State.bank_setBank_ne _ _ _ _ hc)

/-! ### VCHG_DISCHARGE_TIMEOUT (R162) -/

/-- The state at the discharge timeout, with its warning given and not yet raised. -/
def State.dischargeWarned (s : State) (tm : TimeState) : State := { s with time := tm, charge := { s.charge with warned := true } }

/-- With GDRV low since `t0` and VCHG not discharged, the timeout raises its warning, once. -/
theorem State.dischargeTimeout_warns (s : State) (t0 : Nat) (hlow : s.charge.lowAt = some t0) (hw : s.charge.warned = false)
    (hd : s.b Obj.vchgDischarged = false) :
    ∃ tm : TimeState, s.dischargeTimeout = (s.dischargeWarned tm).raise 0x0308 0xFFFF 2 (s.u Obj.chargeMeasured) ∧
      tm.ticks ≤ max s.time.ticks (t0 + 62500000) := by
  obtain ⟨tm, hrun, -, hle⟩ := s.runTo_time (t0 + msTicks 250)
  have hquiet : ¬ ((State.b { s with time := tm } Obj.vchgDischarged) = true ∨ s.charge.warned = true) := by
    rw [show State.b { s with time := tm } Obj.vchgDischarged = false from hd, hw]
    decide
  refine ⟨tm, ?_, hle⟩
  unfold State.dischargeTimeout
  rw [hlow]
  dsimp only
  rw [hrun]
  exact if_neg hquiet

theorem State.exec_vchgDischargeTimeout (s : State) (t0 : Nat) (hr : s.ready) (hlow : s.charge.lowAt = some t0)
    (hw : s.charge.warned = false) (hd : s.b Obj.vchgDischarged = false) :
    ∃ t, exec .vchgDischargeTimeout s = .next t ∧ t.time.ticks ≤ max s.time.ticks (t0 + 62500000) ∧
      State.tells { s with time := t.time } t 0x0308 0xFFFF 2 (s.u Obj.chargeMeasured) ∧
      State.Logged { s.begin with time := t.time, charge := { s.charge with warned := true } } t [] := by
  obtain ⟨tm, he, hle⟩ := s.begin.dischargeTimeout_warns t0 hlow hw hd
  obtain ⟨t, ht, htime, -, -, -, htells, hl⟩ := s.awake_charge (fun (u : State) => u.dischargeTimeout) tm s.fire
    { s.charge with warned := true } [] hr (by rw [he]; exact State.logged_raise _ _ _ _ _)
  have htold : State.tells { s with time := tm } s.begin.dischargeTimeout 0x0308 0xFFFF 2 (s.u Obj.chargeMeasured) := by
    rw [he]
    exact State.tells_from (State.tells_raise (s.begin.dischargeWarned tm) _ _ _ _) (fun _ _ => rfl) rfl rfl
  rw [← htime] at hle htold hl
  exact ⟨t, ht, hle, htells _ _ _ _ _ htold, hl⟩

/-! ### The statement -/

/-- Settles O24, a command at a time. -/
theorem chargeSupply : Obligations.ChargeSupply := by
  unfold Obligations.ChargeSupply
  intro s hr
  refine ⟨fun hswitching => ⟨?_, ?_⟩, fun b j hscan hturn hnew hj => ?_, fun t0 hlow hw hd => ?_⟩
  · exact s.exec_csLimitCycle_byLimit hr hswitching
  · exact s.exec_csLimitCycle_byThreshold hr hswitching
  · exact s.exec_headroomHold b j hr hscan hturn hnew hj
  · exact s.exec_vchgDischargeTimeout t0 hr hlow hw hd

end Sys2Proof.Machine

namespace Sys2Proof.Machine

/-! # Timing inputs (O32) -/

/-! ### A PPS edge that activates a staged edge counter (R66, R252, R315, R321, R322) -/

/-- A Knock that waits for native time 960 ms. -/
def knockAt960 : PendingKnock :=
  { transport := .can, port := 0, srcAddr := 0, srcPort := 0, group := 0, sequence := 1, activation := 960000000, state := .idle }

/-- In IDLE at native time 950 ms, timing input 2 is the PPS source, with the ideal tap table and an AuxDelay of 0; a Knock is pending, and
the shadow set that it activates gives 100 to the edge counter of that input. -/
def edgeCountStaged : State :=
  let s := ((State.reset.setU (Obj.auxRole 2) 7).setU Obj.timeSource 2).setU Obj.ppsInSource 1
  { s.setAux 2 { AuxInput.rest with taps := .ideal } with
    live := tabPut s.live (Obj.auxDelay 2) [0, 0]
    dev := { s.dev with state := .idle, booted := true }
    time := { s.time with native := 950000000 * 4294967296, running := true }
    grp := { s.grp with pendingKnock := some knockAt960, changed := [Obj.auxEdgeCount 2], shadow := [(Obj.auxEdgeCount 2, leBytes 4 100)] } }

theorem edgeCountStaged_ready : edgeCountStaged.ready := ⟨by decide, rfl⟩

/-- The edge lies 50 ms before a whole second, so the servo steps native time, past the Knock: the Knock applies at once, and EdgeCount
reads what was staged. -/
theorem auxEdge_edgeCountStaged : ∃ t, exec (.auxEdge 2 true 0 0) edgeCountStaged = .next t ∧
    t.get (Obj.auxEdgeCount 2) = leBytes 4 100 := ⟨_, rfl, by decide +kernel⟩

/-- EdgeCount was 0, so one more does not read 100. -/
theorem edgeCountStaged_oneMore :
    leBytes (objSize (Obj.auxEdgeCount 2)) (edgeCountStaged.u (Obj.auxEdgeCount 2) + 1) ≠ leBytes 4 100 := by decide +kernel

/-- Refutes O32: a PPS edge that is taken can step native time past a pending Knock, and the Knock's activation then writes whatever the
shadow set names. The statement bars no object from the set, the input's own EdgeCount among them, which no STAGE admits; with it staged, the
count of the edge is overwritten. -/
theorem not_timingInputs : ¬ Obligations.TimingInputs := by
  unfold Obligations.TimingInputs
  intro h
  have hslope : slopeTakes (edgeCountStaged.u (Obj.auxSlope 2)) true = true := by decide +kernel
  obtain ⟨t, ht, hstaged⟩ := auxEdge_edgeCountStaged
  obtain ⟨hedges, -⟩ := h edgeCountStaged edgeCountStaged_ready
  obtain ⟨-, htaken⟩ := hedges 2 true 0 0 (by decide)
  obtain ⟨t', ht', hcounted, -⟩ := htaken _ rfl hslope rfl
  obtain rfl : t' = t := Host.Outcome.next.inj (ht'.symm.trans ht)
  exact edgeCountStaged_oneMore (hcounted.symm.trans hstaged)

end Sys2Proof.Machine

namespace Sys2Proof.Machine

/-! # Calibration requests (O34) -/

/-! ### Changes of the due regions alone -/

/-- `t` is `s` but for the regions that are due, the channels whose deferred calibration waits with them, and the log. -/
def State.DueOnly (s t : State) : Prop := State.Logged { s with cal := { s.cal with gap := t.cal.gap } } t [Obj.regionDue]

theorem State.Logged.withGap {e t : State} {ids : List Nat} (h : e.Logged t ids) (g : List Nat) :
    State.Logged { e with cal := { e.cal with gap := g } } { t with cal := { t.cal with gap := g } } ids :=
  ⟨congrArg (fun (x : State) => { x with cal := { x.cal with gap := g } }) h.rest, h.objects, h.stored, h.calm, h.entries⟩

theorem State.DueOnly.refl (s : State) : s.DueOnly s := State.Logged.refl _ _

theorem State.DueOnly.trans {s t u : State} (h1 : s.DueOnly t) (h2 : t.DueOnly u) : s.DueOnly u :=
  (State.Logged.withGap h1 u.cal.gap).trans h2 (fun _ h => h) (fun _ h => h)

theorem State.DueOnly.regionRunning {s t : State} (h : s.DueOnly t) (r : Nat) : t.regionRunning r = s.regionRunning r :=
  congrArg (fun v => bitOf v r) (State.Logged.u_eq h Obj.regionRunning (by decide) (by decide))

/-! ### A region becomes due (R265, R274) -/

theorem State.makeDue_of_due (s : State) (r : Nat) (hrun : s.regionRunning r = false) (hdue : s.regionDueBit r = true) :
    s.makeDue r = s := by
  simp [State.makeDue, hrun, hdue]

theorem State.makeDue_of_not_due (s : State) (r : Nat) (hrun : s.regionRunning r = false) (hdue : s.regionDueBit r = false) :
    s.makeDue r = ({ s with cal := { s.cal with gap := (s.makeDue r).cal.gap } } : State).setU Obj.regionDue
      (setBit (s.u Obj.regionDue) r true) := by
  have he : ∃ g, s.makeDue r =
      ({ s with cal := { s.cal with gap := g } } : State).setU Obj.regionDue (setBit (s.u Obj.regionDue) r true) :=
    ⟨_, by rw [State.makeDue, if_neg (by simp [hrun]), if_neg (by simp [hdue])]; rfl⟩
  obtain ⟨g, hg⟩ := he
  have hgap : (s.makeDue r).cal.gap = g := by rw [hg]; rfl
  rw [hgap]
  exact hg

theorem State.makeDue_dueOnly (s : State) (r : Nat) (hrun : s.regionRunning r = false) : s.DueOnly (s.makeDue r) := by
  cases hdue : s.regionDueBit r with
  | true => rw [s.makeDue_of_due r hrun hdue]; exact State.DueOnly.refl s
  | false =>
    unfold State.DueOnly
    rw [s.makeDue_of_not_due r hrun hdue]
    exact State.logged_setU _ _ _ _ (Or.inr (List.mem_singleton.mpr rfl))

theorem testBit_setBit_true (v i j : Nat) : (setBit v i true).testBit j = (v.testBit j || decide (i = j)) := by
  simp [setBit, Nat.testBit_two_pow]

/-- RegionDue holds sixteen bits. -/
theorem State.testBit_setU_regionDue (s : State) (n j : Nat) (hj : j < 16) : ((s.setU Obj.regionDue n).u Obj.regionDue).testBit j = n.testBit j := by
  have hsize : 256 ^ objSize Obj.regionDue = 2 ^ 16 := by decide +kernel
  rw [State.u_setU_self, hsize, Nat.testBit_mod_two_pow, decide_eq_true hj, Bool.true_and]

theorem State.makeDue_regionDue (s : State) (r j : Nat) (hj : j < 16) (hrun : s.regionRunning r = false) :
    ((s.makeDue r).u Obj.regionDue).testBit j = ((s.u Obj.regionDue).testBit j || decide (r = j)) := by
  cases hdue : s.regionDueBit r with
  | true =>
    rw [s.makeDue_of_due r hrun hdue]
    by_cases h : r = j
    · subst h
      rw [show (s.u Obj.regionDue).testBit r = true from hdue, Bool.true_or]
    · rw [decide_eq_false h, Bool.or_false]
  | false => rw [s.makeDue_of_not_due r hrun hdue, State.testBit_setU_regionDue _ _ _ hj, testBit_setBit_true]

/-! ### The regions of a mask (R266) -/

/-- What a request with the mask does for one region. -/
def State.requestRegion (mask : Nat) (s : State) (r : Nat) : State := if bitOf mask r && !s.regionRunning r then s.makeDue r else s

theorem State.requestRegion_asked (s : State) (mask r : Nat) (hmask : mask.testBit r = true) (hrun : s.regionRunning r = false) :
    s.requestRegion mask r = s.makeDue r := by
  simp [State.requestRegion, bitOf, hmask, hrun]

theorem State.requestRegion_skipped (s : State) (mask r : Nat) (h : mask.testBit r = false ∨ s.regionRunning r = true) :
    s.requestRegion mask r = s := by
  rcases h with h | h <;> simp [State.requestRegion, bitOf, h]

/-- A region that the mask names and that does not run is requested; every other region is skipped. -/
theorem State.asked_or_skipped (s : State) (mask r : Nat) :
    (mask.testBit r = true ∧ s.regionRunning r = false) ∨ (mask.testBit r = false ∨ s.regionRunning r = true) := by
  cases mask.testBit r <;> cases s.regionRunning r <;> simp

theorem State.requestRegion_dueOnly (s : State) (mask r : Nat) : s.DueOnly (s.requestRegion mask r) := by
  rcases s.asked_or_skipped mask r with ⟨hmask, hrun⟩ | hskip
  · rw [s.requestRegion_asked mask r hmask hrun]
    exact s.makeDue_dueOnly r hrun
  · rw [s.requestRegion_skipped mask r hskip]
    exact State.DueOnly.refl s

theorem State.requestRegion_regionDue (s : State) (mask r j : Nat) (hj : j < 16) :
    ((s.requestRegion mask r).u Obj.regionDue).testBit j =
      ((s.u Obj.regionDue).testBit j || (decide (r = j) && (mask.testBit j && !s.regionRunning j))) := by
  rcases s.asked_or_skipped mask r with ⟨hmask, hrun⟩ | hskip
  · rw [s.requestRegion_asked mask r hmask hrun, s.makeDue_regionDue r j hj hrun]
    by_cases h : r = j
    · subst h; simp [hmask, hrun]
    · simp [h]
  · rw [s.requestRegion_skipped mask r hskip]
    by_cases h : r = j
    · subst h; rcases hskip with hskip | hskip <;> simp [hskip]
    · simp [h]

theorem State.requestRegion_idle (s : State) (mask r : Nat)
    (h : mask.testBit r = true → s.regionDueBit r = true ∨ s.regionRunning r = true) : s.requestRegion mask r = s := by
  rcases s.asked_or_skipped mask r with ⟨hmask, hrun⟩ | hskip
  · rw [s.requestRegion_asked mask r hmask hrun]
    exact s.makeDue_of_due r hrun ((h hmask).resolve_right (by simp [hrun]))
  · exact s.requestRegion_skipped mask r hskip

/-- What a request with the mask does for the regions `rs`, one after the other. -/
def State.requestRegions (s : State) (mask : Nat) (rs : List Nat) : State := rs.foldl (State.requestRegion mask) s

theorem State.requestRegions_dueOnly (s : State) (mask : Nat) (rs : List Nat) : s.DueOnly (s.requestRegions mask rs) := by
  induction rs generalizing s with
  | nil => exact State.DueOnly.refl s
  | cons r rs ih => exact (s.requestRegion_dueOnly mask r).trans (ih (s.requestRegion mask r))

theorem State.requestRegions_regionDue (s : State) (mask : Nat) (rs : List Nat) (j : Nat) (hj : j < 16) :
    ((s.requestRegions mask rs).u Obj.regionDue).testBit j =
      ((s.u Obj.regionDue).testBit j || (decide (j ∈ rs) && (mask.testBit j && !s.regionRunning j))) := by
  induction rs generalizing s with
  | nil => simp [State.requestRegions]
  | cons r rs ih =>
    have hrest := ih (s.requestRegion mask r)
    rw [(s.requestRegion_dueOnly mask r).regionRunning j, s.requestRegion_regionDue mask r j hj] at hrest
    refine Eq.trans hrest ?_
    by_cases h : r = j
    · subst h; cases (s.u Obj.regionDue).testBit r <;> simp +contextual
    · simp [h, Ne.symm h]

theorem State.requestRegions_idle (s : State) (mask : Nat) (rs : List Nat)
    (h : ∀ r ∈ rs, mask.testBit r = true → s.regionDueBit r = true ∨ s.regionRunning r = true) : s.requestRegions mask rs = s := by
  induction rs with
  | nil => rfl
  | cons r rs ih =>
    unfold State.requestRegions at ih ⊢
    rw [List.foldl_cons, s.requestRegion_idle mask r (h r List.mem_cons_self)]
    exact ih (fun q hq => h q (List.mem_cons_of_mem r hq))

/-! ### The request's three outcomes -/

theorem State.namesAbsent_iff (s : State) (mask : Nat) :
    (List.range 16).any (fun r => bitOf mask r && decide (r ≥ s.variant.regions)) = true ↔
      ∃ r, r < 16 ∧ mask.testBit r = true ∧ s.variant.regions ≤ r := by
  simp [bitOf]

theorem DevState.hasColumns_iff (d : DevState) : d.hasColumns = true ↔ d = .scan ∨ d = .hold ∨ d = .standby := by
  cases d <;> simp [DevState.hasColumns]

theorem State.calRequest_absent (s : State) (mask : Nat) (h : ∃ r, r < 16 ∧ mask.testBit r = true ∧ s.variant.regions ≤ r) :
    s.calRequest mask = (Abort.notFitted, s) := if_pos ((s.namesAbsent_iff mask).mpr h)

/-- Every region that a mask names is fitted. -/
def State.fitsRegions (s : State) (mask : Nat) : Prop := ∀ r, r < 16 → mask.testBit r = true → r < s.variant.regions

theorem State.fitsRegions.not_absent {s : State} {mask : Nat} (h : s.fitsRegions mask) :
    ¬ (List.range 16).any (fun r => bitOf mask r && decide (r ≥ s.variant.regions)) = true := by
  rw [s.namesAbsent_iff mask]
  rintro ⟨r, hr, hmask, habsent⟩
  exact Nat.not_lt.mpr habsent (h r hr hmask)

theorem State.calRequest_barred (s : State) (mask : Nat) (hfit : s.fitsRegions mask) (hcol : s.dev.state.hasColumns = false) :
    s.calRequest mask = (Abort.notAllowedNow, s) := by
  rw [State.calRequest, if_neg hfit.not_absent, hcol]
  rfl

theorem State.calRequest_accepted (s : State) (mask : Nat) (hfit : s.fitsRegions mask) (hcol : s.dev.state.hasColumns = true) :
    s.calRequest mask = (Abort.ok, s.requestRegions mask (List.range 16)) := by
  rw [State.calRequest, if_neg hfit.not_absent, hcol]
  rfl

/-! ### The command (R49, R266) -/

theorem leVal_bitBytes_two (v : BitVec 16) : leVal (bitBytes 2 v) = v.toNat := by
  rw [bitBytes, leVal_leBytes]
  exact Nat.mod_eq_of_lt v.isLt

theorem State.writeOp_calRequest (s : State) (mask : BitVec 16) :
    s.writeOp (0x2600 * 256 + 0x09) (bitBytes 2 mask) = some (s.calRequest mask.toNat) := by
  rw [← leVal_bitBytes_two mask]
  rfl

theorem State.Logged.answeredToo {e r : State} {ids : List Nat} (h : e.Logged r ids) (t : State) :
    (e.withAnswer t).Logged (r.withAnswer t) ids := State.withAnswer_logged (t := r.withAnswer t) h rfl

/-- CAL_REQUEST, taken: its code is answered, and what the request leaves stands. -/
theorem State.exec_calRequest (s : State) (h : ReqHdr) (mask : BitVec 16) (c : Caller) (r : Abort × State) (hr : s.ready)
    (ht : s.takes h 0x2600 0x09 0x03 (bitBytes 2 mask) c) (hreq : s.begin.purge.calRequest mask.toNat = r) (hu : untagged r.1 = false)
    (hdue : s.begin.purge.DueOnly r.2) :
    ∃ t, exec (.calRequest h mask) s = .next t ∧ t.answered (s.answerFor h opWrite r.1 [0, 0]) ∧ (r.2.withAnswer t).Logged t [] := by
  have hpurge := s.begin.purge_shape
  have hsafe : r.2.ev.safeWanted = none := (State.Logged.safe hdue).trans (by rw [hpurge]; exact hr.2)
  have hqueue : r.2.pending = s.pending := ((congrArg State.pending hdue.rest).trans rfl).trans (by rw [hpurge]; rfl)
  exact s.write_op h c 0x2600 0x09 0x03 (bitBytes 2 mask) r r.2 [] hr ht (by decide) (by decide) (by decide) (by decide)
    ((State.writeOp_calRequest _ mask).trans (congrArg some hreq)) hu hsafe hqueue (State.Logged.refl _ _)

/-- CAL_REQUEST, taken and refused: nothing but the answer. -/
theorem State.exec_calRequest_refused (s : State) (h : ReqHdr) (mask : BitVec 16) (c : Caller) (code : Abort) (hr : s.ready)
    (ht : s.takes h 0x2600 0x09 0x03 (bitBytes 2 mask) c) (hreq : s.begin.purge.calRequest mask.toNat = (code, s.begin.purge))
    (hu : untagged code = false) :
    ∃ t, exec (.calRequest h mask) s = .next t ∧ t.answered (s.answerFor h opWrite code [0, 0]) ∧ (s.begin.withAnswer t).Logged t [] := by
  obtain ⟨t, hx, ha, hl⟩ := s.exec_calRequest h mask c _ hr ht hreq hu (State.DueOnly.refl _)
  rw [State.purge_with] at hl
  exact ⟨t, hx, ha, hl⟩

/-- CAL_REQUEST, taken and accepted. -/
theorem State.exec_calRequest_accepted (s : State) (h : ReqHdr) (mask : BitVec 16) (c : Caller) (hr : s.ready)
    (ht : s.takes h 0x2600 0x09 0x03 (bitBytes 2 mask) c) (hfit : s.fitsRegions mask.toNat) (hcol : s.dev.state.hasColumns = true) :
    ∃ t, exec (.calRequest h mask) s = .next t ∧ t.answered (s.answerFor h opWrite Abort.ok [0, 0]) ∧
      (∀ r, r < 16 → (t.u Obj.regionDue).testBit r =
        ((s.u Obj.regionDue).testBit r || (mask.toNat.testBit r && !s.regionRunning r))) ∧
      ((∀ r, r < 16 → mask.toNat.testBit r = true → s.regionDueBit r = true ∨ s.regionRunning r = true) →
        (s.begin.withAnswer t).Logged t []) ∧
      (State.withAnswer { s.begin with cal := { s.cal with gap := t.cal.gap } } t).Logged t [Obj.regionDue] := by
  have hpurge := s.begin.purge_shape
  have hobj : ∀ id, s.begin.purge.u id = s.u id := fun id => by rw [hpurge]; rfl
  have hrun : ∀ r, s.begin.purge.regionRunning r = s.regionRunning r := fun r => congrArg (fun v => bitOf v r) (hobj Obj.regionRunning)
  have hreq := s.begin.purge.calRequest_accepted mask.toNat (by rw [hpurge]; exact hfit) (by rw [State.purge_state]; exact hcol)
  have hdue := s.begin.purge.requestRegions_dueOnly mask.toNat (List.range 16)
  obtain ⟨t, hx, ha, hl⟩ := s.exec_calRequest h mask c _ hr ht hreq untagged_ok hdue
  have hgap : t.cal.gap = (s.begin.purge.requestRegions mask.toNat (List.range 16)).cal.gap :=
    (congrArg (fun (x : State) => x.cal.gap) hl.rest).trans rfl
  refine ⟨t, hx, ha, fun r hr16 => ?_, fun hidle => ?_, ?_⟩
  · have hbits := s.begin.purge.requestRegions_regionDue mask.toNat (List.range 16) r hr16
    rw [decide_eq_true (List.mem_range.mpr hr16), Bool.true_and, hobj, hrun] at hbits
    exact (congrArg (fun v => v.testBit r) (hl.u_eq Obj.regionDue (by decide) (by decide))).trans hbits
  · have hsame := s.begin.purge.requestRegions_idle mask.toNat (List.range 16) fun r hmem hmask => by
      rw [hrun, State.regionDueBit, hobj]
      exact hidle r (List.mem_range.mp hmem) hmask
    rw [hsame, State.purge_with] at hl
    exact hl
  · have hall := (State.Logged.answeredToo hdue t).andThen hl
    rw [← hgap, hpurge] at hall
    exact hall

/-! ### The statement -/

theorem untagged_notFitted : untagged Abort.notFitted = false := by decide

/-- Settles O34, by the outcome of the request: a region that is not fitted, a state without columns, an accepted mask. -/
theorem calRequests : Obligations.CalRequests := by
  unfold Obligations.CalRequests
  intro s h mask c hr ht
  have hpurge := s.begin.purge_shape
  refine ⟨fun habsent => ?_, fun hfit => ⟨fun hstate => ?_, fun hstate => ?_⟩⟩
  · exact s.exec_calRequest_refused h mask c _ hr ht (State.calRequest_absent _ _ (by rw [hpurge]; exact habsent)) untagged_notFitted
  · have hcol : s.dev.state.hasColumns = false := Bool.eq_false_iff.mpr (mt (DevState.hasColumns_iff _).mp hstate)
    exact s.exec_calRequest_refused h mask c _ hr ht
      (State.calRequest_barred _ _ (by rw [hpurge]; exact hfit) (by rw [State.purge_state]; exact hcol)) untagged_notAllowedNow
  · exact s.exec_calRequest_accepted h mask c hr ht hfit ((DevState.hasColumns_iff _).mpr hstate)

end Sys2Proof.Machine

namespace Sys2Proof.Machine

/-! # Temperatures (O38) -/

/-! ### A thermistor that fails while the board step is 1 (R297, R300, R301) -/

/-- In IDLE after BOOT, both thermistors stand in their highest board range, the board step is 1 and ThrottleDwell is 0. -/
def boardStepOneDwellZero : State :=
  let s := (State.reset.setU Obj.throttleDwell 0).setWord Obj.throttleStep 1 16 1
  { s with dev := { s.dev with state := .idle, booted := true }, therm := { s.therm with thRange := [3, 3] } }

theorem boardStepOneDwellZero_ready : boardStepOneDwellZero.ready := ⟨by decide, rfl⟩

/-- When TH0 goes stale, its failure raises the board step to 2; its fail-hot reading of 95 °C then lies above BoardThrottleTemp, and a
dwell of 0 has already passed since that rise, so the board step rises to 3. -/
theorem sensorStale_boardStepOneDwellZero : ∃ t, exec (.sensorStale 20) boardStepOneDwellZero = .next t ∧ t.step' 16 = 3 :=
  ⟨_, rfl, by decide +kernel⟩

/-- Refutes O38: the failure of a thermistor raises the board step by one, and its fail-hot reading raises it once more where the two rises
need not lie apart. The statement does not bar a ThrottleDwell of 0, which no write can set (R302 has 50 ms at least). -/
theorem not_temperatures : ¬ Obligations.Temperatures := by
  unfold Obligations.Temperatures
  intro h
  have hfitted : boardStepOneDwellZero.sensorFitted 20 = true := by decide +kernel
  have hworking : (boardStepOneDwellZero.sensor 20).failed = false := by decide +kernel
  have hone : boardStepOneDwellZero.step' 16 = 1 := by decide +kernel
  obtain ⟨t, ht, hthree⟩ := sensorStale_boardStepOneDwellZero
  obtain ⟨hsensor, -⟩ := h boardStepOneDwellZero boardStepOneDwellZero_ready rfl rfl rfl
  obtain ⟨-, -, -, hstale⟩ := hsensor 20 (.i2c 0#16 false) _ rfl
  obtain ⟨t', ht', hfails, -⟩ := hstale hfitted rfl
  obtain rfl : t' = t := Host.Outcome.next.inj (ht'.symm.trans ht)
  obtain ⟨-, -, hrise⟩ := hfails.rise hworking
  have htwo : t'.step' 16 = boardStepOneDwellZero.step' 16 + 1 :=
    hrise (by decide) (by decide) (Nat.le_of_eq hone.symm) (Nat.lt_of_le_of_lt (Nat.le_of_eq hone) (by decide))
  rw [hthree, hone] at htwo
  exact absurd htwo (by decide)

end Sys2Proof.Machine

namespace Sys2Proof.Machine

/-! # Throttle steps (O39) -/

/-! ### A byte of a byte string replaced -/

theorem numAt_one (j : Nat) (bs : Bytes) : numAt j 1 bs = (bs.getD j 0#8).toNat := by
  rw [numAt, slice, List.getD_eq_getElem?_getD, ← List.head?_drop]
  cases bs.drop j <;> simp [leVal]

theorem getD_patch_byte (off j : Nat) (x : Byte) (bs : Bytes) :
    (patch off [x] bs).getD j 0#8 = if j = off then x else bs.getD j 0#8 := by
  have hfront : ((bs ++ List.replicate (off - bs.length) 0#8).take off).length = off := by
    simp only [List.length_take, List.length_append, List.length_replicate]
    omega
  rw [patch, List.append_assoc, List.getD_eq_getElem?_getD, List.getD_eq_getElem?_getD]
  rcases Nat.lt_trichotomy j off with hlt | rfl | hgt
  · rw [if_neg (Nat.ne_of_lt hlt), List.getElem?_append_left (by rw [hfront]; exact hlt), List.getElem?_take_of_lt hlt]
    by_cases hin : j < bs.length
    · rw [List.getElem?_append_left hin]
    · rw [List.getElem?_append_right (Nat.le_of_not_lt hin), List.getElem?_replicate, List.getElem?_eq_none (Nat.le_of_not_lt hin)]
      split <;> rfl
  · rw [if_pos rfl, List.getElem?_append_right (Nat.le_of_eq hfront), hfront, Nat.sub_self]
    rfl
  · obtain ⟨d, rfl⟩ : ∃ d, j = off + 1 + d := ⟨j - (off + 1), by omega⟩
    rw [if_neg (Nat.ne_of_gt hgt), List.getElem?_append_right (by rw [hfront]; exact Nat.le_of_lt hgt), hfront,
      show off + 1 + d - off = d + 1 by omega, List.singleton_append, List.getElem?_cons_succ, List.getElem?_drop]
    rfl

/-- The steps after one of them is written (R298). -/
theorem State.step'_setWord (s : State) (k j n : Nat) (hn : n < 256) :
    (s.setWord Obj.throttleStep 1 k n).step' j = if j = k then n else s.step' j := by
  have hbyte : leBytes 1 n = [BitVec.ofNat 8 n] := by rw [leBytes, leBytes, Nat.mod_eq_of_lt hn]
  rw [State.step', State.word, State.setWord, State.get_put_self, hbyte, numAt_one, getD_patch_byte]
  split
  · exact Nat.mod_eq_of_lt hn
  · exact (numAt_one j _).symm

theorem State.step'_of_get {s t : State} (h : t.get Obj.throttleStep = s.get Obj.throttleStep) (j : Nat) : t.step' j = s.step' j :=
  congrArg (numAt j 1) h

theorem State.stepWanted_of_get {s t : State} (h : t.get Obj.throttleStep = s.get Obj.throttleStep) : t.stepWanted = s.stepWanted :=
  funext fun r => by rw [State.stepWanted, State.stepWanted, State.step'_of_get h, State.step'_of_get h]

theorem State.step'_lt (s : State) (k : Nat) : s.step' k < 256 := by
  rw [State.step', State.word, numAt_one]
  exact BitVec.isLt _

/-! ### Throttle records -/

theorem State.throttle_setThrottle_same (s : State) (k : Nat) (x : Throttle) (h : k < s.therm.throttles.length) :
    (s.setThrottle k x).throttle k = x := by
  simp [State.throttle, State.setThrottle, getAt, setAt, h]

theorem State.throttle_setThrottle_ne (s : State) (k j : Nat) (x : Throttle) (h : j ≠ k) :
    (s.setThrottle k x).throttle j = s.throttle j := by
  simp [State.throttle, State.setThrottle, getAt, setAt, Ne.symm h]

/-! ### Events of different keys do not take each other's tokens (R395) -/

/-- Whether a bucket has a key. -/
def Bucket.hasKey (b : Bucket) (code source data : Nat) (cleared : Bool) : Bool :=
  b.code == code && b.source == source && b.data == data && b.cleared == cleared

/-- The bucket that the log holds for a key. -/
def EventState.bucketAt (ev : EventState) (code source data : Nat) (cleared : Bool) : Option Bucket :=
  ev.buckets.find? (fun b => b.hasKey code source data cleared)

theorem State.bucketOf_some (s : State) {code source data : Nat} {cleared : Bool} {b : Bucket}
    (h : s.ev.bucketAt code source data cleared = some b) : s.bucketOf code source data cleared =
      { b with tokens := b.refilled s.time.ticks (s.u Obj.rateLimit) (s.u Obj.rateBurst), asOf := s.time.ticks } := by
  unfold State.bucketOf
  change (match s.ev.bucketAt code source data cleared with | some b => _ | none => _ : Bucket) = _
  rw [h]

theorem State.bucketOf_none (s : State) {code source data : Nat} {cleared : Bool}
    (h : s.ev.bucketAt code source data cleared = none) : s.bucketOf code source data cleared =
      { code := code, source := source, data := data, cleared := cleared, tokens := s.u Obj.rateBurst * tickHz, asOf := s.time.ticks,
        suppressed := 0 } := by
  unfold State.bucketOf
  change (match s.ev.bucketAt code source data cleared with | some b => _ | none => _ : Bucket) = _
  rw [h]

theorem State.bucketOf_source (s : State) (code source data : Nat) (cleared : Bool) :
    (s.bucketOf code source data cleared).source = source := by
  cases h : s.ev.bucketAt code source data cleared with
  | none => rw [s.bucketOf_none h]
  | some b =>
    have hkey := List.find?_some h
    simp only [Bucket.hasKey, Bool.and_eq_true, beq_iff_eq] at hkey
    rw [s.bucketOf_some h]
    exact hkey.1.1.2

theorem Bucket.refilled_le (b : Bucket) (now rate burst : Nat) : b.refilled now rate burst ≤ burst * tickHz := by
  unfold Bucket.refilled satNat
  split <;> omega

/-- A key keeps its tokens, or has a full bucket, where its bucket stands or is gone. -/
theorem State.bucketOf_tokens_le {s t : State} {code source data : Nat} {cleared : Bool}
    (hb : t.ev.bucketAt code source data cleared = s.ev.bucketAt code source data cleared ∨
      t.ev.bucketAt code source data cleared = none)
    (htime : t.time = s.time) (hrate : t.u Obj.rateLimit = s.u Obj.rateLimit) (hburst : t.u Obj.rateBurst = s.u Obj.rateBurst) :
    (s.bucketOf code source data cleared).tokens ≤ (t.bucketOf code source data cleared).tokens := by
  cases ht : t.ev.bucketAt code source data cleared with
  | none =>
    have hfull : (t.bucketOf code source data cleared).tokens = s.u Obj.rateBurst * tickHz :=
      (congrArg Bucket.tokens (t.bucketOf_none ht)).trans (congrArg (fun n => n * tickHz) hburst)
    rw [hfull]
    cases hs : s.ev.bucketAt code source data cleared with
    | none => exact Nat.le_of_eq (congrArg Bucket.tokens (s.bucketOf_none hs))
    | some b => rw [s.bucketOf_some hs]; exact b.refilled_le _ _ _
  | some b =>
    have hs : s.ev.bucketAt code source data cleared = some b :=
      (hb.resolve_right (by rw [ht]; exact Option.some_ne_none b)).symm.trans ht
    have hsame : s.bucketOf code source data cleared = t.bucketOf code source data cleared := by
      rw [t.bucketOf_some ht, s.bucketOf_some hs, htime, hrate, hburst]
    exact Nat.le_of_eq (congrArg Bucket.tokens hsame)

/-- A bucket put back leaves a bucket of another source, or drops it as the least recently used. -/
theorem EventState.bucketAt_bucketPut (ev : EventState) (b : Bucket) (code source data : Nat) (cleared : Bool) (h : b.source ≠ source) :
    (ev.bucketPut b).bucketAt code source data cleared = ev.bucketAt code source data cleared ∨
      (ev.bucketPut b).bucketAt code source data cleared = none := by
  have hother : ∀ c : Bucket, c.hasKey code source data cleared = true → c.hasKey b.code b.source b.data b.cleared = false := by
    intro c hc
    simp only [Bucket.hasKey, Bool.and_eq_true, beq_iff_eq] at hc
    simp [Bucket.hasKey, hc.1.1.2, Ne.symm h]
  have hkept : ((b :: ev.buckets.filter (fun c => !c.hasKey b.code b.source b.data b.cleared)).find?
      (fun c => c.hasKey code source data cleared)) = ev.bucketAt code source data cleared := by
    rw [List.find?_cons_of_neg (by simp [Bucket.hasKey, h]), List.find?_filter]
    refine congrArg (fun p => List.find? p ev.buckets) (funext fun c => ?_)
    cases hc : c.hasKey code source data cleared with
    | false => simp
    | true => simp [hother c hc]
  cases hput : (ev.bucketPut b).bucketAt code source data cleared with
  | none => exact Or.inr rfl
  | some c => exact Or.inl (((List.take_prefix 256 _).find?_eq_some hput).symm.trans hkept)

theorem EventState.ringPut_buckets (ev : EventState) (e : EventEntry) : (ev.ringPut e).buckets = ev.buckets := by
  unfold EventState.ringPut
  split
  · rfl
  · split <;> rfl

theorem State.dropJournal_buckets (s : State) (n : Nat) : (s.dropJournal n).ev.buckets = s.ev.buckets := by
  unfold State.dropJournal
  split
  · rfl
  · dsimp only
    split <;> simp

theorem State.journalAdd_buckets (s : State) (e : EventEntry) : (s.journalAdd e).ev.buckets = s.ev.buckets := by
  unfold State.journalAdd
  dsimp only
  split
  · exact State.dropJournal_buckets _ _
  · split
    · rfl
    · exact State.dropJournal_buckets _ _

theorem State.openEntry_buckets (s : State) (code source sev data : Nat) (cleared : Bool) (suppressed : Nat) :
    (s.openEntry code source sev data cleared suppressed).ev.buckets = s.ev.buckets := by
  unfold State.openEntry
  dsimp only
  split
  · simp [State.journalAdd_buckets, EventState.ringPut_buckets]
  · simp [EventState.ringPut_buckets]

/-- An event entered leaves every bucket, or puts back the bucket of its own key (R394, R395). -/
theorem State.eventEnter_buckets (s : State) (code source sev data : Nat) (cleared : Bool) :
    (s.eventEnter code source sev data cleared).ev.buckets = s.ev.buckets ∨
      ∃ b : Bucket, b.source = source ∧ (s.eventEnter code source sev data cleared).ev.buckets = (s.ev.bucketPut b).buckets := by
  have hsource := s.bucketOf_source code source data cleared
  unfold State.eventEnter
  split
  · exact Or.inl rfl
  · split
    · exact Or.inl rfl
    · extract_lets b spent held
      split
      · exact Or.inr ⟨spent, hsource, State.openEntry_buckets _ _ _ _ _ _ _⟩
      · exact Or.inr ⟨held, hsource, rfl⟩

/-- An event raised leaves every bucket, or puts back the bucket of its own key. -/
theorem State.raise_buckets (s : State) (code source sev data : Nat) :
    (s.raise code source sev data).ev.buckets = s.ev.buckets ∨
      ∃ b : Bucket, b.source = source ∧ (s.raise code source sev data).ev.buckets = (s.ev.bucketPut b).buckets :=
  State.eventEnter_buckets { s with ev := s.ev.noteAlarm code source sev data } code source sev data false

/-- An event told after another of a different source was raised is told from before it. -/
theorem State.tells_of_tells_raise {s t : State} {code source sev data code' source' sev' data' : Nat}
    (h : (s.raise code' source' sev' data').tells t code source sev data) (hsource : source' ≠ source) : s.tells t code source sev data := by
  have hlog := s.logged_raise code' source' sev' data'
  have hbucket : (s.raise code' source' sev' data').ev.bucketAt code source data false = s.ev.bucketAt code source data false ∨
      (s.raise code' source' sev' data').ev.bucketAt code source data false = none := by
    rcases s.raise_buckets code' source' sev' data' with hsame | ⟨b, hb, hput⟩
    · exact Or.inl (congrArg (List.find? _) hsame)
    · have hat := congrArg (List.find? (fun b : Bucket => b.hasKey code source data false)) hput
      exact (s.ev.bucketAt_bucketPut b code source data false (by rw [hb]; exact hsource)).imp hat.trans hat.trans
  have hle := State.bucketOf_tokens_le hbucket (s.raise_time _ _ _ _) (hlog.u_eq Obj.rateLimit (by decide) (by decide))
    (hlog.u_eq Obj.rateBurst (by decide) (by decide))
  have hmin := hlog.u_eq Obj.ringMinSeverity (by decide) (by decide)
  rcases h with hquiet | ⟨htokens, hsev⟩ | hopen
  · exact Or.inl (hmin ▸ hquiet)
  · exact Or.inr (Or.inl ⟨Nat.lt_of_le_of_lt hle htokens, hsev⟩)
  · exact Or.inr (Or.inr hopen)

/-! ### A step set (R298) -/

/-- The Warning of a region whose step in force differs between two states. -/
def State.warnStep (old new s : State) (r : Nat) : State :=
  if new.stepWanted r ≠ old.stepWanted r then s.raise 0x0603 r 2 (old.stepWanted r + 256 * new.stepWanted r) else s

theorem State.logged_warnStep (old new s : State) (r : Nat) : s.Logged (State.warnStep old new s r) [] := by
  unfold State.warnStep
  split
  · exact s.logged_raise _ _ _ _
  · exact State.Logged.refl _ _

theorem State.logged_warnSteps (old new s : State) (rs : List Nat) : s.Logged (rs.foldl (State.warnStep old new) s) [] :=
  State.logged_foldl _ [] (State.logged_warnStep old new) rs s

/-- Every region whose step differs is told, whatever the other regions' Warnings take of the log. -/
theorem State.tells_warnSteps (old new s : State) (rs : List Nat) (hdistinct : rs.Nodup) (r : Nat) (hr : r ∈ rs)
    (h : new.stepWanted r ≠ old.stepWanted r) :
    s.tells (rs.foldl (State.warnStep old new) s) 0x0603 r 2 (old.stepWanted r + 256 * new.stepWanted r) := by
  induction rs generalizing s with
  | nil => exact absurd hr List.not_mem_nil
  | cons q rs ih =>
    obtain ⟨hq, hrest⟩ := List.nodup_cons.mp hdistinct
    rw [List.foldl_cons]
    rcases List.mem_cons.mp hr with rfl | hmem
    · have hraised : State.warnStep old new s r = s.raise 0x0603 r 2 (old.stepWanted r + 256 * new.stepWanted r) := if_pos h
      rw [hraised]
      exact State.tells_logged (s.tells_raise _ _ _ _) (State.logged_warnSteps _ _ _ _)
    · have hlater := ih (State.warnStep old new s q) hrest hmem
      revert hlater
      generalize List.foldl _ _ rs = t
      intro hlater
      unfold State.warnStep at hlater
      split at hlater
      · exact State.tells_of_tells_raise hlater (fun heq => hq (heq ▸ hmem))
      · exact hlater

/-- The highest step wanted of the first `n` regions. -/
def State.topStep (s : State) (n : Nat) : Nat := ((List.range n).map s.stepWanted).foldl max 0

theorem State.throttleSeen_shows (s : State) :
    s.throttleSeen.shows Obj.throttleNow (if s.therm.step4 then 4 else s.topStep s.variant.regions) := State.shows_setU _ _ _

theorem State.logged_throttleSeen (s : State) : s.Logged s.throttleSeen [Obj.throttleNow] :=
  State.logged_setU _ _ _ _ (Or.inr (List.mem_singleton.mpr rfl))

/-- The state with a step written and its Warnings raised. -/
def State.stepWarned (s : State) (k n : Nat) : State :=
  (List.range s.variant.regions).foldl (State.warnStep s (s.setWord Obj.throttleStep 1 k n)) (s.setWord Obj.throttleStep 1 k n)

theorem State.logged_stepWarned (s : State) (k n : Nat) : s.Logged (s.stepWarned k n) [Obj.throttleStep] :=
  (s.logged_put _ _ _ (Or.inr (List.mem_singleton.mpr rfl))).andThen (State.logged_warnSteps _ _ _ _)

theorem State.Logged.therm_eq {e t : State} {ids : List Nat} (h : e.Logged t ids) : t.therm = e.therm :=
  (congrArg State.therm h.rest).trans rfl

theorem State.Logged.withTherm {e t : State} {ids : List Nat} (h : e.Logged t ids) (x : ThermState) :
    State.Logged { e with therm := x } { t with therm := x } ids :=
  ⟨congrArg (fun (s : State) => { s with therm := x }) h.rest, h.objects, h.stored, h.calm, h.entries⟩

/-- The steps in force after a change of the wanted ones: those wanted where there are no columns. -/
def State.forceAfter (s t : State) : List Nat :=
  if s.dev.state.hasColumns then s.therm.inForce else (List.range 16).map t.stepWanted

/-- A step set: written, its Warnings raised, ThrottleNow shown, and in force at once where there are no columns. -/
theorem State.setStep_eq (s : State) (k n : Nat) :
    s.setStep k n = { (s.stepWarned k n).throttleSeen with
      therm := { s.therm with inForce := s.forceAfter (s.stepWarned k n).throttleSeen } } := by
  have hlog : s.Logged (s.stepWarned k n).throttleSeen [Obj.throttleStep, Obj.throttleNow] :=
    (s.logged_stepWarned k n).trans (State.logged_throttleSeen _) (by simp) (by simp)
  have hdev : (s.stepWarned k n).throttleSeen.dev = s.dev := (congrArg State.dev hlog.rest).trans rfl
  have hfold : s.setStep k n = if (s.stepWarned k n).throttleSeen.dev.state.hasColumns then (s.stepWarned k n).throttleSeen
      else (s.stepWarned k n).throttleSeen.throttleApply := by
    have hzip : ((List.range s.variant.regions).map s.stepWanted).zipIdx =
        (List.range s.variant.regions).map (fun r => (s.stepWanted r, r)) :=
      List.ext_getElem (by simp) (by simp)
    unfold State.setStep
    dsimp only
    rw [hzip, List.foldl_map]
    rfl
  rw [hfold, hdev, State.forceAfter, ← hlog.therm_eq]
  split <;> rfl

/-- `t` is `e` with the step of target `k` at `n`: every other step stands, every region whose step in force changes is told, and where the
step is another, ThrottleNow and the steps in force follow. -/
structure State.StepSet (e t : State) (k n : Nat) : Prop where
  steps : ∀ j, t.step' j = if j = k then n else e.step' j
  frame : State.Logged { e with therm := { e.therm with inForce := t.therm.inForce } } t [Obj.throttleStep, Obj.throttleNow]
  told : ∀ r, r < e.variant.regions → t.stepWanted r ≠ e.stepWanted r →
    e.tells t 0x0603 r 2 (e.stepWanted r + 256 * t.stepWanted r)
  now : n ≠ e.step' k → t.shows Obj.throttleNow (if e.therm.step4 then 4 else t.topStep e.variant.regions)
  force : n ≠ e.step' k → t.therm.inForce = e.forceAfter t

theorem State.StepSet.refl (e : State) (k : Nat) : e.StepSet e k (e.step' k) where
  steps := fun j => by split <;> simp [*]
  frame := State.Logged.refl _ _
  told := fun _ _ h => absurd rfl h
  now := fun h => absurd rfl h
  force := fun h => absurd rfl h

theorem State.StepSet.step_same {e t : State} {k n : Nat} (h : e.StepSet t k n) : t.step' k = n := (h.steps k).trans (if_pos rfl)

/-- A step set stays so through what writes the log alone. -/
theorem State.StepSet.andThen {e u t : State} {k n : Nat} (h : e.StepSet u k n) (hl : u.Logged t []) : e.StepSet t k n := by
  have hget : ∀ id, id ∉ logObjects → t.get id = u.get id := fun id hid => hl.objects id hid List.not_mem_nil
  have hsteps := hget Obj.throttleStep (by decide)
  have hwanted : t.stepWanted = u.stepWanted := State.stepWanted_of_get hsteps
  have htherm := hl.therm_eq
  refine ⟨fun j => ?_, ?_, fun r hr hne => ?_, fun hne => ?_, fun hne => ?_⟩
  · rw [State.step'_of_get hsteps]
    exact h.steps j
  · rw [htherm]
    exact h.frame.andThen hl
  · rw [hwanted] at hne ⊢
    exact State.tells_logged (h.told r hr hne) hl
  · rw [State.topStep, hwanted]
    exact State.shows_of_get (h.now hne) (hget _ (by decide))
  · rw [htherm, State.forceAfter, hwanted]
    exact h.force hne

theorem State.setStep_stepSet (s : State) (k n : Nat) (hn : n < 256) : s.StepSet (s.setStep k n) k n := by
  have hwarned := s.logged_stepWarned k n
  have hseen := (s.stepWarned k n).logged_throttleSeen
  have hlogWarn : (s.setWord Obj.throttleStep 1 k n).Logged (s.stepWarned k n) [] := State.logged_warnSteps _ _ _ _
  have hwritten : (s.stepWarned k n).get Obj.throttleStep = (s.setWord Obj.throttleStep 1 k n).get Obj.throttleStep :=
    hlogWarn.objects _ (by decide) List.not_mem_nil
  have hkept : (s.stepWarned k n).throttleSeen.get Obj.throttleStep = (s.setWord Obj.throttleStep 1 k n).get Obj.throttleStep :=
    (hseen.objects _ (by decide) (by decide)).trans hwritten
  have hwanted : (s.stepWarned k n).throttleSeen.stepWanted = (s.setWord Obj.throttleStep 1 k n).stepWanted :=
    State.stepWanted_of_get hkept
  rw [s.setStep_eq k n]
  refine ⟨fun j => ?_, ?_, fun r hr hne => ?_, fun _ => ?_, fun _ => rfl⟩
  · exact (State.step'_of_get hkept j).trans (s.step'_setWord k j n hn)
  · exact (hwarned.trans hseen (by simp) (by simp)).withTherm _
  · change (s.stepWarned k n).throttleSeen.stepWanted r ≠ s.stepWanted r at hne
    change s.tells _ 0x0603 r 2 (s.stepWanted r + 256 * (s.stepWarned k n).throttleSeen.stepWanted r)
    rw [hwanted] at hne ⊢
    have htold := State.tells_warnSteps s (s.setWord Obj.throttleStep 1 k n) (s.setWord Obj.throttleStep 1 k n) _ List.nodup_range r
      (List.mem_range.mpr hr) hne
    have hfrom : s.tells (s.stepWarned k n) 0x0603 r 2 _ := State.tells_from htold
      (fun id hid => State.get_put_ne _ _ _ _ (by rcases hid with rfl | rfl | rfl <;> decide)) (State.setWord_ev ..) (State.setWord_time ..)
    exact State.tells_of_ev (State.tells_logged hfrom hseen) rfl
  · have hnow := (s.stepWarned k n).throttleSeen_shows
    have hvariant : (s.stepWarned k n).variant = s.variant := (congrArg State.variant hwarned.rest).trans rfl
    have hsame : (s.stepWarned k n).stepWanted = (s.stepWarned k n).throttleSeen.stepWanted :=
      (State.stepWanted_of_get hwritten).trans hwanted.symm
    rw [hwarned.therm_eq, hvariant, State.topStep, hsame] at hnow
    exact hnow

/-! ### Commands that write time, throttle records and a step -/

/-- `s` with nothing sent, at the time and with the throttle records of `t`. -/
def State.retimed (s t : State) : State :=
  { s.begin with time := t.time, therm := { s.therm with throttles := t.therm.throttles } }

theorem State.retimed_of_logged {s t : State} (h : s.begin.Logged t []) : s.retimed t = s.begin := by
  have htime : t.time = s.time := (congrArg State.time h.rest).trans rfl
  have htherm : t.therm = s.therm := h.therm_eq
  rw [State.retimed, htime, htherm]
  rfl

/-- A step set leaves the step of every other target. -/
theorem State.StepSet.step_ne {s t : State} {k n : Nat} (h : (s.retimed t).StepSet t k n) (j : Nat) (hj : j ≠ k) :
    t.step' j = s.step' j := (h.steps j).trans (if_neg hj)

theorem State.StepSet.told_retimed {s t : State} {k n : Nat} (h : (s.retimed t).StepSet t k n) (r : Nat) (hr : r < s.variant.regions)
    (hne : t.stepWanted r ≠ s.stepWanted r) :
    State.tells { s with time := t.time } t 0x0603 r 2 (s.stepWanted r + 256 * t.stepWanted r) := by
  have hwanted : (s.retimed t).stepWanted = s.stepWanted := State.stepWanted_of_get rfl
  have htold := h.told r hr
  rw [hwanted] at htold
  exact State.tells_from (htold hne) (fun _ _ => rfl) rfl rfl

/-- A command whose effect sets a step from `e`, which is `s` but for time and throttle records. -/
theorem State.awake_stepSet (s e : State) (f : State → State) (k n : Nat) (hr : s.ready) (he : s.retimed e = e)
    (h : e.StepSet (f s.begin) k n) : ∃ t, s.awake f = .next t ∧ t.time = e.time ∧ (∀ j, t.throttle j = e.throttle j) ∧
      (s.retimed t).StepSet t k n := by
  have hqueue : e.pending = s.pending := (congrArg State.pending he).symm
  have hcalm : e.ev.safeWanted = none := (congrArg (fun (x : State) => x.ev.safeWanted) he).symm.trans hr.2
  have hpending : (f s.begin).pending = s.pending := (congrArg State.pending h.frame.rest).trans hqueue
  have hsafe : (f s.begin).ev.safeWanted = none := h.frame.safe.trans hcalm
  obtain ⟨t, ht, hl⟩ := s.awake_logged f hr.1 hsafe
  rw [show { f s.begin with pending := s.pending } = f s.begin by rw [← hpending]] at hl
  have hset := h.andThen hl
  have htime : t.time = e.time := (congrArg State.time hset.frame.rest).trans rfl
  have hrecords : t.therm.throttles = e.therm.throttles := (congrArg (fun (x : State) => x.therm.throttles) hset.frame.rest).trans rfl
  have heq : s.retimed t = e := by
    rw [State.retimed, htime, hrecords]
    exact he
  exact ⟨t, ht, htime, fun j => congrArg (fun xs => getAt xs j Throttle.rest) hrecords, by rw [heq]; exact hset⟩

/-- A command without effect. -/
theorem State.awake_same (s : State) (f : State → State) (hr : s.ready) (h : f s.begin = s.begin) :
    ∃ t, s.awake f = .next t ∧ s.begin.Logged t [] :=
  s.awake_ends f s.begin [] hr hr.2 rfl (by rw [h]; exact State.Logged.refl _ _)

/-- A command without effect sets no step. -/
theorem State.stepSet_of_same (s : State) (f : State → State) (k : Nat) (hr : s.ready) (h : f s.begin = s.begin) :
    ∃ t, s.awake f = .next t ∧ (s.retimed t).StepSet t k (s.step' k) := by
  obtain ⟨t, ht, hl⟩ := s.awake_same f hr h
  refine ⟨t, ht, ?_⟩
  rw [State.retimed_of_logged hl]
  exact (State.StepSet.refl s.begin k).andThen hl

/-! ### The rise of a step (R296, R297) -/

/-- A step raised by one, up to 3. -/
def stepRaised (n : Nat) : Nat := if n < 3 then n + 1 else n

/-- The rise may be asked for under a condition that is met. -/
theorem stepRaised_of (n : Nat) {p : Prop} [Decidable p] (hp : p) : stepRaised n = if n < 3 ∧ p then n + 1 else n := by
  unfold stepRaised
  by_cases h : n < 3
  · rw [if_pos h, if_pos ⟨h, hp⟩]
  · rw [if_neg h, if_neg (fun hboth => h hboth.1)]

/-- `s` with a rise of target `k` noted at the present tick. -/
def State.riseNoted (s : State) (k : Nat) : State := s.setThrottle k { s.throttle k with lastRise := some s.time.ticks }

theorem State.rise_stepSet (s : State) (k : Nat) : (s.riseNoted k).StepSet (s.rise k) k (stepRaised (s.step' k)) := by
  by_cases h : s.step' k < 3
  · have hrise : s.rise k = (s.riseNoted k).setStep k (s.step' k + 1) := if_pos h
    rw [hrise, stepRaised, if_pos h]
    exact State.setStep_stepSet _ k _ (by omega)
  · have hrise : s.rise k = s.riseNoted k := if_neg h
    rw [hrise, stepRaised, if_neg h]
    exact State.StepSet.refl _ k

/-! ### THROTTLE_DWELL -/

theorem State.throttleDwell_not_hot (s : State) (k : Nat) (hk : k ≠ 16) (h : (s.throttle k).hotSince = none) : s.throttleDwell k = s := by
  rw [State.throttleDwell, if_neg hk, h]

theorem State.throttleDwell_board_idle (s : State)
    (h : (s.throttle 16).lastRise = none ∨ s.tEb < s.i Obj.boardThrottleTemp) : s.throttleDwell 16 = s := by
  rw [State.throttleDwell, if_pos rfl]
  rcases h with h | h
  · rw [h]
  · split
    · rfl
    · exact if_neg (Int.not_le.mpr h)

/-- `s` with the next dwell of target `k` begun at `due`. -/
def State.dwellNoted (s : State) (k due : Nat) : State := s.setThrottle k { s.throttle k with hotSince := some due }

theorem State.dwellNoted_riseNoted_throttle (s : State) (k due : Nat) (h : k < s.therm.throttles.length) :
    ((s.dwellNoted k due).riseNoted k).throttle k = { s.throttle k with hotSince := some due, lastRise := some s.time.ticks } := by
  have hlen : k < (s.dwellNoted k due).therm.throttles.length := by simpa [State.dwellNoted, State.setThrottle, setAt] using h
  rw [State.riseNoted, State.throttle_setThrottle_same _ _ _ hlen, State.dwellNoted, State.throttle_setThrottle_same _ _ _ h]
  rfl

theorem State.dwellNoted_riseNoted_throttle_ne (s : State) (k j due : Nat) (h : j ≠ k) :
    ((s.dwellNoted k due).riseNoted k).throttle j = s.throttle j := by
  rw [State.riseNoted, State.throttle_setThrottle_ne _ _ _ _ h, State.dwellNoted, State.throttle_setThrottle_ne _ _ _ _ h]

theorem State.throttleDwell_hot (s : State) (k since : Nat) (hk : k ≠ 16) (h : (s.throttle k).hotSince = some since) :
    s.throttleDwell k = ((s.runTo (since + msTicks (s.u Obj.throttleDwell))).dwellNoted k
      (since + msTicks (s.u Obj.throttleDwell))).rise k := by
  rw [State.throttleDwell, if_neg hk, h]
  rfl

theorem State.throttleDwell_board_hot (s : State) (since : Nat) (h : (s.throttle 16).lastRise = some since)
    (hhot : s.i Obj.boardThrottleTemp ≤ s.tEb) :
    s.throttleDwell 16 = (s.runTo (since + msTicks (s.u Obj.throttleDwell))).boardRise := by
  rw [State.throttleDwell, if_pos rfl, h]
  exact if_pos hhot

/-- A region at the end of its dwell: the next dwell starts there, and the rise is noted. -/
theorem State.awake_throttleDwell_region (s : State) (k since due : Nat) (hr : s.ready) (hlen : s.therm.throttles.length = 17)
    (hk : k < 16) (h : (s.throttle k).hotSince = some since) (hdue : due = since + msTicks (s.u Obj.throttleDwell)) :
    ∃ t, s.awake (fun u => u.throttleDwell k) = .next t ∧ t.time.ticks ≤ max s.time.ticks due ∧
      (s.retimed t).StepSet t k (stepRaised (s.step' k)) ∧
      t.throttle k = { s.throttle k with hotSince := some due, lastRise := some t.time.ticks } ∧
      ∀ j, j ≠ k → t.throttle j = s.throttle j := by
  obtain ⟨tm, hrun, -, hticks⟩ := s.begin.runTo_time due
  have heffect := s.begin.throttleDwell_hot k since (Nat.ne_of_lt hk) h
  rw [show since + msTicks (s.begin.u Obj.throttleDwell) = due from hdue.symm, hrun] at heffect
  have hset := State.rise_stepSet (State.dwellNoted { s.begin with time := tm } k due) k
  rw [← heffect] at hset
  obtain ⟨t, ht, (htime : t.time = tm), hrecord, hstep⟩ := s.awake_stepSet _ (fun u => u.throttleDwell k) k _ hr rfl hset
  refine ⟨t, ht, by rw [htime]; exact hticks, hstep, ?_, fun j hj => ?_⟩
  · rw [htime]
    exact (hrecord k).trans
      (State.dwellNoted_riseNoted_throttle _ k due (Nat.lt_of_lt_of_eq (Nat.lt_succ_of_lt hk) hlen.symm))
  · exact (hrecord j).trans (State.dwellNoted_riseNoted_throttle_ne _ k j due hj)

/-- A hot board at the end of a dwell after its last rise: it rises where the dwell has passed. -/
theorem State.awake_throttleDwell_board (s : State) (since due : Nat) (hr : s.ready)
    (h : (s.throttle 16).lastRise = some since) (hhot : s.i Obj.boardThrottleTemp ≤ s.tEb)
    (hdue : due = since + msTicks (s.u Obj.throttleDwell)) :
    ∃ t, s.awake (fun u => u.throttleDwell 16) = .next t ∧ t.time.ticks ≤ max s.time.ticks due ∧
      (s.retimed t).StepSet t 16 (if due ≤ t.time.ticks then stepRaised (s.step' 16) else s.step' 16) ∧
      ∀ j, j ≠ 16 → t.throttle j = s.throttle j := by
  obtain ⟨tm, hrun, -, hticks⟩ := s.begin.runTo_time due
  have heffect := s.begin.throttleDwell_board_hot since h hhot
  rw [show since + msTicks (s.begin.u Obj.throttleDwell) = due from hdue.symm, hrun] at heffect
  have hboard : s.begin.throttleDwell 16 =
      if due ≤ tm.ticks then State.rise { s.begin with time := tm } 16 else { s.begin with time := tm } := by
    rw [heffect, State.boardRise, show (State.throttle { s.begin with time := tm } 16).lastRise = some since from h, hdue]
    rfl
  by_cases hpast : due ≤ tm.ticks
  · have hset := State.rise_stepSet { s.begin with time := tm } 16
    rw [if_pos hpast] at hboard
    rw [← hboard] at hset
    obtain ⟨t, ht, (htime : t.time = tm), hrecord, hstep⟩ := s.awake_stepSet _ (fun u => u.throttleDwell 16) 16 _ hr rfl hset
    refine ⟨t, ht, by rw [htime]; exact hticks, by rw [htime, if_pos hpast]; exact hstep, fun j hj => ?_⟩
    exact (hrecord j).trans (State.throttle_setThrottle_ne _ _ _ _ hj)
  · rw [if_neg hpast] at hboard
    have hset : State.StepSet { s.begin with time := tm } (s.begin.throttleDwell 16) 16 (s.step' 16) := by
      rw [hboard]
      exact State.StepSet.refl _ 16
    obtain ⟨t, ht, (htime : t.time = tm), hrecord, hstep⟩ := s.awake_stepSet _ (fun u => u.throttleDwell 16) 16 _ hr rfl hset
    refine ⟨t, ht, by rw [htime]; exact hticks, by rw [htime, if_neg hpast]; exact hstep, fun j _ => ?_⟩
    exact hrecord j

/-! ### THROTTLE_RELEASE -/

theorem State.throttleRelease_not_cool (s : State) (k : Nat) (h : (s.throttle k).coolSince = none) : s.throttleRelease k = s := by
  rw [State.throttleRelease, h]

theorem State.throttleRelease_cool (s : State) (k since : Nat) (h : (s.throttle k).coolSince = some since) :
    ∃ tm : TimeState, tm.ticks ≤ max s.time.ticks (since + msTicks (s.u Obj.throttleRelease)) ∧
      (State.setThrottle { s with time := tm } k
        { s.throttle k with coolSince := some (since + msTicks (s.u Obj.throttleRelease)) }).StepSet
        (s.throttleRelease k) k (s.step' k - 1) := by
  obtain ⟨tm, hrun, -, hticks⟩ := s.runTo_time (since + msTicks (s.u Obj.throttleRelease))
  refine ⟨tm, hticks, ?_⟩
  rw [State.throttleRelease, h]
  dsimp only
  rw [hrun]
  split
  · next hzero =>
    have hset := State.StepSet.refl (State.setThrottle { s with time := tm } k
        { s.throttle k with coolSince := some (since + msTicks (s.u Obj.throttleRelease)) }) k
    have hn : s.step' k - 1 = s.step' k := by
      have : s.step' k = 0 := hzero
      omega
    rw [hn]
    exact hset
  · exact State.setStep_stepSet _ k _ (Nat.lt_of_le_of_lt (Nat.sub_le _ _) (s.step'_lt k))

/-- A cool target at the end of its release: the step falls, and the next release starts there. -/
theorem State.awake_throttleRelease (s : State) (k since due : Nat) (hr : s.ready) (hlen : s.therm.throttles.length = 17)
    (hk : k < 17) (h : (s.throttle k).coolSince = some since) (hdue : due = since + msTicks (s.u Obj.throttleRelease)) :
    ∃ t, s.awake (fun u => u.throttleRelease k) = .next t ∧ t.time.ticks ≤ max s.time.ticks due ∧
      (s.retimed t).StepSet t k (s.step' k - 1) ∧ t.throttle k = { s.throttle k with coolSince := some due } ∧
      ∀ j, j ≠ k → t.throttle j = s.throttle j := by
  obtain ⟨tm, hticks, hset⟩ := s.begin.throttleRelease_cool k since h
  rw [show since + msTicks (s.begin.u Obj.throttleRelease) = due from hdue.symm] at hticks hset
  obtain ⟨t, ht, (htime : t.time = tm), hrecord, hstep⟩ := s.awake_stepSet _ (fun u => u.throttleRelease k) k _ hr rfl hset
  refine ⟨t, ht, by rw [htime]; exact hticks, hstep, ?_, fun j hj => ?_⟩
  · exact (hrecord k).trans (State.throttle_setThrottle_same _ _ _ (by rw [← hlen] at hk; exact hk))
  · exact (hrecord j).trans (State.throttle_setThrottle_ne _ _ _ _ hj)

/-! ### TJSAFE_RELEASE (R299) -/

theorem State.tjsafeRelease_not_cool (s : State) (h : s.therm.step4Cool = none) : s.tjsafeRelease = s := by
  rw [State.tjsafeRelease, h]

/-- `s` at another time with step 4 and its Fatal cause ended. -/
def State.step4Ended (s : State) (tm : TimeState) : State :=
  { s with time := tm, therm := { s.therm with step4 := false, step4Cool := none, step4Sensor := none },
           ev := { s.ev with fatal := s.ev.fatal.filter (· != 0x0604) } }

theorem State.awake_tjsafeRelease (s : State) (since : Nat) (hr : s.ready) (h : s.therm.step4Cool = some since) :
    ∃ t, s.awake State.tjsafeRelease = .next t ∧
      t.time.ticks ≤ max s.time.ticks (since + msTicks (s.u Obj.throttleRelease)) ∧
      t.shows Obj.throttleNow (s.topStep s.variant.regions) ∧ (s.begin.step4Ended t.time).Logged t [Obj.throttleNow] := by
  obtain ⟨tm, hrun, -, hticks⟩ := s.begin.runTo_time (since + msTicks (s.u Obj.throttleRelease))
  have heffect : s.begin.tjsafeRelease = (s.begin.step4Ended tm).throttleSeen := by
    rw [State.tjsafeRelease, show s.begin.therm.step4Cool = some since from h]
    dsimp only
    rw [show s.begin.u Obj.throttleRelease = s.u Obj.throttleRelease from rfl, hrun]
    rfl
  have hlogged := (s.begin.step4Ended tm).logged_throttleSeen
  rw [← heffect] at hlogged
  obtain ⟨t, ht, hl, hget, -⟩ := s.awake_all State.tjsafeRelease (s.begin.step4Ended tm) _ hr hr.2 rfl hlogged
  have htime : t.time = tm := (congrArg State.time hl.rest).trans rfl
  have hnow := (s.begin.step4Ended tm).throttleSeen_shows
  rw [← heffect] at hnow
  exact ⟨t, ht, by rw [htime]; exact hticks, State.shows_of_get hnow (hget _ (by decide)), by rw [htime]; exact hl⟩

/-! ### The statement -/

theorem State.awake_throttleDwell_stepSet (s : State) (k : Nat) (hr : s.ready) (hlen : s.therm.throttles.length = 17) (hk : k < 17) :
    ∃ t n, s.awake (fun u => u.throttleDwell k) = .next t ∧ (s.retimed t).StepSet t k n := by
  rcases Nat.lt_or_eq_of_le (Nat.le_of_lt_succ hk) with hregion | rfl
  · have hne := Nat.ne_of_lt hregion
    cases hhot : (s.throttle k).hotSince with
    | none =>
      obtain ⟨t, ht, hset⟩ := s.stepSet_of_same (fun u => u.throttleDwell k) k hr (s.begin.throttleDwell_not_hot k hne hhot)
      exact ⟨t, _, ht, hset⟩
    | some since =>
      obtain ⟨t, ht, -, hset, -⟩ := s.awake_throttleDwell_region k since _ hr hlen hregion hhot rfl
      exact ⟨t, _, ht, hset⟩
  · by_cases hidle : (s.throttle 16).lastRise = none ∨ s.tEb < s.i Obj.boardThrottleTemp
    · obtain ⟨t, ht, hset⟩ := s.stepSet_of_same (fun u => u.throttleDwell 16) 16 hr (s.begin.throttleDwell_board_idle hidle)
      exact ⟨t, _, ht, hset⟩
    · obtain ⟨hrise, hhot⟩ := not_or.mp hidle
      obtain ⟨since, hsince⟩ := Option.ne_none_iff_exists'.mp hrise
      obtain ⟨t, ht, -, hset, -⟩ := s.awake_throttleDwell_board since _ hr hsince (Int.not_lt.mp hhot) rfl
      exact ⟨t, _, ht, hset⟩

theorem State.awake_throttleRelease_stepSet (s : State) (k : Nat) (hr : s.ready) (hlen : s.therm.throttles.length = 17) (hk : k < 17) :
    ∃ t n, s.awake (fun u => u.throttleRelease k) = .next t ∧ (s.retimed t).StepSet t k n := by
  cases hcool : (s.throttle k).coolSince with
  | none =>
    obtain ⟨t, ht, hset⟩ := s.stepSet_of_same (fun u => u.throttleRelease k) k hr (s.begin.throttleRelease_not_cool k hcool)
    exact ⟨t, _, ht, hset⟩
  | some since =>
    obtain ⟨t, ht, -, hset, -⟩ := s.awake_throttleRelease k since _ hr hlen hk hcool rfl
    exact ⟨t, _, ht, hset⟩

/-- Whatever THROTTLE_DWELL and THROTTLE_RELEASE do, they leave a step set, the old one where they do nothing. -/
theorem State.stepSet_of_exec (s t : State) (k : Fin 17) (hr : s.ready) (hlen : s.therm.throttles.length = 17)
    (h : exec (.throttleDwell k) s = .next t ∨ exec (.throttleRelease k) s = .next t) : ∃ n, (s.retimed t).StepSet t k.val n := by
  rcases h with h | h
  · obtain ⟨t', n, ht, hset⟩ := s.awake_throttleDwell_stepSet k.val hr hlen k.isLt
    obtain rfl : t' = t := Host.Outcome.next.inj (ht.symm.trans h)
    exact ⟨n, hset⟩
  · obtain ⟨t', n, ht, hset⟩ := s.awake_throttleRelease_stepSet k.val hr hlen k.isLt
    obtain rfl : t' = t := Host.Outcome.next.inj (ht.symm.trans h)
    exact ⟨n, hset⟩

/-- Settles O39, by the command and its target's record. -/
theorem throttleSteps : Obligations.ThrottleSteps := by
  unfold Obligations.ThrottleSteps
  intro s hr hlen
  refine ⟨fun k t hx hne => ?_, fun k => ⟨fun hk hnone => ?_, fun hk hidle => ?_, fun since due hdue hhot => ?_, fun hnone => ?_,
    fun since due hdue hcool => ?_⟩, fun hnone => ?_, fun since hcool => ?_⟩
  · obtain ⟨n, hset⟩ := s.stepSet_of_exec t k hr hlen hx
    have hchange : n ≠ (s.retimed t).step' k.val := hset.step_same ▸ hne
    exact ⟨hset.now hchange, hset.told_retimed, hset.force hchange⟩
  · exact s.awake_same (fun u => u.throttleDwell k.val) hr (s.begin.throttleDwell_not_hot k.val (Nat.ne_of_lt hk) hnone)
  · exact s.awake_same (fun u => u.throttleDwell k.val) hr (by rw [hk]; exact s.begin.throttleDwell_board_idle hidle)
  · rcases hhot with ⟨hk, hsince⟩ | ⟨hk, hsince, htemp⟩
    · obtain ⟨t, ht, hticks, hset, hrecord, hothers⟩ := s.awake_throttleDwell_region k.val since due hr hlen hk hsince hdue
      refine ⟨t, ht, hticks, hset.step_same.trans ?_, fun _ => ?_, fun j _ hj => ⟨hothers j hj, hset.step_ne j hj⟩, hset.frame⟩
      · exact stepRaised_of _ (fun hboard => absurd hboard (Nat.ne_of_lt hk))
      · rw [hrecord]
        exact ⟨rfl, rfl⟩
    · obtain ⟨t, ht, hticks, hset, hothers⟩ := s.awake_throttleDwell_board since due hr hsince htemp hdue
      obtain rfl : k = 16 := Fin.ext hk
      refine ⟨t, ht, hticks, hset.step_same.trans ?_, fun h => absurd h (Nat.lt_irrefl 16),
        fun j _ hj => ⟨hothers j hj, hset.step_ne j hj⟩, hset.frame⟩
      by_cases hpast : due ≤ t.time.ticks
      · rw [if_pos hpast]
        exact stepRaised_of _ (fun _ => hpast)
      · rw [if_neg hpast]
        exact (if_neg (fun h => hpast (h.2 rfl))).symm
  · exact s.awake_same (fun u => u.throttleRelease k.val) hr (s.begin.throttleRelease_not_cool k.val hnone)
  · obtain ⟨t, ht, hticks, hset, hrecord, hothers⟩ := s.awake_throttleRelease k.val since due hr hlen k.isLt hcool hdue
    exact ⟨t, ht, hticks, hset.step_same, hrecord, fun j _ hj => ⟨hothers j hj, hset.step_ne j hj⟩, hset.frame⟩
  · exact s.awake_same State.tjsafeRelease hr (s.begin.tjsafeRelease_not_cool hnone)
  · exact s.awake_tjsafeRelease since hr hcool

end Sys2Proof.Machine
